-- ==== Sys2Proof/Word.lean ====
section
/-!
DEFINITION. The word types of the Volael T4: what the manual treats as bits (R8, R9).
-/
namespace Sys2Proof

/-- A register word: every register of BAR0 is 32 bits (R432, R435). -/
abbrev Word := BitVec 32

/-- One byte of memory. -/
abbrev Byte := BitVec 8

/-- A 64-bit value: BELLTIME, epochs, records, FP64-sized counters. -/
abbrev DWord := BitVec 64

/-- A 128-bit image: an almanac entry, a segment header, a table entry. -/
abbrev QWord := BitVec 128

end Sys2Proof
end

