-- ==== Sys2Proof/Syntax.lean ====
section
/-!
DEFINITION. The commands of the block: one constructor per row of the opcode table, in the table's order, each with
the row's operands: the unit the event concerns, a written value, and whatever the world outside the block supplies.
Everything else a command needs it reads from the state.
-/
namespace Sys2Proof

/-- Who issues a fabric transaction: an operation of a core, or the Reeve's waiting transaction at an index (R278,
R285). -/
inductive Issuer where
  | op (core : Fin 512) (id : Nat)
  | reeve (index : Nat)
  deriving DecidableEq, Repr


/-- A memory request of the pantry drive: to its queues in Reeve memory, or a read or a write at a device address
(R410). -/
inductive DriveRequest where
  | queue
  | read (addr len : Nat)
  | write (addr : Nat) (data : List Byte)
  deriving DecidableEq, Repr

/-- What the bring-up of the pantry drive finds: the trained width, and from Identify whether the drive answered, whether
namespace 1 has a 4 KiB LBA, MDTS and the namespace size (R409, R477). -/
structure DriveReport where
  width : BitVec 8
  present : Bool
  lba4k : Bool
  mdts : BitVec 8
  blocks : BitVec 64
  deriving DecidableEq, Repr

/-- A lane that a bond self-test finds failing: whether its group serves a granary footprint or a core, the unit's local
index, the group within the unit and the lane (R224, R226, R238). -/
structure LaneFail where
  footprint : Bool
  unit : Fin 128
  group : Fin 240
  lane : Fin 66
  deriving DecidableEq, Repr

/-- An image slot of the boot flash as dawn finds it: whether it holds a valid image, whether its signature verifies under the
fused key, and its security version (R415). -/
structure FlashSlot where
  valid : Bool
  verifies : Bool
  version : BitVec 32
  deriving DecidableEq, Repr

/-- How an SPDM request comes: over the DOE mailbox or MCTP, in a secured message or not (R375, R398, R413). -/
inductive SpdmPath where
  | doe | doeSecured | mctp | mctpSecured
  deriving DecidableEq, Repr

/-- What a PCIe configuration request or a write of an MSI-X table asks for, where the spec names it: the size of the PF's BAR4 as
1 GiB × 2^size; the mask bit of a function's vector; a function's AER status read, or bits of it cleared; DOE Discovery of an
index; anything else (R398, R403, R424). -/
inductive ConfigAccess where
  | other
  | bar4Size (size : Fin 9)
  | msixMask (fn : Fin 32) (vector : Fin 64) (masked : Bool)
  | aerRead (fn : Fin 32)
  | aerClear (fn : Fin 32) (bits : BitVec 32)
  | doeDiscovery (index : Fin 256)
  deriving DecidableEq, Repr

/-- What a dawn step finds in the world: the two image slots of the boot flash; whether REFCLK still shows no edge; the
digests of boot ROM, firmware image and configuration; rails out of range, by die and shared; the drive; the dies whose
regulator answers with a linear VOUT_MODE, and the addresses and pages of the regulators; the stacks that trained; lanes
that fail the self-test (R409, R414, R415, R422, R425, R493). -/
structure DawnReport where
  slot0 : FlashSlot
  slot1 : FlashSlot
  noRefclk : Bool
  digests : List (BitVec 384)
  coreRails : BitVec 4
  sharedRails : Bool
  drive : DriveReport
  regulators : BitVec 4
  pmbAddr : List (BitVec 7 × BitVec 8)
  trained : BitVec 16
  fails : List (Fin 4 × LaneFail)
  deriving DecidableEq, Repr

/-- Events that one activity counter of a die has counted within the commands of a period, for the work of one context: counters
0 to 47 of the compute die, 48 to 56 for M0 to M8, 57 to 63 for K0 to K6. Counters whose events are commands of their own
count in the state (R380, R394; log entry 115). -/
structure Activity where
  ctx : Fin 32
  die : Fin 4
  counter : Fin 64
  count : BitVec 32
  deriving DecidableEq, Repr

/-- What the Steward reads at the end of a period: activity counts; for each core the sixteenths of its cycles in which it
issued feed beats; temperatures in 0.25 °C of the 16 quadrants by 4 × die + quadrant, the 4 link dies and the 16 stacks
(R232, R379, R386). -/
structure PeriodReport where
  activity : List Activity
  feed : List (Fin 512 × Fin 17)
  quads : List (BitVec 10)
  links : List (BitVec 10)
  stackTemps : List (BitVec 10)
  deriving DecidableEq, Repr

/-- Where a register access lands: BAR0, or the doorbell page of a context (R399, R400). -/
inductive RegSpace where
  | bar0
  | doorbell (ctx : Fin 32)
  deriving DecidableEq, Repr


/-- The commands (the rows of the opcode table). -/
inductive Instr where
  /-- COLD_RESET (R420): VDD_REEVE rises through power-good, or a life-cycle change completes, and the whole device resets and runs dawn from step 1. -/
  | coldReset
  /-- PERST_N_LOW (R420): PERST_N goes low and starts a WARM reset, holding before dawn step 3 while it stays low. -/
  | perstNLow
  /-- RESET_DEVICE (R420): RESET_CMD with KIND DEVICE starts a DEVICE reset. -/
  | resetDevice
  /-- RESET_PARTITION (R365): RESET_CMD with KIND PARTITION forces the resident context off, drops saved images, quarantines contexts and wipes the partition. -/
  | resetPartition (target : BitVec 6)
  /-- RESET_PORT (R420): RESET_CMD with KIND PORT takes one Tilby port DOWN, erases its keys and returns its window fields to reset values. -/
  | resetPort (target : BitVec 6)
  /-- PF_FLR (R405): A PF Function Level Reset starts a DEVICE reset and writes a HOST FLR record. -/
  | pfFlr
  /-- VF_FLR (R405): An FLR of VF n starts a CONTEXT reset of context n and clears its doorbell page. -/
  | vfFlr (vf : Fin 32)
  /-- DAWN_STEP_DONE (R422): A dawn step that took time ends and the next step begins, or dawn stops on a failure. -/
  | dawnStepDone (report : DawnReport)
  /-- RAIL_FAULT (R493): VDD_CORE of a die falls below 0.60 V for more than 10 µs and its partition goes DOWN. -/
  | railFault (die : Fin 4)
  /-- REFCLK_LOSS (R494): REFCLK shows no edge for 1 µs; BELLTIME continues on the internal oscillator and every partition goes DOWN. -/
  | refclkLoss
  /-- TEST_MODE_HIGH (R485): TEST_MODE reads high outside FIELD and the device enters scan test, stopping Reeve firmware. -/
  | testModeHigh
  /-- ALM_GO (R45): A write of 1 to CONTEXT.ALM_GO is checked and starts the context's cores, loading bank 0 of each core with a VALID root word. -/
  | almGo
  /-- MEASURE_DONE (R376): The Reeve finishes hashing the schedule ranges into the measurement and the held ALM_GO proceeds. -/
  | measureDone
  /-- REFILL_COMPLETE (R46): A refill of the idle bank ends and the bank becomes READY, or INVALID if it fails the checks. -/
  | refillComplete (core : Fin 512)
  /-- HALT (R51): A HALT entry launches and the core launches nothing further. -/
  | halt (core : Fin 512)
  /-- MATRIX (R123): A MATRIX entry launches and hands its descriptor to the array for checking. -/
  | matrix (core : Fin 512)
  /-- VECTOR (R141): A VECTOR entry launches and hands its descriptor to the vector engine for checking. -/
  | vector (core : Fin 512)
  /-- MOVE (R193): A MOVE entry launches and its descriptor is checked before any byte moves. -/
  | move (core : Fin 512)
  /-- FETCH (R277): A FETCH entry launches and its descriptor is checked and split into transactions. -/
  | fetch (core : Fin 512)
  /-- PUT (R277): A PUT entry launches and its descriptor is checked and split into write transactions. -/
  | put (core : Fin 512)
  /-- REDUCE (R306): A REDUCE entry launches and its SUM or DIGEST chunks pass to their combining link dies. -/
  | reduce (core : Fin 512)
  /-- ATOMIC (R281): An ATOMIC entry launches and its atomic is sent to the home memory controller. -/
  | atomic (core : Fin 512)
  /-- ARRIVE (R69): An ARRIVE entry launches and sends an arrival to a local or remote gate. -/
  | arrive (core : Fin 512)
  /-- SIGNAL (R84): A SIGNAL entry launches and sends an increment to a local or remote core's flag. -/
  | signal (core : Fin 512)
  /-- SEED (R116): A SEED entry reseeds every lane generator of the core from the context seed and step number. -/
  | seed (core : Fin 512)
  /-- HIST (R178): A HIST entry selects the histogram slot for later writers and clears it when CLEAR is 1. -/
  | hist (core : Fin 512)
  /-- SEGMENT (R48): A SEGMENT entry launches when the idle bank is READY, swaps banks and advances the epoch. -/
  | segment (core : Fin 512)
  /-- ALMANAC_STARVED (R48): A SEGMENT entry at the head finds the idle bank not READY and the core stalls. -/
  | almanacStarved (core : Fin 512) (loaded : BitVec 9)
  /-- LOOP (R52): A LOOP entry launches and repeats its body COUNT times with offsets, threshold steps and phase flips. -/
  | loop (core : Fin 512)
  /-- VARIANT (R57): A VARIANT entry takes a fresh bucket from its ring and starts a refill from the variant table word. -/
  | variant (core : Fin 512)
  /-- SWITCH (R360): A SWITCH entry reaches the head and marks a switch point for a pending switch. -/
  | switch (core : Fin 512)
  /-- COMMIT (R314): A COMMIT entry at the head takes part in the reduction decision of its group and launches once the apply is decided. -/
  | commit (core : Fin 512)
  /-- HARVEST (R335): A HARVEST entry launches at a step boundary and starts a harvest. -/
  | harvest (core : Fin 512)
  /-- ENTRY_SKIP (R320): After a DROP the core retires the entries between COMMIT and the final entry without launching them. -/
  | entrySkip (core : Fin 512)
  /-- HALTED (R51): Every operation in flight after a HALT completes, STATE reads HALTED and the gate check runs. -/
  | halted (core : Fin 512)
  /-- SLIP_RANGE (R50): The head entry's slip reaches 2³¹ ticks and the core raises ALMANAC FAULT. -/
  | slipRange (core : Fin 512)
  /-- GATE_ARM (R67): A write to GATE_CFG with ARM 1 arms the gate with ARRIVED 0 and PHASE equal to PHASE0. -/
  | gateArm (value : BitVec 31)
  /-- GATE_DISARM (R67): A write to GATE_CFG with ARM 0 returns the gate to IDLE. -/
  | gateDisarm (value : BitVec 31)
  /-- ARRIVE_RECEIVED (R69): An arrival reaches its target core and is accepted into the arrival queue or refused. -/
  | arriveReceived (index : Nat)
  /-- ARRIVAL_APPLY (R68): The core applies one queued arrival, adding to ARRIVED and toggling PHASE when COUNT is reached. -/
  | arrivalApply (core : Fin 512)
  /-- GATE_TIMEOUT (R74): A gate wait is still unmet TICKS ticks after its timeout started, and the core records it and keeps waiting. -/
  | gateTimeout (core : Fin 512)
  /-- SIGNAL_RECEIVED (R84): A signal reaches its target core and increments the flag or is refused. -/
  | signalReceived (index : Nat)
  /-- MATRIX_START (R136): A checked MATRIX descriptor begins its feed once the array is free and its slot is not EMITTED. -/
  | matrixStart (core : Fin 512)
  /-- PROMOTION_DRAIN (R132): A promotion interval ends and the cells' sums drain into the Tally slot. -/
  | promotionDrain (core : Fin 512)
  /-- TILE_QUEUE_PUSH (R134): An ACCUMULATE_AND_EMIT descriptor pushes its entry into the tile queue once there is room. -/
  | tileQueuePush (core : Fin 512)
  /-- MATRIX_COMPLETE (R82): A MATRIX descriptor finishes its final drain and increments its flag. -/
  | matrixComplete (core : Fin 512)
  /-- MATRIX_REFUSED_COMPLETE (R127): A refused MATRIX descriptor completes with its flag poisoned once no earlier descriptor runs. -/
  | matrixRefusedComplete (core : Fin 512)
  /-- TALLY_CLEAR (R134): A write to TALLY_CLEAR sets each named slot CLEAR. -/
  | tallyClear (value : BitVec 32)
  /-- VECTOR_START (R142): A checked VECTOR RUN or LOAD descriptor begins issuing or copying after the descriptor ahead ends. -/
  | vectorStart (core : Fin 512)
  /-- VECTOR_REFUSED_COMPLETE (R143): A refused VECTOR descriptor completes with its flag poisoned once no VECTOR descriptor runs. -/
  | vectorRefusedComplete (core : Fin 512)
  /-- TILE_TAKE (R144): A RUN with TILE 1 takes the head tile-queue entry once one is present and sets A15. -/
  | tileTake (core : Fin 512)
  /-- TILE_RELEASE (R145): The held tile entry is released, freeing its queue place and setting the slot CLEAR. -/
  | tileRelease (core : Fin 512)
  /-- VECTOR_COMPLETE (R159): After END every store lands, the VECTOR descriptor completes and its flag is incremented. -/
  | vectorComplete (core : Fin 512)
  /-- NOP (R147): The vector engine issues NOP. -/
  | nop (core : Fin 512)
  /-- ADD (R149): The vector engine adds VA and VB in FP32. -/
  | add (core : Fin 512)
  /-- SUB (R149): The vector engine subtracts VB from VA in FP32. -/
  | sub (core : Fin 512)
  /-- MUL (R149): The vector engine multiplies VA by VB in FP32. -/
  | mul (core : Fin 512)
  /-- FMA (R149): The vector engine forms VA × VB + VC rounded once. -/
  | fma (core : Fin 512)
  /-- FMS (R149): The vector engine forms VA × VB − VC rounded once. -/
  | fms (core : Fin 512)
  /-- MIN (R149): The vector engine takes the IEEE minimum of VA and VB. -/
  | min (core : Fin 512)
  /-- MAX (R149): The vector engine takes the IEEE maximum of VA and VB. -/
  | max (core : Fin 512)
  /-- CMP (R149): The vector engine compares VA and VB into a mask register. -/
  | cmp (core : Fin 512)
  /-- SEL (R147): The vector engine selects VA or VB per lane by a mask. -/
  | sel (core : Fin 512)
  /-- EXP2 (R150): The vector engine computes 2 to the power VA, correctly rounded. -/
  | exp2 (core : Fin 512)
  /-- LOG2 (R150): The vector engine computes log₂ VA, correctly rounded. -/
  | log2 (core : Fin 512)
  /-- RCP (R150): The vector engine computes 1 ÷ VA, correctly rounded. -/
  | rcp (core : Fin 512)
  /-- RSQ (R150): The vector engine computes 1 ÷ √VA, correctly rounded. -/
  | rsq (core : Fin 512)
  /-- CVT (R152): The vector engine converts VA to a narrow code with the selected rounding. -/
  | cvt (core : Fin 512)
  /-- CVTF (R152): The vector engine converts a code in VA's low bits exactly to FP32. -/
  | cvtf (core : Fin 512)
  /-- PERM (R153): The vector engine permutes lanes of VA or VC by indices in VB. -/
  | perm (core : Fin 512)
  /-- BFLY (R147): The vector engine exchanges lanes at XOR distance IMM. -/
  | bfly (core : Fin 512)
  /-- ROT (R147): The vector engine rotates lanes of VA by IMM. -/
  | rot (core : Fin 512)
  /-- ILV (R153): The vector engine interleaves halves of VA and VB. -/
  | ilv (core : Fin 512)
  /-- DLV (R153): The vector engine de-interleaves VA and VB. -/
  | dlv (core : Fin 512)
  /-- PACK (R153): The vector engine packs the low w bits of every lane into a bit stream. -/
  | pack (core : Fin 512)
  /-- UNPACK (R153): The vector engine unpacks a bit stream into one code per lane. -/
  | unpack (core : Fin 512)
  /-- RED (R151): The vector engine reduces the 64 lanes in a fixed binary tree. -/
  | red (core : Fin 512)
  /-- IADD (R147): The vector engine adds VA and VB modulo 2³². -/
  | iadd (core : Fin 512)
  /-- AND (R147): The vector engine forms the bitwise AND of VA and VB. -/
  | and (core : Fin 512)
  /-- OR (R147): The vector engine forms the bitwise OR of VA and VB. -/
  | or (core : Fin 512)
  /-- XOR (R147): The vector engine forms the bitwise XOR of VA and VB. -/
  | xor (core : Fin 512)
  /-- SHL (R147): The vector engine shifts VA left by IMM. -/
  | shl (core : Fin 512)
  /-- SHR (R147): The vector engine shifts VA right logically by IMM. -/
  | shr (core : Fin 512)
  /-- SRA (R147): The vector engine shifts VA right arithmetically by IMM. -/
  | sra (core : Fin 512)
  /-- IMIN (R147): The vector engine takes the signed 32-bit minimum. -/
  | imin (core : Fin 512)
  /-- IMAX (R147): The vector engine takes the signed 32-bit maximum. -/
  | imax (core : Fin 512)
  /-- ICMP (R147): The vector engine compares signed integers into a mask register. -/
  | icmp (core : Fin 512)
  /-- IOTA (R147): The vector engine writes lane number plus IMM into each lane. -/
  | iota (core : Fin 512)
  /-- MAND (R147): The vector engine ANDs two mask registers. -/
  | mand (core : Fin 512)
  /-- MOR (R147): The vector engine ORs two mask registers. -/
  | mor (core : Fin 512)
  /-- MXOR (R147): The vector engine XORs two mask registers. -/
  | mxor (core : Fin 512)
  /-- MNOT (R147): The vector engine inverts a mask register. -/
  | mnot (core : Fin 512)
  /-- LD (R155): The vector engine loads a cellar element per lane and widens it to FP32. -/
  | ld (core : Fin 512)
  /-- ST (R156): The vector engine stores each enabled lane, converting it and recording the histogram. -/
  | st (core : Fin 512)
  /-- STB (R156): The vector engine writes a block-format tensor with measured scales. -/
  | stb (core : Fin 512)
  /-- AADD (R147): The vector engine adds a signed immediate to an address register. -/
  | aadd (core : Fin 512)
  /-- TREL (R145): The vector engine issues TREL, which releases the held tile after earlier Tally reads return. -/
  | trel (core : Fin 512)
  /-- VECTOR_LOOP (R157): The vector engine repeats the following body COUNT times. -/
  | vectorLoop (core : Fin 512)
  /-- END (R159): The vector engine stops issue for the descriptor. -/
  | endProgram (core : Fin 512)
  /-- MOVE_COMPLETE (R82): A MOVE has written every byte, increments its flag and any named residency tag. -/
  | moveComplete (core : Fin 512) (op : Nat)
  /-- MEMORY_READ (R206): A memory controller serves a read, decoding the codeword and correcting or failing it. -/
  | memoryRead (addr : BitVec 51) (key : Fin 64) (flip : BitVec 144)
  /-- MEMORY_WRITE (R200): A memory controller performs a full or partial codeword write. -/
  | memoryWrite (addr : BitVec 51) (key : Fin 64) (data : BitVec 128) (mask : BitVec 16)
  /-- ACCUMULATE_WRITE (R199): A memory controller reads, adds, rounds and writes back an accumulate write in one codeword step. -/
  | accumulateWrite (core : Fin 512) (slot : Fin 8) (addr : BitVec 51) (key : Fin 64) (fmt : Fin 4) (scale : BitVec 8) (addends : BitVec 512) (mask : BitVec 16) (flags : BitVec 51) (block : BitVec 12)
  /-- REFRESH_WINDOW (R192): A footprint's 16-tick refresh window begins at its fixed BELLTIME. -/
  | refreshWindow (footprint : Fin 128)
  /-- REFRESH_WINDOW_END (R192): A footprint's refresh window ends and waiting accesses proceed. -/
  | refreshWindowEnd (footprint : Fin 128)
  /-- HBM_RFM (R185): An HBM stack requests refresh management and the controller honours it. -/
  | hbmRfm (stack : Fin 16)
  /-- THROTTLE_ADMIT (R233): The bank throttle admits one held beat to a HOT footprint after ADMIT cycles. -/
  | throttleAdmit (die : Fin 4) (footprint : Fin 128)
  /-- BOND_SELF_TEST (R226): A periodic bond self-test of a die begins at its fixed BELLTIME and the die's bond accesses wait. -/
  | bondSelfTest (die : Fin 4)
  /-- SELF_TEST_COMPLETE (R228): A bond self-test ends, remapping failing lanes to spares or fencing units that ran out. -/
  | selfTestComplete (die : Fin 4) (fails : List LaneFail)
  /-- WEAR_WRITEBACK (R239): Every 2²⁸ ticks the Reeve writes wear counts back to storage and the guard band is recomputed. -/
  | wearWriteback
  /-- CELLAR_RESET (R237): A write of CELLAR.RESET.GO quiesces the die's cellar and starts a CELLAR reset. -/
  | cellarReset (die : Fin 4)
  /-- CELLAR_QUIESCED (R237): Requests in flight to the cellar have ended; the granary enters self-refresh and the wipe begins. -/
  | cellarQuiesced (die : Fin 4)
  /-- CELLAR_WIPE_DONE (R237): The cellar wipe ends and the exit self-test begins. -/
  | cellarWipeDone (die : Fin 4)
  /-- LANE_SIGNAL_DETECT (R245): A port in DETECT sees signal on its lanes and enters TRAIN. -/
  | laneSignalDetect (port : Fin 32)
  /-- LANE_REPORT (R246): A lane report arrives and both ends choose the lane set. -/
  | laneReport (port : Fin 32) (mask : BitVec 8) (minWidth : BitVec 2)
  /-- FEC_LOCK (R245): A port in ALIGN achieves FEC lock and deskew and enters NEGOTIATE. -/
  | fecLock (port : Fin 32)
  /-- NEGOTIATE (R258): A NEGOTIATE message arrives and the port records the peer and moves to SECURE or ACTIVE. -/
  | negotiate (port : Fin 32)
  /-- SECURE (R264): A SECURE message fragment of the SPDM session arrives and the session advances to key installation. -/
  | secure (port : Fin 32)
  /-- PHASE_TIMEOUT (R245): A training or RETRAIN phase exceeds its bound and the port returns to DETECT or goes DOWN. -/
  | phaseTimeout (port : Fin 32)
  /-- FLIT_TRANSMIT (R253): The transmitter sends the next DATA, replayed or IDLE flit. -/
  | flitTransmit (port : Fin 32) (frac : BitVec 8)
  /-- FLIT_RECEIVED (R254): A flit arrives and is checked, accepted, discarded or NAKed, with its ACK and credits applied. -/
  | flitReceived (port : Fin 32) (bits : BitVec 2048) (ended pair : List (BitVec 10)) (frac : BitVec 8)
  /-- REPLAY_TIMEOUT (R253): The oldest buffered flit stays unacknowledged for REPLAY ticks and the transmitter enters REPLAY. -/
  | replayTimeout (port : Fin 32)
  /-- LANE_FAIL (R248): An active lane loses block lock or exceeds its corrected-symbol limit and the port starts RETRAIN. -/
  | laneFail (port : Fin 32) (lane : Fin 8)
  /-- RETRAIN_DONE (R248): RETRAIN realigns at the new lane set and resumes flits with a replay. -/
  | retrainDone (port : Fin 32)
  /-- PEER_SILENT (R249): The peer stops answering and the port goes DOWN. -/
  | peerSilent (port : Fin 32)
  /-- PORT_RETRAIN (R249): A write of PORT_CMD.RETRAIN starts full training from DETECT. -/
  | portRetrain
  /-- PORT_REKEY (R265): A write of PORT_CMD.REKEY moves the transmitter to the next key generation. -/
  | portRekey
  /-- REKEY_LIMIT (R265): 2³² flit positions pass under one key generation and the transmitter rekeys. -/
  | rekeyLimit (port : Fin 32)
  /-- BELL_FRAME_TIMER (R33): Every 2¹⁴ ticks a grandmaster or LOCKED device sends a BELL frame on each child port. -/
  | bellFrameTimer
  /-- BELL_SYNC (R34): A BELL frame arrives on the parent port and the follower forms an offset and corrects or changes Bell state. -/
  | bellSync (port : Fin 32)
  /-- BELL_HOLDOVER (R35): No valid frame arrives for 4 frame periods in LOCKED and the Bell enters HOLDOVER. -/
  | bellHoldover
  /-- DELAY_REQ_TIMER (R260): Every 2¹⁴ ticks a follower sends DELAY_REQ on its parent port. -/
  | delayReqTimer
  /-- DELAY_REQ (R260): A DELAY_REQ arrives and the parent answers with DELAY_RESP carrying TURN. -/
  | delayReq (port : Fin 32)
  /-- DELAY_RESP (R260): A DELAY_RESP arrives and the follower updates its port delay mean. -/
  | delayResp (port : Fin 32)
  /-- BELL_OUT_PULSE (R37): BELLTIME[19:0] becomes 0 and BELL_OUT is driven high. -/
  | bellOutPulse
  /-- BELL_OUT_PULSE_END (R37): 256 ticks after its start, the BELL_OUT pulse ends. -/
  | bellOutPulseEnd
  /-- BELL_IN_EDGE (R38): A rising edge on BELL_IN captures BELLTIME into IN_CAPTURE. -/
  | bellInEdge
  /-- STEP_ALLOW (R35): A write of BELL.CTRL.STEP_ALLOW 1 in ADRIFT moves the Bell to ACQUIRING. -/
  | stepAllow
  /-- SET_HI (R455): A write of BELL.SET_HI applies the grandmaster's starting time. -/
  | setHi (value : BitVec 32)
  /-- TXN_ISSUE (R278): A link die issues the next fabric transaction of an operation once a tag is free. -/
  | txnIssue (issuer : Issuer)
  /-- PACKET_FORWARD (R291): A routed packet entering a link die is delivered, forwarded on its VC or dropped. -/
  | packetForward (die : Fin 4) (vc : Fin 4)
  /-- READ_REQ (R286): A READ_REQ reaches its home, is checked and answered with READ_RSP. -/
  | readReq (index : Nat)
  /-- WRITE_REQ (R286): A WRITE_REQ or flush reaches its home, is checked, performed and answered with STATUS_RSP. -/
  | writeReq (index : Nat)
  /-- WRITE_POSTED (R286): A WRITE_POSTED reaches its home, is checked and performed, keeping any error for the next flush. -/
  | writePosted (index : Nat)
  /-- ATOMIC_REQ (R281): An ATOMIC_REQ reaches its home and is performed in one codeword step. -/
  | atomicReq (index : Nat)
  /-- READ_RSP (R278): A READ_RSP returns to its source, which writes the data and frees the tag. -/
  | readRsp (index : Nat)
  /-- STATUS_RSP (R287): A STATUS_RSP returns to its source, which frees the tag and advances or poisons the operation. -/
  | statusRsp (index : Nat)
  /-- ATOMIC_RSP (R281): An ATOMIC_RSP returns and the old value is written to RESULT. -/
  | atomicRsp (index : Nat)
  /-- TAG_TIMEOUT (R288): A tag stays unanswered for TXN_TIMEOUT ticks and is treated as NO_ROUTE. -/
  | tagTimeout (sunit : Fin 5) (tag : Fin 8192)
  /-- TAG_RETIRE_END (R288): A timed-out tag's retirement of 2 × TXN_TIMEOUT ticks ends and it may be issued again. -/
  | tagRetireEnd (sunit : Fin 5) (tag : Fin 8192)
  /-- TERRIER_COMMIT (R275): A write of TERRIER.ENTRY3 commits the staged entry to all four copies or is refused. -/
  | terrierCommit (value : BitVec 32)
  /-- TERRIER_UPDATE_DONE (R275): The last Terrier copy changes and TERRIER.STATUS.BUSY falls. -/
  | terrierUpdateDone
  /-- GROUP_COMMIT (R294): A write of GROUP.ENTRY3 commits the staged group entry or is refused. -/
  | groupCommit (value : BitVec 32)
  /-- LANEMAP_ENTRY_WRITE (R476): A write of LANEMAP.ENTRY commits one lane-map entry into the selected link die. -/
  | lanemapEntryWrite (value : BitVec 32)
  /-- SEL_WRITE (R434): A write of a window's SEL selects an instance or entry and loads a table staging buffer. -/
  | selWrite (page : BitVec 14) (value : BitVec 32)
  /-- NODE_WRITE (R299): A host write of GLOBAL.NODE.NODE before roll call sets the node and ASSIGNED. -/
  | nodeWrite (value : BitVec 32)
  /-- MGMT_SR_RELAY (R296): A MGMT_SR not yet at its destination records its ingress port and is sent on its next route port. -/
  | mgmtSrRelay (index : Nat)
  /-- IDENTIFY (R297): A device answers MGMT IDENTIFY with its ID, node, life-cycle state and port mask. -/
  | identify (index : Nat)
  /-- ASSIGN (R298): A device decides a MGMT_SR ASSIGN, setting its node or answering MISMATCH or CONFLICT. -/
  | assign (index : Nat)
  /-- LANEMAP_WRITE (R298): A device accepts or denies a MGMT LANEMAP_WRITE of lane-map entries. -/
  | lanemapWrite (index : Nat)
  /-- GROUP_WRITE (R298): A device accepts or denies a MGMT GROUP_WRITE of a group entry. -/
  | groupWrite (index : Nat)
  /-- MGMT_RESPONSE (R453): A MGMT response reaches the originating Reeve, fills the mailbox and ends the command. -/
  | mgmtResponse (index : Nat)
  /-- MGMT_SEND (R452): A write of REEVE.MGMT_CMD.GO sends a MGMT to MGMT_DST. -/
  | mgmtSend
  /-- MGMT_SR_SEND (R452): A write of REEVE.MGMT_CMD.SR sends a MGMT_SR with the route in the mailbox. -/
  | mgmtSrSend
  /-- MGMT_TIMEOUT (R453): A MGMT command receives no response in TXN_TIMEOUT ticks and ends FAILED. -/
  | mgmtTimeout
  /-- LC_CMD (R374): A write of REEVE.LC_CMD verifies a signed token and advances the life-cycle state with a wipe and COLD reset. -/
  | lcCmd (value : BitVec 32)
  /-- FW_ERASE (R453): FW_CMD ERASE erases a flash slot. -/
  | fwErase (slot : Bool)
  /-- FW_WRITE (R453): FW_CMD WRITE writes 256 B from the mailbox into a flash slot. -/
  | fwWrite (slot : Bool)
  /-- FW_VERIFY (R453): FW_CMD VERIFY checks a flash slot's signature and version. -/
  | fwVerify (slot : Bool)
  /-- FW_CMD_DONE (R453): A firmware flash command ends and CMD_STATUS reports its result. -/
  | fwCmdDone (result : BitVec 4)
  /-- REDUCE_ADD (R310): A REDUCE_ADD arrives, is epoch-checked and held in its chunk context or discarded. -/
  | reduceAdd (index : Nat)
  /-- CHUNK_COMBINE (R310): A chunk's own part and all child packets are present and are combined in fixed port order. -/
  | chunkCombine (index : Nat)
  /-- CHUNK_TOTAL_WRITTEN (R310): A chunk's total lands in the buffer and PHASE 1 packets go to the children. -/
  | chunkTotalWritten (index : Nat)
  /-- CHUNK_TIMEOUT (R313): A chunk context stays open for TXN_TIMEOUT ticks and is closed unwritten. -/
  | chunkTimeout (index : Nat)
  /-- REDUCE_COMPLETE (R311): Every chunk of a REDUCE is written or closed; scales are adjusted and the flag increments. -/
  | reduceComplete (core : Fin 512) (op : Nat)
  /-- STEP_READY (R316): A group's reduction is complete and the device writes STEP_READY and decides GO or waits. -/
  | stepReady
  /-- STEP_GO (R318): STEP_CMD GO decides the step, updating scale slots and the step counter. -/
  | stepGo
  /-- STEP_DROP (R319): STEP_CMD DROP zero-fills dropped chunks, advances the step counter and skips the apply. -/
  | stepDrop
  /-- STEP_DROP_DONE (R319): The DROP fills finish and the step state returns to IDLE. -/
  | stepDropDone
  /-- WATCH_PERIOD (R330): At each BELLTIME multiple of 2²⁴ the Watch updates accumulators, the level and whether a harvest is due. -/
  | watchPeriod
  /-- HARVEST_ARM (R338): A step boundary follows a due decision and the Harvest arms the page bitmaps and releases the boundary. -/
  | harvestArm
  /-- PAGE_COPY_DONE (R339): The harvest copy engine finishes copying a page, clears its bit and releases held writes. -/
  | pageCopyDone (die : Fin 4)
  /-- HARVEST_STALL_LIMIT (R341): A held first-touch write waits STALL_LIMIT ticks and the harvest aborts. -/
  | harvestStallLimit (page : Nat)
  /-- PANTRY_COMPLETION (R411): An NVMe command of the pantry completes, advancing an image write or refill read. -/
  | pantryCompletion (index : Nat) (status log : BitVec 16)
  /-- PANTRY_CMD_TIMEOUT (R411): A pantry command is unanswered for CMD_TIMEOUT and the harvest or refill aborts. -/
  | pantryCmdTimeout (index : Nat)
  /-- PREPARE (R346): REFILL_CMD PREPARE readies a refill of a context and marks pages invalid. -/
  | prepare (kind : BitVec 2) (ctx : BitVec 5)
  /-- START (R347): REFILL_CMD START begins a PANTRY or STORE refill. -/
  | start
  /-- ABORT (R348): REFILL_CMD ABORT ends a refill or a SERVING source. -/
  | abort
  /-- SERVE (R347): REFILL_CMD SERVE starts a source sending its replicated pages to a unit. -/
  | serve (ctx : BitVec 5)
  /-- ACK (R346): REFILL_CMD ACK returns a DONE or ABORTED refill to IDLE. -/
  | ack
  /-- SOURCE_SILENT (R348): A RUNNING refill receives no refill write for REFILL_TIMEOUT ticks and aborts. -/
  | sourceSilent
  /-- CONTEXT_SWITCH_REQ (R359): A write of GLOBAL.RUN.REQ chooses the next context or is refused. -/
  | contextSwitchReq (next : BitVec 5)
  /-- SWITCH_OUT (R77): Every core stands at a switch point and the switch-out stops arrivals and saves gates. -/
  | switchOut
  /-- FORCED_OFF (R361): 25,000 ticks after REQ some core is not at a switch point and the device forces the switch. -/
  | forcedOff
  /-- SAVE_START (R362): Drains and operations in flight have ended and the save to the granary slots begins. -/
  | saveStart
  /-- SAVE_DONE (R362): The save ends, the context goes READY with SAVED 1 and the restore of the next begins. -/
  | saveDone
  /-- RESTORE_DONE (R363): The restore or fresh start ends and the chosen context becomes RESIDENT with its epochs shifted. -/
  | restoreDone
  /-- CONTEXT_RESET (R373): A write of CTX_CMD.RESET abandons a context's work, destroys its keys and starts its wipe. -/
  | contextReset
  /-- WIPE_DONE (R372): A wipe ends, WIPING clears and a SECURITY WIPE_DONE record is written. -/
  | wipeDone (index : Nat)
  /-- ASSIGN_SLOT (R367): KEYS.SLOT_CMD.ASSIGN draws a fresh key and installs it in a slot for a context. -/
  | assignSlot (owner : BitVec 5)
  /-- RELEASE_SLOT (R367): KEYS.SLOT_CMD.RELEASE overwrites a slot's key and frees the slot. -/
  | releaseSlot
  /-- ENTROPY_FAIL (R369): A health test of the entropy source fails and key draws are refused until COLD. -/
  | entropyFail
  /-- STEWARD_PERIOD (R379): Every 512 ticks the Steward reads activity counters, samples sensors and wear, and attributes energy. -/
  | stewardPeriod (report : PeriodReport)
  /-- ESTIMATE_COMPLETE (R384): 64 ticks into a period the estimates are complete and the new bubble counts and HOT states take force. -/
  | estimateComplete
  /-- THERMTRIP (R388): A sensor reads 115 °C or more and the Steward drives THERMTRIP_N low and gates every clock. -/
  | thermtrip (die : Fin 4) (temp : BitVec 10)
  /-- VF_TARGET_WRITE (R391): A write of STEWARD.VF_TARGET starts an upward or downward move of a die's operating point. -/
  | vfTargetWrite (value : BitVec 32)
  /-- VF_SETTLE (R391): VF_SETTLE ticks after the voltage write of an upward move, the clock changes to the new point. -/
  | vfSettle (die : Fin 4)
  /-- DROOP (R392): A droop detector reads below margin and the die's clock halves. -/
  | droop (die : Fin 4) (reading : BitVec 12)
  /-- DROOP_END (R392): 64 ticks after every detector recovers the die's clock returns. -/
  | droopEnd (die : Fin 4) (recovered : BitVec 64)
  /-- CURFEW (R393): CURFEW_N falls and every die goes to point 0 with 15 bubbles. -/
  | curfew
  /-- CURFEW_RELEASE (R393): CURFEW_N rises and the 100 µs hold starts. -/
  | curfewRelease
  /-- CURFEW_HOLD_END (R393): The curfew hold expires and dies return to normal bubbling and climb to their targets. -/
  | curfewHoldEnd
  /-- PMBUS_TRANSACTION_DONE (R414): A PMBus transaction ends, retried on NACK or PEC error and faulted after the third failure. -/
  | pmbusTransactionDone (die : Fin 4) (ok : Bool)
  /-- PMBUS_RETRY (R414): Every 2¹⁴ ticks a failed downward or CURFEW voltage write is retried. -/
  | pmbusRetry (die : Fin 4)
  /-- POWER_RUN (R427): GLOBAL.POWER.REQ RUN starts the exit from DUSK or NIGHT. -/
  | powerRun
  /-- POWER_DUSK (R426): GLOBAL.POWER.REQ DUSK switches the resident context out and gates compute clocks. -/
  | powerDusk
  /-- POWER_NIGHT (R426): GLOBAL.POWER.REQ NIGHT switches the context out, power-gates dies and takes ports DOWN. -/
  | powerNight
  /-- POWER_TRANSITION_DONE (R427): A power-state entry or exit step that took time ends and POWER.STATE advances. -/
  | powerTransitionDone
  /-- DOORBELL (R56): A write of a bucket ring word in a doorbell page supplies the next micro-batch's bucket. -/
  | doorbell (ctx : Fin 32) (slot : Fin 16) (word : Fin 8) (value : BitVec 32) (ide : Bool)
  /-- EVQ_ENABLE (R407): A write of EVQ_CFG.EN 1 checks and enables a context's event queue. -/
  | evqEnable (ctx : Fin 32) (value : BitVec 32) (ide : Bool)
  /-- EVQ_HEAD_WRITE (R407): A write of EVQ_HEAD consumes records or is discarded if past TAIL. -/
  | evqHeadWrite (ctx : Fin 32) (value : BitVec 32) (ide : Bool)
  /-- EVQ_MESSAGE (R408): HOLDOFF ticks after the last message with TAIL changed, VF vector 0 is sent. -/
  | evqMessage (ctx : Fin 32)
  /-- WINDOW_READ (R401): A host read of BAR4 or a VF BAR2 is translated and carried as Tilby reads after any flushes. -/
  | windowRead (fn : Fin 32) (dw len : Nat) (ide : Bool)
  /-- WINDOW_WRITE (R401): A host write of BAR4 or a VF BAR2 is translated and sent as posted writes. -/
  | windowWrite (fn : Fin 32) (dw : Nat) (data : List Byte) (ide : Bool)
  /-- PCIE_LINK (R405): The host link goes down or returns without PERST_N and a HOST PCIE_LINK record is written. -/
  | pcieLink (speed : BitVec 3) (width : BitVec 5) (flit : Bool)
  /-- IDE_FAIL (R404): An IDE integrity failure writes a HOST IDE_FAIL record. -/
  | ideFail (stream : BitVec 2)
  /-- RESCAN (R477): A write of PANTRY.CMD.RESCAN repeats the drive bring-up. -/
  | rescan (drive : DriveReport)
  /-- SMART_REFRESH (R477): Every 2²⁸ ticks the Reeve reads the drive's SMART log. -/
  | smartRefresh
  /-- ENTDAA (R412): The I3C target takes a dynamic address in ENTDAA arbitration by its provisioned ID. -/
  | entdaa (addr : BitVec 7)
  /-- RSTDAA (R412): RSTDAA clears the I3C dynamic address. -/
  | rstdaa
  /-- SET_ENDPOINT_ID (R413): MCTP control Set Endpoint ID sets the device's EID. -/
  | setEndpointId (eid : BitVec 8)
  /-- GET_ENDPOINT_ID (R413): MCTP control Get Endpoint ID returns the EID. -/
  | getEndpointId
  /-- GET_MCTP_VERSION_SUPPORT (R413): MCTP control Get MCTP Version Support returns the versions. -/
  | getMctpVersionSupport
  /-- GET_MESSAGE_TYPE_SUPPORT (R413): MCTP control Get Message Type Support returns the supported types. -/
  | getMessageTypeSupport
  /-- GETPDRREPOSITORYINFO (R413): PLDM GetPDRRepositoryInfo returns repository information. -/
  | getpdrrepositoryinfo
  /-- GETPDR (R413): PLDM GetPDR returns a PDR. -/
  | getpdr (handle : BitVec 32)
  /-- GETSENSORREADING (R413): PLDM GetSensorReading returns a numeric sensor value. -/
  | getsensorreading (sensor : BitVec 16)
  /-- GETSTATESENSORREADINGS (R413): PLDM GetStateSensorReadings returns health, trip or life-cycle states. -/
  | getstatesensorreadings (sensor : BitVec 16)
  /-- SETNUMERICEFFECTERVALUE (R413): PLDM SetNumericEffecterValue writes a package or die cap. -/
  | setnumericeffectervalue (effecter : BitVec 16) (value : BitVec 32)
  /-- GETNUMERICEFFECTERVALUE (R413): PLDM GetNumericEffecterValue returns a cap. -/
  | getnumericeffectervalue (effecter : BitVec 16)
  /-- GET_VERSION (R375): SPDM GET_VERSION returns the supported version. -/
  | getVersion (path : SpdmPath) (request : List Byte)
  /-- GET_CAPABILITIES (R375): SPDM GET_CAPABILITIES returns the responder's capabilities. -/
  | getCapabilities (path : SpdmPath) (request : List Byte)
  /-- NEGOTIATE_ALGORITHMS (R375): SPDM NEGOTIATE_ALGORITHMS fixes the algorithms. -/
  | negotiateAlgorithms (path : SpdmPath) (request : List Byte)
  /-- GET_DIGESTS (R375): SPDM GET_DIGESTS returns certificate chain digests. -/
  | getDigests (path : SpdmPath) (request : List Byte)
  /-- GET_CERTIFICATE (R375): SPDM GET_CERTIFICATE returns the slot 0 chain. -/
  | getCertificate (path : SpdmPath) (request : List Byte)
  /-- CHALLENGE (R375): SPDM CHALLENGE signs a response with the identity key. -/
  | challenge (path : SpdmPath) (request : List Byte)
  /-- GET_MEASUREMENTS (R375): SPDM GET_MEASUREMENTS returns the measurement blocks. -/
  | getMeasurements (path : SpdmPath) (request : List Byte)
  /-- KEY_EXCHANGE (R375): SPDM KEY_EXCHANGE starts a session by ECDHE over P-384. -/
  | keyExchange (path : SpdmPath) (request : List Byte)
  /-- FINISH (R375): SPDM FINISH completes session establishment. -/
  | finish (path : SpdmPath) (request : List Byte)
  /-- END_SESSION (R375): SPDM END_SESSION ends a session. -/
  | endSession (path : SpdmPath) (request : List Byte)
  /-- BYPASS (R416): JTAG BYPASS selects the bypass register. -/
  | bypass (len tdi : Nat)
  /-- IDCODE (R416): JTAG IDCODE returns 0x1716_A2B7. -/
  | idcode
  /-- SAMPLE_PRELOAD (R416): JTAG SAMPLE/PRELOAD samples or preloads the boundary scan register. -/
  | samplePreload (pins tdi : Nat)
  /-- EXTEST (R416): JTAG EXTEST drives the boundary scan register onto the lands. -/
  | extest (pins tdi : Nat)
  /-- ENABLE (R439): A write setting CTRL.ENABLE on a disabled block starts its ENABLE check. -/
  | enable (page : BitVec 14) (value : BitVec 32)
  /-- ENABLE_CHECK_END (R439): The ENABLE check ends and the block is enabled or the refusal is recorded. -/
  | enableCheckEnd (page : BitVec 14) (index : Fin 512)
  /-- DISABLE (R438): A write clearing CTRL.ENABLE with UNLOCK 0xA5 disables the block. -/
  | disable (page : BitVec 14) (value : BitVec 32)
  /-- QUIESCE (R438): A write of CTRL.QUIESCE 1 stops the block accepting new work. -/
  | quiesce (page : BitVec 14) (value : BitVec 32)
  /-- QUIESCE_DONE (R438): A quiescing block's work in flight ends and STATUS.BUSY falls. -/
  | quiesceDone (page : BitVec 14) (index : Fin 512)
  /-- READ_LO_LATCH (R445): A read of the LO half of a 64-bit pair latches the HI half on that path. -/
  | readLoLatch (host : Bool) (space : RegSpace) (offset : BitVec 26) (len : Nat) (ide : Bool)
  /-- DEVQ_REC0_READ (R452): A read of DEVQ_REC0 returns the record at HEAD and latches REC1 to REC3. -/
  | devqRec0Read (host : Bool)
  /-- REGISTER_WRITE (R440): A write to a register with no row of its own sets its fields or is refused whole. -/
  | registerWrite (space : RegSpace) (offset : BitVec 26) (len : Nat) (value : BitVec 32) (ide : Bool)
  /-- PERST_N_RISE (R421): PERST_N returns high and the device, held before dawn step 3, runs dawn from step 3. -/
  | perstNRise
  /-- ATOMIC_COMPLETE (R281): An ATOMIC whose TARGET is on this node is performed by the local controller, its old value is written to RESULT and its flag is incremented. -/
  | atomicComplete (core : Fin 512) (op : Nat)
  /-- LOAD_COMPLETE (R142): A VECTOR LOAD descriptor finishes copying COUNT instructions into the program store and completes, incrementing its flag. -/
  | loadComplete (core : Fin 512)
  /-- TRAIN_COMPLETE (R246): A port's equalisation and lane judgement in TRAIN end, and the end sends its lane reports with its mask of good lanes. -/
  | trainComplete (port : Fin 32) (good : BitVec 8)
  /-- ORDERLY_POWER_DOWN (R239): At an orderly power-down the Reeve writes WEAR_HALF, WEAR_LIFE and each quadrant's X and direction back to non-volatile storage. -/
  | orderlyPowerDown
  /-- HBM_REFRESH (R185): The HBM controller issues a per-bank refresh to a stack at a time fixed by BELLTIME. -/
  | hbmRefresh (stack : Fin 16)
  /-- BELLTIME_HOLD_END (R35): A backward Bell correction ends when the parent's time has reached the held BELLTIME, and BELLTIME counts again. -/
  | belltimeHoldEnd
  /-- IDE_KM (R404): An IDE_KM message over the DOE SPDM session installs or changes the keys of an IDE stream and sets IDE_STATE.KEYED. -/
  | ideKm (stream : BitVec 2)
  /-- CONFIGURATION_REQUEST (R424): A PCIe configuration request arrives and is answered with Request Retry Status until dawn step 3 ends, or served afterwards. -/
  | configurationRequest (access : ConfigAccess)
  /-- DRIVE_MEMORY_REQUEST (R410): The pantry drive sends a memory request, which reaches the queues or a staging page, or else completes with Unsupported Request. -/
  | driveMemoryRequest (req : DriveRequest)
  deriving DecidableEq, Repr

end Sys2Proof
end

