-- ==== Sys2Proof/Decode.lean ====
section
/-!
DEFINITION. The command that a word spells by the bits of the opcode table. The block is commanded by events, and no row of
its table gives any bits (every row's list of fields is empty), so a word spells no command.
-/
namespace Sys2Proof

/-- No row of the opcode table gives bits: a word spells none of the commands. -/
def decodeTableWord (_nbits _w : Nat) : Option Instr := none

end Sys2Proof
end

