-- ==== Sys2Proof/Config.lean ====
section
/-!
DEFINITION. What the spec fixes outside this model, as opaque constants: nothing in Lean can evaluate them, so a
statement that mentions one holds for every value of it. Each is named in the assumption log.
-/
namespace Sys2Proof.Config

/-- The key pair of the n-th draw of the random number generator (R366, R367). -/
opaque drawnKey : Nat → BitVec 512

/-- A fresh free value, indexed by the state's counter. -/
opaque freeWord : Nat → BitVec 32

/-! Ports (R264). -/

/-- The SPDM messages this device's Reeve sends on a port after the messages it has received there (R264). -/
opaque spdmSend : List (List Byte) → List (List Byte)

/-- The outcome of a port's SPDM session after the messages received: the provisioned ID in the peer's certificate and the
generation secret, once the session is complete (R264). -/
opaque spdmSecret : List (List Byte) → Option (BitVec 48 × BitVec 384)

/-! What the part's fuses hold, and cryptography of the Reeve. -/

/-- The fused bits of the provisioned ID (R412). -/
opaque fusedId : BitVec 48

/-- The fused provisioned ID: bit [32] is 0 (R412). -/
def provisionedId : BitVec 48 := fusedId &&& ~~~(1#48 <<< 32)

/-- By how much a die's FREQ lies below that of the next point, less one, where the limits of R389 leave it free. -/
opaque freqGap : Nat → Nat → BitVec 12

/-- By how much a die's VOLT lies below that of the next point, where the limits of R389 leave it free; at point 15 above
650 mV. -/
opaque voltGap : Nat → Nat → BitVec 12

/-- FREQ of a die `k` points below point 15: 1,600 MHz there, falling strictly, at least 800 MHz at point 0 (R389). -/
def freqBelow (d : Nat) : Nat → Nat
  | 0 => 1600
  | k + 1 => max (800 + (14 - k)) (freqBelow d k - 1 - (freqGap d (14 - k)).toNat)

/-- VOLT of a die `k` points below point 15: from 650 to 850 mV, never rising downward (R389). -/
def voltBelow (d : Nat) : Nat → Nat
  | 0 => 650 + (voltGap d 15).toNat % 201
  | k + 1 => max 650 (voltBelow d k - (voltGap d (14 - k)).toNat)

/-- FREQ in MHz of a die's operating point (R389). -/
def vfFreq (d p : Nat) : BitVec 12 := BitVec.ofNat 12 (freqBelow d (15 - p))

/-- VOLT in mV of a die's operating point (R389). -/
def vfVolt (d p : Nat) : BitVec 12 := BitVec.ofNat 12 (voltBelow d (15 - p))

/-- GB_SLOPE (R390). -/
opaque gbSlope : BitVec 16

/-- WEAR_TREF of a die (R239). -/
opaque wearTref : Nat → BitVec 16

/-- WEAR_NREF of a die (R239). -/
opaque wearNref : Nat → BitVec 32

/-- The fused weight of an activity counter: 0 to 47 of a compute die, 48 to 56 for M0 to M8, 57 to 63 for K0 to K6
(R380). -/
opaque activityWeight : Nat → Nat → BitVec 16

/-- L_d, MB_d and KB_d of a die in W, as FP32 (R381). -/
opaque standing : Nat → Fin 3 → BitVec 32

/-- Whether a life-cycle token for a target state verifies under the fused Horavatex key (R374). -/
opaque tokenGood : List Byte → Nat → Bool

/-- The lowest security version of firmware that boots, fused (R415). -/
opaque minVersion : BitVec 32

/-- What an SPDM response carries after the fields this model fixes, where R375 leaves it open: by the request code, every
request heard before it since GET_VERSION, the request, and the measurement blocks by index. -/
opaque spdmBody : Nat → List (List Byte) → List Byte → List (Nat × List Byte) → List Byte

/-- The flags of the SPDM CAPABILITIES that R375 leaves open, CTExponent, and the two sizes (R375). -/
opaque spdmCaps : BitVec 32 × BitVec 8 × BitVec 32 × BitVec 32

/-- The versions that Get MCTP Version Support answers with (R413). -/
opaque mctpVersions : List Nat

/-- What a PLDM platform descriptor record holds beyond its kind, its sensor or effecter and its unit, by its handle (R413). -/
opaque pdrRest : Nat → List Byte

end Sys2Proof.Config
end

