-- ==== Sys2Proof/Machine/Bits.lean ====
section
/-!
DEFINITION. Bit-field, sign and byte-order helpers shared by every meaning (R8, R9).
-/
namespace Sys2Proof.Machine

/-- The field of `w` bits whose lowest bit is bit `lo`, as a number (R8). -/
def fld (n lo w : Nat) : Nat := (n >>> lo) % 2 ^ w

/-- Bit `i` of `n` (R8). -/
def bitAt (n i : Nat) : Bool := n.testBit i

/-- One as a bit. -/
def b2n (b : Bool) : Nat := if b then 1 else 0

/-- `n` with its field `[lo + w - 1 : lo]` replaced by `x` (R8). -/
def setFld (n lo w x : Nat) : Nat :=
  n - (fld n lo w) * 2 ^ lo + (x % 2 ^ w) * 2 ^ lo

/-- The two's complement reading of the low `w` bits of `n`. -/
def sgn (w n : Nat) : Int :=
  if n % 2 ^ w < 2 ^ (w - 1) then (n % 2 ^ w : Nat) else ((n % 2 ^ w : Nat) : Int) - (2 ^ w : Nat)

/-- The low `w` bits of the two's complement form of `x`. -/
def unsgn (w : Nat) (x : Int) : Nat := (x % ((2 ^ w : Nat) : Int)).toNat

/-- Bytes of `n`, least significant first, `k` of them (R9). -/
def toBytes : Nat → Nat → List Byte
  | 0, _ => []
  | k + 1, n => BitVec.ofNat 8 n :: toBytes k (n / 256)

/-- The number whose bytes, least significant first, are `bs` (R9). -/
def ofBytes : List Byte → Nat
  | [] => 0
  | b :: bs => b.toNat + 256 * ofBytes bs

/-- A MODULAR counter of `n` bits at `v` has reached the target `t` (R17). -/
def reached (n v t : Nat) : Bool := decide ((v + 2 ^ n - t % 2 ^ n) % 2 ^ n < 2 ^ (n - 1))

/-- One more on a SATURATING counter of 32 bits (R16). -/
def satInc (v : Word) : Word := if v.toNat < 2 ^ 32 - 1 then v + 1 else v

/-- `k` more on a SATURATING counter of 32 bits (R16). -/
def satAdd (v : Word) (k : Nat) : Word :=
  if v.toNat + k < 2 ^ 32 then BitVec.ofNat 32 (v.toNat + k) else BitVec.ofNat 32 (2 ^ 32 - 1)

/-- `⌈a ÷ b⌉`. -/
def ceilDiv (a b : Nat) : Nat := (a + b - 1) / b

/-- The set bits of `n` below `w`, in ascending order. -/
def bitsOf (w n : Nat) : List Nat := (List.range w).filter (fun i => n.testBit i)

/-- How many of the low `w` bits of `n` are set. -/
def popCount (w n : Nat) : Nat := (bitsOf w n).length

/-- Consecutive pieces of `k` elements. -/
def chunks {α : Type} (k : Nat) : Nat → List α → List (List α)
  | 0, _ => []
  | m + 1, l => l.take k :: chunks k m (l.drop k)

end Sys2Proof.Machine
end

