-- ==== Sys2Proof/Machine/Crypto.lean ====
section
/-!
DEFINITION. The published cryptography that the spec names: AES-256 with XTS (R210, R342) and GCM (R263), SHA-384, HMAC and the
expansion of HKDF (R264, R265, R375, R376), as FIPS 197, IEEE 1619, SP 800-38D, FIPS 180-4, FIPS 198-1 and RFC 5869 have them
(log entry 15). The lowest byte of a block, a key or a digest is its number's least significant byte.
-/
namespace Sys2Proof.Machine

/-! ## Pieces of a bit vector -/

/-- `n` pieces of `w` bits joined, the first the least significant. -/
def joinPieces (w : Nat) : (n : Nat) → (Fin n → BitVec w) → BitVec (w * n)
  | 0, _ => 0
  | n + 1, f => (joinPieces w n (fun i => f i.succ)).append (f 0)

/-- The `n` pieces of `w` bits of a bit vector, the least significant first. -/
def splitPieces (w n : Nat) (x : BitVec (w * n)) : Fin n → BitVec w := fun i => BitVec.extractLsb' (w * i.val) w x

theorem split_join_at (w : Nat) : ∀ (n : Nat) (f : Fin n → BitVec w) (i : Fin n),
    BitVec.extractLsb' (w * i.val) w (joinPieces w n f) = f i
  | n + 1, f, ⟨0, _⟩ => by
    show BitVec.extractLsb' (w * 0) w ((joinPieces w n (fun i => f i.succ)) ++ (f 0)) = f 0
    ext i hi; simp [BitVec.getLsbD_append, hi]
  | n + 1, f, ⟨k + 1, hk⟩ => by
    have ih := split_join_at w n (fun i => f i.succ) ⟨k, by omega⟩
    show BitVec.extractLsb' (w * (k + 1)) w ((joinPieces w n (fun i => f i.succ)) ++ (f 0)) = f (Fin.succ ⟨k, by omega⟩)
    rw [← ih]
    ext i hi
    have h1 : ¬ w * (k + 1) + i < w := by rw [Nat.mul_add]; omega
    have h2 : w * (k + 1) + i - w = w * k + i := by rw [Nat.mul_add]; omega
    simp [BitVec.getLsbD_append, h1, h2]

theorem split_join (w n : Nat) (f : Fin n → BitVec w) : splitPieces w n (joinPieces w n f) = f := funext (split_join_at w n f)

theorem join_split (w : Nat) : ∀ (n : Nat) (x : BitVec (w * n)), joinPieces w n (splitPieces w n x) = x
  | 0, x => by
    have : ∀ y : BitVec (w * 0), y = 0 := fun y => BitVec.eq_of_toNat_eq (by have := y.isLt; simp at this; simp [this])
    rw [this x]; rfl
  | n + 1, x => by
    have e : (fun i : Fin n => splitPieces w (n + 1) x i.succ) = splitPieces w n (BitVec.extractLsb' w (w * n) x) := by
      funext i
      ext k hk
      have h : w * i.val + k < w * n :=
        Nat.lt_of_lt_of_le (Nat.add_lt_add_left hk _) (by rw [← Nat.mul_succ]; exact Nat.mul_le_mul_left _ i.isLt)
      have h2 : w * (i.val + 1) + k = w + (w * i.val + k) := by rw [Nat.mul_add]; omega
      simp [splitPieces, h, h2]
    show (joinPieces w n (fun i : Fin n => splitPieces w (n + 1) x i.succ)) ++ (BitVec.extractLsb' (w * 0) w x) = x
    rw [e, join_split w n]
    ext i hi
    simp

/-- A bit vector as its pieces. -/
def pieces (w n : Nat) : BitVec (w * n) ≃ (Fin n → BitVec w) := ⟨splitPieces w n, joinPieces w n, join_split w n, split_join w n⟩

/-! ## AES-256 -/

/-- A block as its 16 bytes. -/
abbrev Block16 := Fin 16 → Byte

/-- Multiplication by x in the field of AES. -/
def xtime (b : Byte) : Byte :=
  let t := b >>> 7
  b <<< 1 ^^^ t ^^^ t <<< 1 ^^^ t <<< 3 ^^^ t <<< 4

@[simp] theorem xtime_xor (a b : Byte) : xtime (a ^^^ b) = xtime a ^^^ xtime b := by
  simp only [xtime, BitVec.ushiftRight_xor_distrib, BitVec.shiftLeft_xor_distrib]
  ac_rfl

/-- The S-box of FIPS 197, one number for each row of its table, the lowest column in the lowest byte. -/
def sboxRows : List Nat := [0x76abd7fe2b670130c56f6bf27b777c63, 0xc072a49cafa2d4adf04759fa7dc982ca, 0x1531d871f1e5a534ccf73f362693fdb7,
  0x75b227ebe28012079a059618c323c704, 0x842fe329b3d63b52a05a6e1b1a2c8309, 0xcf584c4a39becb6a5bb1fc20ed00d153,
  0xa89f3c507f02f94585334d43fbaaefd0, 0xd2f3ff1021dab6bcf5389d928f40a351, 0x73195d643d7ea7c41744975fec130ccd,
  0xdb0b5ede14b8ee4688902a22dc4f8160, 0x79e4959162acd3c25c2406490a3a32e0, 0x08ae7a65eaf4566ca94ed58d6d37c8e7,
  0x8a8bbd4b1f74dde8c6b4a61c2e2578ba, 0x9e1dc186b95735610ef6034866b53e70, 0xdf2855cee9871e9b948ed9691198f8e1,
  0x16bb54b00f2d99416842e6bf0d89a18c]

/-- The inverse S-box of FIPS 197, in the same layout. -/
def sboxBackRows : List Nat := [0xfbd7f3819ea340bf38a53630d56a0952, 0xcbe9dec444438e3487ff2f9b8239e37c, 0x4ec3fa420b954cee3d23c2a632947b54,
  0x25d18b6d49a25b76b224d92866a12e08, 0x92b6655dcc5ca4d41698688664f6f872, 0x849d8da75746155edab9edfd5048706c,
  0x0645b3b80558e4f70ad3bc8c00abd890, 0x6b8a130103bdafc1020f3fca8f1e2cd0, 0x73e6b4f0cecff297eadc674f4111913a,
  0x6edf751ce837f9e28535ade72274ac96, 0x1bbe18aa0e62b76f89c5291d711af147, 0xf45acd78fec0db9a2079d2c64b3e56fc,
  0x5fec8027591012b131c7078833a8dd1f, 0xef9cc9939f7ae52d0d4ab519a97f5160, 0x619953833cbbebc8b0f52aae4d3be0a0,
  0x7d0c2155631469e126d677ba7e042b17]

/-- A byte's place in such a table. -/
def tableByte (rows : List Nat) (a : Byte) : Byte := BitVec.ofNat 8 (rows.getD (a.toNat / 16) 0 >>> (8 * (a.toNat % 16)))

/-- The S-box. -/
def sboxOf (a : Byte) : Byte := tableByte sboxRows a

/-- The inverse S-box. -/
def sboxBack (b : Byte) : Byte := tableByte sboxBackRows b

/-- The S-box as a permutation. -/
def sbox : Equiv.Perm Byte := ⟨sboxOf, sboxBack, by unfold Function.LeftInverse; decide +kernel, by unfold Function.RightInverse Function.LeftInverse; decide +kernel⟩

/-- SubBytes. -/
def subBytes : Equiv.Perm Block16 := Equiv.arrowCongr (Equiv.refl _) sbox

/-- ShiftRows: byte r + 4 c comes from byte r + 4 (c + r). -/
def shiftRows : Equiv.Perm Block16 :=
  Equiv.arrowCongr ⟨fun i => ⟨(i.val + 12 * (i.val % 4)) % 16, Nat.mod_lt _ (by decide)⟩,
    fun i => ⟨(i.val + 4 * (i.val % 4)) % 16, Nat.mod_lt _ (by decide)⟩, by unfold Function.LeftInverse; decide,
    by unfold Function.RightInverse Function.LeftInverse; decide⟩ (Equiv.refl _)

/-- The byte `k` rows below byte `i` in its column. -/
def below (i : Fin 16) (k : Nat) : Fin 16 := ⟨i.val / 4 * 4 + (i.val + k) % 4, by omega⟩

/-- MixColumns of one byte, given its column from it downward. -/
def mix (a b c d : Byte) : Byte := xtime a ^^^ (xtime b ^^^ b) ^^^ c ^^^ d

/-- InvMixColumns of one byte, given its column from it downward. -/
def unmix (a b c d : Byte) : Byte :=
  (xtime (xtime (xtime a)) ^^^ xtime (xtime a) ^^^ xtime a) ^^^ (xtime (xtime (xtime b)) ^^^ xtime b ^^^ b)
    ^^^ (xtime (xtime (xtime c)) ^^^ xtime (xtime c) ^^^ c) ^^^ (xtime (xtime (xtime d)) ^^^ d)

theorem mix_xor (a b c d a' b' c' d' : Byte) :
    mix (a ^^^ a') (b ^^^ b') (c ^^^ c') (d ^^^ d') = mix a b c d ^^^ mix a' b' c' d' := by
  simp only [mix, xtime_xor]; ac_rfl

theorem unmix_xor (a b c d a' b' c' d' : Byte) :
    unmix (a ^^^ a') (b ^^^ b') (c ^^^ c') (d ^^^ d') = unmix a b c d ^^^ unmix a' b' c' d' := by
  simp only [unmix, xtime_xor]; ac_rfl

/-- A function of four bytes that keeps sums is settled by its values on one byte at a time. -/
theorem column_ext (f : Byte → Byte → Byte → Byte → Byte)
    (hf : ∀ a b c d a' b' c' d', f (a ^^^ a') (b ^^^ b') (c ^^^ c') (d ^^^ d') = f a b c d ^^^ f a' b' c' d')
    (h1 : ∀ a, f a 0#8 0#8 0#8 = a) (h2 : ∀ a, f 0#8 a 0#8 0#8 = 0#8) (h3 : ∀ a, f 0#8 0#8 a 0#8 = 0#8)
    (h4 : ∀ a, f 0#8 0#8 0#8 a = 0#8) (a b c d : Byte) :
    f a b c d = a := by
  have e := hf a b 0#8 0#8 0#8 0#8 c d
  have e1 := hf a 0#8 0#8 0#8 0#8 b 0#8 0#8
  have e2 := hf 0#8 0#8 c 0#8 0#8 0#8 0#8 d
  simp only [BitVec.xor_zero, BitVec.zero_xor] at e e1 e2
  rw [e, e1, e2, h1, h2, h3, h4]; simp

theorem unmix_mix (a b c d : Byte) : unmix (mix a b c d) (mix b c d a) (mix c d a b) (mix d a b c) = a :=
  column_ext (fun a b c d => unmix (mix a b c d) (mix b c d a) (mix c d a b) (mix d a b c))
    (fun a b c d a' b' c' d' => by simp only [mix_xor, unmix_xor]) (by decide +kernel) (by decide +kernel) (by decide +kernel)
    (by decide +kernel) a b c d

theorem mix_unmix (a b c d : Byte) : mix (unmix a b c d) (unmix b c d a) (unmix c d a b) (unmix d a b c) = a :=
  column_ext (fun a b c d => mix (unmix a b c d) (unmix b c d a) (unmix c d a b) (unmix d a b c))
    (fun a b c d a' b' c' d' => by simp only [mix_xor, unmix_xor]) (by decide +kernel) (by decide +kernel) (by decide +kernel)
    (by decide +kernel) a b c d

/-- A function of each byte's column, from the byte downward. -/
def onColumns (f : Byte → Byte → Byte → Byte → Byte) (x : Block16) : Block16 :=
  fun i => f (x i) (x (below i 1)) (x (below i 2)) (x (below i 3))

theorem onColumns_back (f g : Byte → Byte → Byte → Byte → Byte)
    (h : ∀ a b c d, g (f a b c d) (f b c d a) (f c d a b) (f d a b c) = a) (x : Block16) :
    onColumns g (onColumns f x) = x := by
  funext i
  have e : ∀ (i : Fin 16) , below (below i 1) 1 = below i 2 ∧ below (below i 1) 2 = below i 3 ∧ below (below i 1) 3 = i
      ∧ below (below i 2) 1 = below i 3 ∧ below (below i 2) 2 = i ∧ below (below i 2) 3 = below i 1
      ∧ below (below i 3) 1 = i ∧ below (below i 3) 2 = below i 1 ∧ below (below i 3) 3 = below i 2 := by decide
  obtain ⟨e1, e2, e3, e4, e5, e6, e7, e8, e9⟩ := e i
  simp only [onColumns, e1, e2, e3, e4, e5, e6, e7, e8, e9, h]

/-- MixColumns. -/
def mixColumns : Equiv.Perm Block16 :=
  ⟨onColumns mix, onColumns unmix, onColumns_back mix unmix unmix_mix, onColumns_back unmix mix mix_unmix⟩

/-- AddRoundKey, as any addition of a mask. -/
def addMask (k : BitVec 128) : Equiv.Perm (BitVec 128) :=
  ⟨fun x => x ^^^ k, fun x => x ^^^ k, fun x => by simp, fun x => by simp⟩

/-- A word of the key schedule as its four bytes. -/
abbrev KeyWord := List Byte

/-- Two words added. -/
def addWord (a b : KeyWord) : KeyWord := List.zipWith (· ^^^ ·) a b

/-- The next word of the key schedule of a 256-bit key, whose number is `i`, from the words so far, newest first. -/
def nextWord (i : Nat) (l : List KeyWord) : KeyWord :=
  let prev := l.getD 0 []
  let g := if i % 8 = 0 then
      match prev.map sboxOf with
      | [a, b, c, d] => [b ^^^ BitVec.ofNat 8 (2 ^ (i / 8 - 1)), c, d, a]
      | x => x
    else if i % 8 = 4 then prev.map sboxOf
    else prev
  addWord (l.getD 7 []) g

/-- The key schedule, newest word first, from word 8 to word 59. -/
def scheduleFrom : Nat → Nat → List KeyWord → List KeyWord
  | 0, _, l => l
  | n + 1, i, l => scheduleFrom n (i + 1) (nextWord i l :: l)

/-- The 15 round keys of a 256-bit key. -/
def roundKeys (key : BitVec 256) : List (BitVec 128) :=
  let first := ((List.range 8).map (fun i => toBytes 4 (key.toNat / 2 ^ (32 * i)))).reverse
  let ws := (scheduleFrom 52 8 first).reverse
  (chunks 4 15 ws).map (fun k => BitVec.ofNat 128 (ofBytes k.flatten))

/-- A permutation of a block's bytes as one of the block. -/
def onBytes (e : Equiv.Perm Block16) : Equiv.Perm (BitVec 128) := ((pieces 8 16).trans e).trans (pieces 8 16).symm

/-- The rounds of AES under the round keys that are left: the last has no MixColumns. -/
def aesRounds : List (BitVec 128) → Equiv.Perm (BitVec 128)
  | [] => Equiv.refl _
  | [k] => (onBytes (subBytes.trans shiftRows)).trans (addMask k)
  | k :: l => ((onBytes ((subBytes.trans shiftRows).trans mixColumns)).trans (addMask k)).trans (aesRounds l)

/-- AES-256: the cipher under a key. -/
def aes (key : BitVec 256) : Equiv.Perm (BitVec 128) :=
  match roundKeys key with
  | [] => Equiv.refl _
  | k :: l => (addMask k).trans (aesRounds l)

/-! ## XTS -/

/-- The tweak of the next block of a data unit: multiplication by the primitive element. -/
def nextTweak (t : BitVec 128) : BitVec 128 := t <<< 1 ^^^ (if t.getLsbD 127 then 0x87 else 0)

/-- One block under a data key and its tweak. -/
def xtsBlock (k1 : BitVec 256) (t : BitVec 128) : Equiv.Perm (BitVec 128) := ((addMask t).trans (aes k1)).trans (addMask t)

/-- The keys of a pair: the data key, then the tweak key. -/
def dataKey (key : BitVec 512) : BitVec 256 := key.setWidth 256
/-- The tweak key of a pair. -/
def tweakKey (key : BitVec 512) : BitVec 256 := (key >>> 256).setWidth 256

/-- AES-256-XTS on one data unit of 16 B (R210). -/
@[irreducible] def xts (key : BitVec 512) (tweak : BitVec 128) : Equiv.Perm (BitVec 128) := xtsBlock (dataKey key) (aes (tweakKey key) tweak)

/-- AES-256-XTS on one data unit of 4 KiB with the LBA as tweak (R342). -/
@[irreducible] def pantryXts (key : BitVec 512) (lba : Nat) : Equiv.Perm (BitVec 32768) :=
  let first := aes (tweakKey key) (BitVec.ofNat 128 lba)
  ((pieces 128 256).trans (Equiv.piCongrRight (fun i => xtsBlock (dataKey key) (nextTweak^[i.val] first)))).trans
    (pieces 128 256).symm

/-! ## GCM (R263). Here a block's first byte is its number's most significant. -/

/-- The bytes of a number of `n` bytes in reverse order. -/
def swapBytes (n v : Nat) : Nat := ofBytes (toBytes n v).reverse

/-- AES-256 on a block whose first byte is the most significant. -/
def aesBig (key : BitVec 256) (v : BitVec 128) : BitVec 128 :=
  BitVec.ofNat 128 (swapBytes 16 (aes key (BitVec.ofNat 128 (swapBytes 16 v.toNat))).toNat)

/-- The product of GHASH over the bits of `x` from number `i` down. -/
def ghashMul (x : BitVec 128) : Nat → BitVec 128 → BitVec 128 → BitVec 128
  | 0, z, _ => z
  | n + 1, z, v =>
    ghashMul x n (if x.getLsbD n then z ^^^ v else z) (v >>> 1 ^^^ (if v.getLsbD 0 then 0xE1#128 <<< 120 else 0))

/-- GHASH of blocks under a hash key. -/
def ghash (h : BitVec 128) (l : List (BitVec 128)) : BitVec 128 := l.foldl (fun y x => ghashMul (y ^^^ x) 128 0 h) 0

/-- The key stream of AES-256-GCM over a flit's payload for a key and a nonce (R263). -/
@[irreducible] def gcmStream (key : BitVec 256) (nonce : BitVec 96) : BitVec 1792 :=
  BitVec.ofNat 1792 (ofBytes ((List.range 14).flatMap (fun i =>
    toBytes 16 (swapBytes 16 (aesBig key (nonce.append (BitVec.ofNat 32 (i + 2)))).toNat))))

/-- The tag of AES-256-GCM for a key, a nonce, the additional data and a ciphertext (R263). -/
@[irreducible] def gcmTag (key : BitVec 256) (nonce aad : BitVec 96) (ct : BitVec 1792) : BitVec 128 :=
  let big := fun v => BitVec.ofNat 128 (swapBytes 16 v)
  let blocks := [big aad.toNat] ++ (List.range 14).map (fun i => big (ct.toNat / 2 ^ (128 * i)))
    ++ [BitVec.ofNat 128 (96 * 2 ^ 64 + 1792)]
  let t := ghash (aesBig key 0) blocks ^^^ aesBig key (nonce.append (1 : BitVec 32))
  BitVec.ofNat 128 (swapBytes 16 t.toNat)

/-! ## SHA-384, HMAC and HKDF -/

/-- The greatest number below `2^n` more than `acc` whose `k`-th power does not pass `v`. -/
def rootOf (k v : Nat) : Nat → Nat → Nat
  | 0, acc => acc
  | n + 1, acc => rootOf k v n (if (acc + 2 ^ n) ^ k ≤ v then acc + 2 ^ n else acc)

/-- The first 80 primes. -/
def firstPrimes : List Nat := (List.range 410).filter (fun n => 2 ≤ n && (List.range n).all (fun d => d < 2 || n % d != 0))

/-- The 80 constants of SHA-384: the fractions of the cube roots of the first primes. -/
def shaK : List DWord := firstPrimes.map (fun p => BitVec.ofNat 64 (rootOf 3 (p * 2 ^ 192) 68 0))

/-- Its first hash value: the fractions of the square roots of the ninth to the sixteenth prime. -/
def shaH : List DWord := ((firstPrimes.drop 8).take 8).map (fun p => BitVec.ofNat 64 (rootOf 2 (p * 2 ^ 128) 70 0))

/-- The message schedule, newest word first. -/
def shaSchedule : Nat → List DWord → List DWord
  | 0, l => l
  | n + 1, l =>
    let a := l.getD 1 0
    let b := l.getD 14 0
    let s1 := a.rotateRight 19 ^^^ a.rotateRight 61 ^^^ a >>> 6
    let s0 := b.rotateRight 1 ^^^ b.rotateRight 8 ^^^ b >>> 7
    shaSchedule n ((s1 + l.getD 6 0 + s0 + l.getD 15 0) :: l)

/-- One round, of a constant and a word of the schedule. -/
def shaRound (h : List DWord) (x : DWord × DWord) : List DWord :=
  match h with
  | [a, b, c, d, e, f, g, k] =>
    let s1 := e.rotateRight 14 ^^^ e.rotateRight 18 ^^^ e.rotateRight 41
    let s0 := a.rotateRight 28 ^^^ a.rotateRight 34 ^^^ a.rotateRight 39
    let t1 := k + s1 + ((e &&& f) ^^^ (~~~e &&& g)) + x.1 + x.2
    let t2 := s0 + ((a &&& b) ^^^ (a &&& c) ^^^ (b &&& c))
    [t1 + t2, a, b, c, d + t1, e, f, g]
  | l => l

/-- One block of 128 B hashed. -/
def shaBlock (h : List DWord) (block : List Byte) : List DWord :=
  let ws := (chunks 8 16 block).map (fun b => BitVec.ofNat 64 (ofBytes b.reverse))
  let sched := (shaSchedule 64 ws.reverse).reverse
  List.zipWith (· + ·) h ((shaK.zip sched).foldl shaRound h)

/-- A message padded to whole blocks. -/
def shaPad (l : List Byte) : List Byte :=
  l ++ [0x80] ++ List.replicate ((239 - l.length % 128) % 128) 0 ++ (toBytes 16 (8 * l.length)).reverse

/-- The bytes of SHA-384. -/
@[irreducible] def sha384Bytes (l : List Byte) : List Byte :=
  let m := shaPad l
  (((chunks 128 (m.length / 128) m).foldl shaBlock shaH).take 6).flatMap (fun w => (toBytes 8 w.toNat).reverse)

/-- SHA-384 (R375). -/
def sha384 (l : List Byte) : BitVec 384 := BitVec.ofNat 384 (ofBytes (sha384Bytes l))

/-- HMAC-SHA-384 under a key of at most 128 B. -/
def hmac (key l : List Byte) : List Byte :=
  let k := key ++ List.replicate (128 - key.length) 0
  sha384Bytes (k.map (· ^^^ 0x5C) ++ sha384Bytes (k.map (· ^^^ 0x36) ++ l))

/-- The first `n` bytes, at most 48, of the HKDF-SHA-384 expansion of a secret under a label (R264, R265). -/
@[irreducible] def hkdf (secret : BitVec 384) (label : String) (n : Nat) : Nat :=
  ofBytes ((hmac (toBytes 48 secret.toNat) (label.toList.map (fun c => BitVec.ofNat 8 c.toNat) ++ [0x01])).take n)

/-- The key of a direction, A to B or B to A, of a generation secret (R264). -/
def portKey (secret : BitVec 384) (ab : Bool) : BitVec 256 :=
  BitVec.ofNat 256 (hkdf secret (if ab then "TLBY K AB" else "TLBY K BA") 32)

/-- The salt of a direction, its first byte the most significant (R263, R264). -/
def portSalt (secret : BitVec 384) (ab : Bool) : BitVec 32 :=
  BitVec.ofNat 32 (swapBytes 4 (hkdf secret (if ab then "TLBY S AB" else "TLBY S BA") 4))

/-- The secret of the next generation (R265). -/
def portNext (secret : BitVec 384) : BitVec 384 := BitVec.ofNat 384 (hkdf secret "TLBY NEXT" 48)

end Sys2Proof.Machine
end

