-- ==== Sys2Proof/Machine/MemCode.lean ====
section
/-!
DEFINITION. The memory code: one codeword of 36 symbols of 4 bits for each 16 B (R202 to R206).
-/
namespace Sys2Proof.Machine

/-- Multiplication by α in GF(16) built with x⁴ + x + 1 (R203). -/
def gfDouble (a : Nat) : Nat := if a < 8 then 2 * a else (2 * a) % 16 ^^^ 3

/-- Multiplication in GF(16) (R203). -/
def gfMul (a b : Nat) : Nat :=
  (if b.testBit 0 then a else 0) ^^^ (if b.testBit 1 then gfDouble a else 0) ^^^
  (if b.testBit 2 then gfDouble (gfDouble a) else 0) ^^^ (if b.testBit 3 then gfDouble (gfDouble (gfDouble a)) else 0)

/-- The inverse in GF(16), a¹⁴; 0 has none and gives 0. -/
def gfInv (a : Nat) : Nat :=
  let a2 := gfMul a a
  let a4 := gfMul a2 a2
  let a8 := gfMul a4 a4
  gfMul a8 (gfMul a4 a2)

/-- The quadratic form f(a, b) = a² + ab + 8b² (R203). -/
def quadForm (a b : Nat) : Nat := gfMul a a ^^^ gfMul a b ^^^ gfMul 8 (gfMul b b)

/-- The pair (a, b) of position `k` (R204). -/
def codePair (k : Nat) : Nat × Nat :=
  if k < 16 then (k, 2)
  else if k < 32 then (k - 16, 3)
  else ((k - 32) % 2, (k - 32) / 2)

/-- The position of a pair, where it has one (R204). -/
def codePosition (a b : Nat) : Option Nat :=
  if b = 2 then some a
  else if b = 3 then some (16 + a)
  else if a < 2 ∧ b < 2 then some (32 + a + 2 * b)
  else none

/-- Symbol `k` of a codeword (R202). -/
def codeSymbol (w : Nat) (k : Nat) : Nat := fld w (4 * k) 4

/-- H times the first `n` symbols of a codeword, as (s0, s1, s2, s3) (R203, R204). -/
def codeSum (w : Nat) : Nat → Nat × Nat × Nat × Nat
  | 0 => (0, 0, 0, 0)
  | n + 1 =>
    let (t0, t1, t2, t3) := codeSum w n
    let d := codeSymbol w n
    let (a, b) := codePair n
    (t0 ^^^ d, t1 ^^^ gfMul (quadForm a b) d, t2 ^^^ gfMul a d, t3 ^^^ gfMul b d)

/-- The check symbols of 16 B of data, p0 in bits [3:0] (R205). -/
def checkSymbols (data : Nat) : Nat :=
  let (t0, t1, t2, t3) := codeSum data 32
  let p0 := t0 ^^^ t1 ^^^ gfMul 9 t3
  let p1 := t1 ^^^ gfMul 8 t3
  let p2 := t1 ^^^ t2 ^^^ gfMul 9 t3
  let p3 := t1 ^^^ t2 ^^^ gfMul 8 t3
  p0 + 16 * p1 + 256 * p2 + 4096 * p3

/-- The codeword of 16 B of data: 144 bits (R202, R205). -/
def encodeWord (data : Nat) : Nat := data % 2 ^ 128 + 2 ^ 128 * checkSymbols data

/-- What a read of a codeword finds (R206). -/
inductive ReadResult where
  | clean
  | corrected (word : Nat)
  | uncorrectable
  deriving DecidableEq, Repr

/-- The decoder of every read (R206). -/
def decodeWord (w : Nat) : ReadResult :=
  let (s0, s1, s2, s3) := codeSum w 36
  if s0 = 0 ∧ s1 = 0 ∧ s2 = 0 ∧ s3 = 0 then .clean
  else if s0 = 0 then .uncorrectable
  else
    let a := gfMul s2 (gfInv s0)
    let b := gfMul s3 (gfInv s0)
    if gfMul s0 s1 = gfMul s2 s2 ^^^ gfMul s2 s3 ^^^ gfMul 8 (gfMul s3 s3) then
      match codePosition a b with
      | some k => .corrected (w ^^^ s0 * 2 ^ (4 * k))
      | none => .uncorrectable
    else .uncorrectable

end Sys2Proof.Machine
end

