-- ==== Sys2Proof/Machine/RegMap.lean ====
section
/-!
DEFINITION. The register map of BAR0 and of the doorbell pages, field by field, from the spec's register tables
(R12 to R15, R432 to R437 and the tables of the unit chapters): offset, bits, access code, reset value and the reset
kinds each field outlasts. Everything generic about registers (a write, a reset, a reserved bit) is computed from it.
-/
namespace Sys2Proof.Machine

/-- The pages of BAR0 (R432), and the doorbell page of a virtual function (R406). -/
inductive Block where
  | global
  | reeve
  | bell
  | steward
  | watch
  | harvest
  | keys
  | context
  | cellar
  | granary
  | stack
  | hbm
  | core
  | port
  | terrier
  | lanemap
  | group
  | pcie
  | pantry
  | sideband
  | doorbell
  deriving DecidableEq, Repr

/-- A page's number in this model's register file (model's own). -/
def Block.id : Block → Nat
  | .global => 0
  | .reeve => 1
  | .bell => 2
  | .steward => 3
  | .watch => 4
  | .harvest => 5
  | .keys => 6
  | .context => 7
  | .cellar => 8
  | .granary => 9
  | .stack => 10
  | .hbm => 11
  | .core => 12
  | .port => 13
  | .terrier => 14
  | .lanemap => 15
  | .group => 16
  | .pcie => 17
  | .pantry => 18
  | .sideband => 19
  | .doorbell => 20

/-- `ID.TYPE` of a page (R432). -/
def Block.type : Block → Nat
  | .global => 0x1
  | .reeve => 0x2
  | .bell => 0x3
  | .steward => 0x4
  | .watch => 0x5
  | .harvest => 0x6
  | .keys => 0x7
  | .context => 0x8
  | .cellar => 0x10
  | .granary => 0x11
  | .stack => 0x12
  | .hbm => 0x13
  | .core => 0x20
  | .port => 0x21
  | .terrier => 0x22
  | .lanemap => 0x23
  | .group => 0x24
  | .pcie => 0x30
  | .pantry => 0x31
  | .sideband => 0x32
  | .doorbell => 0x0

/-- `CAPS.COUNT` of a page: instances or entries, 1 on single pages (R432, R435). -/
def Block.count : Block → Nat
  | .global => 1
  | .reeve => 1
  | .bell => 1
  | .steward => 1
  | .watch => 1
  | .harvest => 1
  | .keys => 1
  | .context => 32
  | .cellar => 4
  | .granary => 4
  | .stack => 4
  | .hbm => 16
  | .core => 512
  | .port => 32
  | .terrier => 65536
  | .lanemap => 65536
  | .group => 256
  | .pcie => 1
  | .pantry => 1
  | .sideband => 1
  | .doorbell => 1

/-- The seven reset kinds of R15 and R420. -/
inductive ResetKind where
  | cold | warm | device | partition | cellar | context | port
  deriving DecidableEq, Repr

/-- A reset kind's place in a Survives set (R15): C W D P L X T are bits 0 to 6. -/
def ResetKind.bit : ResetKind → Nat
  | .cold => 0 | .warm => 1 | .device => 2 | .partition => 3 | .cellar => 4 | .context => 5 | .port => 6

/-- The access codes of R12. -/
inductive Access where
  | ro | rw | w1c | w1s | wo | rwl
  deriving DecidableEq, Repr

/-- One register field: page offset, lowest bit, width, access code, reset value, Survives set (R12, R15). -/
structure FieldDesc where
  off : Nat
  lo : Nat
  width : Nat
  access : Access
  reset : Nat
  survives : Nat
  deriving DecidableEq, Repr

/-- "Header survives" of a page (R432). -/
def Block.headerSurvives : Block → Nat
  | .global => 120
  | .reeve => 126
  | .bell => 126
  | .steward => 126
  | .watch => 126
  | .harvest => 120
  | .keys => 120
  | .context => 88
  | .cellar => 96
  | .granary => 112
  | .stack => 118
  | .hbm => 112
  | .core => 80
  | .port => 48
  | .terrier => 120
  | .lanemap => 112
  | .group => 112
  | .pcie => 124
  | .pantry => 124
  | .sideband => 126
  | .doorbell => 88

/-- The pages that work from dawn with no ENABLE (R432, R437). -/
def Block.alwaysActive : Block → Bool
  | .global | .reeve | .bell | .steward | .watch | .keys | .sideband => true
  | _ => false

/-- The pages whose `SEL` lies at 0x040 (R433, R435). -/
def Block.windowed : Block → Bool
  | .core | .port | .context | .terrier | .lanemap | .group => true
  | _ => false

/-- The bit of `CTRL` that is ENABLE, where the page has one (R437). -/
def Block.enableBit : Block → Option Nat
  | .global | .reeve | .bell | .steward | .watch | .keys | .sideband | .doorbell => none
  | .context => some 1
  | _ => some 0

/-- The bit of `CTRL` that is QUIESCE, where the page has one (R437). -/
def Block.quiesceBit : Block → Option Nat
  | .global | .reeve | .bell | .steward | .watch | .keys | .sideband | .doorbell | .context | .harvest => none
  | _ => some 1

namespace RegMap

/-- The fields of the common header that every page has (R435); `sv` is the page's Survives set. -/
def header (sv : Nat) : List FieldDesc :=
  [⟨0x008, 24, 8, .wo, 0, 0⟩, ⟨0x00C, 0, 1, .ro, 0, sv⟩, ⟨0x00C, 1, 1, .ro, 0, 0⟩, ⟨0x00C, 2, 1, .w1c, 0, sv⟩,
   ⟨0x00C, 3, 1, .ro, 0, 0⟩, ⟨0x00C, 8, 8, .ro, 0, sv⟩, ⟨0x00C, 16, 16, .ro, 0, sv⟩, ⟨0x010, 0, 32, .w1c, 0, sv⟩,
   ⟨0x014, 0, 32, .rw, 0, sv⟩, ⟨0x018, 0, 8, .ro, 0, sv⟩, ⟨0x01C, 0, 32, .ro, 0, sv⟩, ⟨0x020, 0, 32, .w1c, 0, sv⟩,
   ⟨0x024, 0, 32, .rw, 0, sv⟩, ⟨0x028, 0, 6, .rw, 0, sv⟩, ⟨0x02C, 0, 32, .rw, 0, sv⟩]

/-- `ID` and `CAPS`, which are read from the map itself (R435). -/
def identity : List FieldDesc := [⟨0x000, 0, 32, .ro, 0, 127⟩, ⟨0x004, 0, 24, .ro, 0, 127⟩]

/-- The ENABLE and QUIESCE bits of a page's `CTRL` (R437). -/
def control (b : Block) : List FieldDesc :=
  (match b.enableBit with | some k => [⟨0x008, k, 1, .rw, 0, b.headerSurvives⟩] | none => []) ++
  (match b.quiesceBit with | some k => [⟨0x008, k, 1, .rw, 0, b.headerSurvives⟩] | none => [])

/-- `n` registers of one field each, 4 bytes apart. -/
def arr (base n w : Nat) (a : Access) (sv : Nat) : List FieldDesc :=
  (List.range n).map (fun i => ⟨base + 4 * i, 0, w, a, 0, sv⟩)

/-- Fields of the GLOBAL page, part 1 (R302, R378, R431). -/
def global0 : List FieldDesc :=
  [⟨0x00C, 4, 2, .ro, 0, 0⟩, ⟨0x100, 0, 14, .rw, 0x3FFF, 120⟩, ⟨0x100, 15, 1, .ro, 0, 120⟩, ⟨0x100, 16, 1, .ro, 0, 120⟩,
   ⟨0x104, 0, 14, .ro, 0, 120⟩, ⟨0x104, 15, 1, .ro, 0, 120⟩, ⟨0x108, 0, 5, .ro, 0, 80⟩, ⟨0x108, 8, 5, .rw, 0, 112⟩,
   ⟨0x108, 16, 1, .wo, 0, 0⟩, ⟨0x108, 17, 1, .ro, 0, 0⟩, ⟨0x10C, 0, 8, .ro, 0, 112⟩, ⟨0x110, 0, 3, .wo, 0, 0⟩,
   ⟨0x110, 4, 6, .wo, 0, 0⟩, ⟨0x114, 0, 2, .rw, 0, 120⟩, ⟨0x114, 4, 3, .ro, 0, 120⟩, ⟨0x118, 0, 4, .ro, 0, 0⟩,
   ⟨0x118, 8, 1, .ro, 0, 120⟩, ⟨0x118, 12, 4, .ro, 0, 120⟩]

/-- Fields of the REEVE page, part 1 (R378, R452). `LC.STATE` is fused; the model's part is one in FIELD (DESIGN
CHOICE). -/
def reeve0 : List FieldDesc :=
  [⟨0x100, 0, 2, .ro, 2, 127⟩, ⟨0x104, 0, 2, .wo, 0, 0⟩, ⟨0x108, 0, 2, .wo, 0, 0⟩, ⟨0x108, 4, 1, .wo, 0, 0⟩,
   ⟨0x10C, 0, 24, .rw, 0, 126⟩, ⟨0x110, 0, 14, .rw, 0, 126⟩, ⟨0x110, 16, 4, .rw, 0, 126⟩,
   ⟨0x110, 20, 4, .rw, 0, 126⟩, ⟨0x110, 24, 8, .rw, 0, 126⟩, ⟨0x114, 0, 1, .wo, 0, 0⟩, ⟨0x114, 1, 1, .wo, 0, 0⟩,
   ⟨0x118, 0, 2, .ro, 0, 126⟩, ⟨0x118, 4, 4, .ro, 0, 126⟩, ⟨0x118, 8, 8, .ro, 0, 126⟩,
   ⟨0x118, 16, 16, .ro, 0, 126⟩, ⟨0x120, 0, 32, .rw, 0, 126⟩, ⟨0x124, 0, 32, .ro, 0, 126⟩,
   ⟨0x128, 0, 32, .rw, 0, 126⟩, ⟨0x130, 0, 32, .ro, 0, 126⟩, ⟨0x134, 0, 32, .ro, 0, 126⟩,
   ⟨0x138, 0, 32, .ro, 0, 126⟩, ⟨0x13C, 0, 32, .ro, 0, 126⟩]

/-- Fields of the BELL page, part 1 (R454). -/
def bell0 : List FieldDesc :=
  [⟨0x008, 0, 1, .rw, 0, 126⟩, ⟨0x008, 1, 1, .rw, 0, 126⟩, ⟨0x008, 2, 1, .rw, 0, 126⟩, ⟨0x008, 3, 1, .rw, 0, 126⟩,
   ⟨0x008, 4, 5, .rw, 0, 126⟩, ⟨0x008, 9, 1, .rw, 0, 126⟩, ⟨0x00C, 4, 3, .ro, 0, 0⟩, ⟨0x100, 0, 32, .rw, 0, 126⟩,
   ⟨0x104, 0, 32, .ro, 0, 126⟩, ⟨0x108, 0, 32, .ro, 0, 126⟩, ⟨0x10C, 0, 32, .ro, 0, 0⟩,
   ⟨0x110, 0, 32, .ro, 0, 126⟩, ⟨0x114, 0, 32, .ro, 0, 126⟩, ⟨0x118, 0, 32, .rw, 0, 126⟩,
   ⟨0x11C, 0, 32, .rw, 0, 126⟩]

/-- Fields of the STEWARD page, part 1 (R396). -/
def steward0 : List FieldDesc :=
  [⟨0x008, 0, 6, .rw, 0x20, 126⟩, ⟨0x100, 0, 12, .rw, 0xAF0, 126⟩, ⟨0x104, 0, 10, .rw, 0x1C2, 126⟩,
   ⟨0x108, 0, 10, .rw, 0x1C2, 126⟩, ⟨0x10C, 0, 10, .rw, 0x1C2, 126⟩, ⟨0x110, 0, 10, .rw, 0x1C2, 126⟩,
   ⟨0x114, 0, 10, .rw, 0x190, 126⟩, ⟨0x118, 0, 10, .rw, 0x80, 126⟩, ⟨0x11C, 0, 8, .rw, 0x1E, 126⟩,
   ⟨0x120, 0, 16, .rw, 0x30D4, 126⟩, ⟨0x124, 0, 16, .rw, 0xFFFF, 126⟩, ⟨0x128, 0, 2, .rw, 0, 126⟩,
   ⟨0x128, 4, 4, .rw, 0, 126⟩, ⟨0x12C, 0, 12, .ro, 0, 127⟩, ⟨0x12C, 12, 12, .ro, 0, 127⟩,
   ⟨0x130, 0, 4, .ro, 0xF, 0⟩, ⟨0x130, 4, 4, .ro, 0xF, 126⟩, ⟨0x130, 8, 8, .ro, 0, 126⟩, ⟨0x130, 16, 1, .ro, 0, 0⟩,
   ⟨0x134, 0, 16, .ro, 0, 127⟩, ⟨0x138, 0, 3, .rw, 0, 126⟩, ⟨0x13C, 0, 16, .ro, 0, 0⟩, ⟨0x140, 0, 16, .ro, 0, 0⟩,
   ⟨0x144, 0, 10, .ro, 0, 0⟩]

/-- Fields of the STEWARD page, part 2 (R396). -/
def steward1 : List FieldDesc :=
  [⟨0x148, 0, 10, .ro, 0x1C2, 0⟩, ⟨0x14C, 0, 16, .ro, 0, 0⟩, ⟨0x150, 0, 1, .ro, 0, 0⟩, ⟨0x150, 1, 1, .ro, 0, 0⟩,
   ⟨0x154, 0, 1, .ro, 0, 126⟩, ⟨0x158, 0, 32, .rw, 0, 126⟩, ⟨0x15C, 0, 32, .rw, 0, 126⟩,
   ⟨0x160, 0, 32, .rw, 0, 126⟩, ⟨0x164, 0, 32, .ro, 0, 126⟩, ⟨0x168, 0, 32, .ro, 0, 126⟩]

/-- Fields of the WATCH page, part 1 (R354). -/
def watch0 : List FieldDesc :=
  [⟨0x008, 0, 4, .rw, 5, 126⟩, ⟨0x008, 8, 8, .rw, 0x80, 126⟩, ⟨0x100, 0, 16, .rw, 0x40, 126⟩,
   ⟨0x104, 0, 16, .rw, 0x40, 126⟩, ⟨0x108, 0, 16, .rw, 0x1000, 126⟩, ⟨0x10C, 0, 16, .rw, 0xFFFF, 126⟩,
   ⟨0x110, 0, 16, .rw, 0x10, 126⟩, ⟨0x114, 0, 16, .rw, 0x800, 126⟩, ⟨0x118, 0, 16, .rw, 8, 126⟩,
   ⟨0x11C, 0, 3, .rw, 0, 126⟩, ⟨0x120, 0, 32, .ro, 0, 126⟩, ⟨0x124, 0, 8, .ro, 0, 126⟩]

/-- Fields of the HARVEST page, part 1 (R354). -/
def harvest0 : List FieldDesc :=
  [⟨0x008, 1, 1, .rwl, 1, 120⟩, ⟨0x008, 2, 1, .rw, 0, 120⟩, ⟨0x008, 8, 5, .rwl, 0, 120⟩,
   ⟨0x100, 0, 32, .rwl, 0xFFFFFFFF, 120⟩, ⟨0x104, 0, 32, .rwl, 0xBFBFFFFF, 120⟩,
   ⟨0x108, 0, 32, .rwl, 0x5F5F7F7F, 120⟩, ⟨0x10C, 0, 32, .rwl, 0x1F1F3F3F, 120⟩,
   ⟨0x110, 0, 32, .rwl, 0x7070F0F, 120⟩, ⟨0x114, 0, 32, .rw, 0, 120⟩, ⟨0x118, 0, 32, .rw, 0, 120⟩,
   ⟨0x11C, 0, 32, .ro, 0, 120⟩, ⟨0x120, 0, 32, .ro, 0, 120⟩, ⟨0x124, 0, 16, .rwl, 0, 120⟩,
   ⟨0x124, 16, 16, .rwl, 0x100, 120⟩, ⟨0x128, 0, 24, .rwl, 0x186A0, 120⟩, ⟨0x12C, 0, 32, .rwl, 0, 120⟩,
   ⟨0x130, 0, 32, .rwl, 0, 120⟩, ⟨0x134, 0, 32, .rwl, 0, 120⟩, ⟨0x138, 0, 14, .rwl, 0, 120⟩,
   ⟨0x13C, 0, 32, .rwl, 0, 120⟩, ⟨0x140, 0, 32, .rwl, 0, 120⟩, ⟨0x144, 0, 3, .wo, 0, 0⟩, ⟨0x144, 4, 2, .wo, 0, 0⟩,
   ⟨0x144, 8, 5, .wo, 0, 0⟩]

/-- Fields of the HARVEST page, part 2 (R354, R457). -/
def harvest1 : List FieldDesc :=
  [⟨0x148, 0, 14, .rw, 0, 120⟩, ⟨0x14C, 0, 32, .rw, 0, 120⟩, ⟨0x150, 0, 32, .rw, 0, 120⟩,
   ⟨0x154, 0, 32, .rw, 0, 120⟩, ⟨0x158, 0, 8, .rw, 0, 120⟩, ⟨0x15C, 0, 32, .rw, 0, 120⟩,
   ⟨0x160, 0, 24, .rw, 0x3D090, 120⟩, ⟨0x164, 0, 3, .ro, 0, 120⟩, ⟨0x164, 4, 4, .ro, 0, 120⟩,
   ⟨0x168, 0, 32, .w1c, 0xFFFFFFFE, 120⟩, ⟨0x16C, 0, 32, .wo, 0, 0⟩, ⟨0x170, 0, 32, .rw, 0, 120⟩,
   ⟨0x174, 0, 32, .rw, 0, 120⟩, ⟨0x178, 0, 32, .rw, 0, 120⟩]

/-- Fields of the KEYS page, part 1 (R378). -/
def keys0 : List FieldDesc :=
  [⟨0x00C, 0, 1, .ro, 0, 126⟩, ⟨0x100, 0, 6, .rw, 0, 120⟩, ⟨0x104, 0, 5, .wo, 0, 0⟩, ⟨0x104, 8, 1, .wo, 0, 0⟩,
   ⟨0x104, 9, 1, .wo, 0, 0⟩, ⟨0x108, 0, 5, .ro, 0, 88⟩, ⟨0x108, 8, 1, .ro, 0, 88⟩]

/-- Fields of the CONTEXT page, part 1 (R119, R183, R302, R378, R460). -/
def context0 : List FieldDesc :=
  [⟨0x008, 0, 1, .rwl, 0, 88⟩, ⟨0x100, 0, 1, .wo, 0, 0⟩, ⟨0x104, 0, 32, .rw, 0, 88⟩, ⟨0x108, 0, 16, .rw, 0, 88⟩,
   ⟨0x10C, 0, 32, .rw, 0, 88⟩, ⟨0x110, 0, 32, .rw, 0, 88⟩, ⟨0x114, 0, 32, .rw, 0, 88⟩, ⟨0x118, 0, 32, .rw, 0, 88⟩,
   ⟨0x11C, 0, 3, .ro, 0, 88⟩, ⟨0x11C, 3, 1, .ro, 0, 80⟩, ⟨0x120, 0, 1, .wo, 0, 0⟩, ⟨0x124, 0, 5, .rwl, 0, 88⟩,
   ⟨0x128, 0, 6, .rwl, 0, 88⟩, ⟨0x12C, 0, 16, .rwl, 0, 88⟩, ⟨0x130, 0, 16, .rwl, 0, 88⟩,
   ⟨0x134, 0, 17, .rwl, 0, 88⟩, ⟨0x138, 0, 32, .rwl, 0, 88⟩, ⟨0x13C, 0, 32, .rwl, 0, 88⟩,
   ⟨0x140, 0, 25, .rwl, 0, 88⟩, ⟨0x144, 0, 1, .rw, 0, 88⟩, ⟨0x144, 4, 4, .rw, 0, 88⟩, ⟨0x144, 31, 1, .rw, 0, 88⟩,
   ⟨0x148, 0, 32, .rw, 0x3F800000, 88⟩, ⟨0x14C, 0, 32, .ro, 0, 88⟩]

/-- Fields of the CONTEXT page, part 2 (R183, R328, R396). -/
def context1 : List FieldDesc :=
  [⟨0x150, 0, 32, .w1c, 0, 88⟩, ⟨0x154, 0, 32, .rw, 0, 88⟩, ⟨0x158, 0, 32, .rw, 0, 88⟩, ⟨0x15C, 0, 1, .wo, 0, 0⟩,
   ⟨0x15C, 1, 1, .wo, 0, 0⟩, ⟨0x160, 0, 3, .ro, 0, 88⟩, ⟨0x160, 3, 1, .ro, 0, 88⟩, ⟨0x160, 4, 2, .ro, 0, 88⟩,
   ⟨0x160, 8, 8, .ro, 0, 88⟩, ⟨0x164, 0, 32, .ro, 0, 88⟩, ⟨0x168, 0, 32, .ro, 0, 88⟩,
   ⟨0x16C, 0, 32, .ro, 0xFFFFFFFF, 88⟩, ⟨0x170, 0, 32, .rw, 0, 88⟩, ⟨0x174, 0, 3, .rw, 0, 88⟩,
   ⟨0x178, 0, 32, .ro, 0, 88⟩, ⟨0x17C, 0, 32, .ro, 0, 88⟩, ⟨0x1C0, 0, 5, .rw, 0, 88⟩, ⟨0x1C0, 8, 4, .rw, 0, 88⟩]

/-- Fields of the CELLAR page, part 1 (R211, R239, R471). -/
def cellar0 : List FieldDesc :=
  [⟨0x100, 0, 1, .wo, 0, 0⟩, ⟨0x104, 0, 32, .rw, 0, 96⟩, ⟨0x108, 0, 32, .rw, 0, 96⟩, ⟨0x10C, 0, 3, .ro, 0, 0⟩]

/-- Fields of the GRANARY page, part 1 (R211, R471). -/
def granary0 : List FieldDesc :=
  [⟨0x100, 0, 32, .rw, 0, 112⟩, ⟨0x104, 0, 32, .rw, 0, 112⟩, ⟨0x108, 0, 2, .ro, 0, 0⟩]

/-- Fields of the STACK page, part 1 (R239). -/
def stack0 : List FieldDesc :=
  [⟨0x100, 0, 32, .ro, 0, 127⟩, ⟨0x104, 0, 32, .ro, 0, 127⟩, ⟨0x108, 0, 32, .ro, 0, 127⟩,
   ⟨0x10C, 0, 32, .ro, 0, 127⟩, ⟨0x110, 0, 32, .ro, 0, 127⟩, ⟨0x114, 0, 32, .ro, 0, 127⟩,
   ⟨0x118, 0, 32, .ro, 0, 127⟩, ⟨0x11C, 0, 32, .ro, 0, 127⟩, ⟨0x120, 0, 32, .ro, 0, 127⟩,
   ⟨0x124, 0, 4, .rwl, 0xC, 118⟩, ⟨0x124, 16, 6, .rwl, 0x10, 118⟩, ⟨0x128, 0, 32, .rw, 0, 112⟩,
   ⟨0x12C, 0, 8, .rwl, 0x64, 126⟩, ⟨0x130, 0, 8, .rwl, 0x20, 126⟩, ⟨0x134, 0, 16, .ro, 0, 127⟩,
   ⟨0x138, 0, 32, .ro, 0, 127⟩, ⟨0x13C, 0, 2, .rw, 0, 126⟩, ⟨0x140, 0, 32, .ro, 0, 127⟩,
   ⟨0x144, 0, 32, .ro, 0, 127⟩]

/-- Fields of the HBM page, part 1 (R211, R471). -/
def hbm0 : List FieldDesc :=
  [⟨0x100, 0, 32, .rw, 0, 112⟩, ⟨0x104, 0, 32, .rw, 0, 112⟩, ⟨0x108, 0, 10, .ro, 0, 0⟩, ⟨0x10C, 0, 2, .ro, 0, 118⟩,
   ⟨0x10C, 8, 8, .ro, 0, 118⟩, ⟨0x110, 0, 32, .rw, 0, 112⟩]

/-- Fields of the CORE page, part 1 (R66, R468). -/
def core0 : List FieldDesc :=
  [⟨0x100, 0, 21, .rwl, 0, 112⟩, ⟨0x104, 0, 32, .rwl, 0, 112⟩, ⟨0x108, 0, 16, .rwl, 0, 112⟩,
   ⟨0x10C, 0, 3, .ro, 0, 80⟩, ⟨0x10C, 4, 10, .ro, 0, 80⟩, ⟨0x10C, 14, 1, .ro, 0, 80⟩, ⟨0x10C, 16, 2, .ro, 0, 80⟩,
   ⟨0x10C, 24, 8, .ro, 0, 80⟩, ⟨0x110, 0, 32, .ro, 0, 80⟩, ⟨0x114, 0, 32, .ro, 0, 80⟩, ⟨0x118, 0, 32, .rw, 0, 80⟩,
   ⟨0x11C, 0, 32, .rw, 0, 80⟩, ⟨0x120, 0, 32, .rw, 0, 80⟩, ⟨0x130, 0, 6, .rw, 0, 80⟩, ⟨0x134, 0, 15, .rw, 0, 112⟩,
   ⟨0x134, 15, 1, .rw, 0, 112⟩, ⟨0x134, 16, 5, .rw, 0, 112⟩, ⟨0x134, 31, 1, .rw, 0, 112⟩,
   ⟨0x138, 0, 24, .rw, 0, 112⟩, ⟨0x13C, 0, 15, .ro, 0, 112⟩, ⟨0x13C, 15, 1, .ro, 0, 112⟩,
   ⟨0x13C, 16, 2, .ro, 0, 112⟩, ⟨0x140, 0, 32, .rw, 0, 80⟩, ⟨0x144, 0, 32, .rw, 0, 80⟩]

/-- Fields of the CORE page, part 2 (R86, R138, R162, R211, R328, R468). -/
def core1 : List FieldDesc :=
  [⟨0x148, 0, 32, .rw, 0, 80⟩, ⟨0x160, 0, 8, .rw, 0, 80⟩, ⟨0x164, 0, 16, .rw, 0, 80⟩, ⟨0x168, 0, 9, .ro, 0, 80⟩,
   ⟨0x1A0, 0, 8, .rw, 0, 80⟩, ⟨0x1A4, 0, 16, .rw, 0, 80⟩, ⟨0x1E0, 0, 32, .rw, 0, 80⟩, ⟨0x1E4, 0, 7, .ro, 0, 80⟩,
   ⟨0x200, 0, 3, .rwl, 2, 80⟩, ⟨0x204, 0, 2, .ro, 0, 0⟩, ⟨0x204, 2, 1, .ro, 0, 0⟩, ⟨0x204, 16, 16, .ro, 0, 0⟩,
   ⟨0x208, 0, 32, .ro, 0, 0⟩, ⟨0x20C, 0, 16, .wo, 0, 0⟩, ⟨0x210, 0, 32, .ro, 0, 126⟩, ⟨0x214, 0, 32, .ro, 0, 126⟩,
   ⟨0x218, 0, 32, .rw, 0, 80⟩, ⟨0x21C, 0, 32, .rw, 0, 80⟩, ⟨0x220, 0, 32, .rw, 0, 80⟩, ⟨0x240, 0, 2, .ro, 0, 0⟩,
   ⟨0x240, 2, 1, .ro, 0, 0⟩, ⟨0x240, 16, 16, .ro, 0, 0⟩, ⟨0x244, 0, 11, .ro, 0, 80⟩, ⟨0x244, 16, 8, .ro, 0, 80⟩]

/-- Fields of the CORE page, part 3 (R162, R183). -/
def core2 : List FieldDesc :=
  [⟨0x248, 0, 4, .ro, 0, 0⟩, ⟨0x248, 4, 1, .ro, 0, 0⟩, ⟨0x248, 8, 4, .ro, 0, 0⟩, ⟨0x24C, 0, 32, .ro, 0, 126⟩,
   ⟨0x250, 0, 32, .ro, 0, 126⟩, ⟨0x254, 0, 32, .rw, 0, 80⟩, ⟨0x258, 0, 32, .rw, 0, 80⟩,
   ⟨0x280, 0, 1, .rwl, 0, 112⟩, ⟨0x284, 0, 3, .rw, 0, 80⟩, ⟨0x284, 8, 7, .rw, 0, 80⟩, ⟨0x288, 0, 32, .rw, 0, 80⟩,
   ⟨0x28C, 0, 32, .rw, 0, 80⟩]

/-- Fields of the PORT page, part 1 (R269). -/
def port0 : List FieldDesc :=
  [⟨0x100, 0, 2, .rwl, 2, 48⟩, ⟨0x100, 2, 1, .rwl, 1, 48⟩, ⟨0x100, 4, 2, .rwl, 0, 48⟩, ⟨0x100, 16, 8, .rwl, 8, 48⟩,
   ⟨0x104, 0, 16, .rwl, 0x3E8, 48⟩, ⟨0x108, 0, 1, .wo, 0, 0⟩, ⟨0x108, 1, 1, .wo, 0, 0⟩, ⟨0x10C, 0, 2, .rwl, 0, 48⟩,
   ⟨0x110, 0, 4, .ro, 0, 0⟩, ⟨0x110, 4, 4, .ro, 0, 0⟩, ⟨0x110, 8, 8, .ro, 0, 0⟩, ⟨0x110, 16, 8, .ro, 0, 0⟩,
   ⟨0x110, 24, 1, .ro, 0, 0⟩, ⟨0x110, 25, 1, .ro, 0, 0⟩, ⟨0x114, 0, 14, .ro, 0, 0⟩, ⟨0x114, 14, 5, .ro, 0, 0⟩,
   ⟨0x114, 31, 1, .ro, 0, 0⟩, ⟨0x118, 0, 32, .ro, 0, 0⟩, ⟨0x11C, 0, 32, .rw, 0, 48⟩, ⟨0x120, 0, 32, .rw, 0, 48⟩,
   ⟨0x124, 0, 32, .rw, 0, 48⟩, ⟨0x128, 0, 32, .rw, 0, 48⟩, ⟨0x12C, 0, 32, .rw, 0, 48⟩, ⟨0x130, 0, 32, .rw, 0, 48⟩]

/-- Fields of the PORT page, part 2 (R269). -/
def port1 : List FieldDesc :=
  [⟨0x134, 0, 32, .ro, 0, 48⟩, ⟨0x138, 0, 32, .ro, 0, 48⟩]

/-- Fields of the TERRIER page, part 1 (R302). -/
def terrier0 : List FieldDesc :=
  [⟨0x040, 0, 16, .rw, 0, 120⟩, ⟨0x100, 0, 32, .rw, 0, 120⟩, ⟨0x104, 0, 32, .rw, 0, 120⟩,
   ⟨0x108, 0, 32, .rw, 0, 120⟩, ⟨0x10C, 0, 32, .rw, 0, 120⟩]

/-- Fields of the LANEMAP page, part 1 (R290, R302, R328). -/
def lanemap0 : List FieldDesc :=
  [⟨0x040, 0, 14, .rw, 0, 120⟩, ⟨0x040, 16, 2, .rw, 0, 120⟩, ⟨0x100, 0, 20, .rw, 0, 120⟩,
   ⟨0x100, 30, 1, .rw, 0, 120⟩, ⟨0x100, 31, 1, .rw, 0, 120⟩, ⟨0x104, 0, 32, .w1c, 0, 48⟩, ⟨0x108, 0, 24, .rwl, 0x3D090, 120⟩, ⟨0x10C, 0, 32, .rw, 0, 112⟩,
   ⟨0x110, 0, 32, .rw, 0, 112⟩, ⟨0x114, 0, 32, .rw, 0, 112⟩, ⟨0x118, 0, 12, .ro, 0, 0⟩]

/-- Fields of the GROUP page, part 1 (R302, R328). -/
def group0 : List FieldDesc :=
  [⟨0x040, 0, 8, .rw, 0, 120⟩, ⟨0x100, 0, 32, .rw, 0, 120⟩, ⟨0x104, 0, 32, .rw, 0, 120⟩,
   ⟨0x108, 0, 32, .rw, 0, 120⟩, ⟨0x10C, 0, 32, .rw, 0, 120⟩, ⟨0x110, 0, 32, .rw, 0, 112⟩,
   ⟨0x114, 0, 32, .rw, 0, 112⟩]

/-- Fields of the PCIE page, part 1 (R418, R477). -/
def pcie0 : List FieldDesc :=
  [⟨0x100, 0, 5, .rw, 0, 124⟩, ⟨0x100, 16, 16, .rw, 0, 124⟩, ⟨0x104, 0, 1, .rwl, 0, 124⟩,
   ⟨0x108, 0, 32, .rw, 0, 124⟩, ⟨0x10C, 0, 3, .ro, 0, 0⟩, ⟨0x10C, 4, 5, .ro, 0, 0⟩, ⟨0x10C, 9, 1, .ro, 0, 0⟩,
   ⟨0x110, 0, 4, .ro, 0, 124⟩]

/-- Fields of the PANTRY page, part 1 (R418, R477). -/
def pantry0 : List FieldDesc :=
  [⟨0x100, 0, 24, .rwl, 0x7A120, 124⟩, ⟨0x104, 0, 8, .ro, 0, 0⟩, ⟨0x104, 8, 4, .ro, 0, 0⟩,
   ⟨0x108, 0, 1, .ro, 0, 124⟩, ⟨0x108, 1, 1, .ro, 0, 124⟩, ⟨0x108, 8, 8, .ro, 0, 124⟩, ⟨0x10C, 0, 32, .ro, 0, 124⟩,
   ⟨0x110, 0, 32, .ro, 0, 124⟩, ⟨0x114, 0, 8, .ro, 0, 0⟩, ⟨0x114, 8, 8, .ro, 0, 0⟩, ⟨0x118, 0, 1, .wo, 0, 0⟩]

/-- Fields of the SIDEBAND page, part 1 (R418). -/
def sideband0 : List FieldDesc :=
  [⟨0x100, 0, 7, .ro, 0, 126⟩, ⟨0x100, 8, 8, .ro, 0, 126⟩, ⟨0x104, 0, 7, .ro, 0, 126⟩, ⟨0x104, 8, 8, .ro, 0, 126⟩,
   ⟨0x108, 0, 7, .ro, 0, 126⟩, ⟨0x108, 8, 8, .ro, 0, 126⟩, ⟨0x10C, 0, 7, .ro, 0, 126⟩, ⟨0x10C, 8, 8, .ro, 0, 126⟩,
   ⟨0x110, 0, 7, .ro, 0, 126⟩, ⟨0x114, 0, 8, .ro, 0, 126⟩]

/-- Fields of the DOORBELL page, part 1 (R406). -/
def doorbell0 : List FieldDesc :=
  [⟨0x400, 0, 32, .rwl, 0, 88⟩, ⟨0x404, 0, 16, .rwl, 0, 88⟩, ⟨0x408, 0, 5, .rwl, 0, 88⟩, ⟨0x408, 8, 1, .rw, 0, 88⟩,
   ⟨0x408, 16, 16, .rw, 0x40, 88⟩, ⟨0x40C, 0, 32, .ro, 0, 88⟩, ⟨0x410, 0, 32, .rw, 0, 88⟩,
   ⟨0x414, 0, 32, .rw, 0, 88⟩, ⟨0x418, 0, 1, .ro, 0, 88⟩, ⟨0x418, 2, 1, .ro, 0, 88⟩, ⟨0x418, 8, 8, .ro, 0, 88⟩,
   ⟨0x420, 0, 16, .rw, 0, 88⟩]

/-- Every field of a page (R432, R435 and the page's own tables). -/
def fields : Block → List FieldDesc
  | .global => identity ++ header 120 ++ control .global ++ global0
  | .reeve => identity ++ header 126 ++ control .reeve ++ arr 0x800 64 32 .rw 126 ++ reeve0
  | .bell => identity ++ header 126 ++ control .bell ++ bell0
  | .steward => identity ++ header 126 ++ control .steward ++ steward0 ++ steward1
  | .watch => identity ++ header 126 ++ control .watch ++ watch0
  | .harvest => identity ++ header 120 ++ control .harvest ++ harvest0 ++ harvest1
  | .keys => identity ++ header 120 ++ control .keys ++ keys0
  | .context => identity ++ header 88 ++ control .context ++ arr 0x180 16 16 .ro 88 ++ [⟨0x040, 0, 5, .rw, 0, 88⟩] ++ context0 ++ context1
  | .cellar => identity ++ header 96 ++ control .cellar ++ cellar0
  | .granary => identity ++ header 112 ++ control .granary ++ granary0
  | .stack => identity ++ header 118 ++ control .stack ++ stack0
  | .hbm => identity ++ header 112 ++ control .hbm ++ hbm0
  | .core => identity ++ header 80 ++ control .core ++ arr 0x180 8 32 .w1c 80 ++ arr 0x1C0 8 32 .w1c 80 ++ [⟨0x040, 0, 9, .rw, 0, 80⟩] ++ core0 ++ core1 ++ core2
  | .port => identity ++ header 48 ++ control .port ++ [⟨0x040, 0, 5, .rw, 0, 48⟩] ++ port0 ++ port1
  | .terrier => identity ++ header 120 ++ control .terrier ++ terrier0
  | .lanemap => identity ++ header 112 ++ control .lanemap ++ lanemap0
  | .group => identity ++ header 112 ++ control .group ++ group0
  | .pcie => identity ++ header 124 ++ control .pcie ++ pcie0
  | .pantry => identity ++ header 124 ++ control .pantry ++ pantry0
  | .sideband => identity ++ header 126 ++ control .sideband ++ sideband0
  | .doorbell => arr 0 128 32 .rw 88 ++ arr 0x200 16 16 .ro 88 ++ doorbell0

end RegMap

/-- The fields of the register at `off` of a page. -/
def regFields (b : Block) (off : Nat) : List FieldDesc := (RegMap.fields b).filter (fun f => f.off == off)

/-- The bits of one field of a word. -/
def FieldDesc.mask (f : FieldDesc) : Nat := (2 ^ f.width - 1) * 2 ^ f.lo

/-- The reset value of the register at `off` of a page (R15). -/
def resetWord (b : Block) (off : Nat) : Word :=
  BitVec.ofNat 32 ((regFields b off).foldl (fun a f => a + f.reset * 2 ^ f.lo) 0)

/-- The bits of the register at `off` that some field of the tables names; the others are reserved (R14). -/
def definedMask (b : Block) (off : Nat) : Word :=
  (regFields b off).foldl (fun a f => a ||| BitVec.ofNat 32 f.mask) 0

/-- The bits of the register at `off` that outlast a reset of kind `k` (R15). -/
def survivesMask (b : Block) (k : ResetKind) (off : Nat) : Word :=
  (regFields b off).foldl (fun a f => if f.survives.testBit k.bit then a ||| BitVec.ofNat 32 f.mask else a) 0

/-- Whether the page has a register at `off` at all (R400, R435). -/
def regExists (b : Block) (off : Nat) : Bool := !(regFields b off).isEmpty

/-- A register's key in the register file (model's own): page, instance, word. -/
def regKey (b : Block) (i off : Nat) : Nat := (b.id * 512 + i) * 1024 + off / 4

/-- The page of a register-file key. -/
def Block.ofId : Nat → Block
  | 0 => .global
  | 1 => .reeve
  | 2 => .bell
  | 3 => .steward
  | 4 => .watch
  | 5 => .harvest
  | 6 => .keys
  | 7 => .context
  | 8 => .cellar
  | 9 => .granary
  | 10 => .stack
  | 11 => .hbm
  | 12 => .core
  | 13 => .port
  | 14 => .terrier
  | 15 => .lanemap
  | 16 => .group
  | 17 => .pcie
  | 18 => .pantry
  | 19 => .sideband
  | 20 => .doorbell
  | _ => .doorbell

/-- What an unlisted key of the register file reads as: the register's reset value (R15). -/
def regDefault (k : Nat) : Word := resetWord (Block.ofId (k / 1024 / 512)) (4 * (k % 1024))

/-! Page offsets, by page and register name. -/
namespace Off
/-- Common header (R435). -/
abbrev ctrl : Nat := 0x008
/-- Common header (R435). -/
abbrev status : Nat := 0x00C
/-- Common header (R435). -/
abbrev err : Nat := 0x010
/-- Common header (R435). -/
abbrev errEn : Nat := 0x014
/-- Common header (R435). -/
abbrev errFirst : Nat := 0x018
/-- Common header (R435). -/
abbrev errInfo : Nat := 0x01C
/-- Common header (R435). -/
abbrev intStatus : Nat := 0x020
/-- Common header (R435). -/
abbrev intEn : Nat := 0x024
/-- Common header (R435). -/
abbrev intVector : Nat := 0x028
/-- Common header (R435). -/
abbrev eventCount : Nat := 0x02C
/-- Common header (R435). -/
abbrev sel : Nat := 0x040
/-- GLOBAL.NODE (R302). -/
abbrev globalNode : Nat := 0x100
/-- GLOBAL.FM_NODE (R302). -/
abbrev globalFmNode : Nat := 0x104
/-- GLOBAL.RUN (R378). -/
abbrev globalRun : Nat := 0x108
/-- GLOBAL.PART_STATE (R378). -/
abbrev globalPartState : Nat := 0x10C
/-- GLOBAL.RESET_CMD (R431). -/
abbrev globalResetCmd : Nat := 0x110
/-- GLOBAL.POWER (R431). -/
abbrev globalPower : Nat := 0x114
/-- GLOBAL.DAWN (R431). -/
abbrev globalDawn : Nat := 0x118
/-- REEVE.LC (R378). -/
abbrev reeveLc : Nat := 0x100
/-- REEVE.LC_CMD (R452). -/
abbrev reeveLcCmd : Nat := 0x104
/-- REEVE.FW_CMD (R452). -/
abbrev reeveFwCmd : Nat := 0x108
/-- REEVE.FW_OFFSET (R452). -/
abbrev reeveFwOffset : Nat := 0x10C
/-- REEVE.MGMT_DST (R452). -/
abbrev reeveMgmtDst : Nat := 0x110
/-- REEVE.MGMT_CMD (R452). -/
abbrev reeveMgmtCmd : Nat := 0x114
/-- REEVE.CMD_STATUS (R452). -/
abbrev reeveCmdStatus : Nat := 0x118
/-- REEVE.DEVQ_HEAD (R452). -/
abbrev reeveDevqHead : Nat := 0x120
/-- REEVE.DEVQ_TAIL (R452). -/
abbrev reeveDevqTail : Nat := 0x124
/-- REEVE.DEVQ_LOST (R452). -/
abbrev reeveDevqLost : Nat := 0x128
/-- REEVE.DEVQ_REC0 (R452). -/
abbrev reeveDevqRec0 : Nat := 0x130
/-- REEVE.DEVQ_REC1 (R452). -/
abbrev reeveDevqRec1 : Nat := 0x134
/-- REEVE.DEVQ_REC2 (R452). -/
abbrev reeveDevqRec2 : Nat := 0x138
/-- REEVE.DEVQ_REC3 (R452). -/
abbrev reeveDevqRec3 : Nat := 0x13C
/-- REEVE.MBOX (R452). -/
abbrev reeveMbox : Nat := 0x800
/-- BELL.CHILD_MASK (R454). -/
abbrev bellChildMask : Nat := 0x100
/-- BELL.TIME_LO (R454). -/
abbrev bellTimeLo : Nat := 0x104
/-- BELL.TIME_HI (R454). -/
abbrev bellTimeHi : Nat := 0x108
/-- BELL.OFFSET (R454). -/
abbrev bellOffset : Nat := 0x10C
/-- BELL.IN_CAPTURE_LO (R454). -/
abbrev bellInCaptureLo : Nat := 0x110
/-- BELL.IN_CAPTURE_HI (R454). -/
abbrev bellInCaptureHi : Nat := 0x114
/-- BELL.SET_LO (R454). -/
abbrev bellSetLo : Nat := 0x118
/-- BELL.SET_HI (R454). -/
abbrev bellSetHi : Nat := 0x11C
/-- STEWARD.PKG_CAP (R396). -/
abbrev stewardPkgCap : Nat := 0x100
/-- STEWARD.DIE_CAP (R396). -/
abbrev stewardDieCap : Nat := 0x104
/-- STEWARD.T_LIMIT (R396). -/
abbrev stewardTLimit : Nat := 0x114
/-- STEWARD.P_FIXED (R396). -/
abbrev stewardPFixed : Nat := 0x118
/-- STEWARD.DROOP_MARGIN (R396). -/
abbrev stewardDroopMargin : Nat := 0x11C
/-- STEWARD.VF_SETTLE (R396). -/
abbrev stewardVfSettle : Nat := 0x120
/-- STEWARD.VF_TARGET (R396). -/
abbrev stewardVfTarget : Nat := 0x124
/-- STEWARD.VF_SEL (R396). -/
abbrev stewardVfSel : Nat := 0x128
/-- STEWARD.VF_POINT (R396). -/
abbrev stewardVfPoint : Nat := 0x12C
/-- STEWARD.VF_STATE (R396). -/
abbrev stewardVfState : Nat := 0x130
/-- STEWARD.GB_SLOPE (R396). -/
abbrev stewardGbSlope : Nat := 0x134
/-- STEWARD.EST_SEL (R396). -/
abbrev stewardEstSel : Nat := 0x138
/-- STEWARD.EST_DEMAND (R396). -/
abbrev stewardEstDemand : Nat := 0x13C
/-- STEWARD.EST_ACTUAL (R396). -/
abbrev stewardEstActual : Nat := 0x140
/-- STEWARD.TEMP (R396). -/
abbrev stewardTemp : Nat := 0x144
/-- STEWARD.CAP_EFF (R396). -/
abbrev stewardCapEff : Nat := 0x148
/-- STEWARD.BUBBLE (R396). -/
abbrev stewardBubble : Nat := 0x14C
/-- STEWARD.CURFEW (R396). -/
abbrev stewardCurfew : Nat := 0x150
/-- STEWARD.THERMTRIP (R396). -/
abbrev stewardThermtrip : Nat := 0x154
/-- STEWARD.CURFEW_COUNT (R396). -/
abbrev stewardCurfewCount : Nat := 0x158
/-- STEWARD.DROOP_COUNT (R396). -/
abbrev stewardDroopCount : Nat := 0x15C
/-- STEWARD.CAP_PERIODS (R396). -/
abbrev stewardCapPeriods : Nat := 0x160
/-- STEWARD.ENERGY_BASE_LO (R396). -/
abbrev stewardEnergyBaseLo : Nat := 0x164
/-- STEWARD.ENERGY_BASE_HI (R396). -/
abbrev stewardEnergyBaseHi : Nat := 0x168
/-- WATCH.WEIGHT (R354). -/
abbrev watchWeight : Nat := 0x100
/-- WATCH.ACC_SEL (R354). -/
abbrev watchAccSel : Nat := 0x11C
/-- WATCH.ACC_VALUE (R354). -/
abbrev watchAccValue : Nat := 0x120
/-- WATCH.LEVEL (R354). -/
abbrev watchLevel : Nat := 0x124
/-- HARVEST.INTERVAL_BASE (R354). -/
abbrev harvestIntervalBase : Nat := 0x100
/-- HARVEST.SHORTEN (R354). -/
abbrev harvestShorten : Nat := 0x104
/-- HARVEST.AT_STEP_LO (R354). -/
abbrev harvestAtStepLo : Nat := 0x114
/-- HARVEST.AT_STEP_HI (R354). -/
abbrev harvestAtStepHi : Nat := 0x118
/-- HARVEST.LAST_TICK_LO (R354). -/
abbrev harvestLastTickLo : Nat := 0x11C
/-- HARVEST.LAST_TICK_HI (R354). -/
abbrev harvestLastTickHi : Nat := 0x120
/-- HARVEST.STAGE (R354). -/
abbrev harvestStage : Nat := 0x124
/-- HARVEST.STALL_LIMIT (R354). -/
abbrev harvestStallLimit : Nat := 0x128
/-- HARVEST.PANTRY_LBA0 (R354). -/
abbrev harvestPantryLba0 : Nat := 0x12C
/-- HARVEST.PANTRY_LBA1 (R354). -/
abbrev harvestPantryLba1 : Nat := 0x130
/-- HARVEST.PANTRY_SLOT (R354). -/
abbrev harvestPantrySlot : Nat := 0x134
/-- HARVEST.STORE_NODE (R354). -/
abbrev harvestStoreNode : Nat := 0x138
/-- HARVEST.STORE_BASE (R354). -/
abbrev harvestStoreBase : Nat := 0x13C
/-- HARVEST.STORE_SLOT (R354). -/
abbrev harvestStoreSlot : Nat := 0x140
/-- HARVEST.REFILL_CMD (R354). -/
abbrev harvestRefillCmd : Nat := 0x144
/-- HARVEST.REFILL_PEER (R354). -/
abbrev harvestRefillPeer : Nat := 0x148
/-- HARVEST.REFILL_EPOCH (R354). -/
abbrev harvestRefillEpoch : Nat := 0x14C
/-- HARVEST.REFILL_STEP_LO (R354). -/
abbrev harvestRefillStepLo : Nat := 0x150
/-- HARVEST.REFILL_STEP_HI (R354). -/
abbrev harvestRefillStepHi : Nat := 0x154
/-- HARVEST.REFILL_GROUP (R354). -/
abbrev harvestRefillGroup : Nat := 0x158
/-- HARVEST.REFILL_PORTS (R354). -/
abbrev harvestRefillPorts : Nat := 0x15C
/-- HARVEST.REFILL_TIMEOUT (R354). -/
abbrev harvestRefillTimeout : Nat := 0x160
/-- HARVEST.REFILL_STATE (R354). -/
abbrev harvestRefillState : Nat := 0x164
/-- HARVEST.QUARANTINE (R354). -/
abbrev harvestQuarantine : Nat := 0x168
/-- HARVEST.QUARANTINE_SET (R457). -/
abbrev harvestQuarantineSet : Nat := 0x16C
/-- HARVEST.COUNT (R354). -/
abbrev harvestCount : Nat := 0x170
/-- HARVEST.FIRST_TOUCH_COUNT (R354). -/
abbrev harvestFirstTouchCount : Nat := 0x174
/-- HARVEST.STALL_MAX (R354). -/
abbrev harvestStallMax : Nat := 0x178
/-- KEYS.SEL (R378). -/
abbrev keysSel : Nat := 0x100
/-- KEYS.SLOT_CMD (R378). -/
abbrev keysSlotCmd : Nat := 0x104
/-- KEYS.SLOT_STATE (R378). -/
abbrev keysSlotState : Nat := 0x108
/-- CONTEXT.ALM_GO (R460). -/
abbrev contextAlmGo : Nat := 0x100
/-- CONTEXT.ALM_ROOT_LO (R460). -/
abbrev contextAlmRootLo : Nat := 0x104
/-- CONTEXT.ALM_ROOT_HI (R460). -/
abbrev contextAlmRootHi : Nat := 0x108
/-- CONTEXT.ALM_EPOCH0_LO (R460). -/
abbrev contextAlmEpoch0Lo : Nat := 0x10C
/-- CONTEXT.ALM_EPOCH0_HI (R460). -/
abbrev contextAlmEpoch0Hi : Nat := 0x110
/-- CONTEXT.ALM_SHIFT_LO (R460). -/
abbrev contextAlmShiftLo : Nat := 0x114
/-- CONTEXT.ALM_SHIFT_HI (R460). -/
abbrev contextAlmShiftHi : Nat := 0x118
/-- CONTEXT.CTX_STATE (R378). -/
abbrev contextCtxState : Nat := 0x11C
/-- CONTEXT.CTX_CMD (R378). -/
abbrev contextCtxCmd : Nat := 0x120
/-- CONTEXT.SAVE_OFFSET (R378). -/
abbrev contextSaveOffset : Nat := 0x124
/-- CONTEXT.SAVE_KEY (R378). -/
abbrev contextSaveKey : Nat := 0x128
/-- CONTEXT.SCHED_ENTRY (R378). -/
abbrev contextSchedEntry : Nat := 0x12C
/-- CONTEXT.TERRIER_BASE (R302). -/
abbrev contextTerrierBase : Nat := 0x130
/-- CONTEXT.TERRIER_COUNT (R302). -/
abbrev contextTerrierCount : Nat := 0x134
/-- CONTEXT.SR_SEED_LO (R119). -/
abbrev contextSrSeedLo : Nat := 0x138
/-- CONTEXT.SR_SEED_HI (R119). -/
abbrev contextSrSeedHi : Nat := 0x13C
/-- CONTEXT.TSCALE_BASE (R183). -/
abbrev contextTscaleBase : Nat := 0x140
/-- CONTEXT.TSCALE_CFG (R183). -/
abbrev contextTscaleCfg : Nat := 0x144
/-- CONTEXT.TSCALE_SIGMA (R183). -/
abbrev contextTscaleSigma : Nat := 0x148
/-- CONTEXT.TSCALE_HIST (R183). -/
abbrev contextTscaleHist : Nat := 0x14C
/-- CONTEXT.TSCALE_NF (R183). -/
abbrev contextTscaleNf : Nat := 0x150
/-- CONTEXT.STEP_LO (R328). -/
abbrev contextStepLo : Nat := 0x154
/-- CONTEXT.STEP_HI (R328). -/
abbrev contextStepHi : Nat := 0x158
/-- CONTEXT.STEP_CMD (R328). -/
abbrev contextStepCmd : Nat := 0x15C
/-- CONTEXT.STEP_STATUS (R328). -/
abbrev contextStepStatus : Nat := 0x160
/-- CONTEXT.STEP_DIGEST_LO (R328). -/
abbrev contextStepDigestLo : Nat := 0x164
/-- CONTEXT.STEP_DIGEST_HI (R328). -/
abbrev contextStepDigestHi : Nat := 0x168
/-- CONTEXT.DIVERGE_PAGE (R328). -/
abbrev contextDivergePage : Nat := 0x16C
/-- CONTEXT.DIVERGE_COUNT (R328). -/
abbrev contextDivergeCount : Nat := 0x170
/-- CONTEXT.ENERGY_SEL (R396). -/
abbrev contextEnergySel : Nat := 0x174
/-- CONTEXT.ENERGY_LO (R396). -/
abbrev contextEnergyLo : Nat := 0x178
/-- CONTEXT.ENERGY_HI (R396). -/
abbrev contextEnergyHi : Nat := 0x17C
/-- CONTEXT.BUCKET_DONE (R460). -/
abbrev contextBucketDone : Nat := 0x180
/-- CONTEXT.TSCALE_SEL (R183). -/
abbrev contextTscaleSel : Nat := 0x1C0
/-- CELLAR.RESET (R239). -/
abbrev cellarReset : Nat := 0x100
/-- CELLAR.CE_COUNT (R211). -/
abbrev cellarCeCount : Nat := 0x104
/-- CELLAR.UE_COUNT (R211). -/
abbrev cellarUeCount : Nat := 0x108
/-- CELLAR.RESET_STEP (R471). -/
abbrev cellarResetStep : Nat := 0x10C
/-- GRANARY.CE_COUNT (R211). -/
abbrev granaryCeCount : Nat := 0x100
/-- GRANARY.UE_COUNT (R211). -/
abbrev granaryUeCount : Nat := 0x104
/-- GRANARY.STATE (R471). -/
abbrev granaryState : Nat := 0x108
/-- STACK.SPARE_USED_COUNT (R239). -/
abbrev stackSpareUsedCount : Nat := 0x100
/-- STACK.OFFLINE_CORE (R239). -/
abbrev stackOfflineCore : Nat := 0x104
/-- STACK.OFFLINE_FP (R239). -/
abbrev stackOfflineFp : Nat := 0x114
/-- STACK.HOT_CTRL (R239). -/
abbrev stackHotCtrl : Nat := 0x124
/-- STACK.HOT_OVERLAP_COUNT (R239). -/
abbrev stackHotOverlapCount : Nat := 0x128
/-- STACK.WEAR_SWING (R239). -/
abbrev stackWearSwing : Nat := 0x12C
/-- STACK.WEAR_EXP (R239). -/
abbrev stackWearExp : Nat := 0x130
/-- STACK.WEAR_TREF (R239). -/
abbrev stackWearTref : Nat := 0x134
/-- STACK.WEAR_NREF (R239). -/
abbrev stackWearNref : Nat := 0x138
/-- STACK.WEAR_SEL (R239). -/
abbrev stackWearSel : Nat := 0x13C
/-- STACK.WEAR_HALF (R239). -/
abbrev stackWearHalf : Nat := 0x140
/-- STACK.WEAR_LIFE (R239). -/
abbrev stackWearLife : Nat := 0x144
/-- HBM.CE_COUNT (R211). -/
abbrev hbmCeCount : Nat := 0x100
/-- HBM.UE_COUNT (R211). -/
abbrev hbmUeCount : Nat := 0x104
/-- HBM.TEMP (R471). -/
abbrev hbmTemp : Nat := 0x108
/-- HBM.TRAIN (R471). -/
abbrev hbmTrain : Nat := 0x10C
/-- HBM.RFM_COUNT (R471). -/
abbrev hbmRfmCount : Nat := 0x110
/-- CORE.DESC_BASE (R468). -/
abbrev coreDescBase : Nat := 0x100
/-- CORE.ALM_VTAB_BASE_LO (R468). -/
abbrev coreAlmVtabBaseLo : Nat := 0x104
/-- CORE.ALM_VTAB_BASE_HI (R468). -/
abbrev coreAlmVtabBaseHi : Nat := 0x108
/-- CORE.ALM_STATUS (R468). -/
abbrev coreAlmStatus : Nat := 0x10C
/-- CORE.ALM_LAUNCH_LO (R468). -/
abbrev coreAlmLaunchLo : Nat := 0x110
/-- CORE.ALM_LAUNCH_HI (R468). -/
abbrev coreAlmLaunchHi : Nat := 0x114
/-- CORE.ALM_LATE_COUNT (R468). -/
abbrev coreAlmLateCount : Nat := 0x118
/-- CORE.ALM_STARVE_COUNT (R468). -/
abbrev coreAlmStarveCount : Nat := 0x11C
/-- CORE.ALM_SLIP_MAX (R468). -/
abbrev coreAlmSlipMax : Nat := 0x120
/-- CORE.GATE_SEL (R66). -/
abbrev coreGateSel : Nat := 0x130
/-- CORE.GATE_CFG (R66). -/
abbrev coreGateCfg : Nat := 0x134
/-- CORE.GATE_TIMEOUT (R66). -/
abbrev coreGateTimeout : Nat := 0x138
/-- CORE.GATE_STATE (R66). -/
abbrev coreGateState : Nat := 0x13C
/-- CORE.GATE_TIMEOUT_COUNT (R468). -/
abbrev coreGateTimeoutCount : Nat := 0x140
/-- CORE.GATE_DIRTY_COUNT (R468). -/
abbrev coreGateDirtyCount : Nat := 0x144
/-- CORE.ARRIVE_REFUSED_COUNT (R468). -/
abbrev coreArriveRefusedCount : Nat := 0x148
/-- CORE.FLAG_SEL (R86). -/
abbrev coreFlagSel : Nat := 0x160
/-- CORE.FLAG_VALUE (R86). -/
abbrev coreFlagValue : Nat := 0x164
/-- CORE.INFLIGHT (R86). -/
abbrev coreInflight : Nat := 0x168
/-- CORE.FLAG_POISON (R86). -/
abbrev coreFlagPoison : Nat := 0x180
/-- CORE.RTAG_SEL (R211). -/
abbrev coreRtagSel : Nat := 0x1A0
/-- CORE.RTAG_VALUE (R211). -/
abbrev coreRtagValue : Nat := 0x1A4
/-- CORE.RTAG_POISON (R211). -/
abbrev coreRtagPoison : Nat := 0x1C0
/-- CORE.MV_FAULT_COUNT (R211). -/
abbrev coreMvFaultCount : Nat := 0x1E0
/-- CORE.DROP_LIST_COUNT (R328). -/
abbrev coreDropListCount : Nat := 0x1E4
/-- CORE.MX_CTRL (R138). -/
abbrev coreMxCtrl : Nat := 0x200
/-- CORE.MX_STATUS (R138). -/
abbrev coreMxStatus : Nat := 0x204
/-- CORE.TALLY_STATE (R138). -/
abbrev coreTallyState : Nat := 0x208
/-- CORE.TALLY_CLEAR (R138). -/
abbrev coreTallyClear : Nat := 0x20C
/-- CORE.MX_ACTIVE_LO (R138). -/
abbrev coreMxActiveLo : Nat := 0x210
/-- CORE.MX_ACTIVE_HI (R138). -/
abbrev coreMxActiveHi : Nat := 0x214
/-- CORE.MX_FAULT_COUNT (R138). -/
abbrev coreMxFaultCount : Nat := 0x218
/-- CORE.MX_SLOT_WAIT_COUNT (R138). -/
abbrev coreMxSlotWaitCount : Nat := 0x21C
/-- CORE.MX_QUEUE_WAIT_COUNT (R138). -/
abbrev coreMxQueueWaitCount : Nat := 0x220
/-- CORE.VX_STATUS (R162). -/
abbrev coreVxStatus : Nat := 0x240
/-- CORE.VX_FAULT (R162). -/
abbrev coreVxFault : Nat := 0x244
/-- CORE.TQ_STATUS (R162). -/
abbrev coreTqStatus : Nat := 0x248
/-- CORE.VX_ISSUE_LO (R162). -/
abbrev coreVxIssueLo : Nat := 0x24C
/-- CORE.VX_ISSUE_HI (R162). -/
abbrev coreVxIssueHi : Nat := 0x250
/-- CORE.VX_FAULT_COUNT (R162). -/
abbrev coreVxFaultCount : Nat := 0x254
/-- CORE.VX_TILE_WAIT_COUNT (R162). -/
abbrev coreVxTileWaitCount : Nat := 0x258
/-- CORE.NUM_CTRL (R183). -/
abbrev coreNumCtrl : Nat := 0x280
/-- CORE.HIST_SEL (R183). -/
abbrev coreHistSel : Nat := 0x284
/-- CORE.HIST_VALUE (R183). -/
abbrev coreHistValue : Nat := 0x288
/-- CORE.NUM_OVF_COUNT (R183). -/
abbrev coreNumOvfCount : Nat := 0x28C
/-- PORT.PORT_CFG (R269). -/
abbrev portCfg : Nat := 0x100
/-- PORT.PORT_TIMER (R269). -/
abbrev portTimer : Nat := 0x104
/-- PORT.PORT_CMD (R269). -/
abbrev portCmd : Nat := 0x108
/-- PORT.PORT_TEST (R269). -/
abbrev portTest : Nat := 0x10C
/-- PORT.PORT_STATUS (R269). -/
abbrev portStatus : Nat := 0x110
/-- PORT.PORT_PEER (R269). -/
abbrev portPeer : Nat := 0x114
/-- PORT.BELL_DELAY (R269). -/
abbrev portBellDelay : Nat := 0x118
/-- PORT.FEC_CORR (R269). -/
abbrev portFecCorr : Nat := 0x11C
/-- PORT.FEC_UNCORR (R269). -/
abbrev portFecUncorr : Nat := 0x120
/-- PORT.CRC_ERR (R269). -/
abbrev portCrcErr : Nat := 0x124
/-- PORT.REPLAY_COUNT (R269). -/
abbrev portReplayCount : Nat := 0x128
/-- PORT.RETRAIN_COUNT (R269). -/
abbrev portRetrainCount : Nat := 0x12C
/-- PORT.TAG_FAIL_COUNT (R269). -/
abbrev portTagFailCount : Nat := 0x130
/-- PORT.FLIT_TX_LO (R269). -/
abbrev portFlitTxLo : Nat := 0x134
/-- PORT.FLIT_TX_HI (R269). -/
abbrev portFlitTxHi : Nat := 0x138
/-- TERRIER.ENTRY (R302). -/
abbrev terrierEntry : Nat := 0x100
/-- LANEMAP.ENTRY (R302). -/
abbrev lanemapEntry : Nat := 0x100
/-- LANEMAP.LOSS (R302). -/
abbrev lanemapLoss : Nat := 0x104
/-- LANEMAP.TXN_TIMEOUT (R302). -/
abbrev lanemapTxnTimeout : Nat := 0x108
/-- LANEMAP.DROP_COUNT (R302). -/
abbrev lanemapDropCount : Nat := 0x10C
/-- LANEMAP.TIMEOUT_COUNT (R302). -/
abbrev lanemapTimeoutCount : Nat := 0x110
/-- LANEMAP.ORPHAN_COUNT (R302). -/
abbrev lanemapOrphanCount : Nat := 0x114
/-- LANEMAP.REDUCE_OPEN (R328). -/
abbrev lanemapReduceOpen : Nat := 0x118
/-- GROUP.ENTRY (R302). -/
abbrev groupEntry : Nat := 0x100
/-- GROUP.EPOCH_STALE_COUNT (R302). -/
abbrev groupEpochStaleCount : Nat := 0x110
/-- GROUP.LATE_DROP_COUNT (R328). -/
abbrev groupLateDropCount : Nat := 0x114
/-- PCIE.WIN4 (R418). -/
abbrev pcieWin4 : Nat := 0x100
/-- PCIE.IDE_CTRL (R418). -/
abbrev pcieIdeCtrl : Nat := 0x104
/-- PCIE.WIN_FAULT_COUNT (R418). -/
abbrev pcieWinFaultCount : Nat := 0x108
/-- PCIE.LINK (R477). -/
abbrev pcieLink : Nat := 0x10C
/-- PCIE.IDE_STATE (R477). -/
abbrev pcieIdeState : Nat := 0x110
/-- PANTRY.CMD_TIMEOUT (R418). -/
abbrev pantryCmdTimeout : Nat := 0x100
/-- PANTRY.LINK (R418). -/
abbrev pantryLink : Nat := 0x104
/-- PANTRY.DRIVE (R477). -/
abbrev pantryDrive : Nat := 0x108
/-- PANTRY.CAP_LO (R477). -/
abbrev pantryCapLo : Nat := 0x10C
/-- PANTRY.CAP_HI (R477). -/
abbrev pantryCapHi : Nat := 0x110
/-- PANTRY.SMART (R477). -/
abbrev pantrySmart : Nat := 0x114
/-- PANTRY.CMD (R477). -/
abbrev pantryCmd : Nat := 0x118
/-- SIDEBAND.PMB_ADDR (R418). -/
abbrev sidebandPmbAddr : Nat := 0x100
/-- SIDEBAND.I3C_DA (R418). -/
abbrev sidebandI3cDa : Nat := 0x110
/-- SIDEBAND.MCTP_EID (R418). -/
abbrev sidebandMctpEid : Nat := 0x114
/-- DOORBELL.RING (R406). -/
abbrev doorbellRing : Nat := 0x000
/-- DOORBELL.BUCKET_DONE (R406). -/
abbrev doorbellBucketDone : Nat := 0x200
/-- DOORBELL.EVQ_BASE_LO (R406). -/
abbrev doorbellEvqBaseLo : Nat := 0x400
/-- DOORBELL.EVQ_BASE_HI (R406). -/
abbrev doorbellEvqBaseHi : Nat := 0x404
/-- DOORBELL.EVQ_CFG (R406). -/
abbrev doorbellEvqCfg : Nat := 0x408
/-- DOORBELL.EVQ_TAIL (R406). -/
abbrev doorbellEvqTail : Nat := 0x40C
/-- DOORBELL.EVQ_HEAD (R406). -/
abbrev doorbellEvqHead : Nat := 0x410
/-- DOORBELL.EVQ_LOST (R406). -/
abbrev doorbellEvqLost : Nat := 0x414
/-- DOORBELL.EVQ_STATUS (R406). -/
abbrev doorbellEvqStatus : Nat := 0x418
/-- DOORBELL.WIN_INDEX (R406). -/
abbrev doorbellWinIndex : Nat := 0x420
end Off

end Sys2Proof.Machine
end

