-- ==== Sys2Proof/Machine/Table.lean ====
section
/-!
DEFINITION. Sparse tables: a list of (key, value) pairs in one canonical form, keys strictly rising and no entry
equal to what an unlisted key reads as, so that equal tables are equal data. Memory, the register file and every
numbered family of units (cores, ports, contexts) are tables.
-/
namespace Sys2Proof.Machine

/-- A sparse table: the listed entries. What an unlisted key reads as is given at each read. -/
abbrev Table (α : Type) := List (Nat × α)

/-- The value at key `k`, `d` when it is not listed. -/
def tget {α : Type} (d : α) (k : Nat) : Table α → α
  | [] => d
  | (k', v') :: t => if k = k' then v' else tget d k t

/-- The table without its entries at key `k`. -/
def tdrop {α : Type} (k : Nat) : Table α → Table α
  | [] => []
  | (k', v') :: t => if k = k' then tdrop k t else (k', v') :: tdrop k t

/-- An entry put before the first greater key. -/
def tput {α : Type} (k : Nat) (v : α) : Table α → Table α
  | [] => [(k, v)]
  | (k', v') :: t => if k < k' then (k, v) :: (k', v') :: t else (k', v') :: tput k v t

/-- The table with `v` at key `k`; writing the default removes the entry. -/
def tset {α : Type} [DecidableEq α] (d : α) (k : Nat) (v : α) (t : Table α) : Table α :=
  if v = d then tdrop k t else tput k v (tdrop k t)

/-- The canonical form: keys strictly rising from `lo`, no entry equal to its default. -/
def twfFrom {α : Type} [DecidableEq α] (d : Nat → α) (lo : Nat) : Table α → Bool
  | [] => true
  | (k, v) :: t => decide (lo ≤ k) && decide (v ≠ d k) && twfFrom d (k + 1) t

/-- The canonical form of a whole table. -/
def twf {α : Type} [DecidableEq α] (d : Nat → α) (t : Table α) : Bool := twfFrom d 0 t

/-- Every listed value changed by `f`, entries that reach their default dropped. -/
def tmap {α : Type} [DecidableEq α] (d : Nat → α) (f : Nat → α → α) (t : Table α) : Table α :=
  t.foldr (fun e r => tset (d e.1) e.1 (f e.1 e.2) r) []

end Sys2Proof.Machine
end

