-- ==== Sys2Proof/Machine/Types.lean ====
section
/-!
DEFINITION. The data types of the state, unit by unit: plain records, each field one thing the spec names.
-/
namespace Sys2Proof.Machine

/-! ## The almanac of a core (R39 to R64) -/

/-- `ALM_STATUS.STATE` (R468). -/
inductive CoreState where
  | idle | running | starved | halted | fault
  deriving DecidableEq, Repr

/-- Status of a bank (R46, R468). -/
inductive BankStatus where
  | empty | loading | ready | invalid
  deriving DecidableEq, Repr

/-- One almanac bank: its status, its header register, its entries, and for an INVALID bank the first failing check's
reason and index (R46, R60). -/
structure Bank where
  status : BankStatus
  header : QWord
  entries : List QWord
  reason : Nat
  failIndex : Nat
  deriving DecidableEq, Repr

/-- An empty bank. -/
def Bank.empty : Bank := ⟨.empty, 0, [], 0, 0⟩

/-- A refill in progress: the bank it loads and the context address it loads from (R46). -/
structure Refill where
  bank : Bool
  addr : Nat
  deriving DecidableEq, Repr

/-- One level of the loop stack (R52, R53): where the body starts, its length, COUNT, the iteration running, and what
each iteration adds. -/
structure LoopFrame where
  start : Nat
  body : Nat
  count : Nat
  iter : Nat
  stride : Nat
  flagStep : Nat
  phaseAlt : Bool
  deriving DecidableEq, Repr

/-- The almanac of one core (R45 to R60, R63, R74). `active` is none until bank 0 has been activated; `halting` is set
once HALT has launched; `choice` is the segment a VARIANT has chosen since the last swap; `skip` once a decided COMMIT ended
in DROP and entries are being retired (R320); `commit` is the decision its head COMMIT waits to launch under, true for
DROP (R317). -/
structure Almanac where
  state : CoreState
  head : Nat
  active : Option Bool
  bank0 : Bank
  bank1 : Bank
  epoch : DWord
  frames : List LoopFrame
  refill : Option Refill
  choice : Option Nat
  halting : Bool
  skip : Bool
  commit : Option Bool
  faultReason : Nat
  lateWritten : Bool
  starveWritten : Bool
  headSince : DWord
  timeoutFired : Bool
  consumed : Table (BitVec 16)
  deriving DecidableEq, Repr

/-- The almanac of a core that no context has started. -/
def Almanac.reset : Almanac :=
  ⟨.idle, 0, none, .empty, .empty, 0, [], none, none, false, false, none, 0, false, false, 0, false, []⟩

/-! ## Gates (R65 to R80) -/

/-- `GATE_STATE.STATE` (R66). -/
inductive GateState where
  | idle | armed | lost
  deriving DecidableEq, Repr

/-- One gate: its configuration and what it has counted (R66). -/
structure Gate where
  count : BitVec 15
  phase0 : Bool
  owner : BitVec 5
  arm : Bool
  ticks : BitVec 24
  arrived : BitVec 15
  phase : Bool
  state : GateState
  deriving DecidableEq, Repr

/-- A gate at reset (R66). -/
def Gate.reset : Gate := ⟨0, false, 0, false, 0, 0, false, .idle⟩

/-! ## The matrix array and the Tally (R120 to R139) -/

/-- A descriptor held pending by the matrix array: DESC, its image, the reason it was refused (0 when it passed), its
flag, its context, and whether it has waited for an EMITTED slot. -/
structure MatrixPend where
  desc : Nat
  image : BitVec 512
  refused : Nat
  flag : Nat
  ctx : Nat
  waited : Bool
  deriving DecidableEq, Repr

/-- A MATRIX descriptor in the array: P and s_t as read at its start, the k-blocks done, whether an operand read met an
uncorrectable error, whether its push waits, and whether its entry is in the tile queue (R128, R133, R134). -/
structure MatrixRun where
  desc : Nat
  image : BitVec 512
  flag : Nat
  ctx : Nat
  promote : Nat
  scale : Word
  kdone : Nat
  /-- Cycles of the promotion interval that ran before the last switch, and the cells' accumulators then, each as its FP32
  word, row by row: none before a switch has caught the interval. -/
  cycles : Nat
  acc : List Word
  poisoned : Bool
  pushWait : Bool
  pushed : Bool
  deriving DecidableEq, Repr

/-- Tally slot states (R134). -/
inductive SlotState where
  | clear | held | emitted
  deriving DecidableEq, Repr

/-! ## The vector engine (R140 to R163) -/

/-- One level of the vector loop (R157). -/
structure VecLoop where
  start : Nat
  body : Nat
  count : Nat
  iter : Nat
  deriving DecidableEq, Repr

/-- A descriptor held pending by the vector engine (R141, R143). -/
structure VecPend where
  desc : Nat
  image : BitVec 512
  refused : Nat
  flag : Nat
  ctx : Nat
  hist : Nat
  deriving DecidableEq, Repr

/-- A VECTOR descriptor in the engine: the next instruction, the loop levels, whether it still waits for its tile,
whether it holds one, whether TREL has asked for its release, whether issue has stopped, whether its flag will be
poisoned (R142, R144, R145, R159, R160). -/
structure VecRun where
  desc : Nat
  image : BitVec 512
  flag : Nat
  ctx : Nat
  hist : Nat
  load : Bool
  pc : Nat
  loops : List VecLoop
  needTile : Bool
  tileWaited : Bool
  held : Bool
  trel : Bool
  ended : Bool
  poisoned : Bool
  deriving DecidableEq, Repr

/-- The compute state a vector engine keeps for its context (R140). -/
structure VecState where
  v : Table (List Word)
  m : Table DWord
  a : Table Word
  prog : Table DWord
  gens : Table DWord
  /-- The loop levels the last descriptor left open (R140, R157). -/
  loops : List VecLoop
  deriving DecidableEq, Repr

/-- The lanes of a register that nothing has written. -/
def zeroLanes : List Word := List.replicate 64 0

/-- A tile-queue entry: SLOT and DESC (R144). -/
structure TileEntry where
  slot : Nat
  desc : Nat
  deriving DecidableEq, Repr

/-! ## Operations in flight, transactions and tags (R81 to R88, R277 to R289) -/

/-- What one fabric transaction of an operation does (R278, R280). -/
inductive TxnKind where
  | read | write | posted | flush | atomic | arrive | signal
  deriving DecidableEq, Repr

/-- One fabric transaction: the node it goes to, its address there, its length, the local place its data comes from or
lands in with its key slot, and the key slot at the node. `arg` carries GATE or FLAG and CORE, or AOP and W64. -/
structure Txn where
  kind : TxnKind
  node : Nat
  addr : Nat
  len : Nat
  place : Nat
  lkey : Nat
  key : Nat
  arg : Nat
  operand : Nat
  compare : Nat
  deriving DecidableEq, Repr

/-- Kinds of operation that hold an in-flight place (R87). -/
inductive OpKind where
  | move | fetch | put | reduce | atomic | arrive | signal
  deriving DecidableEq, Repr

/-- How far a REDUCE has come (R308 to R313, R326): its group entry as checked, the next chunk to take its turn, the
chunks not yet written or closed, the indices of those the combine wrote, whether any chunk was open already, and the
lowest differing page. -/
structure RedState where
  entry : QWord
  turn : Nat
  left : Nat
  wrote : List Nat
  dup : Bool
  diff : Option Nat
  deriving DecidableEq, Repr

/-- A REDUCE that has no chunks, which stands in every operation of another kind. -/
def RedState.none : RedState := ⟨0, 0, 0, [], false, Option.none⟩

/-- One operation in flight: its identity on its core, what it is, its descriptor, its flag, its context, the histogram
slot bound at launch, the almanac slot of its entry, its transactions not yet issued and the number unanswered, the
first STATUS other than OK, whether a tag timed out, and whether its flag will be poisoned. `started` is set once a posted PUT has queued its flushes, or a local ARRIVE or SIGNAL has gone out.
`places` holds what the checks of a MOVE translated: for each operand, each row's address and key slot (R197). -/
structure Op where
  id : Nat
  kind : OpKind
  desc : Nat
  image : BitVec 512
  flag : Nat
  ctx : Nat
  hist : Nat
  slot : Nat
  todo : List Txn
  unanswered : Nat
  status : Nat
  timedOut : Bool
  poisoned : Bool
  started : Bool
  places : List (List (Nat × Nat))
  red : RedState
  deriving DecidableEq, Repr

/-- One drop-list entry of a core: the reduction chunk range a STEP_DROP zero-fills (R319). -/
structure DropEntry where
  desc : Nat
  image : BitVec 512
  group : Nat
  deriving DecidableEq, Repr

/-- One core and the units above and beneath it. -/
structure Core where
  alm : Almanac
  gates : Table Gate
  arrivals : List Nat
  flags : Table (BitVec 16)
  flagPoison : BitVec 256
  rtags : Table (BitVec 16)
  rtagPoison : BitVec 256
  ops : List Op
  nextOp : Nat
  mxRuns : List MatrixRun
  mxPend : Option MatrixPend
  slots : Table SlotState
  tiles : List TileEntry
  vxRuns : List VecRun
  vxPend : Option VecPend
  seedBefore : Option Nat
  seedAfter : Option Nat
  vec : VecState
  hist : Table Word
  histSel : Nat
  drops : List DropEntry
  heldDesc : Nat
  heldVtab : Nat
  heldPromote : Nat
  heldApply : Bool
  deriving DecidableEq, Repr

/-- A core at reset. -/
def Core.reset : Core :=
  { alm := .reset, gates := [], arrivals := [], flags := [], flagPoison := 0, rtags := [], rtagPoison := 0,
    ops := [], nextOp := 0, mxRuns := [], mxPend := none, slots := [], tiles := [],
    vxRuns := [], vxPend := none, seedBefore := none, seedAfter := none,
    vec := ⟨[], [], [], [], [], []⟩, hist := [], histSel := 0, drops := [], heldDesc := 0, heldVtab := 0,
    heldPromote := 0, heldApply := false }

/-- A routed packet: its header slot and its data bytes (R282 to R284). -/
structure Packet where
  header : QWord
  data : List Byte
  deriving DecidableEq, Repr

/-- A packet in a link die, with the port it came in by, none from this device, and its place in the order in which
packets entered the device's link dies (R289, R291). -/
structure Routed where
  packet : Packet
  ingress : Option Nat
  seq : Nat
  deriving DecidableEq, Repr

/-- Who holds a tag (R285): an operation of a core, or one of the Reeve's uses; `orphan` once the work it served has been
abandoned, with the DESC or the almanac slot that a timeout would record (R288). -/
inductive TagUser where
  | op (core id : Nat)
  | hostRead (id : Nat)
  | hostFlush (node : Nat)
  | harvest
  | refill
  | serve (port : Nat)
  | orphan (what : Nat)
  deriving DecidableEq, Repr

/-- The state of one transaction tag (R88, R285, R288). -/
inductive TagState where
  | free
  | held (user : TagUser) (txn : Txn) (since : DWord)
  | retired (since : DWord)
  deriving DecidableEq, Repr

/-- An arrival or a signal on its way to a core of this device: the packet it came in, or the core and operation that
sent it (R69, R84). -/
structure Transit where
  signal : Bool
  core : Nat
  index : Nat
  ctx : Nat
  packet : Option Packet
  ingress : Option Nat
  srcCore : Nat
  srcOp : Nat
  deriving DecidableEq, Repr

/-! ## Tilby ports (R241 to R270) -/

/-- One slot that waits for a flit: its VC, whether it is the first of its packet, its 16 B (R250, R256). -/
structure TxSlot where
  vc : Nat
  first : Bool
  data : QWord
  deriving DecidableEq, Repr

/-- A DATA flit kept for replay: SEQ, its slots, and the tick of its last transmission (R253). -/
structure Flit where
  seq : Nat
  slots : List TxSlot
  sentAt : DWord
  deriving DecidableEq, Repr

/-- A link-local message with its arrival stamp (R257, R259). -/
structure LocalMsg where
  slot : QWord
  time : DWord
  frac : Byte
  deriving DecidableEq, Repr

/-- A key generation of one direction of a port: its number, its secret, and P, the next flit position under it
(R263 to R265). -/
structure Generation where
  number : Nat
  secret : BitVec 384
  position : Nat
  deriving DecidableEq, Repr

/-- The keys of a port once installed: whether this end is end A, the transmitter's and the receiver's generations, and
whether it has accepted a flit with ENC = 1 (R262 to R265). -/
structure PortKeys where
  endA : Bool
  tx : Generation
  rx : Generation
  encSeen : Bool
  deriving DecidableEq, Repr

/-- What a port holds beside its registers: the tick its state was entered; the lane set chosen and not yet in use; this
end's mask and the peer's, once reported, with the peer's MIN_WIDTH; the NEGOTIATE exchange; the SPDM transcript and
the fragments of the message that arrives; the slots that wait by VC; the replay buffer, the place a replay has reached
and the entries to REPLAY without progress; the receiver's E, NAK_SENT and the NAK that is due; the credit totals; slots
of packets that arrive; link-local messages; keys; flits discarded since the last good one; tag failures in a row; the
delay exchange; the state a RETRAIN returns to; whether it trains for the first time since the dawn that enabled it (R425);
data blocks since the last alignment markers, blocks that wait for their
codeword, and flits in near-end loopback (R241 to R266). -/
structure Port where
  since : DWord
  chosen : Option (BitVec 8)
  mask : Option (BitVec 8)
  peerMask : Option (BitVec 8 × BitVec 2)
  negSent : Bool
  negSeen : Bool
  spdm : List (List Byte)
  fragment : List Byte
  tx : Table (List TxSlot)
  buffer : List Flit
  nextSeq : Nat
  replayAt : Option Nat
  replays : Nat
  expect : Nat
  nakSent : Bool
  nakDue : Bool
  sent : Table Nat
  peerFreed : Table Nat
  peerSize : Table Nat
  freed : Table Nat
  creditVc : Nat
  rx : Table (List QWord)
  locals : List LocalMsg
  keys : Option PortKeys
  badRun : Nat
  tagFails : Nat
  fecLost : Nat
  fecAt : Nat
  xid : Nat
  request : Option (Nat × Nat)
  delays : List Nat
  resume : Nat
  dawn : Bool
  blockCount : Nat
  fecBlocks : List (BitVec 257)
  looped : List (BitVec 2048)
  deriving DecidableEq, Repr

/-- A port that is DOWN and has carried nothing (R245). -/
def Port.reset : Port :=
  { since := 0, chosen := none, mask := none, peerMask := none, negSent := false, negSeen := false, spdm := [],
    fragment := [], tx := [], buffer := [], nextSeq := 0, replayAt := none, replays := 0, expect := 0, nakSent := false,
    nakDue := false, sent := [], peerFreed := [], peerSize := [], freed := [], creditVc := 0, rx := [], locals := [],
    keys := none, badRun := 0, tagFails := 0, fecLost := 0, fecAt := 0, xid := 0, request := none, delays := [],
    resume := 6, dawn := false, blockCount := 0, fecBlocks := [], looped := [] }

/-! ## Reductions (R306 to R313) -/

/-- A chunk's data as it travels: its bytes, their number, and its OVF bits in block order (R284, R310). -/
structure Part where
  len : Nat
  bytes : Nat
  ovf : Nat
  deriving DecidableEq, Repr

/-- An open chunk context of link die `chunk` mod 4 (R309, R312): its group and chunk, the context it serves, the local
REDUCE that reached it with the chunk's index there, the tick it opened, the packets held by port, this member's own part,
once it has been read, with its scale codes, and what the combine made, once it has. -/
structure Chunk where
  group : Nat
  chunk : Nat
  ctx : Nat
  owner : Option (Nat × Nat × Nat)
  opened : DWord
  parts : List (Nat × Part)
  parent : Option Part
  own : Option Part
  acc : Option Part
  scales : List Nat
  deriving DecidableEq, Repr

/-! ## Legacy scale slots (R174) -/

/-- One legacy scale slot of a context: its configuration, its history, newest first, and σ. -/
structure TScale where
  en : Bool
  e5m2 : Bool
  margin : BitVec 4
  history : List Word
  sigma : Word
  deriving DecidableEq, Repr

/-- A scale slot at reset: σ is 1.0, the history 16 times +0 (R174, R183). -/
def TScale.reset : TScale := ⟨false, false, 0, List.replicate 16 0, 0x3F800000⟩

/-! ## Switching contexts (R359 to R363) -/

/-- Where a switch stands: requested and waiting for switch points, waiting for drains and operations in flight, saving,
restoring (R359 to R363). -/
inductive SwitchPhase where
  | idle | requested | draining | saving | restoring
  deriving DecidableEq, Repr

/-- What a switch leads to: another context, DUSK or NIGHT, or, where the context was forced off by a partition that left
SERVICE, none and no image (R359, R365, R426). -/
inductive SwitchGoal where
  | context | dusk | night | lost
  deriving DecidableEq, Repr

/-- The switch in progress: its phase, the context chosen (0 when none), the tick of its request, what it leads to. -/
structure Switch where
  phase : SwitchPhase
  next : Nat
  since : DWord
  goal : SwitchGoal
  deriving DecidableEq, Repr

/-! ## Harvest and refill (R336 to R350) -/

/-- One row of an image's page table: local address ÷ 2 MiB, UNIQUE, CRC-64 of the page's plaintext (R337); and the key
slot of the page's entry, which the image does not hold. -/
structure PageRow where
  page : Nat
  key : Nat
  unique : Bool
  crc : DWord
  deriving DecidableEq, Repr

/-- How far a harvest has come: its pages are copied and drained; one of its record blocks; the Flush before the header;
the header; the Flush after it (R342, R344, R411). -/
inductive HarvestPhase where
  | pages
  | records (block : Nat)
  | flushBefore
  | header
  | flushAfter
  deriving DecidableEq, Repr

/-- A staging page in use: its die and number, the image blocks it drains to, the pantry commands and store writes that
have not been answered (R339, R342). -/
structure Stage where
  die : Nat
  slot : Nat
  pantryLeft : Nat
  storeLeft : Nat
  deriving DecidableEq, Repr

/-- A harvest in progress: its context, the image slots it writes, what its header records as taken at the arming, its
records, its page table in ascending order, the staging pages in use (R337 to R344). -/
structure HarvestRun where
  ctx : Nat
  pantrySlot : Bool
  storeSlot : Bool
  step : DWord
  time : DWord
  epoch : DWord
  gap : Bool
  skew : Bool
  contextWords : List Nat
  fabricWords : List Nat
  rows : List PageRow
  stages : List Stage
  phase : HarvestPhase
  deriving DecidableEq, Repr

/-- I/O commands of the pantry (R409, R410). -/
inductive NvmeOp where
  | read | write | flush | smart
  deriving DecidableEq, Repr

/-- A pantry command that has not completed: its queue, what it does, its LBA, its staging address, the tick it was
issued (R410, R411). -/
structure NvmeCmd where
  queue : Nat
  op : NvmeOp
  lba : Nat
  addr : Nat
  since : DWord
  deriving DecidableEq, Repr

/-- How far a refill from an image has come (R347). -/
inductive RefillPhase where
  | waiting | header | records | pages
  deriving DecidableEq, Repr

/-- A refill that is PREPARED or RUNNING: KIND (0 PARTNER, 1 PANTRY, 2 STORE), context, epoch and step, the tick of its
last refill write, whether it marks its pages invalid first, the image slot it reads, the block it is reading with the
reads unanswered, the words read so far and the page table (R346, R347). -/
structure RefillRun where
  kind : Nat
  ctx : Nat
  fresh : Bool
  epoch : Word
  step : DWord
  last : DWord
  slot : Bool
  phase : RefillPhase
  block : Nat
  left : Nat
  words : List Nat
  rows : List PageRow
  deriving DecidableEq, Repr

/-- A source that is SERVING: the context and the refill writes not yet answered OK (R346). -/
structure ServeRun where
  ctx : Nat
  left : Nat
  deriving DecidableEq, Repr

/-! ## Host windows, management, attestation -/

/-- A host read in progress: who reads and what, the flushes it waits for, the transactions not yet answered, the data so
far, and whether a part of it failed (R401, R402). `fn` is 0 for the PF. -/
structure HostRead where
  id : Nat
  fn : Nat
  addr : Nat
  len : Nat
  flushes : List Nat
  txns : List Txn
  left : Nat
  failed : Bool
  data : Table Byte
  deriving DecidableEq, Repr

/-- The MGMT command the Reeve has sent: XID and the tick it was sent (R452, R453). MGMT holds no tag (R282). -/
structure MgmtRun where
  xid : Nat
  since : DWord
  deriving DecidableEq, Repr

/-- A firmware command that runs: OP, SLOT, and the bytes of a WRITE with their offset (R452, R453). -/
structure FwRun where
  op : Nat
  slot : Bool
  offset : Nat
  data : List Byte
  deriving DecidableEq, Repr

/-- An SPDM session on the management transports: none, keys exchanged, established (R375). -/
inductive SpdmPhase where
  | idle | versioned | capable | ready | exchanged | session
  deriving DecidableEq, Repr

/-- A wipe that runs: its scope and the unit that shows it (R372, R377), the tick it began, and what it covers: the die of
a cellar, the partition, or the pages and save slots of a context. -/
inductive WipeScope where
  | device
  | partition (n : Nat)
  | context (c : Nat)
  deriving DecidableEq, Repr

/-! ## Stack and Steward -/

/-- A bond self-test that runs on a die: at dawn, periodic, at an exit from a CELLAR reset, from DUSK or NIGHT (R226). -/
inductive BondTest where
  | none | dawn | periodic | cellar | power
  deriving DecidableEq, Repr

/-- A memory beat that the bank throttle, a refresh window or a bond self-test holds: a request to a memory controller
(R192, R227, R233). -/
inductive HeldBeat where
  | read (addr : BitVec 51) (key : Fin 64) (flip : BitVec 144)
  | write (addr : BitVec 51) (key : Fin 64) (data : BitVec 128) (mask : BitVec 16)
  | accumulate (core : Fin 512) (slot : Fin 8) (addr : BitVec 51) (key : Fin 64) (fmt : Fin 4) (scale : BitVec 8)
      (addends : BitVec 512) (mask : BitVec 16) (flags : BitVec 51) (block : BitVec 12)
  deriving DecidableEq, Repr

/-- The bank throttle of a footprint: whether the ADMIT interval's beat has been spent and at what tick, the beats it
holds, the beats held since its last record, and one more than the tick of that record (R233, R238). -/
structure Throttle where
  spent : Bool
  spentAt : DWord
  held : List HeldBeat
  count : Nat
  recordAt : Nat
  deriving DecidableEq, Repr

/-- A throttle that holds nothing. -/
def Throttle.reset : Throttle := ⟨false, 0, [], 0, 0⟩

/-- The wear tracker of a quadrant (R234, R235): X, whether the direction is up, the two counts. -/
structure Wear where
  x : Nat
  up : Bool
  half : Word
  life : Word
  deriving DecidableEq, Repr

/-- The voltage a regulator is being brought to: the point, whether the write is part of an upward move, the failures so
far, whether it waits for its retry and since when (R391, R414). -/
structure VoltWrite where
  point : Nat
  upward : Bool
  failures : Nat
  parked : Bool
  since : DWord
  deriving DecidableEq, Repr

/-- CURFEW: none, CURFEW_N low, or the hold since the tick it rose (R393). -/
inductive Curfew where
  | none
  | active
  | hold (rose : DWord)
  deriving DecidableEq, Repr

/-- What the Steward keeps for a compute die: the point in force, the guard band in mV; the point an upward move leads to
with the tick its voltage was written; the voltage write under way; n_d; by how many sixteenths of DIE_CAP C_d lies below it;
the last estimates as FP32, demand and actual; the quadrant sensors and the link die's in 0.25 °C; whether the last period
was hot; whether its clock is halved by a droop, the tick of the last onset and the droops since its last DROOP record; one more than the ticks of its
last CAP and DROOP records (R381 to R392). -/
structure Soc where
  cur : Nat
  guard : Nat
  rising : Option Nat
  settleFrom : Option DWord
  volt : Option VoltWrite
  bubble : Nat
  capDown : Nat
  demand : Word
  actual : Word
  quads : List Nat
  link : Nat
  hot : Bool
  droop : Bool
  droopOn : DWord
  drooped : Nat
  capAt : Nat
  droopAt : Nat
  deriving DecidableEq, Repr

/-- A die at reset: point 15, no bubbles, its whole cap (R396). -/
def Soc.reset : Soc :=
  { cur := 15, guard := 0, rising := Option.none, settleFrom := Option.none, volt := Option.none, bubble := 0, capDown := 0,
    demand := 0, actual := 0, quads := [], link := 0, hot := false, droop := false, droopOn := 0, drooped := 0, capAt := 0, droopAt := 0 }

/-- Instructions of the boundary-scan port (R416). -/
inductive JtagIr where
  | idcode | bypass | sample | extest
  deriving DecidableEq, Repr

/-! ## What leaves the block -/

/-- One thing the block drives or sends, in its order of happening (the model's own record). -/
inductive Output where
  | msix (fn vector : Nat)
  | laneReport (port : Nat) (lanes mask : BitVec 8) (minWidth : BitVec 2)
  | flit (port : Nat) (bits : BitVec 2048)
  | marker (port lane width : Nat)
  | codewords (port : Nat) (lanes : List (List Nat))
  | bellOut (high : Bool)
  | hostData (fn : Nat) (addr : Nat) (data : List Byte)
  | unsupported (fn : Nat)
  | driveData (data : List Byte)
  | driveUnsupported
  | nvme (queue lba : Nat)
  | nvmeAdmin (opcode queue : Nat)
  | pmbus (die address command value : Nat)
  | flash (slot : Bool) (offset : Nat) (data : List Byte)
  | thermtrip
  | ibi (mdb : Nat)
  | mctp (command code : Nat) (values : List Nat)
  | pldm (command code : Nat) (values : List Nat)
  | spdm (mctp secured : Bool) (unit : List Byte)
  | daaId (id : BitVec 48) (bcr dcr : Nat)
  | doe (protocol next : Nat)
  | tdo (value : Nat)
  | pins (value : Nat)
  | regRead (value : Word)
  | config (retry : Bool)
  | aer (status : Word)
  deriving DecidableEq, Repr

end Sys2Proof.Machine
end

