-- ==== Sys2Proof/Machine/State.lean ====
section
/-!
DEFINITION. The state of the block: every register, queue, buffer, counter and memory the spec gives the Volael T4, as
plain data; its state after reset; and the reasons a step can stop.
-/
namespace Sys2Proof.Machine

/-- Why a command has no meaning in this model. -/
inductive Refusal where
  /-- Raised by the dispatch of a command that is not modelled yet, by its mnemonic. Safe: nothing can be proved of a
  step that does not happen. -/
  | notModelled (mnemonic : String)
  deriving DecidableEq, Repr

/-- Why the machine stops. No command of this block stops it: a command the state does not allow changes nothing. -/
inductive Fault where
  /-- Raised by no command; the type is kept closed and inhabited. Safe. -/
  | impossible
  deriving DecidableEq, Repr

/-- The state of the block. -/
structure State where
  /-- The commands that wait, first in, first out (the model's own). -/
  pending : List Instr
  /-- The register file: every register word of BAR0 and the doorbell pages that is not a view of another field. -/
  regs : Table Word
  /-- The values that reads of LO halves latched (R445), by path and register. -/
  latches : Table Word
  /-- BELLTIME (R30). -/
  time : DWord
  /-- BELLTIME is held by a backward correction (R35). -/
  timeHeld : Bool
  /-- The ticks for which it is still to be held. -/
  holdLeft : Nat
  /-- The Bell's offset to its parent in units of 1/256 tick (R34, R259). -/
  bellOffset : Int
  /-- What BELLTIME has still to gain by slewing (less than 0: to lose), in units of 1/5,120,000 tick (R34, R36, R38). -/
  bellSlew : Int
  /-- REFCLK time that has passed, in units of 1/5,120,000 of a nominal tick (R34; the model's own measure of the local
  tick period). -/
  refTime : Nat
  /-- Frames in a row with |offset| of at most 2 ticks in ACQUIRING (R35). -/
  bellRun : Nat
  /-- The tick of the last valid frame (R35). -/
  bellFrameAt : DWord
  /-- The tick at which the BELL_OUT pulse that is driven began (R37). -/
  bellPulse : Option DWord
  /-- The 512 cores and the units above and beneath them. -/
  cores : Table Core
  /-- Legacy scale slots, by 32 × context + slot (R174). -/
  tscales : Table TScale
  /-- The context switch in progress (R359 to R363). -/
  switch : Switch
  /-- Data bytes of every memory, ciphertext in the granaries and HBM (R186, R202, R210). -/
  mem : List Host.Cell
  /-- Check symbols, two bytes for each 16 B codeword (R202). -/
  chk : List Host.Cell
  /-- For each memory unit, one more than the tick of its last CORRECTED record (R207). -/
  correctedAt : Table Nat
  /-- The written bits of the pages of HBM and granary, by local address ÷ 2 MiB (R371). -/
  pageBits : Table Bool
  /-- Pages of 2 MiB a harvest has still to copy: the harvest bitmaps (R338 to R340). -/
  copyPages : List Nat
  /-- For each page still to be copied that a write waits for, one more than the tick its hold began (R340, R341). -/
  touches : Table Nat
  /-- One more than the tick at which a timed command last acted, by command (the model's own: a timer fires once); at
  16 + die, one more than the tick the wipe of a CELLAR reset began (R372). -/
  fired : Table Nat
  /-- How many free values have been drawn (the model's own). -/
  frees : Nat
  /-- The Terrier (R273). -/
  terrier : Table QWord
  /-- While TERRIER.STATUS.BUSY reads 1: the entry being committed, what it held, and a free word whose bit d says that
  compute die d's copy still holds the old entry (R275). -/
  terrierOld : Option (Nat × QWord × Word)
  /-- The lane maps, by 16,384 × link die + node (R290). -/
  lanemaps : Table Word
  /-- The group table (R294). -/
  groups : Table QWord
  /-- For each group, one more than the tick of its last EPOCH_STALE record (R295). -/
  staleAt : Table Nat
  /-- The Tilby ports (R241). -/
  ports : Table Port
  /-- Packets in each link die that it has not handled yet, oldest first (R291). -/
  routers : Table (List Routed)
  /-- The next place in the order in which packets enter the link dies (R289; the model's own). -/
  routeSeq : Nat
  /-- Packets delivered to this device and not served yet, with the link die they reached (R291). -/
  inbox : List (Nat × Routed)
  /-- By 8 × source node + SUNIT, the first STATUS other than OK of a posted write since the last flush (R280). -/
  postedErrors : Table Nat
  /-- Transactions of the Reeve that wait for a tag (R285). -/
  reeveTodo : List (TagUser × Txn)
  /-- Open chunk contexts, in order of opening (R312). -/
  chunks : List Chunk
  /-- Chunks a local REDUCE has closed since its context's last COMMIT decision: context, group, chunk (R313). -/
  closedChunks : List (Nat × Nat × Nat)
  /-- Arrivals and signals on their way to cores of this device (R69, R84). -/
  transit : List Transit
  /-- Transaction tags, by SUNIT × 8,192 + tag number (R88, R285). -/
  tags : Table TagState
  /-- Key slots: one more than the number of the draw that filled a slot, 0 when none has (R366, R367). -/
  keyDraws : Table Nat
  /-- The device queue's ring: each entry a record and the BELLTIME at which it was written (R449). -/
  devq : Table (DWord × DWord)
  /-- Watch events of the running period, by input; input 1 counts corrected codewords (R330). -/
  watchEvents : Table Nat
  /-- How many keys have been drawn (R366, R367). -/
  draws : Nat
  /-- The pantry key: one more than the number of its draw, 0 before the first (R343). -/
  pantryDraw : Nat
  /-- PANTRY_ID (R343). -/
  pantryId : Word
  /-- The harvest in progress (R338 to R345). -/
  harvest : Option HarvestRun
  /-- A harvest is due, as the last Watch period found (R333). -/
  harvestDue : Bool
  /-- A decision has asked for a harvest at the next step boundary (R334). -/
  harvestWanted : Bool
  /-- Pantry commands issued and not completed, oldest first (R410). -/
  nvme : List NvmeCmd
  /-- Pantry commands that wait for a place in their queue (R409). -/
  nvmeWait : List NvmeCmd
  /-- The image slots that hold the current image of the pantry and of the shared store (R342). -/
  pantryImage : Option Bool
  /-- See `pantryImage`. -/
  storeImage : Option Bool
  /-- The refill that is PREPARED or RUNNING (R346). -/
  refill : Option RefillRun
  /-- For each context, KIND, epoch and step of its last refill (R346). -/
  lastRefill : Table (Nat × Word × DWord)
  /-- Pages a refill has made valid (R346, R349). -/
  validPages : List Nat
  /-- Refill writes that have landed in each invalid page (R347). -/
  landings : Table Nat
  /-- What a SERVING source has still to hear of (R346). -/
  serve : Option ServeRun
  /-- Contexts that have been started since their last reset, by bit (R351). -/
  started : Word
  /-- Contexts, by bit, whose CONTEXT reset has returned the CORE window: the Reeve enables it at the reset's end (R428,
  R464). -/
  coreReturned : Word
  /-- The compute-die states of saved contexts, by 512 × context + core (R362). -/
  saved : Table Core
  /-- The draw that filled SAVE_KEY when a context's image was written, one more than its number (R361, R366). -/
  savedDraw : Table Nat
  /-- The context whose ALM_GO waits for its measurement (R376). -/
  measuring : Option Nat
  /-- Measured Terrier entries as they stood, by 65,536 × context + index (R376). -/
  measured : Table QWord
  /-- Measurements: of schedules, by context; of boot ROM, firmware image and configuration at 32 to 34 (R375, R376). -/
  measurements : Table (BitVec 384)
  /-- Wipes that run, with the tick each began (R372). -/
  wipes : List (WipeScope × DWord)
  /-- The bond self-test that runs on each die (R226). -/
  tests : Table BondTest
  /-- Remap registers: the lanes remapped to spares, by 512 × (0 for a core, 1 for a footprint) + unit, × 256 + group
  (R225). -/
  remaps : Table (List Nat)
  /-- Footprints whose refresh window is open, by footprint number, on every die (R192). -/
  refreshing : BitVec 128
  /-- HOT footprints, by 128 × die + footprint (R232). -/
  hotFp : BitVec 512
  /-- HOT states that take force when the estimates are complete (R232, R379). -/
  hotNext : BitVec 512
  /-- Memory beats that wait for a refresh window or a bond self-test to end, oldest first (R192, R227). -/
  waiting : List HeldBeat
  /-- Bank throttles, by 128 × die + footprint (R233). -/
  throttles : Table Throttle
  /-- Wear trackers, by 4 × die + quadrant; none before a quadrant's first sample (R234). -/
  wear : Table (Option Wear)
  /-- Wear as last written to non-volatile storage (R235, R239). -/
  wearStored : Table (Option Wear)
  /-- What the Steward keeps for each compute die. -/
  socs : Table Soc
  /-- Package estimates, FP32 in W: demand and actual (R381, R382). -/
  pkgEst : Word × Word
  /-- The estimates of the period that has ended, until they are complete: demand and actual of dies 0 to 3 and of the
  package, empty when none are due (R379). -/
  estNext : List (Word × Word)
  /-- Activity counters whose events are commands: by 256 × context + 64 × die + counter, since the last period began (R380,
  R394). -/
  activity : Table Nat
  /-- Energy in units of 2⁻⁴⁰ pJ, by 8 × context + class; context 32 is ENERGY_BASE (R394). -/
  energy : Table Nat
  /-- CURFEW (R393). -/
  curfew : Curfew
  /-- MSI-X vectors whose mask bit is 0, by 64 × function + vector (R403). -/
  msixOpen : Table Bool
  /-- MSI-X vectors whose pending bit is 1, by 64 × function + vector (R403). -/
  msixPending : Table Bool
  /-- The size of the PF's BAR4, as 1 GiB × 2^size (R398, R399). -/
  bar4 : Nat
  /-- The AER uncorrectable error status of each function (R398). -/
  aer : Table Word
  /-- Host reads in progress (R401, R402). -/
  hostReads : List HostRead
  /-- The next host read's number (model's own). -/
  nextRead : Nat
  /-- Nodes that have received host posted writes since the last flush to them (R402). -/
  hostDirty : List Nat
  /-- The MGMT command that runs (R453). -/
  mgmt : Option MgmtRun
  /-- The firmware command that runs (R453). -/
  fw : Option FwRun
  /-- Reeve firmware runs (R415, R485). -/
  firmware : Bool
  /-- The flash slot that booted (R415). -/
  booted : Bool
  /-- The SPDM responder on the management transports (R375). -/
  spdm : SpdmPhase
  /-- The SPDM messages it has received since GET_VERSION (R375). -/
  spdmHeard : List (List Byte)
  /-- For each context, TAIL and tick of the last event-queue message (R408). -/
  evqSent : Table (Word × DWord)
  /-- Records that wait to be written to their event-queue ring, with their context, oldest first (R340, R407). -/
  evqWait : List (Nat × DWord)
  /-- The boundary-scan instruction (R416). -/
  jtag : JtagIr
  /-- The boundary scan register (R416). -/
  boundary : Nat
  /-- The bypass register (R416). -/
  bypass : Bool
  /-- The device is in scan test (R485). -/
  scanTest : Bool
  /-- ENABLE checks in progress, with CTRL as it stood before the write (R439, R440). -/
  checks : List (Block × Nat × Word)
  /-- HOT_CTRL, WEAR_SWING and WEAR_EXP of each die as they act while its STACK page is not enabled (R465). -/
  stackHeld : Table (Word × Word × Word)
  /-- The reset whose dawn ran last, or runs: COLD, WARM or DEVICE (R420, R421). -/
  dawnOf : ResetKind
  /-- For each partition, the dawn step its PARTITION reset has reached, 0 when none runs (R420). -/
  partDawn : Table Nat
  /-- Partitions whose PARTITION reset waits for the context it forces off (R361, R365). -/
  partWaiting : List Nat
  /-- Compute dies whose VDD_CORE is out of range, by bit: their clocks are gated (R493). -/
  railOut : Word
  /-- PAN_PERST_N: high impedance before firmware, else whether it is high (R485). -/
  panPerst : Option Bool
  /-- REFCLK has been lost, and no WARM or COLD reset has found it back (R494). -/
  refclkLost : Bool
  /-- PERST_N is low (R421). -/
  perstLow : Bool
  /-- Which step of a power-state entry or exit runs, 0 when none: 1 and 2 the entry of DUSK and NIGHT; 3 ungating and 4
  testing at the exit from DUSK; 5 opening gates, 6 reloading and 7 testing at the exit from NIGHT (R426, R427). -/
  powerStep : Nat
  /-- What the block has driven or sent out of the package, newest last (the model's own record). -/
  outputs : List Output
  deriving DecidableEq, Repr

/-- The machine right after reset, before any event: every field at its reset value. -/
def State.reset : State :=
  { pending := [], regs := [], latches := [], time := 0, timeHeld := false, holdLeft := 0,
    bellOffset := 0, bellSlew := 0, refTime := 0, bellRun := 0, bellFrameAt := 0, bellPulse := none, cores := [], tscales := [],
    switch := ⟨.idle, 0, 0, .context⟩, mem := [], chk := [],
    correctedAt := [], pageBits := [], copyPages := [], touches := [], fired := [], frees := 0,
    terrier := [], terrierOld := none, lanemaps := [], groups := [], staleAt := [], ports := [],
    routers := [], routeSeq := 0, inbox := [], postedErrors := [], reeveTodo := [], chunks := [], closedChunks := [], transit := [], tags := [],
    keyDraws := [], devq := [], watchEvents := [], draws := 0, pantryDraw := 0, pantryId := 0, harvest := none,
    harvestDue := false, harvestWanted := false, nvme := [],
    nvmeWait := [], pantryImage := none, storeImage := none, refill := none, lastRefill := [], validPages := [],
    landings := [], serve := none, started := 0, coreReturned := 0, saved := [], savedDraw := [], measuring := none, measured := [], measurements := [],
    wipes := [], tests := [], remaps := [], refreshing := 0, hotFp := 0, hotNext := 0, waiting := [], throttles := [], wear := [],
    wearStored := [], socs := [], pkgEst := (0, 0), estNext := [], activity := [], energy := [], curfew := .none, msixOpen := [], msixPending := [], bar4 := 0, aer := [], hostReads := [],
    nextRead := 0, hostDirty := [], mgmt := none, fw := none, firmware := false, booted := false, spdm := .idle, spdmHeard := [],
    evqSent := [], evqWait := [], jtag := .idcode, boundary := 0, bypass := false, scanTest := false, checks := [], stackHeld := [], dawnOf := .cold, partDawn := [], partWaiting := [], railOut := 0, panPerst := none, refclkLost := false,
    perstLow := false, powerStep := 0, outputs := [] }

end Sys2Proof.Machine
end

