-- ==== Sys2Proof/Machine/Regs.lean ====
section
/-!
DEFINITION. The register file: reading and writing a register or a field of one, refusing a write (R440), the errors
and interrupts of a page (R443), and what a reset of one page does (R15).
-/
namespace Sys2Proof.Machine

/-- The word of the register at `off` of instance `i` of page `b`. -/
def reg (s : State) (b : Block) (i off : Nat) : Word :=
  tget (regDefault (regKey b i off)) (regKey b i off) s.regs

/-- The register at `off` set to `v`. -/
def setReg (s : State) (b : Block) (i off : Nat) (v : Word) : State :=
  { s with regs := tset (regDefault (regKey b i off)) (regKey b i off) v s.regs }

/-- A field of a register, as a number. -/
def rf (s : State) (b : Block) (i off lo w : Nat) : Nat := fld (reg s b i off).toNat lo w

/-- One bit of a register. -/
def rbit (s : State) (b : Block) (i off k : Nat) : Bool := (reg s b i off).toNat.testBit k

/-- A field of a register set to `x`. -/
def setRf (s : State) (b : Block) (i off lo w x : Nat) : State :=
  setReg s b i off (BitVec.ofNat 32 (setFld (reg s b i off).toNat lo w x))

/-- One bit of a register set. -/
def setRbit (s : State) (b : Block) (i off k : Nat) (v : Bool) : State := setRf s b i off k 1 (b2n v)

/-- One more on a SATURATING counter register (R16). -/
def incReg (s : State) (b : Block) (i off : Nat) : State := setReg s b i off (satInc (reg s b i off))

/-- `k` more on a SATURATING counter register (R16). -/
def addReg (s : State) (b : Block) (i off k : Nat) : State := setReg s b i off (satAdd (reg s b i off) k)

/-- The 64-bit value of a LO and HI pair of registers. -/
def reg64 (s : State) (b : Block) (i lo : Nat) : DWord := (reg s b i (lo + 4)).append (reg s b i lo)

/-- A LO and HI pair of registers set to a 64-bit value. -/
def setReg64 (s : State) (b : Block) (i lo : Nat) (v : DWord) : State :=
  setReg (setReg s b i lo (v.setWidth 32)) b i (lo + 4) ((v >>> 32).setWidth 32)

/-- A 64-bit pair of registers advanced by `k` (NEVER-WRAPS, R16). -/
def addReg64 (s : State) (b : Block) (i lo k : Nat) : State :=
  setReg64 s b i lo (reg64 s b i lo + BitVec.ofNat 64 k)

/-- A refused write: STATUS.REFUSED set, the code and the register's offset recorded (R440). -/
def refuse (s : State) (b : Block) (i code off : Nat) : State :=
  setRf (setRf (setRbit s b i Off.status 2 true) b i Off.status 8 8 code) b i Off.status 16 16 off

/-- Whether the host may write a page yet: before dawn is done, GLOBAL and REEVE alone (R424). -/
def hostOpen (s : State) (b : Block) : Bool := b == .global || b == .reeve || rbit s .global 0 Off.globalDawn 8

/-- Whether a page is a window onto instances (R433). -/
def Block.instanced : Block → Bool
  | .core | .port | .context => true
  | _ => false

/-- Whether a write of `v` sets a reserved bit of the register at `off`; a SEL of instances is held to their number instead (R14,
R433, R434). -/
def reservedSet (b : Block) (off : Nat) (v : Word) : Bool :=
  regExists b off && !(b.instanced && off == Off.sel) && v &&& ~~~(definedMask b off) != 0

/-- A host write of `v` to the register at `off`, whose effect is `f`; refused with 0x01 where it sets a reserved bit, and with 0x03
before dawn is done (R14, R424, R440). -/
def hostWrite (s : State) (b : Block) (i off : Nat) (v : Word) (f : State → State) : State :=
  if reservedSet b off v then refuse s b i 0x01 off
  else if hostOpen s b then f s else refuse s b i 0x03 off

/-- Whether a page has been told to accept no new work (R438). -/
def quiescing (s : State) (b : Block) (i : Nat) : Bool :=
  match b.quiesceBit with
  | some k => rbit s b i Off.ctrl k
  | none => false

/-- Whether a page reads as enabled: an always-active page always does (R437). -/
def enabled (s : State) (b : Block) (i : Nat) : Bool := b.alwaysActive || rbit s b i Off.status 0

/-- A timed command acts once in a tick: the state with command `id` marked, none when it has acted in this tick. -/
def fireOnce (s : State) (id : Nat) : Option State :=
  if tget 0 id s.fired = s.time.toNat + 1 then none
  else some { s with fired := tset 0 id (s.time.toNat + 1) s.fired }

/-- An output recorded. -/
def emit (s : State) (o : Output) : State := { s with outputs := s.outputs ++ [o] }

/-- A request of a function completes with Unsupported Request, which its AER status shows (R398, R400, R404). -/
def unsupported (s : State) (fn : Nat) : State :=
  emit { s with aer := tset 0 fn (tget 0 fn s.aer ||| 0x100000) s.aer } (.unsupported fn)

/-- Vector `v` of a function: the message is sent, or, while the vector is masked, its pending bit is set (R403). -/
def sendMsix (s : State) (fn v : Nat) : State :=
  if tget false (64 * fn + v) s.msixOpen then emit s (.msix fn v)
  else { s with msixPending := tset false (64 * fn + v) true s.msixPending }

/-- The message a page sends when a bit of INT_STATUS AND INT_EN rises (R443); `before` is that AND beforehand. -/
def msixOnRise (s : State) (b : Block) (i : Nat) (before : Word) : State :=
  let now := reg s b i Off.intStatus &&& reg s b i Off.intEn
  if now &&& ~~~before = 0 then s else sendMsix s 0 (rf s b i Off.intVector 0 6)

/-- INT_STATUS AND INT_EN of a page. -/
def intLive (s : State) (b : Block) (i : Nat) : Word := reg s b i Off.intStatus &&& reg s b i Off.intEn

/-- INT_STATUS[31] follows ERR AND ERR_EN (R443). -/
def errSummary (s : State) (b : Block) (i : Nat) : State :=
  setRbit s b i Off.intStatus 31 (decide (reg s b i Off.err &&& reg s b i Off.errEn ≠ 0))

/-- A page's interrupt bit raised (R443, R444, R479). -/
def raiseInt (s : State) (b : Block) (i k : Nat) : State :=
  msixOnRise (setRbit s b i Off.intStatus k true) b i (intLive s b i)

/-- A page counts one event record: ERR, ERR_FIRST, ERR_INFO, EVENT_COUNT and the error summary (R443). -/
def countRecord (s : State) (b : Block) (i code : Nat) (detail : Word) : State :=
  let first := decide (reg s b i Off.err = 0)
  let s1 := incReg (setRbit s b i Off.err (code - 1) true) b i Off.eventCount
  let s2 := if first then setReg (setRf s1 b i Off.errFirst 0 8 code) b i Off.errInfo detail else s1
  errSummary s2 b i

/-- A page counts one event record, with the message its summary bit may send (R443). -/
def pageRecord (s : State) (b : Block) (i code : Nat) (detail : Word) : State :=
  msixOnRise (countRecord s b i code detail) b i (intLive s b i)

/-- A page counts one event record and raises interrupt bits with it: one message covers all that rise (R443). -/
def pageEvent (s : State) (b : Block) (i code : Nat) (detail : Word) (ks : List Nat) : State :=
  msixOnRise (ks.foldl (fun s k => setRbit s b i Off.intStatus k true) (countRecord s b i code detail)) b i (intLive s b i)

/-- One register word after a reset of kind `k`: surviving bits stay, the rest return to their reset value (R15). -/
def resetRegWord (b : Block) (k : ResetKind) (off : Nat) (v : Word) : Word :=
  (v &&& survivesMask b k off) ||| (resetWord b off &&& ~~~(survivesMask b k off))

/-- The register file after a reset of kind `k` on the pages and units that `scope` picks. `SEL` of an instance window
belongs to the window: resets of some units only leave it (R433). -/
def resetRegs (scope : Block → Nat → Bool) (k : ResetKind) (whole : Bool) (t : Table Word) : Table Word :=
  tmap regDefault (fun key v =>
    let b := Block.ofId (key / 1024 / 512)
    let i := key / 1024 % 512
    let off := 4 * (key % 1024)
    if off = Off.sel ∧ b.windowed ∧ ¬whole then v
    else if scope b i then resetRegWord b k off v else v) t

/-- The key of a latched HI half: the path that reads, the host's or the Reeve's, and the LO register (R445). -/
def latchKey (host : Bool) (b : Block) (i off : Nat) : Nat := 2 * regKey b i off + b2n host

/-- Whether a latch keeps its value through a reset of kind `k` on the pages that `scope` picks (R445). -/
def latchStays (scope : Block → Nat → Bool) (k : ResetKind) (key : Nat) : Bool :=
  let r := key / 2
  let b := Block.ofId (r / 1024 / 512)
  let off := 4 * (r % 1024)
  !scope b (r / 1024 % 512) || survivesMask b k off == definedMask b off

/-- A reset of kind `k` on the pages and units that `scope` picks: their registers and latches return to their reset
values where they do not survive, and an ENABLE check in progress on one is abandoned (R15, R439, R445). -/
def resetPages (s : State) (scope : Block → Nat → Bool) (k : ResetKind) (whole : Bool) : State :=
  { s with
    regs := resetRegs scope k whole s.regs, latches := s.latches.filter (fun e => latchStays scope k e.1),
    checks := s.checks.filter (fun x => !scope x.1 x.2.1) }

/-! Cores, by number. -/

/-- Core `c`. -/
def core (s : State) (c : Nat) : Core := tget Core.reset c s.cores

/-- Core `c` replaced. -/
def setCore (s : State) (c : Nat) (k : Core) : State := { s with cores := tset Core.reset c k s.cores }

/-- Core `c` changed by `f`. -/
def updCore (s : State) (c : Nat) (f : Core → Core) : State := setCore s c (f (core s c))

/-- The compute die of a core (R26). -/
def coreDie (c : Nat) : Nat := c / 128

/-- Whether core `c` is fenced OFFLINE (R230, R239). -/
def coreOffline (s : State) (c : Nat) : Bool :=
  rbit s .stack (c / 128) (Off.stackOfflineCore + 4 * (c % 128 / 32)) (c % 32)

/-- Whether granary footprint `f` of die `d` is fenced OFFLINE (R230, R239). -/
def footprintOffline (s : State) (d f : Nat) : Bool :=
  rbit s .stack d (Off.stackOfflineFp + 4 * (f / 32)) (f % 32)

/-- Whether a CELLAR reset of die `d` runs: its cellar and granary refuse every request (R237). -/
def cellarBusy (s : State) (d : Nat) : Bool := rf s .cellar d Off.cellarResetStep 0 3 != 0

/-- Whether a bond self-test of die `d` runs, so that every bond access of the die waits (R227). -/
def bondTesting (s : State) (d : Nat) : Bool := tget BondTest.none d s.tests != .none

/-- The resident context, 0 when none (R378). -/
def resident (s : State) : Nat := rf s .global 0 Off.globalRun 0 5

end Sys2Proof.Machine
end

