-- ==== Sys2Proof/Machine/Mem.lean ====
section
/-!
DEFINITION. The memories: the local address map (R186), codewords as stored (R202), inline encryption (R210), written
pages (R371), the device queue (R449), and the reads and writes every unit makes through its memory controller
(R200, R206 to R209).
-/
namespace Sys2Proof.Machine

/-! ## Free values -/

/-- A free 32-bit value: nothing constrains it. -/
def freshWord (s : State) : State × Word := ({ s with frees := s.frees + 1 }, Config.freeWord s.frees)

/-! ## The device queue -/

/-- A 64-bit event record (R447). -/
def record (cls code unit : Nat) (detail : Word) : DWord :=
  BitVec.ofNat 64 (cls * 2 ^ 56 + code * 2 ^ 48 + unit % 2 ^ 16 * 2 ^ 32 + detail.toNat)

/-- A detail word from a number. -/
def det (n : Nat) : Word := BitVec.ofNat 32 n

/-- A record enters the device queue, or is dropped and counted when the ring is full (R448, R449). -/
def devqPush (s : State) (r : DWord) : State :=
  let head := reg s .reeve 0 Off.reeveDevqHead
  let tail := reg s .reeve 0 Off.reeveDevqTail
  if (tail - head).toNat ≥ 4096 then incReg s .reeve 0 Off.reeveDevqLost
  else
    let s1 := { s with devq := tset (0, 0) (tail.toNat % 4096) (r, s.time) s.devq }
    let s2 := setReg s1 .reeve 0 Off.reeveDevqTail (tail + 1)
    if head = tail then raiseInt s2 .reeve 0 0 else s2

/-- A unit writes a record that enters the device queue alone, and its page counts it (R443, R448). -/
def deviceRecord (s : State) (b : Block) (i cls code unit : Nat) (detail : Word) : State :=
  devqPush (pageRecord s b i code detail) (record cls code unit detail)

/-- A unit writes such a record and raises interrupt bits of its page with it (R443, R448). -/
def deviceEvent (s : State) (b : Block) (i cls code unit : Nat) (detail : Word) (ks : List Nat) : State :=
  devqPush (pageEvent s b i code detail ks) (record cls code unit detail)

/-- `k` events of a Watch input (R330). -/
def watchCount (s : State) (input k : Nat) : State :=
  { s with watchEvents := tset 0 input (tget 0 input s.watchEvents + k) s.watchEvents }

/-- `n` events of activity counter `j` of die `d`, for the resident context (R380, R394, R397; which counter of its group an
event counts in: DESIGN CHOICE, log entry 115). -/
def countActivity (s : State) (d j n : Nat) : State :=
  let key := 256 * resident s + 64 * d + j
  { s with activity := tset 0 key (min (2 ^ 32 - 1) (tget 0 key s.activity + n)) s.activity }

/-! ## The address map -/

/-- The kinds of memory, numbered as R209 numbers them. -/
inductive MemKind where
  | larder | tally | commons | granary | hbm
  deriving DecidableEq, Repr

/-- A kind's number (R209). -/
def MemKind.code : MemKind → Nat
  | .larder => 0 | .tally => 1 | .commons => 2 | .granary => 3 | .hbm => 4

/-- A place in memory: its kind, the number of its unit, and the byte offset within the unit. -/
structure Place where
  kind : MemKind
  unit : Nat
  offset : Nat
  deriving DecidableEq, Repr

/-- Where Tally addresses begin in this model: beyond the 50-bit map, which does not hold them (R186; model's own). -/
abbrev tallyBase : Nat := 2 ^ 50

/-- The unit an address lies in (R186). -/
def placeOf (a : Nat) : Option Place :=
  if a < 2 ^ 40 then
    if a % 2 ^ 36 < 48 * 2 ^ 30 then some ⟨.hbm, a / 2 ^ 36, a % 2 ^ 36⟩ else none
  else if a < 2 ^ 40 + 2 ^ 35 then some ⟨.granary, (a - 2 ^ 40) / 2 ^ 33, a % 2 ^ 33⟩
  else if 2 ^ 41 ≤ a ∧ a < 2 ^ 41 + 2 ^ 27 then some ⟨.commons, (a - 2 ^ 41) / 2 ^ 25, a % 2 ^ 25⟩
  else if 2 ^ 41 + 2 ^ 36 ≤ a ∧ a < 2 ^ 41 + 2 ^ 36 + 2 ^ 30 then
    some ⟨.larder, (a - 2 ^ 41 - 2 ^ 36) / 2 ^ 21, a % 2 ^ 21⟩
  else if tallyBase ≤ a ∧ a < tallyBase + 2 ^ 27 then some ⟨.tally, (a - tallyBase) / 2 ^ 18, a % 2 ^ 18⟩
  else none

/-- First address of HBM stack `s` (R186). -/
def hbmAddr (s : Nat) : Nat := s * 2 ^ 36
/-- First address of the granary of die `d` (R186). -/
def granaryAddr (d : Nat) : Nat := 2 ^ 40 + d * 2 ^ 33
/-- First address of the commons of die `d` (R186). -/
def commonsAddr (d : Nat) : Nat := 2 ^ 41 + d * 2 ^ 25
/-- First address of the Larder of core `c` (R186). -/
def larderAddr (c : Nat) : Nat := 2 ^ 41 + 2 ^ 36 + c * 2 ^ 21
/-- First address of the Tally of core `c` (model's own). -/
def tallyAddr (c : Nat) : Nat := tallyBase + c * 2 ^ 18

/-- The size of a unit of a kind (R184). -/
def MemKind.size : MemKind → Nat
  | .larder => 2 ^ 21 | .tally => 2 ^ 18 | .commons => 2 ^ 25 | .granary => 2 ^ 33 | .hbm => 48 * 2 ^ 30

/-- Whether `n` bytes from `a` lie in one unit (R186, R274). -/
def inOneUnit (a n : Nat) : Bool :=
  match placeOf a with
  | some p => decide (p.offset + n ≤ p.kind.size)
  | none => false

/-- The compute die a place belongs to (R25, R26). -/
def Place.die (p : Place) : Nat :=
  match p.kind with
  | .larder | .tally => p.unit / 128
  | .commons | .granary => p.unit
  | .hbm => p.unit / 4

/-- The register page of the unit a place lies in (R211, R479). -/
def Place.page (p : Place) : Block × Nat :=
  match p.kind with
  | .larder | .tally | .commons => (.cellar, p.die)
  | .granary => (.granary, p.unit)
  | .hbm => (.hbm, p.unit)

/-- Offset of CE_COUNT in a place's page (R471). -/
def Place.ceOff (p : Place) : Nat := if p.page.1 = .cellar then 0x104 else 0x100
/-- Offset of UE_COUNT in a place's page (R471). -/
def Place.ueOff (p : Place) : Nat := if p.page.1 = .cellar then 0x108 else 0x104

/-- Whether a place's contents are encrypted (R210). -/
def Place.encrypted (p : Place) : Bool :=
  match p.kind with
  | .granary | .hbm => true
  | _ => false

/-! ## Stored codewords -/

/-- The byte at address `a`; what nothing has written reads as 0 (a model's choice, named in the log). -/
def cellAt (a : Nat) (m : List Host.Cell) : Byte := tget 0 a m

/-- `n` bytes from `a` as a number, least significant first. -/
def cellsNat (m : List Host.Cell) (a : Nat) : Nat → Nat
  | 0 => 0
  | n + 1 => (cellAt a m).toNat + 256 * cellsNat m (a + 1) n

/-- `n` bytes written from `a`, least significant first. -/
def setCells (m : List Host.Cell) (a : Nat) : Nat → Nat → List Host.Cell
  | 0, _ => m
  | n + 1, v => setCells (tset 0 a (BitVec.ofNat 8 v) m) (a + 1) n (v / 256)

/-- The 144-bit codeword stored at codeword number `w` (byte address 16 × `w`). -/
def rawWord (s : State) (w : Nat) : Nat := cellsNat s.mem (16 * w) 16 + 2 ^ 128 * cellsNat s.chk (2 * w) 2

/-- The codeword at codeword number `w` replaced. -/
def setRawWord (s : State) (w v : Nat) : State :=
  { s with mem := setCells s.mem (16 * w) 16 v, chk := setCells s.chk (2 * w) 2 (v / 2 ^ 128) }

/-- The canonical form of the two memories: both lists strictly rising, no listed zero. -/
abbrev Memory.wf (s : State) : Prop := twf (fun _ => (0 : Byte)) s.mem = true ∧ twf (fun _ => (0 : Byte)) s.chk = true

/-- The key pair in a key slot (R366): the draw that filled it, 0 where none did. -/
def slotKey (s : State) (slot : Nat) : BitVec 512 := Config.drawnKey (tget 0 slot s.keyDraws)

/-- Ciphertext of one data unit (R210). -/
def encryptWord (s : State) (p : Place) (w slot : Nat) (data : Nat) : Nat :=
  if p.encrypted then (xts (slotKey s slot) (BitVec.ofNat 128 w) (BitVec.ofNat 128 data)).toNat
  else data % 2 ^ 128

/-- Plaintext of one data unit (R210). -/
def decryptWord (s : State) (p : Place) (w slot : Nat) (data : Nat) : Nat :=
  if p.encrypted then ((xts (slotKey s slot) (BitVec.ofNat 128 w)).symm (BitVec.ofNat 128 data)).toNat
  else data % 2 ^ 128

/-- The NaN pattern an uncorrectable codeword is delivered as, in each of its four 4 B words (R208). -/
abbrev nanQuad : Nat := 0x7FC000007FC000007FC000007FC00000

/-- A page's written bit (R371). -/
def pageWritten (s : State) (p : Nat) : Bool := tget false p s.pageBits

/-- A page's written bit set to `v` (R371). -/
def setPageWritten (s : State) (p : Nat) (v : Bool) : State :=
  { s with pageBits := tset false p v s.pageBits }

/-! ## Reads and writes of a memory controller -/

/-- The unit field of a MEMORY record (R209). -/
def memUnit (p : Place) : Nat := p.kind.code * 2 ^ 12 + p.unit

/-- The key of a memory unit in the table of CORRECTED record ticks (model's own). -/
def memUnitKey (p : Place) : Nat := memUnit p

/-- The detail of a MEMORY record: the codeword's byte offset within its unit ÷ 16 (R209). -/
def memDetail (p : Place) : Word := BitVec.ofNat 32 (p.offset / 16)

/-- A corrected codeword: written back, counted, fed to the Watch, and recorded at most once in 2¹⁴ ticks per unit
(R207). -/
def memCorrected (s : State) (p : Place) (w v : Nat) : State :=
  let (b, i) := p.page
  let s1 := watchCount (incReg (setRawWord s w v) b i p.ceOff) 0 1
  let last := tget 0 (memUnitKey p) s1.correctedAt
  if last = 0 ∨ last - 1 + 2 ^ 14 ≤ s.time.toNat then
    deviceRecord { s1 with correctedAt := tset 0 (memUnitKey p) (s.time.toNat + 1) s1.correctedAt }
      b i 0x03 0x01 (memUnit p) (memDetail p)
  else s1

/-- An uncorrectable read: counted and recorded (R208). -/
def memUncorrectable (s : State) (p : Place) : State :=
  let (b, i) := p.page
  deviceRecord (incReg s b i p.ueOff) b i 0x03 0x02 (memUnit p) (memDetail p)

/-- Whether a place lies in a granary footprint that is fenced OFFLINE (R187, R230). -/
def Place.offline (s : State) (p : Place) : Bool := p.kind == .granary && footprintOffline s p.unit (p.offset / 2 ^ 26)

/-- Whether any of `n` bytes from `a` lies in a footprint that is fenced OFFLINE (R230). -/
def rangeOffline (s : State) (a n : Nat) : Bool :=
  match placeOf a with
  | some p => p.kind == .granary && (List.range ((p.offset + n - 1) / 2 ^ 26 + 1 - p.offset / 2 ^ 26)).any (fun i =>
      footprintOffline s p.unit (p.offset / 2 ^ 26 + i))
  | none => false

/-- A controller reads codeword `w` under key slot `slot`: the state after, the 16 B as a number, and whether the
codeword was readable (R206 to R208, R210). Every read of a fenced footprint is uncorrectable (R230). An unmapped
codeword reads as unreadable and records nothing. -/
def readWord (s : State) (slot w : Nat) : State × Nat × Bool :=
  match placeOf (16 * w) with
  | none => (s, nanQuad, false)
  | some p =>
    let raw := rawWord s w
    if p.offline s then (memUncorrectable s p, nanQuad, false)
    else match decodeWord raw with
    | .clean => (s, decryptWord s p w slot (raw % 2 ^ 128), true)
    | .corrected v => (memCorrected s p w v, decryptWord s p w slot (v % 2 ^ 128), true)
    | .uncorrectable => (memUncorrectable s p, nanQuad, false)

/-- A controller stores 16 B of plaintext as codeword `w` and sets the page's written bit; a fenced footprint drops the
write (R205, R210, R230, R371). -/
def storeWord (s : State) (slot w data : Nat) : State :=
  match placeOf (16 * w) with
  | none => s
  | some p =>
    if p.offline s then s
    else
    let s1 := setRawWord s w (encodeWord (encryptWord s p w slot data))
    if p.encrypted then setPageWritten s1 (16 * w / 2 ^ 21) true else s1

/-- Bytes of `old` replaced by the bytes of `new` that `mask` picks, `n` bytes in all. -/
def mergeBytes : Nat → Nat → Nat → Nat → Nat
  | 0, _, _, _ => 0
  | n + 1, mask, old, new =>
    (if mask.testBit 0 then new % 256 else old % 256) + 256 * mergeBytes n (mask / 2) (old / 256) (new / 256)

/-- A controller writes the bytes of codeword `w` that `mask` picks: a full write stores; a partial write reads,
merges and stores, over NaN words when the old codeword is uncorrectable (R200, R208). -/
def writeWord (s : State) (slot w data mask : Nat) : State :=
  if mask % 2 ^ 16 = 2 ^ 16 - 1 then storeWord s slot w data
  else if mask % 2 ^ 16 = 0 then s
  else
    let (s1, old, _) := readWord s slot w
    storeWord s1 slot w (mergeBytes 16 mask old data)

/-- Read `n` codewords from codeword `w` on: the state after, their bytes as one number, and whether all were
readable. -/
def readWords (s : State) (slot : Nat) : Nat → Nat → State × Nat × Bool
  | 0, _ => (s, 0, true)
  | n + 1, w =>
    let (s1, v, ok) := readWord s slot w
    let (s2, r, ok') := readWords s1 slot n (w + 1)
    (s2, v + 2 ^ 128 * r, ok && ok')

/-- Read `n` bytes from address `a`: the state after, the bytes as a number, and whether every codeword was
readable. -/
def readMem (s : State) (slot a n : Nat) : State × Nat × Bool :=
  if n = 0 then (s, 0, true)
  else
    let w := a / 16
    let k := (a + n - 1) / 16 - w + 1
    let (s1, v, ok) := readWords s slot k w
    (s1, fld v (8 * (a % 16)) (8 * n), ok)

/-- Write codewords from `w` on: `v` holds the bytes and `mask` which bytes are written, both from the first byte of
codeword `w`. -/
def writeWords (s : State) (slot : Nat) : Nat → Nat → Nat → Nat → State
  | 0, _, _, _ => s
  | n + 1, w, v, mask =>
    writeWords (writeWord s slot w (v % 2 ^ 128) (mask % 2 ^ 16)) slot n (w + 1) (v / 2 ^ 128) (mask / 2 ^ 16)

/-- Write the `n` low bytes of `v` at address `a` (R200). -/
def writeMem (s : State) (slot a n v : Nat) : State :=
  if n = 0 then s
  else
    let w := a / 16
    let k := (a + n - 1) / 16 - w + 1
    writeWords s slot k w (v % 2 ^ (8 * n) * 2 ^ (8 * (a % 16))) ((2 ^ n - 1) * 2 ^ (a % 16))

/-- Words of 4 B, NaN in each, `n` bytes in all (R208, R287). -/
def nanBytes (n : Nat) : Nat := fld nanQuadLong 0 (8 * n)
where
  /-- The pattern repeated over the largest transaction. -/
  nanQuadLong : Nat := (List.range 64).foldl (fun a _ => a * 2 ^ 128 + nanQuad) 0

/-- The stored words of a range set to zero, check symbols included, with no count or record: a zero-fill engine's
work (R370, R371). -/
def zeroCells (m : List Host.Cell) (lo hi : Nat) : List Host.Cell := m.filter (fun c => c.1 < lo || hi ≤ c.1)

/-- Zero-fill of the addresses from `lo` to `hi`, both multiples of 16 B. -/
def zeroFill (s : State) (lo hi : Nat) : State :=
  { s with mem := zeroCells s.mem lo hi, chk := zeroCells s.chk (lo / 8) (hi / 8) }

end Sys2Proof.Machine
end

