-- ==== Sys2Proof/Machine/Records.lean ====
section
/-!
DEFINITION. Context addresses and the Terrier (R272, R273, R276), and event records that enter a context's queue as
well as the device queue (R407, R447, R448).
-/
namespace Sys2Proof.Machine

/-! ## The Terrier -/

/-- A field of a Terrier entry (R273). -/
def tfld (e : QWord) (lo w : Nat) : Nat := fld e.toNat lo w

/-- The permissions of a Terrier entry, by bit (R273). -/
inductive Perm where
  | r | w | a | d
  deriving DecidableEq, Repr

/-- The bit of a permission (R273). -/
def Perm.bit : Perm → Nat
  | .r => 80 | .w => 81 | .a => 82 | .d => 83

/-- Where a context address leads: node, local address there, key slot, kind of memory (R272). -/
structure Target where
  node : Nat
  addr : Nat
  key : Nat
  kind : Nat
  deriving DecidableEq, Repr

/-- The Terrier entry `i` as compute die `die`'s copy holds it; any other number reads the Reeve's shadow. While a
commit is under way a copy may still hold the old entry (R273, R275). -/
def terrierEntry (s : State) (die i : Nat) : QWord :=
  match s.terrierOld with
  | some (j, old, stale) => if j = i ∧ die < 4 ∧ stale.toNat.testBit die then old else tget 0 i s.terrier
  | none => tget 0 i s.terrier

/-- Compute die `die` (4 for the Reeve) translates a context address for an access of `n` bytes that needs `perm`
(R272), or gives the reason it fails (R276). `perm` none asks for no permission. -/
def translate (s : State) (die ctx a n : Nat) (perm : Option Perm) : Except Nat Target :=
  let i := a / 2 ^ 32
  let o := a % 2 ^ 32
  if rf s .context ctx Off.contextTerrierCount 0 17 ≤ i then .error 0x01
  else
    let e := terrierEntry s die (rf s .context ctx Off.contextTerrierBase 0 16 + i)
    if tfld e 0 1 = 0 then .error 0x02
    else if tfld e 1 5 ≠ ctx then .error 0x03
    else if (match perm with | some p => decide (tfld e p.bit 1 = 0) | none => false) then .error 0x04
    else if tfld e 64 12 * 2 ^ 21 < o + n then .error 0x05
    else .ok ⟨tfld e 16 14, tfld e 32 29 * 2 ^ 21 + o, tfld e 88 6, tfld e 6 3⟩

/-- This device's node number (R271, R302). -/
def thisNode (s : State) : Nat := rf s .global 0 Off.globalNode 0 14

/-- Whether this device is assigned (R271). -/
def assigned (s : State) : Bool := rbit s .global 0 Off.globalNode 15

/-- A translation that must lead to this node. -/
def translateHere (s : State) (die ctx a n : Nat) (perm : Option Perm) : Option Target :=
  match translate s die ctx a n perm with
  | .ok t => if t.node = thisNode s then some t else none
  | .error _ => none

/-- Whether a place lies in the cellar or granary of a die in a CELLAR reset (R237, R286). -/
def inCellarReset (s : State) (p : Place) : Bool := p.kind != .hbm && cellarBusy s p.die

/-- Whether an address lies in the cellar or granary of a die in a CELLAR reset (R237). -/
def addrReset (s : State) (a : Nat) : Bool :=
  match placeOf a with
  | some p => inCellarReset s p
  | none => false

/-- Whether the clocks of compute die `d` are gated, its rail out of range (R493). -/
def railGated (s : State) (d : Nat) : Bool := s.railOut.toNat.testBit d

/-- Whether an access waits for its die: outside HBM for a bond self-test, anywhere while the die's clocks are gated (R227,
R493). -/
def addrTesting (s : State) (a : Nat) : Bool :=
  match placeOf a with
  | some p => (p.kind != .hbm && bondTesting s p.die) || railGated s p.die
  | none => false

/-- The footprint a place lies in, as 128 × die + footprint, none outside the granaries (R187). -/
def Place.footprint (p : Place) : Option Nat :=
  if p.kind = .granary then some (128 * p.unit + p.offset / 2 ^ 26) else none

/-! ## The bank throttle (R233) -/

/-- The throttle of a footprint. -/
def throttle (s : State) (f : Nat) : Throttle := tget Throttle.reset f s.throttles

/-- A throttle replaced. -/
def setThrottle (s : State) (f : Nat) (t : Throttle) : State := { s with throttles := tset Throttle.reset f t s.throttles }

/-- Whether a footprint is HOT (R232). -/
def isHot (s : State) (f : Nat) : Bool := s.hotFp.toNat.testBit f

/-- The throttle of a footprint admits a beat. -/
def spendBeat (s : State) (f : Nat) : State := setThrottle s f { throttle s f with spent := true, spentAt := s.time }

/-- Whether ADMIT cycles can have passed since the last admitted beat: a tick of 4 ns holds at most 6.4 cycles of a die's
clock, and the beat may have been admitted at the start of its tick (R233, R389). -/
def admitDue (s : State) (f : Nat) : Bool :=
  decide (10 * rf s .stack (f / 128) Off.stackHotCtrl 16 6
    < 64 * ((s.time - (throttle s f).spentAt).toNat + 1))

/-- The throttle of a footprint has held `k` more beats: counted, and recorded at most once in 2¹⁴ ticks (R233, R238). -/
def noteHeld (s : State) (f k : Nat) : State :=
  let d := f / 128
  let t := throttle s f
  let count := t.count + k
  let s1 := addReg s .stack d Off.stackHotOverlapCount k
  if t.recordAt = 0 ∨ t.recordAt - 1 + 2 ^ 14 ≤ s.time.toNat then
    deviceRecord (setThrottle s1 f { t with count := 0, recordAt := s.time.toNat + 1 })
      .stack d 0x04 0x03 (2 ^ 12 + f) (det (min count (2 ^ 32 - 1)))
  else setThrottle s1 f { t with count := count }

/-- The HOT footprints that `n` bytes at an address lie in (R232, R233). -/
def hotOf (s : State) (a n : Nat) : List Nat :=
  match (placeOf a).bind Place.footprint, (placeOf (a + n - 1)).bind Place.footprint with
  | some f, some g => (List.range (g - f + 1)).filterMap (fun i => if isHot s (f + i) then some (f + i) else none)
  | _, _ => []

/-- An access of `n` bytes at `a` that a unit makes as a whole: of its beats to a HOT footprint the throttle holds as many
as their timing makes it, a free number up to the number of codewords. Holds change no bit (R189, R220, R233; log entry
109). -/
def throttleAccess (s : State) (a n : Nat) : State :=
  (hotOf s a n).foldl (fun s f =>
    let (s1, w) := freshWord s
    let k := w.toNat % ((a + n - 1) / 16 - a / 16 + 2)
    if k = 0 then s1 else noteHeld s1 f k) s

/-- The same of several accesses, each an address and a length. -/
def throttleAll (s : State) (l : List (Nat × Nat)) : State := l.foldl (fun s x => throttleAccess s x.1 x.2) s

/-- An operation of core `c` ends with CELLAR_RESET: the MEMORY CELLAR_RESET record, with the unit code and DESC (R237). -/
def cellarRecord (s : State) (c unit desc : Nat) : State :=
  deviceRecord s .cellar (c / 128) 0x03 0x03 c (det (unit * 2 ^ 16 + desc))

/-! ## Partitions -/

/-- The state of partition `n` in `GLOBAL.PART_STATE` (R364). -/
def partState (s : State) (n : Nat) : Nat := rf s .global 0 Off.globalPartState (2 * n) 2

/-- `GLOBAL.POWER.STATE` (R431). -/
def powerState (s : State) : Nat := rf s .global 0 Off.globalPower 4 3

/-- Whether the thermal trip has stopped every clock of the compute and link dies (R388). -/
def tripped (s : State) : Bool := rbit s .steward 0 Off.stewardThermtrip 0

/-- Whether the memories stand: tripped, or in NIGHT until they leave self-refresh (R388, R426, R427). -/
def memoryOff (s : State) : Bool := tripped s || powerState s == 2 || s.powerStep == 5 || s.powerStep == 6

/-- Whether the link dies stand: tripped, or in NIGHT until RUN (R388, R426, R427). -/
def linkOff (s : State) : Bool := memoryOff s || s.powerStep == 7

/-- A step of a link die, which does nothing while its clock stands. -/
def linkClocked (s : State) (o : Host.Outcome State Fault Refusal) : Host.Outcome State Fault Refusal :=
  if linkOff s then .next s else o

/-- Whether the units of core `c` proceed: not OFFLINE, its die not in a bond self-test, its partition in SERVICE, the
device in RUN or on the way out of it with the context still resident, and not tripped, its context not being saved or
restored (R227, R360 to R362, R364, R388, R426). -/
def coreClocked (s : State) (c : Nat) : Bool :=
  !coreOffline s c && !bondTesting s (c / 128) && partState s (c / 128) == 0
    && (powerState s == 0 || (powerState s == 3 && s.powerStep == 0))
    && !tripped s && s.switch.phase != .saving && s.switch.phase != .restoring

/-- A step of a core's unit, which does nothing while its clock stands. -/
def clocked (s : State) (c : Nat) (o : Host.Outcome State Fault Refusal) : Host.Outcome State Fault Refusal :=
  if coreClocked s c then o else .next s

/-- Partition `n` set to state `v`; the granary of a partition that is DOWN shows DOWN, and SERVICE once it is not (R364,
R471). -/
def setPartState (s : State) (n v : Nat) : State :=
  let s1 := setRf s .global 0 Off.globalPartState (2 * n) 2 v
  if v = 3 then setRf s1 .granary n Off.granaryState 0 2 2
  else if rf s .granary n Off.granaryState 0 2 = 2 then setRf s1 .granary n Off.granaryState 0 2 0
  else s1

/-! ## What holds an access -/

/-- Whether a place waits: for the memories to run again, for the end of a bond self-test of its die, outside HBM, for its
die's clocks, or for the end of its footprint's refresh window (R192, R227, R388, R426, R493). -/
def placeWaits (s : State) (p : Place) : Bool :=
  memoryOff s || (p.kind != .hbm && bondTesting s p.die) || railGated s p.die
    || (match p.footprint with
      | some f => s.refreshing.toNat.testBit (f % 128)
      | none => false)

/-- Whether an address waits so. -/
def addrWaits (s : State) (a : Nat) : Bool :=
  match placeOf a with
  | some p => placeWaits s p
  | none => false

/-! ## First touches (R340) -/

/-- The pages of 2 MiB that `n` bytes from `a` lie in. -/
def pagesOf (a n : Nat) : List Nat :=
  if n = 0 then [] else (List.range ((a + n - 1) / 2 ^ 21 - a / 2 ^ 21 + 1)).map (fun i => a / 2 ^ 21 + i)

/-- A page is touched by a write that must wait for its copy: the first touch is counted and its tick kept. -/
def touchPage (s : State) (p : Nat) : State :=
  if tget 0 p s.touches ≠ 0 then s
  else incReg { s with touches := tset 0 p (s.time.toNat + 1) s.touches } .harvest 0 Off.harvestFirstTouchCount

/-- The pages among `ps` that a harvest has still to copy. -/
def heldPages (s : State) (ps : List Nat) : List Nat := ps.filter (fun p => s.copyPages.contains p)

/-- Every held page among `ps` touched. -/
def touchPages (s : State) (ps : List Nat) : State := (heldPages s ps).foldl touchPage s

/-! ## Event queues of contexts -/

/-- Whether a context's event queue is enabled (R406). -/
def evqEnabled (s : State) (ctx : Nat) : Bool := rbit s .doorbell ctx Off.doorbellEvqStatus 0

/-- A record enters a context's event queue, or is dropped and counted; while the ring's page has still to be copied or its
place waits, it waits and those after it with it (R192, R227, R340, R407). -/
def evqPush (s : State) (ctx : Nat) (r : DWord) : State :=
  if ctx = 0 then s
  else if s.evqWait.any (fun x => x.1 == ctx) then { s with evqWait := s.evqWait ++ [(ctx, r)] }
  else
    let size := 2 ^ rf s .doorbell ctx Off.doorbellEvqCfg 0 5
    let tail := reg s .doorbell ctx Off.doorbellEvqTail
    let head := reg s .doorbell ctx Off.doorbellEvqHead
    let base := (reg64 s .doorbell ctx Off.doorbellEvqBaseLo).toNat
    if !evqEnabled s ctx || decide ((tail - head).toNat = size) then incReg s .doorbell ctx Off.doorbellEvqLost
    else
      match translateHere s 4 ctx (base + 8 * (tail.toNat % size)) 8 (some .w) with
      | none => incReg s .doorbell ctx Off.doorbellEvqLost
      | some t =>
        let pages := pagesOf t.addr 8
        if addrReset s t.addr then incReg s .doorbell ctx Off.doorbellEvqLost
        else if addrWaits s t.addr || !(heldPages s pages).isEmpty then
          touchPages { s with evqWait := s.evqWait ++ [(ctx, r)] } pages
        else setReg (writeMem (throttleAccess s t.addr 8) t.key t.addr 8 r.toNat) .doorbell ctx Off.doorbellEvqTail (tail + 1)

/-- Every record that waits for its ring reaches it again, in its order. -/
def drainRings (s : State) : State := s.evqWait.foldl (fun s x => evqPush s x.1 x.2) { s with evqWait := [] }

/-- A unit writes a record that enters the device queue and a context's queue; its page counts it (R443, R448). -/
def contextRecord (s : State) (b : Block) (i cls code unit : Nat) (detail : Word) (ctx : Nat) : State :=
  evqPush (deviceRecord s b i cls code unit detail) ctx (record cls code unit detail)

/-- A record that enters its context's queue and the device queue, and raises an interrupt bit of its page with it (R443,
R448). -/
def contextEvent (s : State) (b : Block) (i cls code unit : Nat) (detail : Word) (ctx k : Nat) : State :=
  evqPush (deviceEvent s b i cls code unit detail [k]) ctx (record cls code unit detail)

/-- A core writes an ALMANAC record and raises an interrupt bit of its page with it (R61, R443, R448). -/
def coreEvent (s : State) (c code : Nat) (detail : Word) (k : Nat) : State :=
  contextEvent s .core c 0x02 code c detail (resident s) k

/-- A core writes a record, which its page counts: an ALMANAC record enters the resident context's queue and the
device queue, a record of any other class the device queue alone (R61, R448). -/
def coreRecord (s : State) (c cls code : Nat) (detail : Word) : State :=
  if cls = 0x02 then contextRecord s .core c cls code c detail (resident s)
  else deviceRecord s .core c cls code c detail

/-! ## Health (R451) -/

/-- Whether any unit is fenced OFFLINE (R230, R451). -/
def anyOffline (s : State) : Bool :=
  (List.range 4).any (fun d => (List.range 8).any (fun j => reg s .stack d (Off.stackOfflineCore + 4 * j) != 0))

/-- `GLOBAL.STATUS.HEALTH`: 3 FAILED, 2 ALERT, 1 DEGRADED, 0 GOOD (R451). -/
def health (s : State) : Nat :=
  if (List.range 4).any (fun n => partState s n == 3) || tripped s then 3
  else if rf s .watch 0 Off.ctrl 8 8 ≤ rf s .watch 0 Off.watchLevel 0 8 then 2
  else if anyOffline s then 1
  else 0

/-- What follows a step that took the device from `before` to `s`: where HEALTH changed the interrupt is raised, and the
I3C target, once it has an address, raises an IBI (R412, R444). -/
def healthStep (before s : State) : State :=
  if health before = health s then s
  else raiseInt (if rf s .sideband 0 Off.sidebandI3cDa 0 7 = 0 then s else emit s (.ibi 0x1F)) .global 0 0

end Sys2Proof.Machine
end

