-- ==== Sys2Proof/Machine/Flags.lean ====
section
/-!
DEFINITION. Completion flags and residency tags: the counters a core's operations advance, and their POISON bits
(R81 to R86, R201, R208).
-/
namespace Sys2Proof.Machine

/-- A completion flag incremented; poisoned too when the operation ended in error (R81, R83). -/
def bumpFlag (k : Core) (f : Nat) (poison : Bool) : Core :=
  { k with
    flags := tset 0 f (tget 0 f k.flags + 1) k.flags,
    flagPoison := if poison then k.flagPoison ||| BitVec.ofNat 256 (2 ^ f) else k.flagPoison }

/-- A residency tag incremented, its POISON bit set when the operation ended in error (R201, R208). -/
def bumpTag (k : Core) (t : Nat) (poison : Bool) : Core :=
  { k with
    rtags := tset 0 t (tget 0 t k.rtags + 1) k.rtags,
    rtagPoison := if poison then k.rtagPoison ||| BitVec.ofNat 256 (2 ^ t) else k.rtagPoison }

/-- Flag `f` of core `c` incremented (R81, R83). -/
def completeFlag (s : State) (c f : Nat) (poison : Bool) : State := updCore s c (fun k => bumpFlag k f poison)

/-- A descriptor launched while the cellar of its core's die is in reset ends with CELLAR_RESET: the record, and its flag
poisoned (R237). -/
def cellarEnd (s : State) (c unit desc flag : Nat) : State := completeFlag (cellarRecord s c unit desc) c flag true

end Sys2Proof.Machine
end

