-- ==== Sys2Proof/Machine/Almanac.lean ====
section
/-!
DEFINITION. The almanac of a core: entries and their fields (R39 to R42), waits (R40), the launch rule (R49), slip and
LATE (R50), loops (R52, R53), segments and refills (R43 to R48, R54), variants (R55 to R57), and faults (R60).
-/
namespace Sys2Proof.Machine

/-! ## Fields of an entry (R39) -/

/-- AT. -/
def entAt (e : QWord) : Nat := fld e.toNat 96 32
/-- OP. -/
def entOp (e : QWord) : Nat := fld e.toNat 90 6
/-- WAIT_KIND. -/
def entKind (e : QWord) : Nat := fld e.toNat 88 2
/-- WAIT_ID. -/
def entId (e : QWord) : Nat := fld e.toNat 80 8
/-- WAIT_VALUE. -/
def entValue (e : QWord) : Nat := fld e.toNat 64 16
/-- SLACK. -/
def entSlack (e : QWord) : Nat := fld e.toNat 48 16
/-- A field of ARG, at its ARG bit. -/
def entArg (e : QWord) (lo w : Nat) : Nat := fld (e.toNat % 2 ^ 48) lo w

/-- Operation codes (R41). -/
inductive Op6 where
  | halt | matrix | vector | move | fetch | put | reduce | atomic | arrive | signal | seed | hist
  | segment | loop | variant | switch | commit | harvest
  deriving DecidableEq, Repr

/-- The operation a code names, none for a reserved code (R41). -/
def opOfCode : Nat → Option Op6
  | 0x00 => some .halt | 0x01 => some .matrix | 0x02 => some .vector | 0x03 => some .move | 0x04 => some .fetch
  | 0x05 => some .put | 0x06 => some .reduce | 0x07 => some .atomic | 0x08 => some .arrive | 0x09 => some .signal
  | 0x0A => some .seed | 0x0B => some .hist | 0x10 => some .segment | 0x11 => some .loop | 0x12 => some .variant
  | 0x13 => some .switch | 0x14 => some .commit | 0x15 => some .harvest | _ => none

/-- Whether a SIGNAL entry names a remote node, so that WAIT_ID carries NODE[13] (R41, R42). -/
def entRemoteSignal (e : QWord) : Bool := entOp e == 0x09 && entArg e 17 1 == 0

/-! ## Banks -/

/-- A bank of an almanac. -/
def Almanac.bank (a : Almanac) (b : Bool) : Bank := if b then a.bank1 else a.bank0

/-- A bank of an almanac replaced. -/
def Almanac.setBank (a : Almanac) (b : Bool) (k : Bank) : Almanac :=
  if b then { a with bank1 := k } else { a with bank0 := k }

/-- The head entry, none before a bank is active or past its last entry. -/
def Almanac.headEntry (a : Almanac) : Option QWord :=
  match a.active with
  | none => none
  | some b => (a.bank b).entries[a.head]?

/-- The head's slot number, bank × 384 + index (R39). -/
def Almanac.slot (a : Almanac) : Nat := (if a.active = some true then 384 else 0) + a.head

/-- LENGTH of a segment header (R43). -/
def hdrLength (h : QWord) : Nat := fld h.toNat 0 9
/-- HOLD_NEXT of a segment header (R43). -/
def hdrHold (h : QWord) : Bool := bitAt h.toNat 9
/-- NEXT of a segment header (R43). -/
def hdrNext (h : QWord) : Nat := fld h.toNat 16 48

/-! ## Loops (R52, R53) -/

/-- The tick offset of the running iterations. -/
def loopOffset (fs : List LoopFrame) : Nat := (fs.map (fun f => f.iter * f.stride)).sum
/-- What the running iterations add to FLAG and RESIDENCY thresholds. -/
def loopThreshold (fs : List LoopFrame) : Nat := (fs.map (fun f => f.iter * f.flagStep)).sum
/-- What the running iterations XOR into GATE phases. -/
def loopPhase (fs : List LoopFrame) : Bool :=
  fs.foldl (fun p f => p ^^ (f.phaseAlt && f.iter % 2 == 1)) false

/-- The head after an entry: past it, back to a body's start while iterations remain, out of loops that end there. -/
def advance : List LoopFrame → Nat → List LoopFrame × Nat
  | [], n => ([], n)
  | f :: fs, n =>
    if n = f.start + f.body then
      if f.iter + 1 < f.count then ({ f with iter := f.iter + 1 } :: fs, f.start) else advance fs n
    else (f :: fs, n)

/-- The almanac with its head moved past the head entry; the wait of the new head starts at tick `t` (R49, R74). -/
def Almanac.advance (a : Almanac) (t : DWord) : Almanac :=
  let (fs, h) := Machine.advance a.frames (a.head + 1)
  { a with frames := fs, head := h, headSince := t, timeoutFired := false, commit := none }

/-! ## Checks of a segment (R54, R60) -/

/-- The reserved bits of ARG by operation (R41). -/
def argReserved (e : QWord) : Bool :=
  match opOfCode (entOp e) with
  | some .matrix | some .vector | some .move | some .fetch | some .put | some .reduce | some .atomic =>
    entArg e 24 24 != 0
  | some .halt | some .switch | some .harvest => entArg e 0 48 != 0
  | some .arrive => entArg e 0 18 != 0
  | some .signal => entArg e 0 17 != 0 || (entArg e 17 1 == 1 && entArg e 35 13 != 0)
  | some .hist => entArg e 4 44 != 0
  | some .variant => entArg e 20 28 != 0
  | some .commit => entArg e 9 7 != 0 || entArg e 24 24 != 0
  | _ => false

/-- Whether an entry's wait fields break R40, R41 or R42. -/
def badWait (e : QWord) : Bool :=
  if entRemoteSignal e then entKind e != 0 || entId e % 128 != 0 || entValue e != 0
  else if entOp e == 0x11 then entKind e != 0 || entId e / 2 != 0
  else match entKind e with
    | 0 => entId e != 0 || entValue e != 0
    | 1 => decide (48 ≤ entId e) || entValue e / 2 != 0
    | _ => false

/-- A loop still open while a segment is checked: the index of its last body entry, and its largest offset. -/
structure OpenLoop where
  last : Nat
  reach : Nat
  deriving DecidableEq, Repr

/-- The first check that entry `i` of a segment of `n` entries fails, in the order of R60; the address checks of R44
come last: a last entry that is neither SEGMENT nor HALT, and a SEGMENT before the last, break R44 and give 0x06
(DEDUCED, log entry 104). -/
def entryFault (n i : Nat) (ls : List OpenLoop) (e : QWord) : Option Nat :=
  match opOfCode (entOp e) with
  | none => some 0x01
  | some op =>
    if badWait e then some 0x02
    else if argReserved e then some 0x03
    else if 2 ^ 31 ≤ entAt e + (ls.map OpenLoop.reach).sum then some 0x04
    else
      let loopBad :=
        if op = .loop then
          let count := entArg e 0 16
          let body := entArg e 16 9
          count == 0 || body == 0 || decide (382 < body) || decide (4 ≤ ls.length) || decide (n ≤ i + body)
            || ls.any (fun l => decide (l.last < i + body))
        else op == .segment && !ls.isEmpty
      if loopBad then some 0x05
      else if (op = .segment ∧ i + 1 ≠ n) ∨ (i + 1 = n ∧ op ≠ .segment ∧ op ≠ .halt) then some 0x06
      else none

/-- The reason and the index of the first failing entry of a segment; an entry that cannot be read, paired with `false`,
fails with 0x0B (R60). -/
def entriesFault (n : Nat) : Nat → List OpenLoop → List (QWord × Bool) → Option (Nat × Nat)
  | _, _, [] => none
  | i, ls, (e, ok) :: es =>
    let ls := ls.filter (fun l => decide (i ≤ l.last))
    match (if ok then entryFault n i ls e else some 0x0B) with
    | some r => some (r, i)
    | none =>
      let ls := if entOp e = 0x11 then ⟨i + entArg e 16 9, (entArg e 0 16 - 1) * entArg e 25 23⟩ :: ls else ls
      entriesFault n (i + 1) ls es

/-- The reason a segment header fails its check, the lowest where it fails two, 0 when it passes (R43, R60; DEDUCED, log
entry 20). -/
def headerFault (h : QWord) : Nat :=
  if fld h.toNat 10 6 ≠ 0 ∨ fld h.toNat 80 48 ≠ 0 then 0x03
  else if hdrLength h = 0 ∨ 384 < hdrLength h then 0x06
  else 0

/-- The index that stands for a segment header among the failing indices of a bank. -/
abbrev headerIndex : Nat := 512

/-! ## Faults and launches -/

/-- `BUCKET_DONE[b]`: the smallest CONSUMED among the running cores, under R17, 0 when none runs (R57; the 0: DESIGN
CHOICE, log entry 104). -/
def bucketDone (s : State) (b : Nat) : Nat :=
  let l := (s.cores.filter (fun e => e.2.alm.state == .running || e.2.alm.state == .starved)).map
    (fun e => (tget 0 b e.2.alm.consumed).toNat)
  match l with
  | [] => 0
  | x :: rest => rest.foldl (fun a y => if reached 16 y a then a else y) x

/-- VF vector 1 is sent when a BUCKET_DONE of the resident context advances, be it as a core consumes a bucket or as the one
that held it back stops (R57, R403). -/
def noteBuckets (before after : State) : State :=
  if (List.range 16).any (fun b => bucketDone before b != bucketDone after b && reached 16 (bucketDone after b) (bucketDone before b))
    && after.cores.any (fun e => e.2.alm.state == .running || e.2.alm.state == .starved)
  then sendMsix after (resident after) 1 else after

/-- A core's almanac faults: STATE and reason set, one FAULT record, the page's interrupt (R60, R61, R479). -/
def almFault (s : State) (c reason slot : Nat) : State :=
  let s1 := noteBuckets s (updCore s c (fun k => { k with alm := { k.alm with state := .fault, faultReason := reason } }))
  coreEvent s1 c 0x03 (det (reason * 2 ^ 24 + slot * 2 ^ 14)) 1

/-- The scheduled tick of an entry under its loops (R49). -/
def schedTick (a : Almanac) (e : QWord) : DWord := a.epoch + BitVec.ofNat 64 (entAt e + loopOffset a.frames)

/-- The slip of the head entry now, in 64 bits (R50). -/
def slipNow (s : State) (a : Almanac) (e : QWord) : DWord := s.time - schedTick a e

/-- Condition 1 of R49: the scheduled tick has come. -/
def tickCome (s : State) (a : Almanac) (e : QWord) : Bool := decide ((slipNow s a e).toNat % 2 ^ 32 < 2 ^ 31)

/-- A gate of a core. -/
def gateOf (k : Core) (g : Nat) : Gate := tget Gate.reset g k.gates

/-- Condition 2 of R49: the entry's wait holds, adjusted by its loops (R40, R52). -/
def waitHolds (k : Core) (e : QWord) : Bool :=
  if entRemoteSignal e ∨ entOp e = 0x11 then true
  else match entKind e with
    | 0 => true
    | 1 => (gateOf k (entId e)).phase == ((entValue e % 2 == 1) ^^ loopPhase k.alm.frames)
    | 2 => reached 16 (tget 0 (entId e) k.flags).toNat (entValue e + loopThreshold k.alm.frames)
    | _ => reached 16 (tget 0 (entId e) k.rtags).toNat (entValue e + loopThreshold k.alm.frames)

/-- Whether the head's wait names a gate of another context (reason 0x0C of R60). -/
def waitForeign (k : Core) (ctx : Nat) (e : QWord) : Bool :=
  !entRemoteSignal e && entOp e != 0x11 && entKind e == 1 && (gateOf k (entId e)).owner.toNat != ctx

/-- Whether no context is leaving: no switch runs past its switch points (R360, R361). -/
def contextStays (s : State) : Bool := s.switch.phase == .idle || s.switch.phase == .requested

/-- Whether core `c` may launch: its units proceed, its page is enabled and takes new work, no context is leaving (R360,
R361, R438, R465). -/
def coreMayLaunch (s : State) (c : Nat) : Bool :=
  coreClocked s c && enabled s .core c && !rbit s .core c Off.ctrl 1 && contextStays s

/-- The head entry of core `c` when it is of operation `op`, its core runs, and its scheduled tick has come. After a
DROP only VARIANT, SWITCH and the segment's final entry launch (R320). -/
def readyEntry (s : State) (c : Nat) (op : Op6) : Option QWord :=
  let a := (core s c).alm
  if (a.state == .running || a.state == .starved) && !a.halting && coreMayLaunch s c then
    match a.headEntry with
    | some e =>
      let last := match a.active with
        | some b => a.head + 1 == (a.bank b).entries.length
        | none => false
      if opOfCode (entOp e) = some op ∧ tickCome s a e ∧ (!a.skip || op == .variant || op == .switch || last)
      then some e else none
    | none => none
  else none

/-- A launch is counted: ALM_LAUNCH, the die's activity, SLIP_MAX, and LATE with its one record per activation (R50, R61,
R380). -/
def noteLaunch (s : State) (c : Nat) (e : QWord) : State :=
  let a := (core s c).alm
  let slip := (slipNow s a e).toNat
  let s1 := countActivity (addReg64 s .core c Off.coreAlmLaunchLo 1) (c / 128) 46 1
  let s2 := if (reg s1 .core c Off.coreAlmSlipMax).toNat < slip
    then setReg s1 .core c Off.coreAlmSlipMax (det (min slip (2 ^ 32 - 1))) else s1
  if entSlack e ≠ 0xFFFF ∧ entSlack e < slip then
    let s3 := incReg s2 .core c Off.coreAlmLateCount
    if a.lateWritten then s3
    else
      let s4 := updCore s3 c (fun k => { k with alm := { k.alm with lateWritten := true } })
      watchCount (coreRecord s4 c 0x02 0x01 (det (a.slot * 2 ^ 22 + min slip (2 ^ 22 - 1)))) 4 1
  else s2

/-- The head of core `c` moved past its entry. -/
def advanceHead (s : State) (c : Nat) : State :=
  updCore s c (fun k => { k with alm := k.alm.advance s.time })

/-- The launch rule of R49 for operation `op`: where the head entry is ready and its wait holds and `ok` is met (the
implicit condition and the unit's room), the launch is counted and `act` is its effect; a wait on another context's
gate faults; otherwise nothing happens. `act` moves the head. -/
def launch (s : State) (c : Nat) (op : Op6) (ok : Core → QWord → Bool) (act : State → QWord → State) : State :=
  match readyEntry s c op with
  | none => s
  | some e =>
    if waitForeign (core s c) (resident s) e then almFault s c 0x0C (core s c).alm.slot
    else if waitHolds (core s c) e && ok (core s c) e then act (noteLaunch s c e) e
    else s

/-! ## Refills (R46, R54) -/

/-- A refill of a bank started, abandoning any other (R46). -/
def startRefill (a : Almanac) (b : Bool) (addr : Nat) : Almanac :=
  { (a.setBank b { Bank.empty with status := .loading }) with refill := some ⟨b, addr⟩ }

/-- The refill that follows a bank's activation, when its header names the next segment (R46). -/
def refillAfterSwap (a : Almanac) (b : Bool) : Almanac :=
  let h := (a.bank b).header
  if !hdrHold h && hdrNext h != 0 then startRefill a (!b) (hdrNext h) else a

/-- Whether a context address lies in the measured ranges, when its context is measured (R376). -/
def inMeasured (s : State) (ctx a : Nat) : Bool :=
  !rbit s .context ctx Off.ctrl 0 ||
    (let first := rf s .context ctx Off.contextSchedEntry 0 16
     let i := rf s .context ctx Off.contextTerrierBase 0 16 + a / 2 ^ 32
     decide (first ≤ i ∧ i < first + 4))

/-- Where `n` bytes of a variant table lie for a core of die `d`: any memory of this node, inside the measured ranges
when the context is measured (R55, R60, R376). -/
def tablePlace (s : State) (ctx d a n : Nat) : Option Target :=
  if inMeasured s ctx a then translateHere s d ctx a n none else none

/-- Whether `n` bytes at a context address are a place a core of die `d` may load a segment from: this node, the
granary of its own die, and inside the measured ranges when the context is measured (R44, R376). -/
def schedulePlace (s : State) (ctx d a n : Nat) : Option Target :=
  match tablePlace s ctx d a n with
  | none => none
  | some t =>
    match placeOf t.addr with
    | some p => if p.kind = .granary ∧ p.unit = d then some t else none
    | none => none

/-- The entries of a segment read one by one from codeword `w` on, each with whether it could be read (R46, R60). -/
def readEntries (s : State) (slot : Nat) : Nat → Nat → State × List (QWord × Bool)
  | 0, _ => (s, [])
  | n + 1, w =>
    let (s1, v, ok) := readWord s slot w
    let (s2, es) := readEntries s1 slot n (w + 1)
    (s2, (BitVec.ofNat 128 v, ok) :: es)

/-- The bank a refill from context address `addr` loads: READY, or INVALID with the first failing check (R43, R44,
R46, R54, R60). -/
def loadBank (s : State) (ctx c addr : Nat) : State × Bank :=
  if addr % 16 ≠ 0 then (s, ⟨.invalid, 0, [], 0x06, headerIndex⟩)
  else match schedulePlace s ctx (c / 128) addr 16 with
  | none => (s, ⟨.invalid, 0, [], 0x06, headerIndex⟩)
  | some t =>
    let (s1, hv, hok) := readMem s t.key t.addr 16
    if !hok then (s1, ⟨.invalid, 0, [], 0x0B, headerIndex⟩)
    else
      let h : QWord := BitVec.ofNat 128 hv
      if headerFault h ≠ 0 then (s1, ⟨.invalid, h, [], headerFault h, headerIndex⟩)
      else
        let n := hdrLength h
        match schedulePlace s1 ctx (c / 128) addr (16 * (n + 1)) with
        | none => (s1, ⟨.invalid, h, [], 0x06, headerIndex⟩)
        | some t =>
          let (s2, es) := readEntries s1 t.key n (t.addr / 16 + 1)
          match entriesFault n 0 [] es with
          | some (r, i) => (s2, ⟨.invalid, h, es.map Prod.fst, r, i⟩)
          | none => (s2, ⟨.ready, h, es.map Prod.fst, 0, 0⟩)

/-- The slot a bank's failing index stands for: its entry's, and for a header the swapping SEGMENT's own slot, whatever
the header's reason (R60; the reasons but BAD_SEGMENT: DEDUCED, log entry 104). -/
def failSlot (b : Bool) (bank : Bank) (own : Nat) : Nat :=
  if bank.failIndex = headerIndex then own else (if b then 384 else 0) + bank.failIndex

/-- Bank `b` becomes the active bank with its first entry at the head (R45, R48). -/
def activate (s : State) (c : Nat) (b : Bool) : State :=
  updCore s c (fun k =>
    let a := { k.alm with
      active := some b, head := 0, frames := [], choice := none, lateWritten := false, starveWritten := false,
      state := .running, skip := false, commit := none, headSince := s.time, timeoutFired := false }
    { k with alm := refillAfterSwap a b })

/-! ## Meanings -/

/-- A core's refill ends with a bank; the first bank of a start becomes active, or its failed check faults; no SEGMENT has
swapped then, and a header's fault reports slot 0 (R45, R46, R60; DESIGN CHOICE, log entry 104). -/
def finishRefill (s : State) (c : Nat) (r : Refill) (bank : Bank) : State :=
  let s1 := updCore s c (fun k => { k with alm := { (k.alm.setBank r.bank bank) with refill := none } })
  if (core s c).alm.active.isSome then s1
  else if bank.status = .ready then activate s1 c r.bank
  else almFault s1 c bank.reason (failSlot r.bank bank 0)

/-- A core's refill ends with CELLAR_RESET: the record, and the bank left INVALID (R237). -/
def refillReset (s : State) (c : Nat) (r : Refill) : State :=
  finishRefill (cellarRecord s c 0x05 0) c r ⟨.invalid, 0, [], 0x0B, headerIndex⟩

/-- The beats of a refill that reach a HOT footprint: those of a segment header and the longest segment bound them (R189,
R233; log entry 109). -/
def throttleRefill (s : State) (ctx c addr : Nat) : State :=
  match schedulePlace s ctx (c / 128) addr 16 with
  | some t => throttleAccess s t.addr (16 * 385)
  | none => s

/-- REFILL_COMPLETE: the refill of a core ends; its bank is READY or INVALID, and the first bank of a start becomes
active; during a CELLAR reset of the die it ends with CELLAR_RESET (R45, R46, R54, R60, R237). -/
def execRefillComplete (core' : Fin 512) (s : State) : Host.Outcome State Fault Refusal :=
  let c := core'.val
  match (core s c).alm.refill with
  | none => .next s
  | some r =>
    clocked s c (
      if cellarBusy s (c / 128) then .next (refillReset s c r)
      else
        let (s1, bank) := loadBank (throttleRefill s (resident s) c r.addr) (resident s) c r.addr
        .next (finishRefill s1 c r bank))

/-- The boundary entries of the resident context wait for a harvest that a decision has asked for (R334, R338). -/
def boundaryHeld (s : State) : Bool := s.harvestWanted && resident s == rf s .harvest 0 Off.ctrl 8 5

/-- A harvest that a decision of context `ctx` has asked for is asked for no more: its run is over (R334). -/
def dropWanted (s : State) (ctx : Nat) : State :=
  if rf s .harvest 0 Off.ctrl 8 5 = ctx then { s with harvestWanted := false } else s

/-- HALT: the entry launches and the core launches nothing further (R51). -/
def execHalt (core' : Fin 512) (s : State) : Host.Outcome State Fault Refusal :=
  let c := core'.val
  .next (launch s c .halt (fun _ _ => !boundaryHeld s) (fun s' _ =>
    updCore s' c (fun k => { k with alm := { k.alm with halting := true } })))

/-- SEGMENT: the banks swap and the epoch advances; an INVALID bank or no next segment faults, and the SEGMENT counts as
launched (R48, R50, R60; DEDUCED, log entry 104). -/
def execSegment (core' : Fin 512) (s : State) : Host.Outcome State Fault Refusal :=
  let c := core'.val
  match readyEntry s c .segment with
  | none => .next s
  | some e =>
    let k := core s c
    let a := k.alm
    let idle := !(a.active == some true)
    let bank := a.bank idle
    if waitForeign k (resident s) e then .next (almFault s c 0x0C a.slot)
    else if !waitHolds k e || boundaryHeld s then .next s
    else match bank.status with
      | .loading => .next s
      | .empty => .next (almFault (noteLaunch s c e) c 0x09 a.slot)
      | .invalid => .next (almFault (noteLaunch s c e) c bank.reason (failSlot idle bank a.slot))
      | .ready =>
        let s1 := noteLaunch s c e
        let s2 := updCore s1 c (fun k =>
          { k with alm := { (k.alm.setBank (!idle) .empty) with epoch := k.alm.epoch + BitVec.ofNat 64 (entArg e 0 48) } })
        .next (activate s2 c idle)

/-- ALMANAC_STARVED: a SEGMENT at the head finds the idle bank still loading; `loaded` is how many entries have
arrived (R48, R61). -/
def execAlmanacStarved (core' : Fin 512) (loaded : BitVec 9) (s : State) : Host.Outcome State Fault Refusal :=
  let c := core'.val
  match readyEntry s c .segment with
  | none => .next s
  | some e =>
    let k := core s c
    let a := k.alm
    if a.state = .running ∧ waitForeign k (resident s) e = false ∧ waitHolds k e ∧
        (a.bank (!(a.active == some true))).status = .loading then
      let s1 := updCore s c (fun k => { k with alm := { k.alm with state := .starved, starveWritten := true } })
      let s2 := incReg s1 .core c Off.coreAlmStarveCount
      .next (coreEvent s2 c 0x02 (det (a.slot * 2 ^ 22 + loaded.toNat)) 2)
    else .next s

/-- LOOP: the entry launches and opens a loop over the BODY entries that follow (R52, R53). -/
def execLoop (core' : Fin 512) (s : State) : Host.Outcome State Fault Refusal :=
  let c := core'.val
  .next (launch s c .loop (fun _ _ => true) (fun s' e =>
    updCore s' c (fun k =>
      let a := k.alm
      let f : LoopFrame := ⟨a.head + 1, entArg e 16 9, entArg e 0 16, 0, entArg e 25 23, entValue e, entId e % 2 == 1⟩
      { k with alm := { a with
          frames := f :: a.frames, head := a.head + 1, headSince := s'.time, timeoutFired := false } })))

/-- The doorbell ring word a VARIANT of slot `b` reads (R56, R57). -/
def ringWord (s : State) (ctx b consumed : Nat) : Word := reg s .doorbell ctx (0x20 * b + 4 * ((consumed + 1) % 8))

/-- VARIANT: the entry takes a fresh bucket and starts a refill from the variant table's word; an overwritten ring
word, or a table word that is not VALID or whose place does not translate to this node, faults (R55 to R57, R60). The
entry counts as launched when the table word faults, and the word's bits [62:48] are not looked at (DEDUCED, log entry
104). -/
def execVariant (core' : Fin 512) (s : State) : Host.Outcome State Fault Refusal :=
  let c := core'.val
  match readyEntry s c .variant with
  | none => .next s
  | some e =>
    let k := core s c
    let a := k.alm
    let ctx := resident s
    let b := entArg e 0 4
    let consumed := (tget 0 b a.consumed).toNat
    let ring := (ringWord s ctx b consumed).toNat
    let ahead := (fld ring 16 16 + 2 ^ 17 - consumed - 1) % 2 ^ 16
    if waitForeign k ctx e then .next (almFault s c 0x0C a.slot)
    else if !waitHolds k e then .next s
    else if 1 ≤ ahead ∧ ahead ≤ 0x7FFF then .next (almFault s c 0x08 a.slot)
    else if ahead ≠ 0 then .next s
    else
      let s1 := noteLaunch s c e
      let s2 := noteBuckets s1 (updCore s1 c (fun k => { k with alm := { k.alm with
        consumed := tset 0 b (BitVec.ofNat 16 (consumed + 1)) k.alm.consumed } }))
      let at' := k.heldVtab + 128 * entArg e 4 16 + 8 * fld ring 0 4
      if cellarBusy s (c / 128) then .next (almFault (cellarRecord s2 c 0x05 0) c 0x0B a.slot)
      else match tablePlace s2 ctx (c / 128) at' 8 with
      | none => .next (almFault s2 c 0x07 a.slot)
      | some t =>
        let (s3, w, ok) := readMem s2 t.key t.addr 8
        if addrReset s t.addr then .next (almFault (cellarRecord s2 c 0x05 0) c 0x0B a.slot)
        else if !ok then .next (almFault s3 c 0x0B a.slot)
        else if !w.testBit 63 then .next (almFault s3 c 0x07 a.slot)
        else .next (updCore s3 c (fun k =>
          let a := { k.alm.advance s3.time with choice := some (fld w 0 48) }
          { k with alm := startRefill a (!(a.active == some true)) (fld w 0 48) }))

/-- SLIP_RANGE: the head entry's slip reaches 2³¹ ticks (R50, R60). -/
def execSlipRange (core' : Fin 512) (s : State) : Host.Outcome State Fault Refusal :=
  let c := core'.val
  let a := (core s c).alm
  match a.headEntry with
  | none => .next s
  | some e =>
    let slip := (slipNow s a e).toNat
    if (a.state = .running ∨ a.state = .starved) ∧ a.halting = false ∧ 2 ^ 31 ≤ slip ∧ slip < 2 ^ 63 then
      .next (almFault s c 0x0A a.slot)
    else .next s

end Sys2Proof.Machine
end

