-- ==== Sys2Proof/Machine/Formats.lean ====
section
/-!
DEFINITION. Number formats, exact values, rounding and conversions (R94 to R118).

A code of a format denotes an exact value `Num`; arithmetic is exact on `Num` and narrows once, at an explicit
rounding.
-/
namespace Sys2Proof.Machine

/-- An exact value: NaN, an infinity, or ± `m` × 2^`e`. A zero keeps its sign (R95). -/
inductive Num where
  | nan
  | inf (neg : Bool)
  | fin (neg : Bool) (m : Nat) (e : Int)
  deriving DecidableEq, Repr

/-- Which encodings of a format are special (R95). -/
inductive Specials where
  | ieee   -- all-ones exponent: infinity and NaN
  | e4m3   -- only S.1111.111 is NaN
  | none   -- no special encodings
  deriving DecidableEq, Repr

/-- A floating-point format of R94. -/
structure Fmt where
  ebits : Nat
  fbits : Nat
  bias : Nat
  specials : Specials
  saturating : Bool
  deriving DecidableEq, Repr

namespace Fmt
/-- FP32 (R94). -/
def fp32 : Fmt := ⟨8, 23, 127, .ieee, false⟩
/-- BF16 (R94). -/
def bf16 : Fmt := ⟨8, 7, 127, .ieee, false⟩
/-- FP16 (R94). -/
def fp16 : Fmt := ⟨5, 10, 15, .ieee, false⟩
/-- E4M3 (R94). -/
def e4m3 : Fmt := ⟨4, 3, 7, .e4m3, true⟩
/-- E5M2 (R94). -/
def e5m2 : Fmt := ⟨5, 2, 15, .ieee, false⟩
/-- E3M2 (R94). -/
def e3m2 : Fmt := ⟨3, 2, 3, .none, true⟩
/-- E2M3 (R94). -/
def e2m3 : Fmt := ⟨2, 3, 1, .none, true⟩
/-- E2M1 (R94). -/
def e2m1 : Fmt := ⟨2, 1, 1, .none, true⟩
/-- A20, the cell accumulator (R94, R97). -/
def a20 : Fmt := ⟨8, 11, 127, .ieee, false⟩

/-- Bits of a code. -/
def bits (f : Fmt) : Nat := 1 + f.ebits + f.fbits

/-- The largest finite magnitude code (R94). -/
def maxCode (f : Fmt) : Nat :=
  match f.specials with
  | .ieee => (2 ^ f.ebits - 1) * 2 ^ f.fbits - 1
  | .e4m3 => 2 ^ (f.ebits + f.fbits) - 2
  | .none => 2 ^ (f.ebits + f.fbits) - 1

/-- The exponent of the largest finite value, e_max of R163. -/
def emax (f : Fmt) : Int := ((f.maxCode / 2 ^ f.fbits : Nat) : Int) - (f.bias : Int)

/-- The canonical NaN code (R98); 0 in a format that has none (R111). -/
def nanCode (f : Fmt) : Nat :=
  match f.specials with
  | .ieee => (2 ^ f.ebits - 1) * 2 ^ f.fbits + (if f.fbits = 2 then 3 else 2 ^ (f.fbits - 1))
  | .e4m3 => 0x7F
  | .none => 0

/-- The sign bit of a code. -/
def signBit (f : Fmt) : Nat := 2 ^ (f.ebits + f.fbits)
end Fmt

/-- The value a code denotes (R95). -/
def decode (f : Fmt) (code : Nat) : Num :=
  let neg := code.testBit (f.ebits + f.fbits)
  let e := fld code f.fbits f.ebits
  let m := code % 2 ^ f.fbits
  let finite : Num :=
    if e = 0 then .fin neg m (1 - (f.bias : Int) - (f.fbits : Int))
    else .fin neg (m + 2 ^ f.fbits) ((e : Int) - (f.bias : Int) - (f.fbits : Int))
  match f.specials with
  | .ieee => if e = 2 ^ f.ebits - 1 then (if m = 0 then .inf neg else .nan) else finite
  | .e4m3 => if e = 2 ^ f.ebits - 1 ∧ m = 2 ^ f.fbits - 1 then .nan else finite
  | .none => finite

/-- `m` ÷ 2^`k` rounded to nearest, ties to even. -/
def rneShift (m k : Nat) : Nat :=
  let q := m / 2 ^ k
  let r := m % 2 ^ k
  if k = 0 then m
  else if r < 2 ^ (k - 1) then q
  else if 2 ^ (k - 1) < r then q + 1
  else q + q % 2

/-- The exponent of the quantum of a format at the magnitude `m` × 2^`e` (R109, R118). -/
def quantumExp (f : Fmt) (m : Nat) (e : Int) : Int :=
  max ((Nat.log2 m : Int) + e) (1 - (f.bias : Int)) - (f.fbits : Int)

/-- The magnitude code of `n` quanta of exponent `q`. -/
def magCode (f : Fmt) (q : Int) (n : Nat) : Nat :=
  (q + (f.fbits : Int) + (f.bias : Int) - 1).toNat * 2 ^ f.fbits + n

/-- A sign put on a magnitude code. -/
def withSign (f : Fmt) (neg : Bool) (c : Nat) : Nat := if neg then c + f.signBit else c

/-- The infinity code of a format that has one. -/
def infCode (f : Fmt) (neg : Bool) : Nat := withSign f neg ((2 ^ f.ebits - 1) * 2 ^ f.fbits)

/-- What a non-finite value converts to under a plain conversion (R111). -/
def nonFinite (f : Fmt) : Num → Nat
  | .inf neg => match f.specials with
    | .ieee => infCode f neg
    | _ => f.nanCode
  | _ => f.nanCode

/-- Round to nearest even into a format (R109, R110, R111). -/
def rne (f : Fmt) : Num → Nat
  | .fin neg m e =>
    if m = 0 then withSign f neg 0
    else
      let q := quantumExp f m e
      let n := if q ≤ e then m * 2 ^ (e - q).toNat else rneShift m (q - e).toNat
      let c := magCode f q n
      if c ≤ f.maxCode then withSign f neg c
      else if f.saturating then withSign f neg f.maxCode
      else infCode f neg
  | x => nonFinite f x

/-- Stochastic rounding with `k` random bits `r` (R118, R110, R111). -/
def stochastic (f : Fmt) (k r : Nat) : Num → Nat
  | .fin neg m e =>
    let q := if m = 0 then 1 - (f.bias : Int) - (f.fbits : Int) else quantumExp f m e
    let ue := q - (k : Int)
    let t := if ue ≤ e then m * 2 ^ (e - ue).toNat else m / 2 ^ (ue - e).toNat
    let y := t + r
    if y = 0 then withSign f neg 0
    else
      let q' := quantumExp f y ue
      let z := if q' ≤ ue then y * 2 ^ (ue - q').toNat else y / 2 ^ (q' - ue).toNat
      let c := magCode f q' z
      withSign f neg (if c ≤ f.maxCode then c else f.maxCode)
  | x => nonFinite f x

/-- The signed integer `a` × 2^`e` as an exact value; an exact zero is +0. -/
def Num.ofInt (a e : Int) : Num := .fin (decide (a < 0)) a.natAbs e

/-- Exact addition, with the zero and non-finite rules of IEEE 754 and R130. -/
def Num.add : Num → Num → Num
  | .nan, _ => .nan
  | _, .nan => .nan
  | .inf a, .inf b => if a = b then .inf a else .nan
  | .inf a, _ => .inf a
  | _, .inf b => .inf b
  | .fin n₁ m₁ e₁, .fin n₂ m₂ e₂ =>
    if m₁ = 0 ∧ m₂ = 0 then .fin (n₁ && n₂) 0 0
    else
      let e := min e₁ e₂
      let a : Int := (m₁ * 2 ^ (e₁ - e).toNat : Nat)
      let b : Int := (m₂ * 2 ^ (e₂ - e).toNat : Nat)
      Num.ofInt ((if n₁ then -a else a) + (if n₂ then -b else b)) e

/-- Exact negation. -/
def Num.neg : Num → Num
  | .nan => .nan
  | .inf a => .inf (!a)
  | .fin n m e => .fin (!n) m e

/-- Exact multiplication (R130 for zero and non-finite products). -/
def Num.mul : Num → Num → Num
  | .nan, _ => .nan
  | _, .nan => .nan
  | .inf a, .inf b => .inf (a != b)
  | .inf a, .fin n m _ => if m = 0 then .nan else .inf (a != n)
  | .fin n m _, .inf b => if m = 0 then .nan else .inf (n != b)
  | .fin n₁ m₁ e₁, .fin n₂ m₂ e₂ => .fin (n₁ != n₂) (m₁ * m₂) (e₁ + e₂)

/-- Exact multiplication by 2^`k`. -/
def Num.scale (k : Int) : Num → Num
  | .fin n m e => .fin n m (e + k)
  | x => x

/-- Whether a value is NaN. -/
def Num.isNan : Num → Bool
  | .nan => true
  | _ => false

/-- Whether a value is finite. -/
def Num.isFin : Num → Bool
  | .fin _ _ _ => true
  | _ => false

/-- Whether a value is zero. -/
def Num.isZero : Num → Bool
  | .fin _ m _ => m == 0
  | _ => false

/-- The sign of a value. -/
def Num.isNeg : Num → Bool
  | .nan => false
  | .inf n => n
  | .fin n _ _ => n

/-- `a < b` for non-NaN values; the two zeros are equal. -/
def Num.lt : Num → Num → Bool
  | .nan, _ => false
  | _, .nan => false
  | .inf a, .inf b => a && !b
  | .inf a, .fin _ _ _ => a
  | .fin _ _ _, .inf b => !b
  | .fin n₁ m₁ e₁, .fin n₂ m₂ e₂ =>
    let e := min e₁ e₂
    let a : Int := (m₁ * 2 ^ (e₁ - e).toNat : Nat)
    let b : Int := (m₂ * 2 ^ (e₂ - e).toNat : Nat)
    decide ((if n₁ then -a else a) < (if n₂ then -b else b))

/-- `a = b` for values; NaN equals nothing, the two zeros are equal. -/
def Num.eqv (a b : Num) : Bool := !a.isNan && !b.isNan && !a.lt b && !b.lt a

/-- The value of an FP32 word. -/
def f32 (w : Word) : Num := decode .fp32 w.toNat

/-- A value rounded to an FP32 word. -/
def toF32 (x : Num) : Word := BitVec.ofNat 32 (rne .fp32 x)

/-- The canonical FP32 NaN (R98). -/
def nan32 : Word := 0x7FC00000

/-- FP32 addition, rounded once. -/
def fadd (a b : Word) : Word := toF32 ((f32 a).add (f32 b))

/-- FP32 multiplication, rounded once. -/
def fmul (a b : Word) : Word := toF32 ((f32 a).mul (f32 b))

/-- FP32 negation of the sign bit. -/
def fneg (a : Word) : Word := a ^^^ 0x80000000

/-- FP32 magnitude. -/
def fabs32 (a : Word) : Word := a &&& 0x7FFFFFFF

/-- The value of an E8M0 code: `none` is NaN (R96). -/
def e8m0Exp (c : Nat) : Option Int := if c % 256 = 255 then none else some ((c % 256 : Nat) - 127 : Int)

/-- FP32 to E8M0 (R112). -/
def toE8m0 (x : Num) : Nat :=
  match x with
  | .fin _ m e => if m = 0 then 0 else min 254 (127 + ((Nat.log2 m : Int) + e)).toNat
  | _ => 255

/-- A block element under its scale, exactly (R100). -/
def blockNum (f : Fmt) (scale code : Nat) : Num :=
  match e8m0Exp scale with
  | none => .nan
  | some k => (decode f code).scale k

/-- Round a non-negative magnitude to an integer, ties to even. -/
def rneInt (m : Nat) (e : Int) : Nat := if 0 ≤ e then m * 2 ^ e.toNat else rneShift m (-e).toNat

/-- A value held to the codes of `b` bits, the integer part given (R113). -/
def clampCode (b : Nat) (neg : Bool) (n : Nat) : Nat := if neg then 0 else min n (2 ^ b - 1)

/-- FP32 to an integer code of `b` bits; `sr` gives SR_BITS and the random bits (R113). -/
def toIntCode (b : Nat) (sr : Option (Nat × Nat)) : Num → Nat
  | .nan => 0
  | .inf neg => if neg then 0 else 2 ^ b - 1
  | .fin neg m e =>
    match sr with
    | none => clampCode b neg (rneInt m e)
    | some (k, r) =>
      let t := if -(k : Int) ≤ e then m * 2 ^ (e + k).toNat else m / 2 ^ (-(k : Int) - e).toNat
      clampCode b neg ((t + r) / 2 ^ k)

/-! Lane generators (R115, R116). -/

/-- One step of a lane generator (R115). -/
def lfsrStep (s : DWord) : DWord :=
  let n := (s >>> 63) ^^^ (s >>> 62) ^^^ (s >>> 60) ^^^ (s >>> 59)
  (s <<< 1) ||| (n &&& 1)

/-- `n` steps of a lane generator. -/
def lfsrSteps : Nat → DWord → DWord
  | 0, s => s
  | n + 1, s => lfsrSteps n (lfsrStep s)

/-- One use: the generator advanced 32 steps (R115). -/
def lfsrUse (s : DWord) : DWord := lfsrSteps 32 s

/-- The random integer of a use, from the advanced generator (R115). -/
def lfsrDraw (k : Nat) (s : DWord) : Nat := s.toNat % 2 ^ k

/-- The value a SEED with step number `n` gives lane `l` of core `c` (R116). -/
def seedLane (seed : DWord) (n c l : Nat) : DWord :=
  let v := seed ^^^ BitVec.ofNat 64 (n * 2 ^ 16) ^^^ BitVec.ofNat 64 (64 * c + l)
  if v = 0 then 1 else v

/-! Elementary functions, correctly rounded (R150): exact integers for RCP and RSQ, fixed point far beyond the
target precision for EXP2 and LOG2. -/

/-- The integer square root of `n`, built from bit `b` down. -/
def isqrtFrom : Nat → Nat → Nat → Nat
  | 0, _, r => r
  | b + 1, n, r => let t := r + 2 ^ b; isqrtFrom b n (if t * t ≤ n then t else r)

/-- The integer square root. -/
def isqrt (n : Nat) : Nat := isqrtFrom (Nat.log2 n / 2 + 1) n 0

/-- An exact quotient `n` ÷ `d` × 2^`e` kept to `k` bits with a sticky bit below. -/
def quotSticky (neg : Bool) (n d k : Nat) (e : Int) : Num :=
  let q := n * 2 ^ k / d
  .fin neg (2 * q + (if n * 2 ^ k % d = 0 then 0 else 1)) (e - (k : Int) - 1)

/-- 1 ÷ x (R150), before rounding. -/
def rcpNum : Num → Num
  | .nan => .nan
  | .inf neg => .fin neg 0 0
  | .fin neg m e => if m = 0 then .inf neg else quotSticky neg 1 m 80 (-e)

/-- 1 ÷ √x (R150), before rounding. -/
def rsqNum : Num → Num
  | .nan => .nan
  | .inf neg => if neg then .nan else .fin false 0 0
  | .fin neg m e =>
    if m = 0 then .inf neg
    else if neg then .nan
    else
      let m' := if e % 2 = 0 then m else 2 * m
      let e' := if e % 2 = 0 then e else e - 1
      let k : Nat := 80
      let y := isqrt (2 ^ (2 * k) / m')
      let st := if y * y * m' = 2 ^ (2 * k) then 0 else 1
      .fin false (2 * y + st) (-(e' / 2) - (k : Int) - 1)

/-- The fixed point of the elementary functions: 256 fraction bits. -/
abbrev fixedBits : Nat := 256

/-- ln 2 × 2^256, truncated. -/
def ln2Fixed : Nat := 0xB17217F7D1CF79ABC9E3B39803F2F6AF40F343267298B62D8A0D175B8BAAFA2B

/-- Taylor terms of e^y from term `k`, `y` and the running term in fixed point. -/
def expSeries : Nat → Nat → Nat → Nat → Nat
  | 0, _, _, _ => 0
  | n + 1, k, y, t => t + expSeries n (k + 1) y (t * y / 2 ^ fixedBits / (k + 1))

/-- Terms of atanh z from exponent 2k + 1, in fixed point. -/
def atanhSeries : Nat → Nat → Nat → Nat → Nat
  | 0, _, _, _ => 0
  | n + 1, k, z2, t => t / (2 * k + 1) + atanhSeries n (k + 1) z2 (t * z2 / 2 ^ fixedBits)

/-- 2^x (R150), before rounding: exact at integers, 256 fraction bits elsewhere. -/
def exp2Num : Num → Num
  | .nan => .nan
  | .inf neg => if neg then .fin false 0 0 else .inf false
  | .fin neg m e =>
    if m = 0 then .fin false 1 0
    else if 20 ≤ (Nat.log2 m : Int) + e then (if neg then .fin false 1 (-100000) else .inf false)
    else
      let x : Int := if 0 ≤ e + (fixedBits : Int) then ((m * 2 ^ (e + (fixedBits : Int)).toNat : Nat) : Int) else 0
      let x := if neg then -x else x
      let n : Int := x / ((2 ^ fixedBits : Nat) : Int)
      let f : Nat := (x % ((2 ^ fixedBits : Nat) : Int)).toNat
      if f = 0 then .fin false 1 n
      else .fin false (2 * expSeries 64 0 (f * ln2Fixed / 2 ^ fixedBits) (2 ^ fixedBits) + 1)
        (n - (fixedBits : Int) - 1)

/-- log₂ x (R150), before rounding: exact at powers of two, 256 fraction bits elsewhere. -/
def log2Num : Num → Num
  | .nan => .nan
  | .inf neg => if neg then .nan else .inf false
  | .fin neg m e =>
    if m = 0 then .inf true
    else if neg then .nan
    else
      let k : Nat := Nat.log2 m
      let n : Int := (k : Int) + e
      if m = 2 ^ k then Num.ofInt n 0
      else
        let z := (m - 2 ^ k) * 2 ^ fixedBits / (m + 2 ^ k)
        let ln := 2 * atanhSeries 96 0 (z * z / 2 ^ fixedBits) z
        let l := ln * 2 ^ fixedBits / ln2Fixed
        Num.ofInt (2 * (n * ((2 ^ fixedBits : Nat) : Int) + (l : Int)) + 1) (-(fixedBits : Int) - 1)

/-! Element types and packing (R101, R105 to R107, R124). -/

/-- Element types of tensors: the codes of R124 and FP32. -/
inductive Elem where
  | fp32 | bf16 | fp16 | e4m3 | e5m2 | e3m2 | e2m3 | e2m1 | int4 | int3 | int2
  deriving DecidableEq, Repr

/-- Bits per element. -/
def Elem.width : Elem → Nat
  | .fp32 => 32 | .bf16 => 16 | .fp16 => 16 | .e4m3 => 8 | .e5m2 => 8 | .e3m2 => 6 | .e2m3 => 6 | .e2m1 => 4
  | .int4 => 4 | .int3 => 3 | .int2 => 2

/-- The floating-point format of an element type, none for integer codes. -/
def Elem.fmt : Elem → Option Fmt
  | .fp32 => some .fp32 | .bf16 => some .bf16 | .fp16 => some .fp16 | .e4m3 => some .e4m3 | .e5m2 => some .e5m2
  | .e3m2 => some .e3m2 | .e2m3 => some .e2m3 | .e2m1 => some .e2m1 | _ => none

/-- Whether the type is an element type of a native block format (FP8, FP6, FP4). -/
def Elem.isBlock : Elem → Bool
  | .e4m3 | .e5m2 | .e3m2 | .e2m3 | .e2m1 => true
  | _ => false

/-- Whether the type is an integer code. -/
def Elem.isInt : Elem → Bool
  | .int4 | .int3 | .int2 => true
  | _ => false

/-- Whether the type is FP8. -/
def Elem.isFp8 : Elem → Bool
  | .e4m3 | .e5m2 => true
  | _ => false

/-- The value an element code denotes; an integer code denotes its integer. -/
def Elem.num (t : Elem) (code : Nat) : Num :=
  match t.fmt with
  | some f => decode f code
  | none => .fin false code 0

/-- Element `i` of a packed little-endian stream whose value is `n` (R101). -/
def packedElem (t : Elem) (n i : Nat) : Nat := fld n (i * t.width) t.width

/-- A stream of codes of `w` bits packed from the low end (R101). -/
def packCodes (w : Nat) : List Nat → Nat
  | [] => 0
  | c :: cs => c % 2 ^ w + 2 ^ w * packCodes w cs

/-- Expansion by scale and zero point: scale × (q − Z), formed exactly; a zero difference gives +0 (R107). -/
def scaleZero (param q : Nat) : Num :=
  let d : Int := (q : Int) - (fld param 16 8 : Int)
  if d = 0 then .fin false 0 0 else (decode .bf16 (fld param 0 16)).mul (Num.ofInt d 0)

end Sys2Proof.Machine
end

