-- ==== Sys2Proof/Machine/Operands.lean ====
section
/-!
DEFINITION. Operand forms of the vector and MOVE engines: format codes (R155), blocks with measured scales (R164,
R165), elements under predicted scales (R167), accumulate writes of plain elements (R199), and exponent histograms
(R176).
-/
namespace Sys2Proof.Machine

/-! ## Format codes (R155) -/

/-- What a format code of R155 names: an element type, a raw lane of some bits, or an E8M0 scale. -/
inductive VFmt where
  | elem (t : Elem)
  | raw (bits : Nat)
  | e8m0
  deriving DecidableEq, Repr

/-- The format a code names, none for the reserved code (R155). -/
def vfmtOf : Nat → Option VFmt
  | 0x0 => some (.elem .fp32) | 0x1 => some (.elem .bf16) | 0x2 => some (.elem .fp16) | 0x3 => some (.elem .e4m3)
  | 0x4 => some (.elem .e5m2) | 0x5 => some (.elem .e3m2) | 0x6 => some (.elem .e2m3) | 0x7 => some (.elem .e2m1)
  | 0x8 => some (.raw 32) | 0x9 => some (.raw 16) | 0xA => some (.raw 8)
  | 0xB => some (.elem .int4) | 0xC => some (.elem .int3) | 0xD => some (.elem .int2) | 0xE => some .e8m0
  | _ => none

/-- Bits of a code of a format. -/
def VFmt.width : VFmt → Nat
  | .elem t => t.width
  | .raw b => b
  | .e8m0 => 8

/-- The word a code widens to: numeric formats exactly to FP32, raw formats zero-extended (R108, R152, R155). -/
def VFmt.widen (f : VFmt) (code : Nat) : Word :=
  match f with
  | .elem t => toF32 (t.num (code % 2 ^ t.width))
  | .raw b => BitVec.ofNat 32 (code % 2 ^ b)
  | .e8m0 => match e8m0Exp code with
    | none => nan32
    | some k => toF32 (.fin false 1 k)

/-- An FP32 value converted to an element type, plainly; `sr` gives SR_BITS and the random bits of a stochastic
conversion (R108 to R118). -/
def narrow (t : Elem) (sr : Option (Nat × Nat)) (x : Num) : Nat :=
  match t.fmt with
  | none => toIntCode t.width sr x
  | some f => match sr with
    | none => rne f x
    | some (k, r) => stochastic f k r x

/-! ## Blocks -/

/-- The exponent of the largest finite value of an element type (R164). -/
def Elem.emax (t : Elem) : Int :=
  match t.fmt with
  | some f => f.emax
  | none => 0

/-- ⌊log₂⌋ of a finite magnitude, none for zero. -/
def Num.log2 : Num → Option Int
  | .fin _ m e => if m = 0 then none else some ((Nat.log2 m : Int) + e)
  | _ => none

/-- The larger of two optional exponents. -/
def maxExp : Option Int → Option Int → Option Int
  | none, b => b
  | a, none => a
  | some a, some b => some (max a b)

/-- The scale code a block writer measures (R164, R111): ⌊log₂⌋ of the largest magnitude is the largest of the
elements' ⌊log₂⌋. -/
def measureScale (t : Elem) (xs : List Num) : Nat :=
  if xs.any (fun x => !x.isFin) then 0xFF
  else match xs.foldl (fun m x => maxExp m x.log2) none with
    | none => 0
    | some l => min 0xFE (127 + l - t.emax).toNat

/-- A finite value rounded into an element type, a magnitude above its largest finite value becoming that value
(R165, R167). -/
def narrowSat (t : Elem) (sr : Option (Nat × Nat)) (x : Num) : Nat :=
  match t.fmt with
  | none => toIntCode t.width sr x
  | some f => match sr with
    | none => rne { f with saturating := true } x
    | some (k, r) => stochastic f k r x

/-- The codes of a block a block writer writes under a scale code; `draws` holds SR_BITS and each element's random bits
when it rounds stochastically (R111, R165). -/
def blockCodes (t : Elem) (scale : Nat) (draws : Option (Nat × List Nat)) : List Num → List Nat
  | [] => []
  | x :: xs =>
    let (sr, rest) := match draws with
      | none => (none, none)
      | some (k, rs) => (some (k, rs.headD 0), some (k, rs.tail))
    (if scale = 0xFF then 0 else narrowSat t sr (x.scale (127 - (scale : Int)))) :: blockCodes t scale rest xs

/-- The value of element code `q` of a block with scale code `c` (R100). -/
def blockValue (t : Elem) (c q : Nat) : Num :=
  match t.fmt with
  | some f => blockNum f c q
  | none => .nan

/-- Whether a finite value rounds past the largest finite value of an element type (R167). -/
def saturates (t : Elem) (x : Num) : Bool :=
  match t.fmt, x with
  | some f, .fin _ m e =>
    if m = 0 then false
    else
      let q := quantumExp f m e
      let n := if q ≤ e then m * 2 ^ (e - q).toNat else rneShift m (q - e).toNat
      decide (f.maxCode < magCode f q n)
  | _, _ => false

/-- An FP32 sum stored into an element under a predicted scale: the element and whether it saturated (R167). -/
def predicted (t : Elem) (c : Nat) (s : Num) : Nat × Bool :=
  match s with
  | .fin _ _ _ =>
    let x := s.scale (127 - (c : Int))
    (narrowSat t none x, saturates t x)
  | _ => (narrow t none s, false)

/-- What an accumulate write adds: the old value, the addend, and the sum as an FP32 word (R167, R199). -/
def accSum (d : Num) (y : Word) : Word := toF32 (d.add (f32 y))

/-- An accumulate write into a block element: the new code, whether it saturated, and the FP32 sum the histogram
records (R167, R177). -/
def accBlock (t : Elem) (c q : Nat) (y : Word) : Nat × Bool × Word :=
  let s := accSum (blockValue t c q) y
  let (code, sat) := predicted t c (f32 s)
  (code, sat, s)

/-- An accumulate write into an FP32 or BF16 element: the new code, and the FP32 sum the histogram records (R199). -/
def accPlain (t : Elem) (q : Nat) (y : Word) : Nat × Word :=
  let x := (t.num q).add (f32 y)
  (narrow t none x, toF32 x)

/-- The canonical NaN code of an element type (R98). -/
def Elem.nanCode (t : Elem) : Nat :=
  match t.fmt with
  | some f => f.nanCode
  | none => 0

/-! ## Exponent histograms (R176, R177) -/

/-- The bin an FP32 word goes to (R176). -/
def histBin (w : Word) : Nat :=
  let f := fld w.toNat 23 8
  let m := fld w.toNat 0 23
  if f = 255 then (if m = 0 then 66 else 67)
  else if f = 0 then (if m = 0 then 64 else 65)
  else f / 4

/-- The table key of a bin of a histogram slot. -/
def histKey (slot bin : Nat) : Nat := slot * 128 + bin

/-- One count in a histogram slot of a core (R176, R177). -/
def histAdd (k : Core) (slot : Nat) (w : Word) : Core :=
  let key := histKey slot (histBin w)
  { k with hist := tset 0 key (satInc (tget 0 key k.hist)) k.hist }

/-- Counts for several words in a histogram slot of a core. -/
def histAddAll (k : Core) (slot : Nat) (ws : List Word) : Core := ws.foldl (fun k w => histAdd k slot w) k

/-- Counts for several words in a histogram slot of core `c`. -/
def histRecord (s : State) (c slot : Nat) (ws : List Word) : State := updCore s c (fun k => histAddAll k slot ws)

end Sys2Proof.Machine
end

