-- ==== Sys2Proof/Machine/Packets.lean ====
section
/-!
DEFINITION. Routed packets: their headers, the answers they get, and where a packet enters a link die (R282 to R286,
R291); tags (R285, R288); operations in flight and their launch (R87).
-/
namespace Sys2Proof.Machine

/-! ## Headers (R283, R284) -/

/-- A field of a header. -/
def pf (p : Packet) (lo w : Nat) : Nat := fld p.header.toNat lo w
/-- TYPE. -/
def Packet.type (p : Packet) : Nat := pf p 0 8
/-- DST. -/
def Packet.dst (p : Packet) : Nat := pf p 8 14
/-- SRC. -/
def Packet.src (p : Packet) : Nat := pf p 22 14
/-- TAG. -/
def Packet.tag (p : Packet) : Nat := pf p 36 13
/-- SUNIT. -/
def Packet.sunit (p : Packet) : Nat := pf p 49 3
/-- CTX. -/
def Packet.ctx (p : Packet) : Nat := pf p 52 5
/-- KEY. -/
def Packet.key (p : Packet) : Nat := pf p 57 6
/-- ADDR of a memory request. -/
def Packet.addr (p : Packet) : Nat := pf p 64 50
/-- Length in bytes of a memory request, 0 for a flush. -/
def Packet.len (p : Packet) : Nat := 4 * pf p 114 8
/-- STATUS of an answer. -/
def Packet.status (p : Packet) : Nat := pf p 64 4

/-- A header from its common fields and its upper half (R283, R284). -/
def mkHeader (type dst src tag sunit ctx key upper : Nat) : QWord :=
  BitVec.ofNat 128 (type + dst % 2 ^ 14 * 2 ^ 8 + src % 2 ^ 14 * 2 ^ 22 + tag % 2 ^ 13 * 2 ^ 36 + sunit % 8 * 2 ^ 49
    + ctx % 32 * 2 ^ 52 + key % 64 * 2 ^ 57 + upper * 2 ^ 64)

/-- The virtual channel of a packet type (R282). -/
def vcOfType (t : Nat) : Nat := if t < 0x10 then 0 else if t < 0x20 then 1 else if t < 0x30 then 2 else 3

/-- Whether a packet type is listed in R282. -/
def typeListed (t : Nat) : Bool := [1, 2, 3, 4, 5, 6, 0x10, 0x11, 0x12, 0x20, 0x30, 0x31].contains t

/-- Whether a request of a type holds a tag (R282). -/
def typeTagged (t : Nat) : Bool := [1, 2, 4, 5, 6].contains t

/-- The answer type of a request type (R282). -/
def answerType (t : Nat) : Nat := if t = 1 then 0x10 else if t = 4 then 0x12 else 0x11

/-- The node number this device puts in SRC: 0x3FFF while unassigned (R271, R283). -/
def srcNode (s : State) : Nat := if assigned s then thisNode s else 0x3FFF

/-- The data of an answer: an ATOMIC_RSP keeps two slots, with NaN words for the old value it does not have (R286). -/
def answerData (req : Packet) (status : Nat) (data : List Byte) : List Byte :=
  if req.type ≠ 4 then data
  else
    let n := if pf req 117 1 = 1 then 8 else 4
    let old := if status = 0 ∨ !data.isEmpty then data else toBytes n nanQuad
    (old ++ List.replicate 16 0).take 16

/-- The answer to a request: TAG and SUNIT copied, DST the request's SRC, CTX and KEY 0 (R283). -/
def answer (s : State) (req : Packet) (status : Nat) (data : List Byte) : Packet :=
  let t := answerType req.type
  ⟨mkHeader t req.src (srcNode s) req.tag req.sunit 0 0 (status + (if t = 0x10 then data.length / 4 * 2 ^ 4 else 0)),
   answerData req status data⟩

/-- A packet enters link die `d`, from this device or from a port (R291). -/
def route (s : State) (d : Nat) (p : Packet) (ingress : Option Nat) : State :=
  { s with
    routers := tset [] d (tget [] d s.routers ++ [⟨p, ingress, s.routeSeq⟩]) s.routers, routeSeq := s.routeSeq + 1 }

/-! ## Tags (R88, R285) -/

/-- The table key of a tag. -/
def tagKey (sunit tag : Nat) : Nat := sunit * 8192 + tag

/-- The state of a tag. -/
def tagState (s : State) (sunit tag : Nat) : TagState := tget .free (tagKey sunit tag) s.tags

/-- A tag's state replaced. -/
def setTag (s : State) (sunit tag : Nat) (t : TagState) : State :=
  { s with tags := tset .free (tagKey sunit tag) t s.tags }

/-- The first free tag from `base`, among `n`. -/
def freeTag (s : State) (sunit : Nat) : Nat → Nat → Option Nat
  | _, 0 => none
  | base, n + 1 => if tagState s sunit base = .free then some base else freeTag s sunit (base + 1) n

/-! ## Operations in flight (R87) -/

/-- A core has room for one more operation in flight (R49, R87). -/
def hasRoom (k : Core) : Bool := decide (k.ops.length < 256)

/-- An operation takes an in-flight place. -/
def Core.push (k : Core) (o : Op) : Core := { k with ops := k.ops ++ [{ o with id := k.nextOp }], nextOp := k.nextOp + 1 }

/-- The operation of a core with identity `id`. -/
def Core.op (k : Core) (id : Nat) : Option Op := k.ops.find? (fun o => o.id == id)

/-- The operation with identity `id` removed from a core: its place is free. -/
def Core.drop (k : Core) (id : Nat) : Core := { k with ops := k.ops.filter (fun o => o.id != id) }

/-- The operation with identity `id` changed by `f`. -/
def Core.mapOp (k : Core) (id : Nat) (f : Op → Op) : Core :=
  { k with ops := k.ops.map (fun o => if o.id = id then f o else o) }

/-- An operation of a kind launched from almanac slot `slot` for context `ctx`, with nothing in it yet. -/
def Op.mk0 (kind : OpKind) (ctx slot hist : Nat) : Op :=
  ⟨0, kind, 0, 0, 0, ctx, hist, slot, [], 0, 0, false, false, false, [], .none⟩

/-! ## Descriptors (R41) -/

/-- The Larder address of descriptor `desc` of core `c` within its Larder (R41): `none` when it passes the end. -/
def descOffset (k : Core) (desc : Nat) : Option Nat :=
  if k.heldDesc + 64 * desc + 64 ≤ 2 ^ 21 then some (k.heldDesc + 64 * desc) else none

/-- A core reads one of its descriptors: the state after, the image (none past the Larder's end), and whether the read
met an uncorrectable codeword. -/
def readDesc (s : State) (c desc : Nat) : State × Option (BitVec 512) × Bool :=
  match descOffset (core s c) desc with
  | none => (s, none, false)
  | some o =>
    let (s1, v, ok) := readMem s 0 (larderAddr c + o) 64
    (s1, some (BitVec.ofNat 512 v), !ok)

/-- A field of a descriptor. -/
def df (d : BitVec 512) (lo w : Nat) : Nat := fld d.toNat lo w

/-- The DESC_FAULT record of a refused or faulting descriptor (R127). -/
def descFault (s : State) (c reason unit desc : Nat) : State :=
  coreRecord s c 0x02 0x07 (det (reason * 2 ^ 24 + unit * 2 ^ 16 + desc))

end Sys2Proof.Machine
end

