-- ==== Sys2Proof/Machine/Ops.lean ====
section
/-!
DEFINITION. Operations several units share: cellar addresses (R154), endpoints (R194), the harvest region (R338),
first touches (R340), free values, residency tags named by a descriptor (R196, R201), and the completion of an
operation in flight (R82, R83, R87).
-/
namespace Sys2Proof.Machine

/-! ## Free values -/

/-- `n` free bytes as a number. -/
def freshBytes (s : State) : Nat → State × Nat
  | 0 => (s, 0)
  | n + 1 =>
    let (s1, w) := freshWord s
    let (s2, r) := freshBytes s1 n
    (s2, w.toNat % 256 + 256 * r)

/-! ## Cellar addresses (R154) -/

/-- Whether the harvest region of every commons is protected (R338). -/
def regionHeld (s : State) : Bool :=
  enabled s .harvest 0 || rf s .harvest 0 Off.harvestRefillState 0 3 == 1
    || rf s .harvest 0 Off.harvestRefillState 0 3 == 2

/-- The commons offset at which the harvest region begins (R338). -/
abbrev harvestRegion : Nat := 0x1FC0000

/-- The memory address of `n` bytes at a cellar address of core `c`; none when they leave their space, or touch a
protected harvest region (R154, R338). -/
def cellarRange (s : State) (c a n : Nat) : Option Nat :=
  let off := a % 2 ^ 25
  if fld a 25 5 ≠ 0 then none
  else match a / 2 ^ 30 with
    | 0 => if off + n ≤ 2 ^ 21 then some (larderAddr c + off) else none
    | 1 => if off + n ≤ 2 ^ 18 then some (tallyAddr c + off) else none
    | 2 =>
      if off + n ≤ (if regionHeld s then harvestRegion else 2 ^ 25) then some (commonsAddr (c / 128) + off) else none
    | _ => none

/-! ## Endpoints (R194) -/

/-- Whether an endpoint names a context address (R194). -/
def epContext (e : Nat) : Bool := e.testBit 63

/-- Whether an endpoint has a bit set that R194 requires to be 0. -/
def epReserved (e : Nat) : Bool := if epContext e then fld e 48 15 != 0 else fld e 32 31 != 0

/-- The endpoint of row `r`: its address advanced by `r` pitches. A cellar address keeps 32 bits and a carry out of
them leaves every space; a context address that passes 2⁴⁸ names no entry. -/
def epRow (e pitch r : Nat) : Nat := e % 2 ^ 63 + r * pitch

/-- Why one row of one operand fails: the reason of R197, and for a Terrier failure its reason of R276 and the entry
index. -/
structure RowFault where
  reason : Nat
  terrier : Nat
  index : Nat
  deriving DecidableEq, Repr

/-- Where one row of an operand lies: local address, key slot, whether it is this node's, its node, and the place it
lies in. -/
structure RowPlace where
  addr : Nat
  key : Nat
  node : Nat
  deriving DecidableEq, Repr

/-- One row of an operand of `n` bytes translated for core `c` in the resident context (R154, R194, R272). -/
def rowPlace (s : State) (c e pitch r n : Nat) (perm : Option Perm) : Except RowFault RowPlace :=
  let a := epRow e pitch r
  if epContext e then
    if 2 ^ 48 ≤ a then .error ⟨0x0D, 0x01, a / 2 ^ 32 % 2 ^ 16⟩
    else match translate s (c / 128) (resident s) a n perm with
      | .error t => .error ⟨0x0D, t, a / 2 ^ 32⟩
      | .ok t => .ok ⟨t.addr, t.key, t.node⟩
  else match cellarRange s c a n with
    | none => .error ⟨0x0C, 0, 0⟩
    | some x => .ok ⟨x, 0, thisNode s⟩

/-- The FABRIC TERRIER record of a core (R276). -/
def terrierRecord (s : State) (c unit reason index : Nat) : State :=
  coreRecord s c 0x06 0x03 (det (reason * 2 ^ 24 + unit * 2 ^ 16 + index % 2 ^ 16))

/-- Whether a place is of a kind. -/
def atKind (a : Nat) (k : MemKind) : Bool :=
  match placeOf a with
  | some p => p.kind == k
  | none => false

/-! ## Operations in flight -/

/-- A residency tag of a core of die `d` advanced, unless that core is OFFLINE (R201, R208). -/
def advanceTag (s : State) (d index core' : Nat) (poison : Bool) : State :=
  if coreOffline s (128 * d + core') then s else updCore s (128 * d + core') (fun k => bumpTag k index poison)

/-- Whether an operation reaches a die in a bond self-test, so that it waits (R227). -/
def opTesting (s : State) (o : Op) : Bool := o.places.any (fun l => l.any (fun x => addrTesting s x.1))

/-- An operation of core `c` ends: its place frees, its flag is incremented and then any residency tag it names (R82, R83,
R87, R201). A tag whose core is OFFLINE poisons the flag and is dropped. -/
def finishOp (s : State) (c : Nat) (o : Op) (poison : Bool) (tag : Option (Nat × Nat)) : State :=
  let s1 := updCore s c (fun k => k.drop o.id)
  let off := match tag with
    | some (_, t) => coreOffline s (c / 128 * 128 + t)
    | none => false
  let s2 := completeFlag s1 c o.flag (poison || off)
  match tag with
  | some (i, t) => advanceTag s2 (c / 128) i t poison
  | none => s2

/-- Whether a translated row lies in a cellar or granary in reset (R237). -/
def rowsReset (s : State) (l : List (Except RowFault RowPlace)) : Bool :=
  l.any (fun x => match x with
    | .ok p => addrReset s p.addr
    | .error _ => false)

/-- A descriptor whose rows reach a cellar or granary in reset ends with CELLAR_RESET, and any residency tag it names
advances poisoned (R237, "When things meet" of the memory tiers). -/
def cellarEndTag (s : State) (c unit desc flag : Nat) (tag : Option (Nat × Nat)) : State :=
  let s1 := cellarEnd s c unit desc flag
  match tag with
  | some (i, t) => advanceTag s1 (c / 128) i t true
  | none => s1

/-- A refused descriptor of an engine with no queue of its own: its record and count, and its completion at once with
its flag poisoned (R127, R197). -/
def refuseDesc (s : State) (c reason unit desc flag : Nat) : State :=
  completeFlag (incReg (descFault s c reason unit desc) .core c Off.coreMvFaultCount) c flag true

end Sys2Proof.Machine
end

