-- ==== Sys2Proof/Machine/Move.lean ====
section
/-!
DEFINITION. The MOVE engine (R193 to R201), and the codeword steps of its accumulate writes (R199, R200, R206 to R208).
-/
namespace Sys2Proof.Machine

/-! ## Codeword steps -/

/-- A codeword read, changed by `f` and stored in one step (R200); an uncorrectable one is changed from NaN words
(R208). `f` sees the 16 B and whether they were readable. -/
def rmwWord (s : State) (slot w : Nat) (f : Nat → Bool → Nat) : State :=
  let (s1, old, ok) := readWord s slot w
  storeWord s1 slot w (f old ok)

/-- Read `n` codewords from codeword `w` on: the state after, their bytes, and the numbers of those that could not be
corrected. -/
def readBad (s : State) (slot : Nat) : Nat → Nat → State × Nat × List Nat
  | 0, _ => (s, 0, [])
  | n + 1, w =>
    let (s1, v, ok) := readWord s slot w
    let (s2, r, bad) := readBad s1 slot n (w + 1)
    (s2, v + 2 ^ 128 * r, if ok then bad else w :: bad)

/-- `n` bytes at address `a` with the codewords that could not be corrected (R208). -/
def readRow (s : State) (slot a n : Nat) : State × Nat × List Nat :=
  if n = 0 then (s, 0, [])
  else
    let (s1, v, bad) := readBad s slot ((a + n - 1) / 16 - a / 16 + 1) (a / 16)
    (s1, fld v (8 * (a % 16)) (8 * n), bad)

/-- Whether element `i` of `w` bits at address `a` lies in an uncorrectable codeword. -/
def elemBad (bad : List Nat) (a i w : Nat) : Bool :=
  bad.contains ((a + i * w / 8) / 16) || bad.contains ((a + ((i + 1) * w - 1) / 8) / 16)

/-- What an accumulate write does to one element: its new code, whether it saturated, and the FP32 sum (R167, R199,
R208). `scale` is the predicted scale of a block element. -/
def accElem (t : Elem) (scale : Option Nat) (ok : Bool) (q : Nat) (y : Word) : Nat × Bool × Word :=
  if !ok then (t.nanCode, false, nan32)
  else match scale with
    | some c => accBlock t c q y
    | none => let (code, s) := accPlain t q y; (code, false, s)

/-- The elements of a codeword accumulated into, from element `i` on: element `i + j` takes the `j`-th addend where one
is supplied. Answers the new 16 B, whether any element saturated, and the sums in order. -/
def accCode (t : Elem) (scale : Option Nat) (ok : Bool) : List (Option Word) → Nat → Nat → Nat × Bool × List Word
  | [], _, d => (d, false, [])
  | none :: ys, i, d => accCode t scale ok ys (i + 1) d
  | some y :: ys, i, d =>
    let (code, sat, x) := accElem t scale ok (fld d (i * t.width) t.width) y
    let (d', sats, xs) := accCode t scale ok ys (i + 1) (setFld d (i * t.width) t.width code)
    (d', sat || sats, x :: xs)

/-- An accumulate write of one codeword: the state after, whether any element saturated, the sums, and whether the
codeword was readable (R199, R200). -/
def accWord (s : State) (slot w : Nat) (t : Elem) (scale : Option Nat) (ys : List (Option Word)) :
    State × Bool × List Word × Bool :=
  let (s1, old, ok) := readWord s slot w
  let (new, sat, xs) := accCode t scale ok ys 0 old
  (storeWord s1 slot w new, sat, xs, ok)

/-- The OVF bit of block `j` of a flag-plane row set (R166, R167). -/
def setOvf (s : State) (slot a j : Nat) : State :=
  let b := a + j / 4
  rmwWord s slot (b / 16) (fun d _ => setFld d (8 * (b % 16) + 2 * (j % 4)) 1 1)

/-! ## Descriptors (R193) -/

namespace Mv
/-- KIND. -/
def kind (d : BitVec 512) : Nat := df d 0 4
/-- SFMT. -/
def sfmt (d : BitVec 512) : Nat := df d 4 4
/-- DFMT. -/
def dfmt (d : BitVec 512) : Nat := df d 8 4
/-- Block size. -/
def blk (d : BitVec 512) : Nat := 16 * 2 ^ df d 12 2
/-- SBLOCK. -/
def sblock (d : BitVec 512) : Bool := df d 14 1 == 1
/-- DBLOCK. -/
def dblock (d : BitVec 512) : Bool := df d 15 1 == 1
/-- DIR. -/
def dir (d : BitVec 512) : Bool := df d 16 1 == 1
/-- RTAG. -/
def rtag (d : BitVec 512) : Nat := df d 24 8
/-- RTAG_EN. -/
def rtagEn (d : BitVec 512) : Bool := df d 32 1 == 1
/-- RTAG_CORE. -/
def rtagCore (d : BitVec 512) : Nat := df d 33 7
/-- ROWS. -/
def rows (d : BitVec 512) : Nat := df d 48 16
/-- ROW_LEN. -/
def rowLen (d : BitVec 512) : Nat := df d 128 24
/-- The element type a format code names, FP32 for the codes that name none. -/
def elem (code : Nat) : Elem :=
  match vfmtOf code with
  | some (.elem t) => t
  | _ => .fp32
end Mv

/-- The residency tag a MOVE or FETCH names (R193, R201, R277). -/
def tagOf (d : BitVec 512) : Option (Nat × Nat) := if Mv.rtagEn d then some (Mv.rtag d, Mv.rtagCore d) else none

/-- The codes of the native block element types (R195). -/
def blockCode (c : Nat) : Bool := decide (3 ≤ c) && decide (c ≤ 7)

/-- Whether an operand of the MOVE is in native block format in planar layout (R193). -/
def mvPlanar (d : BitVec 512) : Bool :=
  match Mv.kind d with
  | 1 | 2 => Mv.dblock d
  | 3 => Mv.sblock d || Mv.dblock d
  | 4 => true
  | _ => false

/-- RESERVED_SET (R193 to R195, R197). -/
def mvReserved (d : BitVec 512) : Bool :=
  let k := Mv.kind d
  df d 17 7 != 0 || df d 40 8 != 0 || df d 152 40 != 0
    || [192, 256, 320, 384].any (fun o => epReserved (df d o 64))
    || (decide (k ≤ 4) &&
      ((k == 0 && (Mv.sfmt d != 0 || Mv.dfmt d != 0 || Mv.sblock d || Mv.dblock d))
        || (k == 1 && (Mv.sfmt d != 0 || Mv.sblock d || (!Mv.dblock d && Mv.dfmt d != 0) || df d 192 64 != 0))
        || (k == 2 && Mv.sblock d)
        || (!mvPlanar d && df d 320 64 != 0)
        || (!(Mv.dblock d && (k == 1 || k == 2)) && df d 384 64 != 0)))

/-- Whether the kind and the formats form a row of R195. -/
def mvPair (d : BitVec 512) : Bool :=
  let sf := Mv.sfmt d
  let dfm := Mv.dfmt d
  let sb := Mv.sblock d
  let db := Mv.dblock d
  match Mv.kind d with
  | 0 => true
  | 1 => if db then dfm == 3 || dfm == 4 else dfm == 0
  | 2 => sf == 0 && (if db then dfm == 3 || dfm == 4 else dfm == 0 || dfm == 1)
  | 3 => (sf == 0 && !sb && db && blockCode dfm)
      || (dfm == 0 && !db && (if sb then blockCode sf else decide (1 ≤ sf) && decide (sf ≤ 4)))
  | _ => sf == dfm && sb && db && blockCode sf

/-- One operand of a descriptor: which endpoint it is (0 SRC, 1 DST, 2 SCALE, 3 FLAGS), its endpoint and pitch, bytes
per row, the permission it needs, the alignment of its rows, and the kinds of memory it may lie in. -/
structure Operand where
  index : Nat
  ep : Nat
  pitch : Nat
  bytes : Nat
  perm : Perm
  align : Nat
  kinds : List MemKind
  deriving DecidableEq, Repr

/-- Every kind a MOVE may reach. -/
abbrev anyKind : List MemKind := [.larder, .tally, .commons, .granary, .hbm]

/-- The operands of a MOVE whose formats form a row of R195, in the order SRC, DST, SCALE, FLAGS (R193, R196). -/
def mvOperands (d : BitVec 512) : List Operand :=
  let n := Mv.rowLen d
  let b := Mv.blk d
  let sc := n / b
  let fl := (sc + 3) / 4
  let tagKinds := if Mv.rtagEn d then [MemKind.granary] else anyKind
  let src := fun bytes al => Operand.mk 0 (df d 192 64) (df d 64 32) bytes .r al anyKind
  let dst := fun bytes p al ks =>
    Operand.mk 1 (df d 256 64) (df d 96 32) bytes p al (ks.filter (fun k => tagKinds.contains k))
  let scale := fun p ks => Operand.mk 2 (df d 320 64) (df d 448 32) sc p 64 ks
  let flags := fun p ks => Operand.mk 3 (df d 384 64) (df d 480 32) fl p 64 ks
  let sw := (Mv.elem (Mv.sfmt d)).width
  let dw := (Mv.elem (Mv.dfmt d)).width
  let far : List MemKind := [.granary, .hbm]
  match Mv.kind d with
  | 0 => [src n 4, dst n .w 4 anyKind]
  | 1 => if Mv.dblock d then [dst n .w 64 anyKind, flags .w anyKind] else [dst n .w 4 anyKind]
  | 2 =>
    if Mv.dblock d then [src (4 * n) 4, dst n .d 64 far, scale .r far, flags .d far]
    else [src (4 * n) 4, dst (n * dw / 8) .d 4 [.commons, .granary, .hbm]]
  | 3 =>
    if Mv.dblock d then [src (4 * n) 4, dst (n * dw / 8) .w 64 anyKind, scale .w anyKind]
    else if Mv.sblock d then [src (n * sw / 8) 64, dst (4 * n) .w 4 anyKind, scale .r anyKind]
    else [src (n * sw / 8) 4, dst (4 * n) .w 4 anyKind]
  | _ =>
    if Mv.dir d then [src (n * sw / 8 + sc) 8, dst (n * dw / 8) .w 64 anyKind, scale .w anyKind]
    else [src (n * sw / 8) 64, dst (n * dw / 8 + sc) .w 8 anyKind, scale .r anyKind]

/-- Whether a range touches a protected harvest region (R338). -/
def touchesRegion (s : State) (a n : Nat) : Bool :=
  match placeOf a with
  | some p => p.kind == .commons && regionHeld s && decide (harvestRegion < p.offset + n)
  | none => false

/-- Whether R196 forbids `n` bytes at `a` as a target of the operand. -/
def targetForbidden (s : State) (o : Operand) (a n : Nat) : Bool := !o.kinds.any (atKind a) || touchesRegion s a n

/-- One row of an operand: where it lies, or why it fails. A row whose Terrier entry names a target that is not permitted
fails with SPACE even where its range or permission fails too: the lowest reason is the one reported (R196, R197). -/
def operandRow (s : State) (c : Nat) (o : Operand) (r : Nat) : Except RowFault RowPlace :=
  match rowPlace s c o.ep o.pitch r o.bytes (some o.perm) with
  | .error f =>
    match rowPlace s c o.ep o.pitch r 0 none with
    | .ok p => if targetForbidden s o p.addr o.bytes then .error ⟨0x0C, 0, 0⟩ else .error f
    | .error _ => .error f
  | .ok p =>
    if targetForbidden s o p.addr o.bytes then .error ⟨0x0C, 0, 0⟩
    else if p.node ≠ thisNode s then .error ⟨0x0E, 0, 0⟩
    else .ok p

/-- Every row of an operand. -/
def operandRows (s : State) (c : Nat) (o : Operand) (rows : Nat) : List (Except RowFault RowPlace) :=
  (List.range rows).map (operandRow s c o)

/-- The failure reported: the first reason in the table's order, then the first operand, then the lowest row (R197). -/
def firstFault (l : List (Except RowFault RowPlace)) : Option RowFault :=
  l.foldl (fun best x =>
    match x, best with
    | .error f, none => some f
    | .error f, some b => if f.reason < b.reason then some f else some b
    | .ok _, b => b) none

/-- The addresses and key slots of rows that all translated. -/
def rowPairs (l : List (Except RowFault RowPlace)) : List (Nat × Nat) :=
  l.filterMap (fun x => match x with
    | .ok p => some (p.addr, p.key)
    | .error _ => none)

/-- The checks of a MOVE descriptor before its addresses, 0 when they pass (R197). -/
def mvCheck (d : BitVec 512) : Nat :=
  let n := Mv.rowLen d
  let k := Mv.kind d
  if mvReserved d then 0x02
  else if 4 < k ∨ Mv.sfmt d = 15 ∨ Mv.dfmt d = 15 then 0x04
  else if !mvPair d then 0x05
  else if Mv.rows d = 0 ∨ n = 0 ∨ ((k = 0 ∨ (k = 1 ∧ !Mv.dblock d)) ∧ n % 4 ≠ 0)
      ∨ ((Mv.sblock d ∨ Mv.dblock d) ∧ n % (if k = 4 then 8 * Mv.blk d else Mv.blk d) ≠ 0) then 0x07
  else if (mvOperands d).any (fun o =>
      o.ep % o.align != 0 || o.pitch % 4 != 0 || (decide (1 < Mv.rows d) && o.pitch % o.align != 0)) then 0x08
  else 0

/-- MOVE: the entry launches, its descriptor is read and checked and every row translated, and the operation takes an
in-flight place; a refused one completes at once, poisoned (R41, R49, R127, R193 to R197). -/
def execMove (core' : Fin 512) (s : State) : Host.Outcome State Fault Refusal :=
  let c := core'.val
  .next (launch s c .move (fun k _ => hasRoom k) (fun s' e =>
    let desc := entArg e 0 16
    let flag := entArg e 16 8
    if cellarBusy s' (c / 128) then advanceHead (cellarEnd s' c 0x03 desc flag) c
    else
    let (s1, img, bad) := readDesc s' c desc
    let reason0 := match img with
      | none => 0x01
      | some d => if bad then 0x02 else mvCheck d
    let d := img.getD 0
    let s2 :=
      if reason0 ≠ 0 then refuseDesc s1 c reason0 0x03 desc flag
      else
        let rows := (mvOperands d).map (fun o => operandRows s1 c o (Mv.rows d))
        match firstFault rows.flatten with
        | some f =>
          let s2 := if f.reason = 0x0D then terrierRecord s1 c 0x03 f.terrier f.index else s1
          refuseDesc s2 c f.reason 0x03 desc flag
        | none =>
          if rowsReset s1 rows.flatten then cellarEndTag s1 c 0x03 desc flag (tagOf d)
          else
          let k := core s1 c
          let o := { Op.mk0 .move (resident s1) k.alm.slot k.histSel with
            desc := desc, image := d, flag := flag, started := true, places := rows.map rowPairs }
          setCore s1 c (k.push o)
    advanceHead s2 c))

/-! ## Rows -/

/-- The rows of the operand with endpoint index `i` of a MOVE in flight. -/
def opRows (o : Op) (i : Nat) : List (Nat × Nat) :=
  ((((mvOperands o.image).map Operand.index).zip o.places).lookup i).getD []

/-- The place of row `r` of endpoint `i`. -/
def opPlace (o : Op) (i r : Nat) : Nat × Nat := (opRows o i).getD r (0, 0)

/-- The bytes a row of endpoint `i` covers. -/
def opBytes (o : Op) (i : Nat) : Nat :=
  match (mvOperands o.image).find? (fun p => p.index == i) with
  | some p => p.bytes
  | none => 0

/-- Bytes that lie in a destination of the same MOVE take free values: the device keeps no order there ("When things
meet"). -/
def freeOverlap (s : State) (dsts : List (Nat × Nat)) (a v : Nat) : Nat → State × Nat
  | 0 => (s, v)
  | n + 1 =>
    let (s1, v1) := freeOverlap s dsts a v n
    if dsts.any (fun p => decide (p.1 ≤ a + n) && decide (a + n < p.1 + p.2)) then
      let (s2, w) := freshWord s1
      (s2, setFld v1 (8 * n) 8 (w.toNat % 256))
    else (s1, v1)

/-- The ranges a MOVE writes. -/
def opDsts (o : Op) : List (Nat × Nat) :=
  ((mvOperands o.image).filter (fun p => p.perm != .r)).flatMap (fun p =>
    (opRows o p.index).map (fun x => (x.1, p.bytes)))

/-- Row `r` of the source of a MOVE: its bytes, and the codewords that could not be corrected. -/
def readSource (s : State) (o : Op) (r : Nat) : State × Nat × List Nat :=
  let (a, key) := opPlace o 0 r
  let n := opBytes o 0
  let (s1, v, bad) := readRow s key a n
  if (opDsts o).any (fun p => decide (p.1 < a + n) && decide (a < p.1 + p.2)) then
    let (s2, v2) := freeOverlap s1 (opDsts o) a v n
    (s2, v2, bad)
  else (s1, v, bad)

/-- The scale codes of a row, 0xFF for one in an uncorrectable codeword (R208). -/
def readScales (s : State) (o : Op) (r : Nat) : State × List Nat × List Nat :=
  let (a, key) := opPlace o 2 r
  let n := opBytes o 2
  let (s1, v, bad) := readRow s key a n
  (s1, (List.range n).map (fun j => if elemBad bad a j 8 then 0xFF else fld v (8 * j) 8), bad)

/-- The flag fields of `n` blocks from byte `a` of a flag plane on set to 0, a codeword at a time: whole codewords are
written, a part of one is merged (R171, R200). -/
def zeroFlags (s : State) (slot a n : Nat) : State :=
  let first := 8 * (a % 16)
  let last := first + 2 * n
  (List.range ((last + 127) / 128)).foldl (fun s i =>
    let lo := first - 128 * i
    let hi := min 128 (last - 128 * i)
    if lo = 0 ∧ hi = 128 then storeWord s slot (a / 16 + i) 0
    else rmwWord s slot (a / 16 + i) (fun d _ => setFld d lo (hi - lo) 0)) s

/-- A FILL of one row: +0 in every byte, and the flag fields of a block row cleared (R171, R195). -/
def fillRow (s : State) (o : Op) (r : Nat) : State :=
  let (a, key) := opPlace o 1 r
  let s1 := writeMem s key a (opBytes o 1) 0
  if Mv.dblock o.image then
    let (fa, fk) := opPlace o 3 r
    zeroFlags s1 fk fa (Mv.rowLen o.image / Mv.blk o.image)
  else s1

/-- The addends of codeword `w` of a row at `a` of `n` elements of type `t`, from the row's FP32 source bytes. -/
def wordAddends (t : Elem) (a n src w : Nat) : List (Option Word) :=
  let e := t.width / 8
  (List.range (16 / e)).map (fun j =>
    let x := 16 * w + j * e
    if a ≤ x ∧ x < a + n * e then some (BitVec.ofNat 32 (fld src (32 * ((x - a) / e)) 32)) else none)

/-- An accumulate of `n` elements into a row at `a`, a codeword at a time: the state after, the numbers of the blocks
that saturated, the sums, and whether every codeword was readable (R199, R200). -/
def accRow (s : State) (key : Nat) (t : Elem) (blk : Nat) (scales : Option (List Nat)) (a n src : Nat) :
    Nat → State × List Nat × List Word × Bool
  | 0 => (s, [], [], true)
  | i + 1 =>
    let (s1, js, xs, ok) := accRow s key t blk scales a n src i
    let w := a / 16 + i
    let j := (16 * w - a) / (t.width / 8) / blk
    let (s2, sat, ys, ok') := accWord s1 key w t (scales.map (fun l => l.getD j 0xFF)) (wordAddends t a n src w)
    (s2, if sat then js ++ [j] else js, xs ++ ys, ok && ok')

/-- An ACCUMULATE of one row (R195, R199). -/
def accumulateRow (s : State) (c : Nat) (o : Op) (r : Nat) : State × Bool :=
  let d := o.image
  let n := Mv.rowLen d
  let t := Mv.elem (Mv.dfmt d)
  let (s1, src, bad) := readSource s o r
  let (a, key) := opPlace o 1 r
  let words := (a + opBytes o 1 - 1) / 16 - a / 16 + 1
  if Mv.dblock d then
    let (s2, scales, sbad) := readScales s1 o r
    let (s3, js, xs, ok) := accRow s2 key t (Mv.blk d) (some scales) a n src words
    let (fa, fk) := opPlace o 3 r
    let s4 := js.foldl (fun s j => setOvf s fk fa j) s3
    (histRecord s4 c o.hist xs, !ok || !bad.isEmpty || !sbad.isEmpty)
  else
    let (s2, _, xs, ok) := accRow s1 key t 1 none a n src words
    (histRecord s2 c o.hist xs, !ok || !bad.isEmpty)

/-- A CONVERT of one row (R164, R165, R195, R208). -/
def convertRow (s : State) (c : Nat) (o : Op) (r : Nat) : State × Bool :=
  let d := o.image
  let n := Mv.rowLen d
  let b := Mv.blk d
  let (s1, src, bad) := readSource s o r
  let (sa, _) := opPlace o 0 r
  let (a, key) := opPlace o 1 r
  if Mv.dblock d then
    let t := Mv.elem (Mv.dfmt d)
    let xs : List Word := (List.range n).map (fun i => BitVec.ofNat 32 (fld src (32 * i) 32))
    let blocks := chunks b (n / b) (xs.map f32)
    let scales := blocks.map (measureScale t)
    let codes := (blocks.zip scales).flatMap (fun p => blockCodes t p.2 none p.1)
    let s2 := histRecord s1 c o.hist xs
    let s3 := writeMem s2 key a (opBytes o 1) (packCodes t.width codes)
    let (la, lk) := opPlace o 2 r
    (writeMem s3 lk la (n / b) (packCodes 8 scales), !bad.isEmpty)
  else
    let t := Mv.elem (Mv.sfmt d)
    let (s2, scales, sbad) := if Mv.sblock d then readScales s1 o r else (s1, [], [])
    let word := fun i =>
      let q := packedElem t src i
      if elemBad bad sa i t.width then nan32
      else toF32 (if Mv.sblock d then blockValue t (scales.getD (i / b) 0xFF) q else t.num q)
    (writeMem s2 key a (4 * n) (packCodes 32 ((List.range n).map (fun i => (word i).toNat))),
      !bad.isEmpty || !sbad.isEmpty)

/-- A RELAYOUT of one row between planar and interleaved layout (R102, R103, R195, R208). -/
def relayoutRow (s : State) (o : Op) (r : Nat) : State × Bool :=
  let d := o.image
  let n := Mv.rowLen d
  let b := Mv.blk d
  let sc := n / b
  let bits := b * (Mv.elem (Mv.sfmt d)).width
  let (s1, src, bad) := readSource s o r
  let (sa, _) := opPlace o 0 r
  let (a, key) := opPlace o 1 r
  let (s2, scales, sbad) := if Mv.dir d then (s1, [], []) else readScales s1 o r
  let (la, lk) := opPlace o 2 r
  let bundle := 64 + 8 * bits
  -- Where block `j`'s elements and scale start in an interleaved row, in bits.
  let elemAt := fun j => j / 8 * bundle + 64 + j % 8 * bits
  let scaleAt := fun j => j / 8 * bundle + 8 * (j % 8)
  let lost := fun j =>
    if Mv.dir d then (List.range (bits / 8)).any (fun i => elemBad bad sa (elemAt j / 8 + i) 8) || elemBad bad sa (scaleAt j / 8) 8
    else (List.range (bits / 8)).any (fun i => elemBad bad sa (j * bits / 8 + i) 8) || elemBad sbad la j 8
  let elems := fun j => if lost j then 0 else if Mv.dir d then fld src (elemAt j) bits else fld src (j * bits) bits
  let scaleOf := fun j => if lost j then 0xFF else if Mv.dir d then fld src (scaleAt j) 8 else scales.getD j 0xFF
  let poison := !bad.isEmpty || !sbad.isEmpty
  if Mv.dir d then
    let v := (List.range sc).foldl (fun v j => v + elems j * 2 ^ (j * bits)) 0
    let s3 := writeMem s2 key a (opBytes o 1) v
    (writeMem s3 lk la sc (packCodes 8 ((List.range sc).map scaleOf)), poison)
  else
    let v := (List.range sc).foldl (fun v j => v + elems j * 2 ^ (elemAt j) + scaleOf j * 2 ^ (scaleAt j)) 0
    (writeMem s2 key a (opBytes o 1) v, poison)

/-- One row of a MOVE: the state after and whether its flag is poisoned (R194, R195). -/
def moveRow (s : State) (c : Nat) (o : Op) (r : Nat) : State × Bool :=
  match Mv.kind o.image with
  | 0 =>
    let (s1, v, bad) := readSource s o r
    let (a, key) := opPlace o 1 r
    (writeMem s1 key a (opBytes o 1) v, !bad.isEmpty)
  | 1 => (fillRow s o r, false)
  | 2 => accumulateRow s c o r
  | 3 => convertRow s c o r
  | _ => relayoutRow s o r

/-- The first `n` rows of a MOVE, in ascending order (R194). -/
def moveRows (s : State) (c : Nat) (o : Op) : Nat → State × Bool
  | 0 => (s, false)
  | n + 1 =>
    let (s1, p) := moveRows s c o n
    let (s2, q) := moveRow s1 c o n
    (s2, p || q)

/-- The pages a MOVE writes (R340). -/
def opPages (o : Op) : List Nat := (opDsts o).flatMap (fun p => pagesOf p.1 p.2)

/-- The bytes a MOVE reads or writes, as addresses and lengths. -/
def opRanges (o : Op) : List (Nat × Nat) :=
  (mvOperands o.image).flatMap (fun p => (opRows o p.index).map (fun x => (x.1, p.bytes)))

/-- Whether `o` is the MOVE that its core's engine serves: the oldest in flight (R221). -/
def moveServed (k : Core) (o : Op) : Bool := k.ops.find? (fun x => x.kind == .move) == some o

/-- MOVE_COMPLETE: the MOVE that the engine serves writes its rows and completes: its flag, then its tag (R82, R194 to
R201, R221). A page that a harvest has still to copy holds it back (R340); a HOT footprint's throttle holds its beats
(R220, R233). -/
def execMoveComplete (core' : Fin 512) (op : Nat) (s : State) : Host.Outcome State Fault Refusal :=
  let c := core'.val
  match (core s c).op op with
  | none => .next s
  | some o =>
    if o.kind ≠ .move ∨ !moveServed (core s c) o ∨ !coreClocked s c ∨ opTesting s o then .next s
    else if (heldPages s (opPages o)).isEmpty then
      let (s1, poison) := moveRows (throttleAll s (opRanges o)) c o (Mv.rows o.image)
      let fenced := (opDsts o).any (fun p => rangeOffline s p.1 p.2)
      .next (finishOp s1 c o (poison || fenced) (tagOf o.image))
    else .next (touchPages s (opPages o))

end Sys2Proof.Machine
end

