-- ==== Sys2Proof/Machine/Beats.lean ====
section
/-!
DEFINITION. Beats at the memory controllers: reads, writes and accumulate writes of one codeword (R199, R200, R206 to
R208), and what holds a beat back: a refresh window (R192), a bond self-test (R227), the bank throttle (R233), a page
that a harvest has still to copy (R340).
-/
namespace Sys2Proof.Machine

/-! ## Beats -/

/-- The codeword a beat addresses. -/
def HeldBeat.word : HeldBeat → Nat
  | .read a _ _ => a.toNat / 16
  | .write a _ _ _ => a.toNat / 16
  | .accumulate _ _ a _ _ _ _ _ _ _ => a.toNat / 16

/-- Whether a beat writes. -/
def HeldBeat.writes : HeldBeat → Bool
  | .read _ _ _ => false
  | _ => true

/-- The element type of an accumulate beat: FP32, BF16, E4M3 or E5M2. -/
def accType (fmt : Nat) : Elem :=
  match fmt with
  | 0 => .fp32
  | 1 => .bf16
  | 2 => .e4m3
  | _ => .e5m2

/-- What an accumulate beat does to its codeword: its addends that `mask` picks added in, under its scale in a block format
(R199, R200). -/
def accBeat (s : State) (key w fmt scale addends mask : Nat) : State × Bool × List Word × Bool :=
  let t := accType fmt
  accWord s key w t (if t.isBlock then some scale else none) ((List.range (128 / t.width)).map (fun i =>
    if mask.testBit i then some (BitVec.ofNat 32 (fld addends (32 * i) 32)) else none))

/-- A controller performs a beat: a read of a codeword that `flip` has upset since it was written; a full or partial
write; an accumulate write, whose sums enter a histogram slot of its core and whose saturation sets the OVF bit of its
block (R167, R176, R199, R200, R202, R205 to R208, R371). -/
def performBeat (s : State) (b : HeldBeat) : State :=
  let w := b.word
  match b with
  | .read _ key flip => (readWord (setRawWord s w (rawWord s w ^^^ flip.toNat)) key.val w).1
  | .write _ key data mask => writeWord s key.val w data.toNat mask.toNat
  | .accumulate c slot _ key fmt scale addends mask flags block =>
    let (s1, sat, xs, _) := accBeat s key.val w fmt.val scale.toNat addends.toNat mask.toNat
    let s2 := if sat then setOvf s1 key.val flags.toNat block.toNat else s1
    histRecord s2 c.val slot.val xs

/-! ## What holds a beat -/

/-- The pages a beat writes: its codeword's, and for an accumulate write that saturates the flag row's (R167, R340). -/
def beatPages (s : State) (b : HeldBeat) : List Nat :=
  let p := 16 * b.word / 2 ^ 21
  match b with
  | .read _ _ _ => []
  | .write _ _ _ _ => [p]
  | .accumulate _ _ _ key fmt scale addends mask flags block =>
    p :: (if (accBeat s key.val b.word fmt.val scale.toNat addends.toNat mask.toNat).2.1
      then [(flags.toNat + block.toNat / 4) / 2 ^ 21] else [])

/-- Whether a beat writes a page that a harvest has still to copy. -/
def beatHeld (s : State) (b : HeldBeat) : Bool := !(heldPages s (beatPages s b)).isEmpty

/-- A beat waits for a page to be copied: the first touch is counted (R340). -/
def waitCopy (s : State) (b : HeldBeat) : State :=
  let s1 := touchPages s (beatPages s b)
  { s1 with waiting := s1.waiting ++ [b] }

/-! ## The bank throttle (R233) -/

/-- The throttle of a footprint holds a beat: counted, and recorded at most once in 2¹⁴ ticks (R233, R238). -/
def holdBeat (s : State) (f : Nat) (b : HeldBeat) : State :=
  noteHeld (setThrottle s f { throttle s f with held := (throttle s f).held ++ [b] }) f 1

/-- A beat reaches its controller: it waits, or its footprint's throttle holds it, or it is performed. One whose
cellar or granary is in a CELLAR reset is refused, and one outside every memory does nothing (R186, R237). -/
def submitBeat (s : State) (b : HeldBeat) : State :=
  match placeOf (16 * b.word) with
  | none => s
  | some p =>
    if inCellarReset s p then s
    else if placeWaits s p then { s with waiting := s.waiting ++ [b] }
    else if beatHeld s b then waitCopy s b
    else match p.footprint with
      | some f =>
        if isHot s f then
          if (throttle s f).spent || !(throttle s f).held.isEmpty then holdBeat s f b
          else performBeat (spendBeat s f) b
        else performBeat s b
      | none => performBeat s b

/-- Every waiting beat reaches its controller again, in its order of arrival, and every waiting record its ring (R192, R227,
R340, R407). -/
def resubmit (s : State) : State := drainRings (s.waiting.foldl submitBeat { s with waiting := [] })

/-- A footprint that is no longer HOT: its throttle lets every held beat go in arrival order (R233). -/
def releaseCool (s : State) (f : Nat) : State :=
  if isHot s f then s
  else (throttle s f).held.foldl submitBeat
    { s with throttles := tset Throttle.reset f { throttle s f with spent := false, held := [] } s.throttles }

/-! ## Meanings -/

/-- MEMORY_READ: a controller serves a read of the codeword that holds `addr`; `flip` is what has upset the stored
codeword since it was written (R202, R206 to R208). -/
def execMemoryRead (addr : BitVec 51) (key : Fin 64) (flip : BitVec 144) (s : State) : Host.Outcome State Fault Refusal :=
  .next (submitBeat s (.read addr key flip))

/-- MEMORY_WRITE: a controller writes the bytes of the codeword that `mask` picks (R200, R205, R208, R340, R371). -/
def execMemoryWrite (addr : BitVec 51) (key : Fin 64) (data : BitVec 128) (mask : BitVec 16) (s : State) :
    Host.Outcome State Fault Refusal :=
  .next (submitBeat s (.write addr key data mask))

/-- ACCUMULATE_WRITE: a controller adds the FP32 addends that `mask` picks into the elements of one codeword, FP32,
BF16, E4M3 or E5M2 by `fmt`, under the predicted scale `scale` for the block formats; the sums enter histogram slot
`slot` of core `core`, and a saturation sets the OVF bit of block `block` of the flag row at `flags` (R167, R176, R199,
R200, R208). -/
def execAccumulateWrite (core' : Fin 512) (slot : Fin 8) (addr : BitVec 51) (key : Fin 64) (fmt : Fin 4)
    (scale : BitVec 8) (addends : BitVec 512) (mask : BitVec 16) (flags : BitVec 51) (block : BitVec 12) (s : State) :
    Host.Outcome State Fault Refusal :=
  .next (submitBeat s (.accumulate core' slot addr key fmt scale addends mask flags block))

/-- REFRESH_WINDOW: at each tick where BELLTIME mod 1,024 equals 8 × f, footprint f of every die begins its refresh
window (R192). -/
def execRefreshWindow (footprint : Fin 128) (s : State) : Host.Outcome State Fault Refusal :=
  if s.time.toNat % 1024 = 8 * footprint.val then
    .next ((List.range 4).foldl (fun s d => countActivity s d 56 1)
      { s with refreshing := s.refreshing ||| BitVec.ofNat 128 (2 ^ footprint.val) })
  else .next s

/-- REFRESH_WINDOW_END: 16 ticks later the window ends and the accesses that waited proceed (R192). -/
def execRefreshWindowEnd (footprint : Fin 128) (s : State) : Host.Outcome State Fault Refusal :=
  if s.refreshing.toNat.testBit footprint.val ∧ 16 ≤ (s.time.toNat + 1024 - 8 * footprint.val) % 1024 then
    .next (resubmit { s with refreshing := s.refreshing &&& ~~~(BitVec.ofNat 128 (2 ^ footprint.val)) })
  else .next s

/-- THROTTLE_ADMIT: ADMIT cycles after the last admitted beat, the throttle of a HOT footprint admits the oldest it holds,
unless a refresh window or a self-test holds it too; with none held, the next to arrive is admitted. Before ADMIT cycles
can have passed nothing happens (R233, R238). -/
def execThrottleAdmit (die : Fin 4) (footprint : Fin 128) (s : State) : Host.Outcome State Fault Refusal :=
  let f := 128 * die.val + footprint.val
  let t := throttle s f
  if !isHot s f ∨ !admitDue s f then .next s
  else match t.held with
    | [] => .next (setThrottle s f { t with spent := false })
    | b :: rest =>
      if addrWaits s (16 * b.word) then .next s
      else if beatHeld s b then
        .next (waitCopy (setThrottle s f { t with held := rest, spent := false }) b)
      else .next (performBeat (spendBeat (setThrottle s f { t with held := rest }) f) b)

end Sys2Proof.Machine
end

