-- ==== Sys2Proof/Machine/Lanes.lean ====
section
/-!
DEFINITION. Under the flit: the 257-bit blocks and the alignment markers (R241, R244, R250), and the codewords of
RS(544,514) with their symbols dealt over the lanes (R242, R243).
-/
namespace Sys2Proof.Machine

/-! ## Blocks (R241, R244, R250) -/

/-- A data block: header bit 1, then 32 B (R241). -/
def dataBlock (v : BitVec 256) : BitVec 257 := v.append (1 : BitVec 1)

/-- A control block: header bit 0 (R241). -/
def controlBlock (v : BitVec 256) : BitVec 257 := v.append (0 : BitVec 1)

/-- A flit as 8 data blocks, in its order (R250). -/
def flitBlocks (bits : BitVec 2048) : List (BitVec 257) :=
  (List.range 8).map (fun i => dataBlock (bits.extractLsb' (256 * i) 256))

/-- An alignment marker: a control block that names the lane, the port and the width (R244). Where it names them is the
model's own layout (DESIGN CHOICE, log entry 110). -/
def markerBlock (lane port width : Nat) : BitVec 257 :=
  controlBlock (BitVec.ofNat 256 (1 + lane * 2 ^ 8 + port * 2 ^ 16 + width * 2 ^ 24))

/-- Data blocks of a lane between two markers: a marker displaces one block in every 81,920 (R241, R244). -/
abbrev markerSpan : Nat := 81919

/-- The lanes of a set, ascending. -/
def lanesOf (m : BitVec 8) : List Nat := (List.range 8).filter (fun l => m.toNat.testBit l)

/-! ## RS(544,514) (R242, R243) -/

/-- Multiplication by α in GF(2¹⁰) built with x¹⁰ + x³ + 1, the field of Clause 91 (PRESUMED, log entry 110). -/
def rsDouble (a : Nat) : Nat := if a < 512 then 2 * a else 2 * a % 1024 ^^^ 9

/-- Multiplication in GF(2¹⁰), the `n` low bits of `b` taken from the top. -/
def rsMulFrom (a b : Nat) : Nat → Nat → Nat
  | 0, acc => acc
  | n + 1, acc => rsMulFrom a b n (rsDouble acc ^^^ (if b.testBit n then a else 0))

/-- Multiplication in GF(2¹⁰). -/
def rsMul (a b : Nat) : Nat := rsMulFrom a b 10 0

/-- The generator polynomial with `n` roots α⁰ to α^(n-1), highest coefficient first; the next root is `r`. -/
def rsGeneratorFrom : Nat → Nat → List Nat → List Nat
  | 0, _, g => g
  | n + 1, r, g =>
    rsGeneratorFrom n (rsDouble r) ((g ++ [0]).zipWith (fun x y => x ^^^ rsMul r y) (0 :: g))

/-- The generator polynomial without its leading 1: 30 coefficients (PRESUMED, log entry 110). -/
def rsGenerator : List Nat := (rsGeneratorFrom 30 1 [1]).drop 1

/-- The 30 parity symbols of a message, its first symbol the highest coefficient (PRESUMED, log entry 110). -/
def rsParity (msg : List Nat) : List Nat :=
  msg.foldl (fun r m =>
    let f := m ^^^ r.headD 0
    (r.drop 1 ++ [0]).zipWith (fun x g => x ^^^ rsMul f g) rsGenerator) (List.replicate 30 0)

/-- Blocks joined into one number, the first lowest. -/
def joinBlocks (l : List (BitVec 257)) : Nat := l.foldr (fun b v => b.toNat + 2 ^ 257 * v) 0

/-- The codeword of 20 blocks: 514 message symbols of 10 bits and 30 of parity (R241). -/
def rsCodeword (blocks : List (BitVec 257)) : List Nat :=
  let v := joinBlocks blocks
  let msg := (List.range 514).map (fun i => fld v (10 * i) 10)
  msg ++ rsParity msg

/-- Two codewords interleaved symbol by symbol. -/
def interleave : List Nat → List Nat → List Nat
  | a :: as, b :: bs => a :: b :: interleave as bs
  | _, _ => []

/-- Symbols dealt round-robin over `n` lanes: those of each lane, in ascending lane order (R243). -/
def dealSymbols (n : Nat) (l : List Nat) : List (List Nat) :=
  (List.range n).map (fun i => (l.zipIdx.filter (fun x => x.2 % n == i)).map Prod.fst)

/-- Symbols of a codeword that its decoder can correct (R243). -/
abbrev rsReach : Nat := 15

/-! ## The stream of a port -/

/-- What a port's lanes carry when it sends a flit: its data blocks, the markers that fall due after it, and each pair of
codewords that is complete (R241, R243, R244). The first 20 blocks of a pair form its first codeword (DESIGN CHOICE, log
entry 110). -/
def portStream (p : Nat) (lanes : BitVec 8) (k : Port) (bits : BitVec 2048) : Port × List Output :=
  let active := lanesOf lanes
  let width := active.length
  let n := k.blockCount + 8
  let due := decide (markerSpan * width ≤ n)
  let markers := if due then active.map (fun l => markerBlock l p width) else []
  let notes := if due then active.map (fun l => Output.marker p l width) else []
  let stream := k.fecBlocks ++ flitBlocks bits ++ markers
  let count := if due then n - markerSpan * width else n
  if stream.length < 40 then ({ k with blockCount := count, fecBlocks := stream }, notes)
  else
    let symbols := interleave (rsCodeword (stream.take 20)) (rsCodeword ((stream.drop 20).take 20))
    ({ k with blockCount := count, fecBlocks := stream.drop 40 }, notes ++ [.codewords p (dealSymbols width symbols)])

end Sys2Proof.Machine
end

