-- ==== Sys2Proof/Machine/Link.lean ====
section
/-!
DEFINITION. The Tilby ports: states and lane sets (R245 to R249), flits, the CRC and the retry (R250 to R254), credits
and the filling of flits (R255, R256), NEGOTIATE and SECURE (R258, R264), port keys (R262 to R267) and the ports'
records (R268, R292).
-/
namespace Sys2Proof.Machine

/-! ## A port's state -/

/-- Port `p`. -/
def portOf (s : State) (p : Nat) : Port := tget Port.reset p s.ports

/-- Port `p` changed by `f`. -/
def updPort (s : State) (p : Nat) (f : Port → Port) : State :=
  { s with ports := tset Port.reset p (f (portOf s p)) s.ports }

namespace Link
/-- Codes of `PORT_STATUS.STATE` (R245). -/
abbrev down : Nat := 0
/-- DETECT. -/
abbrev detect : Nat := 1
/-- TRAIN. -/
abbrev train : Nat := 2
/-- ALIGN. -/
abbrev align : Nat := 3
/-- NEGOTIATE. -/
abbrev negotiate : Nat := 4
/-- SECURE. -/
abbrev secure : Nat := 5
/-- ACTIVE. -/
abbrev active : Nat := 6
/-- RETRAIN. -/
abbrev retrain : Nat := 7
/-- FAILED. -/
abbrev failed : Nat := 8
end Link

/-- `PORT_STATUS.STATE` (R245). -/
def portState (s : State) (p : Nat) : Nat := rf s .port p Off.portStatus 0 4

/-- The lanes of a set, as a mask of 8 bits, counted (R247). -/
def laneCount (m : BitVec 8) : Nat := popCount 8 m.toNat

/-- A port enters state `st`: the register, the tick, the width it shows, the page's interrupt (R245, R269, R479). -/
def setPortState (s : State) (p st : Nat) : State :=
  let old := portState s p
  let s1 := setRf s .port p Off.portStatus 0 4 st
  let w := if st = Link.active then popCount 8 (rf s .port p Off.portStatus 16 8) else 0
  let s2 := updPort (setRf s1 .port p Off.portStatus 4 4 w) p (fun k => { k with since := s.time })
  if old = st then s2 else raiseInt s2 .port p 0

/-- A LINK record of a port (R268). -/
def linkRecord (s : State) (p code detail : Nat) : State := deviceRecord s .port p 0x05 code p (det detail)

/-- A LINK record of a port that, where `moved`, comes with a change of its state: one message covers both (R268, R443,
R479). -/
def linkEvent (s : State) (p code detail : Nat) (moved : Bool) : State :=
  deviceEvent s .port p 0x05 code p (det detail) (if moved then [0] else [])

/-- Whether the part's life-cycle state is FIELD (R374). -/
def inField (s : State) : Bool := rf s .reeve 0 Off.reeveLc 0 2 == 2

/-- Whether the port requires encryption: always in FIELD (R262). -/
def portEncReq (s : State) (p : Nat) : Bool := inField s || rbit s .port p Off.portCfg 2

/-- A RETRAIN_COUNT of a port, which the Watch counts too (R245, R330). -/
def countRetrain (s : State) (p : Nat) : State := watchCount (incReg s .port p Off.portRetrainCount) 2 1

/-! ## Lane sets (R246, R247) -/

/-- The lane sets in the order of R247. -/
abbrev laneSets : List (BitVec 8) := [0xFF, 0x0F, 0xF0, 0x03, 0x0C, 0x30, 0xC0]

/-- The least width of a MIN_WIDTH code (R269). -/
def minLanes (code : Nat) : Nat := 8 / 2 ^ code

/-- The first lane set whose lanes are all usable, whose width suffices and is at most `most` (R247, R249). -/
def chooseLanes (usable : BitVec 8) (least most : Nat) : Option (BitVec 8) :=
  laneSets.find? (fun m => m &&& usable == m && decide (least ≤ laneCount m) && decide (laneCount m ≤ most))

/-- The lane reports of one end (R246). -/
def sendReports (s : State) (p : Nat) (mask : BitVec 8) : State :=
  emit s (.laneReport p 0xFF mask (BitVec.ofNat 2 (rf s .port p Off.portCfg 0 2)))

/-! ## Going DOWN (R249, R267, R292) -/

/-- What a port that goes DOWN keeps: only its counts toward FEC records and its next XID. -/
def Port.cleared (k : Port) : Port := { Port.reset with fecLost := k.fecLost, fecAt := k.fecAt, xid := k.xid }

/-- Packets of which a slot is among the slots of one VC that are still to be acknowledged: each first slot begins one, and
slots before the first of them are the rest of one whose header the peer has (R292). -/
def headCount (l : List TxSlot) : Nat :=
  (l.filter TxSlot.first).length + (match l with
    | x :: _ => if x.first then 0 else 1
    | [] => 0)

/-- The slots of a VC that a port has still to send or to see acknowledged, in their order (R253, R256). -/
def Port.unacked (k : Port) (vc : Nat) : List TxSlot :=
  (k.buffer.flatMap Flit.slots).filter (fun x => x.vc == vc) ++ tget [] vc k.tx

/-- Whether a packet that waits for its step still holds receive slots of port `p`: a REDUCE_ADD does until a chunk context
takes it, and a request until its memory serves it (R255, R312). -/
def heldInbox (p : Nat) (r : Routed) : Bool :=
  (r.packet.type == 0x20 || vcOfType r.packet.type == 0) && r.ingress == some p

/-- The packets a port discards when it goes DOWN: those in its transmit queues and its replay buffer, those still
arriving, and those that arrived by it and hold its receive slots (R292, "When things meet"). -/
def portPackets (s : State) (p : Nat) : Nat :=
  let k := portOf s p
  ((List.range 4).map (fun vc => headCount (k.unacked vc))).sum
    + (k.rx.filter (fun q => !q.2.isEmpty)).length
    + (s.routers.map (fun r => (r.2.filter (fun x => x.ingress == some p)).length)).sum
    + (s.transit.filter (fun t => t.ingress == some p)).length
    + (s.inbox.filter (fun x => heldInbox p x.2)).length

/-- Every packet that holds receive slots of port `p` removed. -/
def dropIngress (s : State) (p : Nat) : State :=
  { s with
    routers := tmap (fun _ => []) (fun _ (l : List Routed) => l.filter (fun x => x.ingress != some p)) s.routers,
    transit := s.transit.filter (fun t => t.ingress != some p),
    inbox := s.inbox.filter (fun x => !heldInbox p x.2) }

/-- The LOSS bit of a port set, with its FABRIC PORT_LOSS record (R292, R443). -/
def portLoss (s : State) (p count : Nat) : State :=
  let was := rbit s .lanemap 0 Off.lanemapLoss p
  deviceEvent (setRbit s .lanemap 0 Off.lanemapLoss p true) .lanemap 0 0x06 0x07 p (det (min count (2 ^ 32 - 1)))
    (if was then [] else [0])

/-- A port's registers that show its link cleared: lanes, encryption and KEY_PHASE (R245, R267). -/
def clearLinkRegs (s : State) (p : Nat) : State := setRf s .port p Off.portStatus 4 22 0

/-- A port goes DOWN: its LINK DOWN record, its loss, its buffers, keys and totals discarded; it returns to DETECT while
its page is enabled (R249, R267, R268, R292). -/
def portDown (s : State) (p reason : Nat) : State :=
  let lost := portPackets s p
  let s1 := portLoss (linkEvent s p 0x02 (reason * 2 ^ 24) (portState s p != Link.down)) p lost
  let s2 := updPort (dropIngress (clearLinkRegs s1 p) p) p Port.cleared
  let s3 := setPortState s2 p Link.down
  if enabled s .port p then setPortState s3 p Link.detect else s3

/-- A protocol error or the fourth tag failure in a row: the port enters FAILED and its keys are erased (R266). -/
def portFail (s : State) (p : Nat) : State :=
  setPortState (updPort (clearLinkRegs s p) p (fun k => { k with keys := none })) p Link.failed

/-- A protocol error (R266, R268). -/
def protocolError (s : State) (p reason : Nat) : State :=
  portFail (linkEvent s p 0x08 (reason * 2 ^ 24) (portState s p != Link.failed)) p

/-! ## RETRAIN (R248) -/

/-- RETRAIN begins with `mask` as this end's good lanes; `peer` is the peer's report, when that started it. The port keeps
the state it is to resume (R248, R260; DESIGN CHOICE, log entry 111). -/
def startRetrain (s : State) (p : Nat) (mask : BitVec 8) (peer : Option (BitVec 8 × BitVec 2)) : State :=
  let s1 := countRetrain (setRf s .port p Off.portStatus 8 8 mask.toNat) p
  let from' := portState s p
  let s2 := updPort s1 p (fun k =>
    { k with resume := from', chosen := none, mask := some mask, peerMask := peer, replayAt := none, delays := [], request := none })
  setPortState (sendReports s2 p mask) p Link.retrain

/-- The lanes that a choice may take at most: in RETRAIN a port is never widened (R249). -/
def mostLanes (s : State) (p : Nat) : Nat :=
  if portState s p = Link.retrain then popCount 8 (rf s .port p Off.portStatus 16 8) else 8

/-- Where both masks are known, the lane set is chosen; where none qualifies the port goes DOWN (R246, R247, R249). -/
def decideLanes (s : State) (p : Nat) : State :=
  let k := portOf s p
  match k.mask, k.peerMask with
  | some m, some (pm, pw) =>
    match chooseLanes (m &&& pm) (max (minLanes (rf s .port p Off.portCfg 0 2)) (minLanes pw.toNat)) (mostLanes s p) with
    | none => portDown s p 2
    | some set =>
      let s1 := updPort s p (fun k => { k with chosen := some set })
      if portState s p = Link.train then setPortState s1 p Link.align else s1
  | _, _ => s

/-! ## Replay (R253) -/

/-- SEQ of the oldest buffered flit. -/
def Port.oldest (k : Port) : Nat :=
  match k.buffer with
  | f :: _ => f.seq
  | [] => k.nextSeq

/-- Whether a port carries flits in a state (R245, R248, R262). -/
def carriesFlits (st : Nat) : Bool := st == Link.negotiate || st == Link.secure || st == Link.active

/-- An entry to REPLAY from the buffered flit at `i`; at RETRY_LIMIT entries without progress the port enters RETRAIN, in
whatever state it carries flits (R253). -/
def enterReplay (s : State) (p i : Nat) : State :=
  let k := portOf s p
  if k.buffer.length ≤ i then s
  else
    let s1 := updPort (incReg s .port p Off.portReplayCount) p (fun k =>
      { k with replayAt := some i, replays := k.replays + 1 })
    if carriesFlits (portState s p) ∧ rf s .port p Off.portCfg 16 8 ≤ k.replays + 1 then
      let s2 := linkEvent s1 p 0x04 (k.oldest * 2 ^ 20) true
      startRetrain s2 p (BitVec.ofNat 8 (rf s .port p Off.portStatus 8 8)) none
    else s1

/-! ## The CRC (R252) -/

/-- One bit of CRC-32, reflected. -/
def crc32Bit (c : Nat) : Nat := if c % 2 = 1 then (c / 2) ^^^ 0xEDB88320 else c / 2

/-- One byte of CRC-32. -/
def crc32Byte (c b : Nat) : Nat := (List.range 8).foldl (fun c _ => crc32Bit c) (c ^^^ b)

/-- CRC-32 over the `n` low bytes of `v`, least significant first, from `c`. -/
def crc32From : Nat → Nat → Nat → Nat
  | 0, _, c => c
  | n + 1, v, c => crc32From n (v / 256) (crc32Byte c (v % 256))

/-- CRC-32 of a flit's bytes 0 to 251 (R252). -/
def flitCrc (v : Nat) : Nat := crc32From 252 v 0xFFFFFFFF ^^^ 0xFFFFFFFF

/-! ## Fields of a flit (R250, R251, R255) -/

namespace FlitBits
/-- KIND. -/
def kind (f : Nat) : Nat := fld f 0 4
/-- SEQ. -/
def seq (f : Nat) : Nat := fld f 4 12
/-- ACK. -/
def ack (f : Nat) : Nat := fld f 16 12
/-- ACK_V. -/
def ackV (f : Nat) : Bool := bitAt f 28
/-- NAK. -/
def nak (f : Nat) : Bool := bitAt f 29
/-- KEY_PHASE. -/
def keyPhase (f : Nat) : Nat := fld f 30 1
/-- ENC. -/
def enc (f : Nat) : Bool := bitAt f 31
/-- The VC of slot `i`. -/
def slotVc (f i : Nat) : Nat := fld f (32 + 2 * i) 2
/-- USED. -/
def used (f : Nat) : Nat := fld f 60 4
/-- The payload. -/
def payload (f : Nat) : Nat := fld f 64 1792
/-- The credit return word. -/
def credit (f : Nat) : Nat := fld f 1856 32
/-- The GCM tag. -/
def tag (f : Nat) : Nat := fld f 1888 128
/-- The CRC. -/
def crc (f : Nat) : Nat := fld f 2016 32
end FlitBits

/-- Whether a flit breaks the layout: a reserved KIND, USED that does not fit KIND, or reserved bits of the credit return
word (R251, R252, R255). -/
def flitReserved (f : Nat) : Bool :=
  decide (1 < FlitBits.kind f) || decide (14 < FlitBits.used f)
    || (FlitBits.kind f == 1 && FlitBits.used f == 0) || (FlitBits.kind f == 0 && FlitBits.used f != 0)
    || fld (FlitBits.credit f) 18 14 != 0

/-! ## Port encryption (R263 to R265) -/

/-- The nonce of flit position `pos`: the salt, then the position, big-endian (R263). -/
def flitNonce (salt : BitVec 32) (pos : Nat) : BitVec 96 := salt.append (BitVec.ofNat 64 pos)

/-- The additional data of a flit: its header and its credit return word (R263). -/
def flitAad (header credit : Nat) : BitVec 96 := BitVec.ofNat 96 (header + credit * 2 ^ 64)

/-- A payload under a generation at a position: the ciphertext, and the tag over it (R263). `ab` picks the direction. -/
def sealFlit (g : Generation) (ab : Bool) (pos header credit payload : Nat) : Nat × Nat :=
  let key := portKey g.secret ab
  let nonce := flitNonce (portSalt g.secret ab) pos
  let ct := BitVec.ofNat 1792 payload ^^^ gcmStream key nonce
  (ct.toNat, (gcmTag key nonce (flitAad header credit) ct).toNat)

/-- The payload a received flit carries under a generation at a position, none when its tag fails (R263). -/
def openFlit (g : Generation) (ab : Bool) (pos f : Nat) : Option Nat :=
  let key := portKey g.secret ab
  let nonce := flitNonce (portSalt g.secret ab) pos
  let ct := BitVec.ofNat 1792 (FlitBits.payload f)
  if (gcmTag key nonce (flitAad (fld f 0 64) (FlitBits.credit f)) ct).toNat = FlitBits.tag f then
    some (ct ^^^ gcmStream key nonce).toNat
  else none

/-- The generation that follows another (R265). -/
def Generation.next (g : Generation) : Generation := ⟨g.number + 1, portNext g.secret, 0⟩

/-- The first position among `n + 1` from `lo` at which a flit opens. -/
def openAmong (g : Generation) (ab : Bool) (f lo : Nat) : Nat → Option (Nat × Nat)
  | 0 => (openFlit g ab lo f).map (fun v => (lo, v))
  | n + 1 =>
    match openAmong g ab f lo n with
    | some r => some r
    | none => (openFlit g ab (lo + n + 1) f).map (fun v => (lo + n + 1, v))

/-- The transmitter moves to its next key generation (R265, R268). -/
def rekey (s : State) (p : Nat) : State :=
  match (portOf s p).keys with
  | none => s
  | some ks =>
    let g := ks.tx.next
    let s1 := updPort s p (fun k => { k with keys := some { ks with tx := g } })
    linkRecord (setRf s1 .port p Off.portStatus 25 1 (g.number % 2)) p 0x07 (g.number % 2 ^ 32)

/-! ## Slots and credits (R255 to R257) -/

/-- A slot enters a port's transmit queue. -/
def queueSlot (k : Port) (x : TxSlot) : Port := { k with tx := tset [] x.vc (tget [] x.vc k.tx ++ [x]) k.tx }

/-- The 16 B slots of data bytes, the last padded with zero bytes (R282). -/
def dataSlots (l : List Byte) : List QWord :=
  (chunks 16 ((l.length + 15) / 16) l).map (fun b => BitVec.ofNat 128 (ofBytes b))

/-- A packet enters the transmit queue of a port on a VC (R256, R291). -/
def sendPort (s : State) (p vc : Nat) (pkt : Packet) : State :=
  updPort s p (fun k =>
    (dataSlots pkt.data).foldl (fun k d => queueSlot k ⟨vc, false, d⟩) (queueSlot k ⟨vc, true, pkt.header⟩))

/-- `n` receive slots of a VC freed (R255). -/
def freeSlots (s : State) (p vc n : Nat) : State :=
  updPort s p (fun k => { k with freed := tset 0 vc ((tget 0 vc k.freed + n) % 2 ^ 16) k.freed })

/-- The slots of a VC that are ready and credited (R255). -/
def Port.ready (k : Port) (vc : Nat) : Nat :=
  let out := (tget 0 vc k.sent + 2 ^ 16 - tget 0 vc k.peerFreed) % 2 ^ 16
  min (tget [] vc k.tx).length (tget 0 vc k.peerSize - out)

/-- The order in which VCs fill a flit, with the quota of the first pass (R256). -/
abbrev fillOrder : List (Nat × Nat) := [(3, 2), (1, 4), (2, 4), (0, 4)]

/-- The slots each VC contributes in the second pass, in order, while `room` remains (R256). -/
def secondPass (k : Port) : List (Nat × Nat) → Nat → List (Nat × Nat)
  | [], _ => []
  | (vc, quota) :: rest, room =>
    let n := min room (k.ready vc - min quota (k.ready vc))
    (vc, n) :: secondPass k rest (room - n)

/-- How many slots of which VC fill the next flit, both passes in order (R256). -/
def fillPlan (k : Port) : List (Nat × Nat) :=
  let first := fillOrder.map (fun q => (q.1, min q.2 (k.ready q.1)))
  first ++ secondPass k fillOrder (14 - (first.map Prod.snd).sum)

/-- Slots taken from the transmit queues as a plan says, counted as sent (R255). -/
def takeSlots (k : Port) : List (Nat × Nat) → Port × List TxSlot
  | [] => (k, [])
  | (vc, n) :: rest =>
    let q := tget [] vc k.tx
    let k1 := { k with
      tx := tset [] vc (q.drop n) k.tx, sent := tset 0 vc ((tget 0 vc k.sent + n) % 2 ^ 16) k.sent }
    let (k2, l) := takeSlots k1 rest
    (k2, q.take n ++ l)

/-! ## Stamps (R259, R260) -/

/-- A time in units of 1/256 tick. -/
def stampOf (t : DWord) (frac : Nat) : Nat := t.toNat * 256 + frac

/-- Whether a slot is a link-local message of a type. -/
def isLocal (x : TxSlot) (t : Nat) : Bool := x.vc == 3 && x.first && x.data.toNat % 256 == t

/-- A BELL_SYNC or DELAY_REQ takes the time it leaves at, on every transmission (R259). -/
def stampSlot (t : DWord) (frac : Nat) (x : TxSlot) : TxSlot :=
  if isLocal x 0xF0 || isLocal x 0xF1 then
    { x with data := BitVec.ofNat 128 (setFld (setFld x.data.toNat 8 8 frac) 64 64 t.toNat) }
  else x

/-- A DELAY_RESP takes its TURN when it first leaves: until then its slot holds the arrival stamp of the request
(R260). -/
def turnSlot (t : DWord) (frac : Nat) (x : TxSlot) : TxSlot :=
  if isLocal x 0xF2 then
    let d := x.data.toNat
    let turn := (stampOf t frac - (fld d 64 64 * 256 + fld d 8 8)) % 2 ^ 32
    { x with data := BitVec.ofNat 128 (fld d 0 8 + fld d 16 16 * 2 ^ 16 + turn * 2 ^ 32) }
  else x

/-- The departure stamp of a DELAY_REQ among the slots sent, kept as t1 of the exchange it belongs to (R260). -/
def noteRequest (k : Port) (slots : List TxSlot) : Port :=
  slots.foldl (fun k x =>
    if isLocal x 0xF1 then
      match k.request with
      | some (xid, _) =>
        let d := x.data.toNat
        if fld d 16 16 = xid then { k with request := some (xid, fld d 64 64 * 256 + fld d 8 8) } else k
      | none => k
    else k) k

/-! ## Sending a flit (R250 to R253, R256, R263) -/

/-- The header of a flit (R251). -/
def flitHeader (k : Port) (data : Bool) (seq : Nat) (enc : Bool) (phase : Nat) (slots : List TxSlot) : Nat :=
  b2n data + seq % 2 ^ 12 * 2 ^ 4 + (k.expect + 2 ^ 12 - 1) % 2 ^ 12 * 2 ^ 16 + 2 ^ 28 + b2n k.nakDue * 2 ^ 29
    + phase * 2 ^ 30 + b2n enc * 2 ^ 31
    + (slots.zipIdx.map (fun x => x.1.vc % 4 * 2 ^ (32 + 2 * x.2))).sum + slots.length * 2 ^ 60

/-- The port after it sent one flit with these slots, and the flit as sent (R250 to R255, R263). -/
def makeFlit (k : Port) (data : Bool) (seq : Nat) (slots : List TxSlot) : Port × BitVec 2048 :=
  let payload := (slots.zipIdx.map (fun x => x.1.data.toNat * 2 ^ (128 * x.2))).sum
  let credit := tget 0 k.creditVc k.freed % 2 ^ 16 + k.creditVc * 2 ^ 16
  let (enc, phase) := match k.keys with
    | some ks => (true, ks.tx.number % 2)
    | none => (false, 0)
  let header := flitHeader k data seq enc phase slots
  let (ct, tag) := match k.keys with
    | some ks => sealFlit ks.tx ks.endA ks.tx.position header credit payload
    | none => (payload, 0)
  let body := header + ct * 2 ^ 64 + credit * 2 ^ 1856 + tag * 2 ^ 1888
  let k1 := { k with
    nakDue := false, creditVc := (k.creditVc + 1) % 4,
    keys := k.keys.map (fun ks => { ks with tx := { ks.tx with position := ks.tx.position + 1 } }) }
  (k1, BitVec.ofNat 2048 (body + flitCrc body * 2 ^ 2016))

/-- A NEGOTIATE message of this end (R258). -/
def negotiateSlot (s : State) (p : Nat) : TxSlot :=
  ⟨3, true, BitVec.ofNat 128 (0xF4 + 0x01 * 2 ^ 8 + rf s .port p Off.portCfg 0 2 * 2 ^ 16
    + (b2n (portEncReq s p) + 2) * 2 ^ 24 + thisNode s * 2 ^ 32 + p * 2 ^ 48
    + 16384 * 2 ^ 64 + 16384 * 2 ^ 80 + 16384 * 2 ^ 96 + 1024 * 2 ^ 112)⟩

/-- In NEGOTIATE the port sends NEGOTIATE until it has received one, and at least once (R258). -/
def queueNegotiate (s : State) (p : Nat) (k : Port) : Port :=
  if portState s p = Link.negotiate ∧ (!k.negSeen ∨ !k.negSent) ∧ (tget [] 3 k.tx).isEmpty then
    { queueSlot k (negotiateSlot s p) with negSent := true }
  else k

/-- The port after it chose and sent its next flit: the next of a replay, a new DATA flit, or IDLE (R253). -/
def nextFlit (t : DWord) (frac : Nat) (k : Port) : Port × BitVec 2048 :=
  match k.replayAt with
  | some i =>
    match k.buffer[i]? with
    | none => makeFlit { k with replayAt := none } false 0 []
    | some f =>
      let slots := f.slots.map (stampSlot t frac)
      let k1 := noteRequest { k with
        buffer := k.buffer.set i { f with slots := slots, sentAt := t },
        replayAt := if i + 1 < k.buffer.length then some (i + 1) else none } slots
      makeFlit k1 true f.seq slots
  | none =>
    let (k1, l) := if k.buffer.length < 1024 then takeSlots k (fillPlan k) else (k, [])
    if l.isEmpty then makeFlit k1 false 0 []
    else
      let slots := l.map (fun x => turnSlot t frac (stampSlot t frac x))
      let k2 := noteRequest { k1 with
        buffer := k1.buffer ++ [⟨k1.nextSeq, slots, t⟩], nextSeq := (k1.nextSeq + 1) % 2 ^ 12 } slots
      makeFlit k2 true k1.nextSeq slots

/-- `PORT.PORT_TEST.MODE` (R242, R269). -/
def testMode (s : State) (p : Nat) : Nat := rf s .port p Off.portTest 0 2

/-- Whether a port sends and takes flits: its state carries them, and its lanes do not carry a test pattern (R242, R245;
DEDUCED, log entry 111). -/
def flitsRun (s : State) (p : Nat) : Bool := carriesFlits (portState s p) && testMode s p != 1 && testMode s p != 2

/-- The GCM blocks of one flit of a keyed port counted (R263, R380). -/
def countGcm (s : State) (p : Nat) (keyed : Bool) : State := if keyed then countActivity s (p / 8) 61 14 else s

/-- A flit leaves a port: as blocks and codewords over its lanes, and, in near-end loopback, back to its own receiver
(R241 to R244, R250). -/
def sendFlit (s : State) (p : Nat) (k : Port) (bits : BitVec 2048) : State :=
  let (k1, out) := portStream p (BitVec.ofNat 8 (rf s .port p Off.portStatus 16 8)) k bits
  let k2 := if testMode s p = 3 then { k1 with looped := k1.looped ++ [bits] } else k1
  out.foldl emit (emit (updPort s p (fun _ => k2)) (.flit p bits))

/-- FLIT_TRANSMIT: the transmitter sends the next DATA, replayed or IDLE flit, which leaves `frac` of a tick after
BELLTIME (R241 to R244, R250 to R256, R259, R263). -/
def execFlitTransmit (port : Fin 32) (frac : BitVec 8) (s : State) : Host.Outcome State Fault Refusal :=
  linkClocked s <|
  let p := port.val
  if !flitsRun s p then .next s
  else
    let (k, bits) := nextFlit s.time frac.toNat (queueNegotiate s p (portOf s p))
    .next (sendFlit (countGcm (addReg64 s .port p Off.portFlitTxLo 1) p (portOf s p).keys.isSome) p k bits)

/-! ## Receiving a flit (R252, R254, R255, R257, R266) -/

/-- The payload slots a MGMT packet carries, from its operation, RSP and first payload slot: the model's layout of R297. -/
def mgmtSlots (mop : Nat) (rsp : Bool) (first : Nat) : Nat :=
  match mop, rsp with
  | 0x01, true => 1
  | 0x02, false => 1
  | 0x03, false => (1 + fld first 18 4 + 3) / 4
  | 0x04, false => 2
  | _, _ => 0

/-- How many slots a routed packet has, from the slots that have come (R282, R284, R297). -/
def packetSlots (s : State) (l : List QWord) : Nat :=
  let h := (l.headD 0).toNat
  let bytes := 4 * fld h 114 8
  match fld h 0 8 with
  | 0x02 | 0x03 => 1 + (bytes + 15) / 16
  | 0x04 | 0x12 => 2
  | 0x10 => 1 + (4 * fld h 68 8 + 15) / 16
  | 0x20 => 1 + (4 * fld h 112 8 + 15) / 16 + (if fld (tget 0 (fld h 64 8) s.groups).toNat 100 2 = 0 then 0 else 1)
  | 0x30 => 1 + (if fld h 72 8 = 3 ∧ l.length < 2 then 1 else mgmtSlots (fld h 72 8) (bitAt h 96) (l.getD 1 0).toNat)
  | 0x31 => 3 + (if fld h 72 8 = 3 ∧ l.length < 4 then 1 else mgmtSlots (fld h 72 8) (bitAt h 96) (l.getD 3 0).toNat)
  | _ => 1

/-- The packet that slots form. -/
def packetOf (l : List QWord) : Packet := ⟨l.headD 0, (l.drop 1).flatMap (fun q => toBytes 16 q.toNat)⟩

/-- One accepted slot passes up: a link-local message is kept for its step, a packet enters the link die once its last
slot has come; a slot that its place does not allow is a protocol error. `routed` says whether the flit may hold routed
slots: the port is ACTIVE and, where it has keys, the flit was encrypted (R254, R257, R262, R266). -/
def passUp (p frac : Nat) (routed : Bool) (s : State) (x : Nat × Nat) : State :=
  let (vc, data) := x
  let st := portState s p
  let k := portOf s p
  let part := tget [] vc k.rx
  let type := data % 256
  if st = Link.failed then s
  else if part.isEmpty ∧ 0xF0 ≤ type then
    if vc = 3 ∧ type ≤ 0xF4 then
      updPort s p (fun k => { k with locals := k.locals ++ [⟨BitVec.ofNat 128 data, s.time, BitVec.ofNat 8 frac⟩] })
    else protocolError s p 2
  else if !routed then protocolError s p 2
  else
    let l := part ++ [BitVec.ofNat 128 data]
    if packetSlots s l ≤ l.length then
      route (updPort s p (fun k => { k with rx := tset [] vc [] k.rx })) (p / 8) (packetOf l) (some p)
    else updPort s p (fun k => { k with rx := tset [] vc l k.rx })

/-- An acknowledgement applied: flits up to ACK freed, progress resetting the entries to REPLAY (R253). -/
def applyAck (s : State) (p ack : Nat) : State :=
  updPort s p (fun k =>
    let n := (ack + 1 + 2 ^ 12 - k.oldest) % 2 ^ 12
    if n = 0 ∨ k.buffer.length < n then k
    else { k with
      buffer := k.buffer.drop n, replays := 0,
      replayAt := match k.replayAt with
        | some i => if k.buffer.length ≤ max i n then none else some (i - n)
        | none => none })

/-- A credit return applied; a TOTAL beyond the slots sent is a protocol error (R255, R266). -/
def applyCredit (s : State) (p word : Nat) : State :=
  let vc := fld word 16 2
  let out := (tget 0 vc (portOf s p).sent + 2 ^ 16 - fld word 0 16) % 2 ^ 16
  if 2 ^ 15 ≤ out then protocolError s p 1
  else updPort s p (fun k => { k with peerFreed := tset 0 vc (fld word 0 16) k.peerFreed })

/-- A NAK becomes due, unless one was sent since the last acceptance (R254). -/
def dueNak (s : State) (p : Nat) : State :=
  updPort s p (fun k => if k.nakSent then k else { k with nakDue := true, nakSent := true })

/-- A good flit's ACK, NAK and credit fields, then its slots, which pass up even where its NAK starts a RETRAIN (R253 to
R255). -/
def goodFlit (s : State) (p frac f payload : Nat) : State :=
  let routed := portState s p == Link.active && (FlitBits.enc f || (portOf s p).keys.isNone)
  let s1 := if FlitBits.ackV f then applyAck s p (FlitBits.ack f) else s
  let s2 := if FlitBits.nak f then enterReplay s1 p 0 else s1
  let s3 := applyCredit s2 p (FlitBits.credit f)
  if FlitBits.kind f = 0 ∨ portState s3 p = Link.failed then s3
  else
    let ahead := (FlitBits.seq f + 2 ^ 12 - (portOf s3 p).expect) % 2 ^ 12
    if ahead = 0 then
      let s4 := updPort s3 p (fun k => { k with expect := (k.expect + 1) % 2 ^ 12, nakSent := false })
      ((List.range (FlitBits.used f)).map (fun i => (FlitBits.slotVc f i, fld payload (128 * i) 128))).foldl (passUp p frac routed) s4
    else if 2 ^ 11 ≤ ahead then s3
    else dueNak s3 p

/-- What the security layer finds of a flit that passed its CRC. -/
inductive TagCheck where
  | good (payload : Nat) (keys : Option PortKeys)
  | fail
  | noKey
  deriving DecidableEq, Repr

/-- The security layer's check of a flit (R262, R263, R265). The receiver looks for the first flit under its first or its
next generation at each position that the flits discarded since the last good one leave open. -/
def checkTag (k : Port) (f : Nat) : TagCheck :=
  match k.keys with
  | none => if FlitBits.enc f then .noKey else .good (FlitBits.payload f) none
  | some ks =>
    let ab := !ks.endA
    let next := fun (g : Generation) (r : Nat × Nat) =>
      TagCheck.good r.2 (some { ks with rx := { g with position := r.1 + 1 }, encSeen := true })
    if !FlitBits.enc f then
      if ks.encSeen then .fail else .good (FlitBits.payload f) (some ks)
    else if !ks.encSeen then
      match openAmong ks.rx ab f 0 k.badRun with
      | some r => next ks.rx r
      | none => .fail
    else if FlitBits.keyPhase f = ks.rx.number % 2 then
      match openFlit ks.rx ab ks.rx.position f with
      | some v => next ks.rx (ks.rx.position, v)
      | none => .fail
    else
      match openAmong ks.rx.next ab f 0 k.badRun with
      | some r => next ks.rx.next r
      | none => .fail

/-- A bad flit: discarded whole; its position counts, and a NAK becomes due (R252, R254, R263). -/
def badFlit (s : State) (p : Nat) : State :=
  dueNak (updPort s p (fun k => { k with
    badRun := k.badRun + 1,
    keys := k.keys.map (fun ks =>
      if ks.encSeen then { ks with rx := { ks.rx with position := ks.rx.position + 1 } } else ks) })) p

/-- A flit whose tag fails: counted and recorded; the fourth in a row fails the port (R266, R268). -/
def tagFailed (s : State) (p f : Nat) : State :=
  let n := (portOf s p).tagFails + 1
  let s1 := linkEvent (incReg s .port p Off.portTagFailCount) p 0x06 (FlitBits.seq f * 2 ^ 20 + min n 15 * 2 ^ 16)
    (decide (4 ≤ n))
  let s2 := updPort (badFlit s1 p) p (fun k => { k with tagFails := n })
  if 4 ≤ n then portFail s2 p else s2

/-- The codewords of a pair counted, with the FEC_UNCORRECTED record at most once in 2¹⁴ ticks (R243, R268, R330). -/
def countFec (s : State) (p corrected uncorrectable : Nat) : State :=
  let s1 := watchCount (addReg s .port p Off.portFecCorr corrected) 1 corrected
  if uncorrectable = 0 then s1
  else
    let s2 := watchCount (addReg s1 .port p Off.portFecUncorr uncorrectable) 2 uncorrectable
    let n := (portOf s2 p).fecLost + uncorrectable
    if (portOf s2 p).fecAt = 0 ∨ (portOf s2 p).fecAt - 1 + 2 ^ 14 ≤ s.time.toNat then
      linkRecord (updPort s2 p (fun k => { k with fecLost := 0, fecAt := s.time.toNat + 1 })) p 0x05 (min n (2 ^ 32 - 1))
    else updPort s2 p (fun k => { k with fecLost := n })

/-- The codewords among those with these numbers of symbols in error that the decoder corrects (R243). -/
def fecCorrected (l : List (BitVec 10)) : Nat :=
  (l.filter (fun n => n != 0 && decide (n.toNat ≤ rsReach))).length

/-- The codewords among those that it cannot correct (R243). -/
def fecLostWords (l : List (BitVec 10)) : Nat := (l.filter (fun n => decide (rsReach < n.toNat))).length

/-- The flit that arrives next in near-end loopback: the oldest that the port itself sent (R242). -/
def loopTaken (s : State) (p : Nat) (bits : BitVec 2048) : Bool :=
  testMode s p != 3 || (portOf s p).looped.head? == some bits

/-- FLIT_RECEIVED: a flit arrives `frac` of a tick after BELLTIME. `ended` are the symbols in error of each codeword that
ends with it, `pair` those of each codeword of the pairs that hold any byte of it: the decoder corrects up to 15 in a
codeword. The flit is discarded as bad, or its fields are applied and its slots pass up; in near-end loopback it is one
that the port sent (R242, R243, R250 to R257, R262 to R266). -/
def execFlitReceived (port : Fin 32) (bits : BitVec 2048) (ended pair : List (BitVec 10)) (frac : BitVec 8)
    (s : State) : Host.Outcome State Fault Refusal :=
  linkClocked s <|
  let p := port.val
  let f := bits.toNat
  let lost := decide (0 < fecLostWords pair)
  if !flitsRun s p || !loopTaken s p bits then .next s
  else
    let s1 := countFec (updPort s p (fun k => { k with looped := k.looped.drop 1 })) p (fecCorrected ended)
      (fecLostWords ended)
    let crcBad := flitCrc (fld f 0 2016) != FlitBits.crc f
    let s2 := if crcBad then incReg s1 .port p Off.portCrcErr else s1
    if lost || crcBad || flitReserved f then .next (badFlit s2 p)
    else match checkTag (portOf s2 p) f with
      | .noKey => .next (badFlit s2 p)
      | .fail => .next (tagFailed (countGcm s2 p (FlitBits.enc f)) p f)
      | .good payload keys =>
        let s3 := updPort (countGcm s2 p (FlitBits.enc f)) p (fun k => { k with keys := keys, badRun := 0, tagFails := 0 })
        .next (goodFlit s3 p frac.toNat f payload)

/-- REPLAY_TIMEOUT: the oldest buffered flit has stayed unacknowledged for REPLAY ticks; the transmitter enters REPLAY
from it (R253). -/
def execReplayTimeout (port : Fin 32) (s : State) : Host.Outcome State Fault Refusal :=
  linkClocked s <|
  let p := port.val
  match (portOf s p).buffer with
  | [] => .next s
  | f :: _ =>
    if carriesFlits (portState s p) ∧ (portOf s p).replayAt = none ∧
        f.sentAt.toNat + rf s .port p Off.portTimer 0 16 ≤ s.time.toNat then .next (enterReplay s p 0)
    else .next s

/-! ## Training (R245 to R249) -/

/-- LANE_SIGNAL_DETECT: the lanes of a port in DETECT show signal; it enters TRAIN (R245). -/
def execLaneSignalDetect (port : Fin 32) (s : State) : Host.Outcome State Fault Refusal :=
  linkClocked s <|
  if portState s port.val = Link.detect then .next (setPortState s port.val Link.train) else .next s

/-- TRAIN_COMPLETE: the receiver has judged its lanes; `good` is its mask, which its lane reports carry (R245, R246). -/
def execTrainComplete (port : Fin 32) (good : BitVec 8) (s : State) : Host.Outcome State Fault Refusal :=
  linkClocked s <|
  let p := port.val
  if portState s p = Link.train ∧ (portOf s p).mask = none then
    let s1 := updPort (setRf s .port p Off.portStatus 8 8 good.toNat) p (fun k => { k with mask := some good })
    .next (decideLanes (sendReports s1 p good) p)
  else .next s

/-- LANE_REPORT: the peer's lane report arrives: in TRAIN and in RETRAIN the lane set is chosen once both masks are known,
and a port that carries flits enters RETRAIN too (R246 to R248, R253). -/
def execLaneReport (port : Fin 32) (mask : BitVec 8) (minWidth : BitVec 2) (s : State) :
    Host.Outcome State Fault Refusal :=
  linkClocked s <|
  let p := port.val
  let st := portState s p
  if carriesFlits st then
    .next (decideLanes (startRetrain s p (BitVec.ofNat 8 (rf s .port p Off.portStatus 8 8)) (some (mask, minWidth))) p)
  else if (st = Link.train ∨ st = Link.retrain) ∧ (portOf s p).chosen = none then
    .next (decideLanes (updPort s p (fun k => { k with peerMask := some (mask, minWidth) })) p)
  else .next s

/-- The lane set chosen comes into use, and its blocks start anew (R247, R269). -/
def useLanes (s : State) (p : Nat) : State :=
  match (portOf s p).chosen with
  | some m => updPort (setRf s .port p Off.portStatus 16 8 m.toNat) p (fun k => { k with blockCount := 0, fecBlocks := [] })
  | none => s

/-- FEC_LOCK: a port in ALIGN has FEC lock and deskew on its lane set; it enters NEGOTIATE with 4 credits on VC 3 (R245,
R258). -/
def execFecLock (port : Fin 32) (s : State) : Host.Outcome State Fault Refusal :=
  linkClocked s <|
  let p := port.val
  if portState s p = Link.align then
    let s1 := updPort (useLanes s p) p (fun k => { k with peerSize := tset 0 3 4 [] })
    .next (setPortState s1 p Link.negotiate)
  else .next s

/-- A port enters ACTIVE from training: both credit totals start at 0, and the LINK UP record is written (R245, R255,
R268). -/
def portActive (s : State) (p : Nat) : State :=
  let s1 := updPort s p (fun k => { k with sent := [], peerFreed := [], freed := [], dawn := false })
  let lanes := rf s .port p Off.portStatus 16 8
  setPortState (linkEvent s1 p 0x01 (lanes * 2 ^ 24 + popCount 8 lanes * 2 ^ 20) true) p Link.active

/-- The first link-local message of a port, when it is of a type; its slot is freed (R255 to R257). -/
def takeLocal (s : State) (p type : Nat) : Option (LocalMsg × State) :=
  match (portOf s p).locals with
  | m :: rest =>
    if m.slot.toNat % 256 = type then some (m, freeSlots (updPort s p (fun k => { k with locals := rest })) p 3 1)
    else none
  | [] => none

/-- An SPDM message as SECURE messages of up to 12 B (R257). -/
def fragments (msg : List Byte) : List TxSlot :=
  let n := (msg.length + 11) / 12
  (chunks 12 n msg).zipIdx.map (fun x =>
    ⟨3, true, BitVec.ofNat 128 (0xF3 + (b2n (x.2 == 0) + 2 * b2n (x.2 + 1 == n)) * 2 ^ 8 + x.1.length * 2 ^ 16
      + ofBytes x.1 * 2 ^ 32)⟩)

/-- The SPDM messages this end sends after those it has received (R264). -/
def queueSpdm (s : State) (p : Nat) : State :=
  updPort s p (fun k => ((Config.spdmSend k.spdm).flatMap fragments).foldl queueSlot k)

/-- Whether a NEGOTIATE message is malformed (R258). -/
def negotiateBad (k : Port) (m : Nat) : Bool :=
  fld m 8 8 != 1 || fld m 26 6 != 0 || fld m 46 2 != 0 || fld m 53 3 != 0 || fld m 56 8 != 0
    || (match k.peerMask with
        | some (_, w) => fld m 16 8 != w.toNat
        | none => false)

/-- NEGOTIATE: the port's first link-local message is a NEGOTIATE: the port records the peer and moves to SECURE or
ACTIVE, goes DOWN where the ends cannot agree on encryption, or fails on a malformed one; in a later state it changes
nothing. With the entropy source failed the port does not enter SECURE, and its phase runs out (R245, R258, R262,
R369). -/
def execNegotiate (port : Fin 32) (s : State) : Host.Outcome State Fault Refusal :=
  linkClocked s <|
  let p := port.val
  match takeLocal s p 0xF4 with
  | none => .next s
  | some (msg, s1) =>
    let m := msg.slot.toNat
    if portState s p ≠ Link.negotiate ∨ (portOf s p).negSeen then .next s1
    else if negotiateBad (portOf s p) m then .next (protocolError s1 p 3)
    else
      let s2 := setReg s1 .port p Off.portPeer
        (BitVec.ofNat 32 (fld m 32 14 + fld m 48 5 * 2 ^ 14 + 2 ^ 31))
      let sizes := (List.range 4).foldl (fun t v => tset 0 v (fld m (64 + 16 * v) 16) t) []
      let s3 := updPort s2 p (fun k =>
        { queueNegotiate s p { k with negSeen := true } with peerSize := sizes })
      let req := portEncReq s p
      if req ∧ !bitAt m 25 then .next (portDown s3 p 5)
      else if (req ∨ bitAt m 24) ∧ rbit s .keys 0 Off.status 0 then .next s3
      else if req ∨ bitAt m 24 then .next (queueSpdm (setPortState s3 p Link.secure) p)
      else .next (portActive s3 p)

/-- SECURE: the port's first link-local message is a fragment of an SPDM message; the last fragment completes the
message, and the session's end installs the keys and makes the port ACTIVE. The end whose provisioned ID is lower is end A.
In another state the message is consumed and changes nothing (R257, R262, R264). -/
def execSecure (port : Fin 32) (s : State) : Host.Outcome State Fault Refusal :=
  linkClocked s <|
  let p := port.val
  match takeLocal s p 0xF3 with
  | none => .next s
  | some (msg, s1) =>
    if portState s p ≠ Link.secure then .next s1
    else
    let m := msg.slot.toNat
    let len := min (fld m 16 16) 12
    let k := portOf s1 p
    let frag := (if bitAt m 8 then [] else k.fragment) ++ toBytes len (m / 2 ^ 32)
    if !bitAt m 9 then .next (updPort s1 p (fun k => { k with fragment := frag }))
    else
      let s2 := updPort s1 p (fun k => { k with fragment := [], spdm := k.spdm ++ [frag] })
      let s3 := queueSpdm s2 p
      match Config.spdmSecret (portOf s2 p).spdm with
      | none => .next s3
      | some (peer, secret) =>
        let g : Generation := ⟨0, secret, 0⟩
        let endA := decide (Config.provisionedId.toNat < peer.toNat)
        let s4 := updPort s3 p (fun k => { k with keys := some ⟨endA, g, g, false⟩ })
        .next (portActive (setRf s4 .port p Off.portStatus 24 2 1) p)

/-- The bound of a phase in ticks, none where R245 sets none. -/
def phaseBound (st : Nat) : Option Nat :=
  if st = Link.train then some 125000000
  else if st = Link.align then some 250000
  else if st = Link.negotiate then some 25000
  else if st = Link.secure then some 50000000
  else if st = Link.retrain then some 12500
  else none

/-- A port that fails its first training since dawn enabled it is a failure of dawn step 7 (R425). -/
def dawnPortFail (s : State) (p : Nat) : State :=
  if (portOf s p).dawn then setRf s .global 0 Off.globalDawn 12 4 7 else s

/-- PHASE_TIMEOUT: a phase has exceeded its bound: a training phase returns the port to DETECT and is counted, a RETRAIN
takes it DOWN (R245, R249, R268). -/
def execPhaseTimeout (port : Fin 32) (s : State) : Host.Outcome State Fault Refusal :=
  linkClocked s <|
  let p := port.val
  let st := portState s p
  match phaseBound st with
  | none => .next s
  | some n =>
    if s.time.toNat ≤ (portOf s p).since.toNat + n then .next s
    else if st = Link.retrain then .next (portDown (countRetrain s p) p 3)
    else
      let s1 := linkEvent (dawnPortFail (countRetrain s p) p) p 0x02 (1 * 2 ^ 24) true
      .next (setPortState (updPort (clearLinkRegs s1 p) p Port.cleared) p Link.detect)

/-- LANE_FAIL: an active lane loses block lock, or has had more than 1,000,000 corrected symbols in a window; the port
starts RETRAIN without it (R248). -/
def execLaneFail (port : Fin 32) (lane : Fin 8) (s : State) : Host.Outcome State Fault Refusal :=
  linkClocked s <|
  let p := port.val
  if portState s p = Link.active ∧ rbit s .port p Off.portStatus (16 + lane.val) then
    .next (startRetrain s p (BitVec.ofNat 8 (setFld (rf s .port p Off.portStatus 8 8) lane.val 1 0)) none)
  else .next s

/-- RETRAIN_DONE: both ends have realigned at the lane set chosen; the port is ACTIVE again, or in the state of training it
left, and replays from the last acknowledged flit, with a LINK WIDTH record where its width changed (R248, R268). -/
def execRetrainDone (port : Fin 32) (s : State) : Host.Outcome State Fault Refusal :=
  linkClocked s <|
  let p := port.val
  match (portOf s p).chosen with
  | none => .next s
  | some m =>
    if portState s p ≠ Link.retrain then .next s
    else
      let old := popCount 8 (rf s .port p Off.portStatus 16 8)
      let s0 := if laneCount m = old then s
        else linkEvent s p 0x03 (m.toNat * 2 ^ 24 + laneCount m * 2 ^ 20 + old * 2 ^ 16) true
      let s1 := setPortState (useLanes s0 p) p (portOf s p).resume
      let s2 := if (portOf s p).buffer.isEmpty then s1 else incReg s1 .port p Off.portReplayCount
      .next (updPort s2 p (fun k => { k with
        chosen := none, replays := 0, replayAt := if k.buffer.isEmpty then none else some 0 }))

/-- PEER_SILENT: the peer has stopped answering; the port goes DOWN (R249). -/
def execPeerSilent (port : Fin 32) (s : State) : Host.Outcome State Fault Refusal :=
  linkClocked s <|
  let st := portState s port.val
  if st = Link.active ∨ st = Link.retrain then .next (portDown s port.val 4) else .next s

/-! ## Commands of software (R249, R265, R474) -/

/-- The port the PORT window shows (R433). -/
def windowPort (s : State) : Nat := rf s .port 0 Off.sel 0 5

/-- The effect of PORT_CMD.RETRAIN on port `p`: a port that carries anything goes DOWN first, and full training starts
from DETECT (R245, R249). -/
def portRetrain (s : State) (p : Nat) : State :=
  let st := portState s p
  if st = Link.detect then s
  else if st = Link.down then setPortState s p Link.detect
  else portDown s p 6

/-- The effect of PORT_CMD.REKEY on port `p`, ignored unless ACTIVE and encrypted (R265, R269). -/
def portRekey (s : State) (p : Nat) : State := if portState s p = Link.active then rekey s p else s

/-- REKEY_LIMIT: 2³² flit positions have passed under one key generation; the transmitter moves to the next (R265). -/
def execRekeyLimit (port : Fin 32) (s : State) : Host.Outcome State Fault Refusal :=
  linkClocked s <|
  match (portOf s port.val).keys with
  | none => .next s
  | some ks => if 2 ^ 32 ≤ ks.tx.position then .next (rekey s port.val) else .next s

/-- A port whose page is enabled leaves DOWN for DETECT (R245, R464). -/
def portEnabled (s : State) (p : Nat) : State := if portState s p = Link.down then setPortState s p Link.detect else s

/-- A port whose ENABLE software has cleared goes DOWN (R249, R465). -/
def portDisabled (s : State) (p : Nat) : State := if portState s p = Link.down then s else portDown s p 6

end Sys2Proof.Machine
end

