-- ==== Sys2Proof/Machine/Gates.lean ====
section
/-!
DEFINITION. Gates, arrivals and signals (R65 to R80, R84), and the entries that send them.
-/
namespace Sys2Proof.Machine

/-! ## Shared operations -/

/-- Whether context `ctx` is resident and not being switched out (R69). -/
def residentStaying (s : State) (ctx : Nat) : Bool :=
  resident s == ctx && ctx != 0 && contextStays s

/-- Whether a core of the resident context still runs (R446). -/
def contextRuns (s : State) (ctx : Nat) : Bool :=
  resident s == ctx && ctx != 0
    && s.cores.any (fun e => e.2.alm.state == .running || e.2.alm.state == .starved)

/-- STATUS of an arrival at a core's gate: 0 ACCEPTED, 2 NOT_ARMED, 1 NOT_RESIDENT; a LOST gate answers NOT_RESIDENT, and
one of a core that is OFFLINE NOT_ARMED (R69, R78, R80, R286). -/
def arriveStatus (s : State) (c g ctx : Nat) : Nat :=
  let gate := gateOf (core s c) g
  if coreOffline s c then 2
  else if gate.state = .lost then 1
  else if gate.state ≠ .armed then 2
  else if gate.owner.toNat ≠ ctx then 1
  else if residentStaying s ctx then 0 else 1

/-- One accepted arrival applied: ARRIVED counts, and at COUNT the gate starts its next phase (R68). -/
def Gate.arrive (g : Gate) : Gate :=
  if g.arrived.toNat + 1 = g.count.toNat then { g with arrived := 0, phase := !g.phase }
  else { g with arrived := g.arrived + 1 }

/-- A gate of a core replaced. -/
def Core.setGate (k : Core) (g : Nat) (v : Gate) : Core := { k with gates := tset Gate.reset g v k.gates }

/-- Every gate of a core IDLE (R80). -/
def Core.idleGates (k : Core) : Core := { k with gates := tmap (fun _ => Gate.reset) (fun _ g => { g with state := .idle }) k.gates }

/-- The gates of core `c` as they may stand: IDLE while it is OFFLINE (R80). -/
def heldGates (s : State) (c : Nat) (k : Core) : Core := if coreOffline s c then k.idleGates else k

/-- A refused, unrouted or timed-out ARRIVE or SIGNAL at its sender: the OWNER_LOST record and the count (R70, R79).
`resp` is the two-bit response of R79. -/
def ownerLostSender (s : State) (c resp node target index : Nat) : State :=
  let s1 := coreRecord s c 0x01 0x02
    (det (2 ^ 31 + resp * 2 ^ 29 + node * 2 ^ 15 + target * 2 ^ 6 + index))
  incReg s1 .core c Off.coreArriveRefusedCount

/-- The two-bit response and index that R79 records for a STATUS of an ARRIVE or SIGNAL. -/
def lostFields (signal : Bool) (status index : Nat) : Nat × Nat :=
  if status = 1 then (if signal then (3, 0) else (1, index))
  else if status = 2 then (2, index)
  else (0, if signal then 0x3F else index)

/-- An ARRIVE or SIGNAL of core `c` is answered: its place frees, and a STATUS other than OK is reported (R70, R87). -/
def finishMessage (s : State) (c id status : Nat) (signal : Bool) (node target index : Nat) : State :=
  match (core s c).op id with
  | none => s
  | some _ =>
    let s1 := updCore s c (fun k => k.drop id)
    if status = 0 then s1
    else
      let (r, i) := lostFields signal status index
      ownerLostSender s1 c r node target i

/-- The answer to an arrival or signal reaches its sender: a packet through the target's link die, or at once on this
device (R69, R84). -/
def answerTransit (s : State) (t : Transit) (status : Nat) : State :=
  match t.packet with
  | some p => route s (t.core / 128) (answer s p status []) none
  | none => finishMessage s t.srcCore t.srcOp status t.signal (thisNode s) t.core t.index

/-- A GATE OWNER_LOST record for a head entry in a GATE wait that is released (R77 to R79). -/
def ownerLostWaiter (s : State) (c : Nat) : State :=
  let k := core s c
  match k.alm.headEntry with
  | none => s
  | some e =>
    if (k.alm.state = .running ∨ k.alm.state = .starved) ∧ k.alm.halting = false ∧ entRemoteSignal e = false ∧
        entOp e ≠ 0x11 ∧ entKind e = 1 ∧ waitHolds k e = false then
      coreRecord s c 0x01 0x02
        (det (k.alm.slot * 2 ^ 21 + entId e * 2 ^ 15 + (gateOf k (entId e)).arrived.toNat))
    else s

/-- The gates of a core that a switch point leaves dirty: owned by the context, ARMED, and not as armed (R76). -/
def dirtyGates (k : Core) (ctx : Nat) : List (Nat × Gate) :=
  k.gates.filter (fun g => g.2.state == .armed && g.2.owner.toNat == ctx
    && (g.2.arrived != 0 || g.2.phase != g.2.phase0))

/-- The gate check of a switch point: one DIRTY record and one count for each dirty gate (R76). -/
def gateCheck (s : State) (c slot : Nat) : State :=
  (dirtyGates (core s c) (resident s)).foldl (fun s g =>
    incReg (coreRecord s c 0x01 0x03
      (det (slot * 2 ^ 22 + g.1 * 2 ^ 16 + b2n (g.2.phase != g.2.phase0) * 2 ^ 15 + g.2.arrived.toNat)))
      .core c Off.coreGateDirtyCount) s

/-! ## Entries that send -/

/-- ARRIVE: the entry launches and an arrival leaves for a gate of this device or of another node (R69, R70, R87). -/
def execArrive (core' : Fin 512) (s : State) : Host.Outcome State Fault Refusal :=
  let c := core'.val
  .next (launch s c .arrive (fun k _ => hasRoom k) (fun s' e =>
    let k := core s' c
    let ctx := resident s'
    let gate := entArg e 19 6
    let target := entArg e 25 9
    let o := Op.mk0 .arrive ctx k.alm.slot 0
    let local' := entArg e 18 1 == 1
    let o := if local' then { o with started := true }
      else { o with todo := [⟨.arrive, entArg e 34 14, 0, 0, 0, 0, 0, gate + 64 * target, 0, 0⟩] }
    let s1 := advanceHead (setCore s' c (k.push o)) c
    if local' then { s1 with transit := s1.transit ++ [⟨false, target, gate, ctx, none, none, c, k.nextOp⟩] } else s1))

/-- SIGNAL: the entry launches and an increment leaves for a flag of a core of this device or of another node (R81,
R84, R87). -/
def execSignal (core' : Fin 512) (s : State) : Host.Outcome State Fault Refusal :=
  let c := core'.val
  .next (launch s c .signal (fun k _ => hasRoom k) (fun s' e =>
    let k := core s' c
    let ctx := resident s'
    let flag := entArg e 18 8
    let target := entArg e 26 9
    let node := entArg e 35 13 + 2 ^ 13 * (entId e / 128)
    let o := Op.mk0 .signal ctx k.alm.slot 0
    let local' := entArg e 17 1 == 1
    let o := if local' then { o with started := true }
      else { o with todo := [⟨.signal, node, 0, 0, 0, 0, 0, flag + 256 * target, 0, 0⟩] }
    let s1 := advanceHead (setCore s' c (k.push o)) c
    if local' then { s1 with transit := s1.transit ++ [⟨true, target, flag, ctx, none, none, c, k.nextOp⟩] } else s1))

/-! ## Arrivals and signals at their target -/

/-- An arrival or signal leaves the receive slot it holds (R255). -/
def releaseTransit (s : State) (t : Transit) : State :=
  match t.ingress with
  | some p => freeSlots s p 0 1
  | none => s

/-- The list without its element at an index. -/
def removeAt {α : Type} (l : List α) (i : Nat) : List α := l.take i ++ l.drop (i + 1)

/-- ARRIVE_RECEIVED: the arrival at `index` among those under way reaches its core: it is accepted into the arrival
queue, held while that queue is full, or refused (R69 to R71, R80). -/
def execArriveReceived (index : Nat) (s : State) : Host.Outcome State Fault Refusal :=
  linkClocked s <|
  match s.transit[index]? with
  | none => .next s
  | some t =>
    if t.signal then .next s
    else
      let status := arriveStatus s t.core t.index t.ctx
      if status = 0 ∧ 64 ≤ (core s t.core).arrivals.length then .next s
      else
        let s1 := releaseTransit { s with transit := removeAt s.transit index } t
        let s2 := if status = 0 then updCore s1 t.core (fun k => { k with arrivals := k.arrivals ++ [t.index] }) else s1
        .next (answerTransit s2 t status)

/-- ARRIVAL_APPLY: the core applies the oldest queued arrival (R68, R71). -/
def execArrivalApply (core' : Fin 512) (s : State) : Host.Outcome State Fault Refusal :=
  let c := core'.val
  match (core s c).arrivals with
  | [] => .next s
  | g :: rest =>
    .next (updCore s c (fun k => ({ k with arrivals := rest }).setGate g (gateOf k g).arrive))

/-- SIGNAL_RECEIVED: the signal at `index` among those under way reaches its core: its flag is incremented when the
sender's context is resident and runs here, and it is refused otherwise (R84). -/
def execSignalReceived (index : Nat) (s : State) : Host.Outcome State Fault Refusal :=
  linkClocked s <|
  match s.transit[index]? with
  | none => .next s
  | some t =>
    if !t.signal then .next s
    else
      let s1 := releaseTransit { s with transit := removeAt s.transit index } t
      if contextRuns s t.ctx && residentStaying s t.ctx then
        .next (answerTransit (completeFlag s1 t.core t.index false) t 0)
      else .next (answerTransit s1 t 1)

/-- The tick a GATE wait's timeout started: the latest of the scheduled tick and the tick the entry became the head or
its context resumed (R74). -/
def timeoutStart (a : Almanac) (e : QWord) : Nat := max (schedTick a e).toNat a.headSince.toNat

/-- GATE_TIMEOUT: a GATE wait is still unmet TICKS ticks after its timeout started: one record, one count, and the core
keeps waiting (R74, R75, R92). -/
def execGateTimeout (core' : Fin 512) (s : State) : Host.Outcome State Fault Refusal :=
  let c := core'.val
  let k := core s c
  match k.alm.headEntry with
  | none => .next s
  | some e =>
    let g := gateOf k (entId e)
    if (k.alm.state = .running ∨ k.alm.state = .starved) ∧ k.alm.halting = false ∧ k.alm.timeoutFired = false ∧
        coreClocked s c ∧ contextStays s ∧ entRemoteSignal e = false ∧ entOp e ≠ 0x11 ∧ entKind e = 1 ∧
        waitForeign k (resident s) e = false ∧ waitHolds k e = false ∧ g.ticks ≠ 0 ∧
        timeoutStart k.alm e + g.ticks.toNat ≤ s.time.toNat then
      let s1 := updCore s c (fun k => { k with alm := { k.alm with timeoutFired := true } })
      let s2 := coreRecord s1 c 0x01 0x01 (det (k.alm.slot * 2 ^ 22 + entId e * 2 ^ 16 + g.arrived.toNat))
      .next (incReg s2 .core c Off.coreGateTimeoutCount)
    else .next s

/-! ## Configuration -/

/-- A write of GATE_CFG through the CORE window: refused, or the gate armed, or disarmed; a gate of a core that is OFFLINE
stays IDLE (R66, R67, R80). -/
def writeGateCfg (s : State) (c : Nat) (v : Word) : State :=
  let g := rf s .core c Off.coreGateSel 0 6
  let gate := gateOf (core s c) g
  let owner := fld v.toNat 16 5
  let count := fld v.toNat 0 15
  let arm := v.toNat.testBit 31
  if fld v.toNat 21 10 ≠ 0 then refuse s .core c 0x01 Off.coreGateCfg
  else if arm ∧ count = 0 then refuse s .core c 0x02 Off.coreGateCfg
  else if contextRuns s gate.owner.toNat ∨ contextRuns s owner then refuse s .core c 0x08 Off.coreGateCfg
  else if 48 ≤ g then s
  else
    let gate := { gate with
      count := BitVec.ofNat 15 count, phase0 := v.toNat.testBit 15, owner := BitVec.ofNat 5 owner, arm := arm }
    let gate := if arm ∧ !coreOffline s c then { gate with arrived := 0, phase := gate.phase0, state := .armed }
      else { gate with state := .idle }
    updCore s c (fun k => k.setGate g gate)

/-- A write of GATE_TIMEOUT through the CORE window (R66, R67). -/
def writeGateTimeout (s : State) (c : Nat) (v : Word) : State :=
  let g := rf s .core c Off.coreGateSel 0 6
  let gate := gateOf (core s c) g
  if fld v.toNat 24 8 ≠ 0 then refuse s .core c 0x01 Off.coreGateTimeout
  else if contextRuns s gate.owner.toNat then refuse s .core c 0x08 Off.coreGateTimeout
  else if 48 ≤ g then s
  else updCore s c (fun k => k.setGate g { gate with ticks := BitVec.ofNat 24 (fld v.toNat 0 24) })

/-- The core the CORE window shows (R433). -/
def windowCore (s : State) : Nat := rf s .core 0 Off.sel 0 9

/-! ## Switch points -/

/-- SWITCH: with no switch pending the entry launches and the gate check runs; with one pending the core stands at its
switch point and launches nothing until the context has been switched out and back in (R51, R76, R360). -/
def execSwitch (core' : Fin 512) (s : State) : Host.Outcome State Fault Refusal :=
  let c := core'.val
  if s.switch.phase = .idle then
    .next (launch s c .switch (fun _ _ => true) (fun s' _ => advanceHead (gateCheck s' c (core s' c).alm.slot) c))
  else .next s

/-- HALTED: every operation in flight after a HALT has completed; STATE reads HALTED and the gate check runs (R51,
R76, R92). -/
def execHalted (core' : Fin 512) (s : State) : Host.Outcome State Fault Refusal :=
  let c := core'.val
  let k := core s c
  if k.alm.halting ∧ (k.alm.state = .running ∨ k.alm.state = .starved) ∧ k.ops.isEmpty ∧ k.mxRuns.isEmpty ∧
      k.mxPend = none ∧ k.vxRuns.isEmpty ∧ k.vxPend = none then
    let s1 := noteBuckets s (updCore s c (fun k => { k with alm := { k.alm with state := .halted } }))
    .next (raiseInt (gateCheck s1 c k.alm.slot) .core c 0)
  else .next s

end Sys2Proof.Machine
end

