-- ==== Sys2Proof/Machine/Fabric.lean ====
section
/-!
DEFINITION. The Tilby hall memory space from the source's side: FETCH, PUT and ATOMIC descriptors (R277 to R281), the
issue of transactions (R278, R285), forwarding (R290 to R292), and what an answer does to an operation (R287, R288).
-/
namespace Sys2Proof.Machine

/-! ## FETCH and PUT (R277 to R279) -/

/-- RESERVED_SET of a FETCH or PUT: reserved bits, endpoints' reserved bits, and the fields that the other operation
alone has (R277, R279). -/
def xfReserved (fetch : Bool) (d : BitVec 512) : Bool :=
  df d 5 19 != 0 || df d 40 8 != 0 || df d 152 40 != 0 || df d 320 192 != 0
    || epReserved (df d 192 64) || epReserved (df d 256 64)
    || (if fetch then df d 4 1 == 1 else df d 24 16 != 0)

/-- One row at the far end: a context address of another node (R277, R279). -/
def farRow (s : State) (c : Nat) (o : Operand) (r : Nat) : Except RowFault RowPlace :=
  if !epContext o.ep then .error ⟨0x0C, 0, 0⟩
  else match rowPlace s c o.ep o.pitch r o.bytes (some o.perm) with
    | .error f => .error f
    | .ok p => if p.node = thisNode s then .error ⟨0x0F, 0, 0⟩ else .ok p

/-- The source and the destination of a FETCH or PUT (R277). -/
def xfOperands (fetch : Bool) (d : BitVec 512) : Operand × Operand :=
  let n := Mv.rowLen d
  let kinds : List MemKind := if fetch && Mv.rtagEn d then [.granary] else [.larder, .tally, .commons, .granary, .hbm]
  (⟨0, df d 192 64, df d 64 32, n, .r, 4, anyKind⟩, ⟨1, df d 256 64, df d 96 32, n, .w, 4, kinds⟩)

/-- The checks of a FETCH or PUT before its addresses, 0 when they pass (R279). -/
def xfCheck (fetch : Bool) (d : BitVec 512) : Nat :=
  let (a, b) := xfOperands fetch d
  if xfReserved fetch d then 0x02
  else if df d 0 4 ≠ 0 then 0x04
  else if Mv.rows d = 0 ∨ a.bytes = 0 ∨ a.bytes % 4 ≠ 0 then 0x07
  else if a.ep % 4 ≠ 0 ∨ b.ep % 4 ≠ 0 ∨ a.pitch % 4 ≠ 0 ∨ b.pitch % 4 ≠ 0 then 0x08
  else 0

/-- The places of rows that all translated. -/
def rowsOk (l : List (Except RowFault RowPlace)) : List RowPlace :=
  l.filterMap (fun x => match x with
    | .ok p => some p
    | .error _ => none)

/-- The transactions of one row, up to 512 B each, none crossing a 512 B boundary of the remote address (R278). `fuel`
bounds their number. -/
def rowTxns (kind : TxnKind) (far near : RowPlace) : Nat → Nat → Nat → List Txn
  | 0, _, _ => []
  | fuel + 1, pos, len =>
    if len ≤ pos then []
    else
      let n := min (len - pos) (512 - (far.addr + pos) % 512)
      ⟨kind, far.node, far.addr + pos, n, near.addr + pos, near.key, far.key, 0, 0, 0⟩
        :: rowTxns kind far near fuel (pos + n) len

/-- Every transaction of a FETCH or PUT, in ascending row order, with the flushes of a posted PUT last, one to each node
it wrote (R278, R280). -/
def xfTxns (fetch posted : Bool) (len : Nat) (far near : List RowPlace) : List Txn :=
  let kind : TxnKind := if fetch then .read else if posted then .posted else .write
  let body := (far.zip near).flatMap (fun x => rowTxns kind x.1 x.2 (len / 512 + 2) 0 len)
  if posted then
    body ++ (far.map RowPlace.node).eraseDups.map (fun n => ⟨.flush, n, 0, 0, 0, 0, 0, 0, 0, 0⟩)
  else body

/-- A FETCH or PUT launches: its descriptor is read and checked and every row translated, and its transactions wait for
their tags; a refused one completes at once, poisoned (R49, R127, R277 to R279). -/
def launchXfer (s : State) (c : Nat) (fetch : Bool) (e : QWord) : State :=
  let desc := entArg e 0 16
  let flag := entArg e 16 8
  if cellarBusy s (c / 128) then advanceHead (cellarEnd s c 0x04 desc flag) c
  else
  let (s1, img, bad) := readDesc s c desc
  let reason0 := match img with
    | none => 0x01
    | some d => if bad then 0x02 else xfCheck fetch d
  let d := img.getD 0
  let s2 :=
    if reason0 ≠ 0 then refuseDesc s1 c reason0 0x04 desc flag
    else
      let (a, b) := xfOperands fetch d
      let rowsA := if fetch then (List.range (Mv.rows d)).map (farRow s1 c a) else operandRows s1 c a (Mv.rows d)
      let rowsB := if fetch then operandRows s1 c b (Mv.rows d) else (List.range (Mv.rows d)).map (farRow s1 c b)
      match firstFault (rowsA ++ rowsB) with
      | some f =>
        let s2 := if f.reason = 0x0D then terrierRecord s1 c 0x04 f.terrier f.index else s1
        refuseDesc s2 c f.reason 0x04 desc flag
      | none =>
        if rowsReset s1 (if fetch then rowsB else rowsA) then
          cellarEndTag s1 c 0x04 desc flag (if fetch then tagOf d else none)
        else
        let (far, near) := if fetch then (rowsOk rowsA, rowsOk rowsB) else (rowsOk rowsB, rowsOk rowsA)
        let k := core s1 c
        let o := { Op.mk0 (if fetch then .fetch else .put) (resident s1) k.alm.slot k.histSel with
          desc := desc, image := d, flag := flag, started := true,
          todo := xfTxns fetch (!fetch && df d 4 1 == 1) a.bytes far near }
        setCore s1 c (k.push o)
  advanceHead s2 c

/-- FETCH (R277 to R279). -/
def execFetch (core' : Fin 512) (s : State) : Host.Outcome State Fault Refusal :=
  .next (launch s core'.val .fetch (fun k _ => hasRoom k) (fun s' e => launchXfer s' core'.val true e))

/-- PUT (R277 to R280). -/
def execPut (core' : Fin 512) (s : State) : Host.Outcome State Fault Refusal :=
  .next (launch s core'.val .put (fun k _ => hasRoom k) (fun s' e => launchXfer s' core'.val false e))

/-! ## ATOMIC (R281) -/

namespace At
/-- AOP. -/
def aop (d : BitVec 512) : Nat := df d 0 3
/-- W64. -/
def w64 (d : BitVec 512) : Bool := df d 3 1 == 1
/-- RET. -/
def ret (d : BitVec 512) : Bool := df d 4 1 == 1
/-- TARGET. -/
def target (d : BitVec 512) : Nat := df d 64 64
/-- OPERAND. -/
def operand (d : BitVec 512) : Nat := df d 128 64
/-- COMPARE. -/
def compare (d : BitVec 512) : Nat := df d 192 64
/-- RESULT. -/
def result (d : BitVec 512) : Nat := df d 256 64
/-- Bytes of the operation. -/
def bytes (d : BitVec 512) : Nat := if w64 d then 8 else 4
end At

/-- What an atomic stores over `old`, both of `w` bits; none when it stores nothing (R281). -/
def atomicNew (aop w old operand compare : Nat) : Option Nat :=
  let x := operand % 2 ^ w
  match aop with
  | 0 => some ((old + x) % 2 ^ w)
  | 1 => some (min old x)
  | 2 => some (max old x)
  | 3 => some (if sgn w old ≤ sgn w x then old else x)
  | 4 => some (if sgn w x ≤ sgn w old then old else x)
  | 5 => some x
  | _ => if old = compare % 2 ^ w then some x else none

/-- A controller performs an atomic of `n` bytes at an address: the state after, the old value, and whether the codeword
was readable. An uncorrectable one is not changed, and its old value reads as NaN words (R200, R281, R286). -/
def atomicMem (s : State) (key a n aop operand compare : Nat) : State × Nat × Bool :=
  let (s1, old, ok) := readMem s key a n
  if !ok then (s1, fld nanQuad 0 (8 * n), false)
  else match atomicNew aop (8 * n) old operand compare with
    | some v => (writeMem s1 key a n v, old, true)
    | none => (s1, old, true)

/-- The checks of an ATOMIC before its addresses, 0 when they pass (R281). -/
def atCheck (d : BitVec 512) : Nat :=
  if df d 5 59 ≠ 0 ∨ df d 320 192 ≠ 0 ∨ epReserved (At.target d) ∨ epReserved (At.result d)
      ∨ (!At.ret d ∧ At.result d ≠ 0) then 0x02
  else if At.aop d = 7 then 0x04
  else if At.target d % At.bytes d ≠ 0 ∨ At.result d % At.bytes d ≠ 0 then 0x08
  else if !epContext (At.target d) ∨ (At.ret d ∧ epContext (At.result d)) then 0x0C
  else 0

/-- ATOMIC: the entry launches; a target on this node waits for its local controller, any other for a tag; a refused
descriptor completes at once, poisoned (R49, R127, R281). -/
def execAtomic (core' : Fin 512) (s : State) : Host.Outcome State Fault Refusal :=
  let c := core'.val
  .next (launch s c .atomic (fun k _ => hasRoom k) (fun s' e =>
    let desc := entArg e 0 16
    let flag := entArg e 16 8
    if cellarBusy s' (c / 128) then advanceHead (cellarEnd s' c 0x06 desc flag) c
    else
    let (s1, img, bad) := readDesc s' c desc
    let reason0 := match img with
      | none => 0x01
      | some d => if bad then 0x02 else atCheck d
    let d := img.getD 0
    let n := At.bytes d
    let res := if At.ret d then cellarRange s1 c (At.result d) n else some 0
    let s2 :=
      if reason0 ≠ 0 then refuseDesc s1 c reason0 0x06 desc flag
      else match res, rowPlace s1 c (At.target d) 0 0 n (some .a) with
        | none, _ => refuseDesc s1 c 0x0C 0x06 desc flag
        | some _, .error f =>
          let s2 := if f.reason = 0x0D then terrierRecord s1 c 0x06 f.terrier f.index else s1
          refuseDesc s2 c f.reason 0x06 desc flag
        | some a, .ok p =>
          let k := core s1 c
          let local' := decide (p.node = thisNode s1)
          if local' && addrReset s1 p.addr then cellarEnd s1 c 0x06 desc flag
          else
          let t : Txn := ⟨.atomic, p.node, p.addr, n, a, 0, p.key, At.aop d + b2n (At.w64 d) * 8, At.operand d, At.compare d⟩
          let o := { Op.mk0 .atomic (resident s1) k.alm.slot k.histSel with
            desc := desc, image := d, flag := flag, started := local', todo := [t] }
          setCore s1 c (k.push o)
    advanceHead s2 c))

/-- ATOMIC_COMPLETE: the local controller performs an ATOMIC whose target lies on this node, and it completes (R281,
R82). A page that a harvest has still to copy holds it back (R340). -/
def execAtomicComplete (core' : Fin 512) (op : Nat) (s : State) : Host.Outcome State Fault Refusal :=
  let c := core'.val
  match (core s c).op op with
  | none => .next s
  | some o =>
    match o.todo with
    | t :: _ =>
      let places := (t.addr, t.len) :: (if At.ret o.image then [(t.place, t.len)] else [])
      let pages := places.flatMap (fun x => pagesOf x.1 x.2)
      if o.kind ≠ .atomic ∨ o.started = false ∨ places.any (fun x => addrWaits s x.1) then .next s
      else if !(heldPages s pages).isEmpty then .next (touchPages s pages)
      else
        let (s1, old, ok) := atomicMem (throttleAll s places) t.key t.addr t.len (t.arg % 8) t.operand t.compare
        let s2 := if At.ret o.image then writeMem s1 0 t.place t.len old else s1
        .next (finishOp s2 c o (!ok) none)
    | [] => .next s

/-! ## Issue (R278, R280, R285) -/

/-- The request packet of a transaction (R282 to R284). -/
def txnPacket (s : State) (t : Txn) (tag sunit ctx : Nat) (data : List Byte) : Packet :=
  let mem := t.addr % 2 ^ 50 + t.len / 4 % 2 ^ 8 * 2 ^ 50
  let (type, upper) := match t.kind with
    | .read => (0x01, mem)
    | .write | .flush => (0x02, mem)
    | .posted => (0x03, mem)
    | .atomic => (0x04, t.addr % 2 ^ 50 + t.arg % 16 * 2 ^ 50)
    | .arrive => (0x05, t.arg % 2 ^ 15)
    | .signal => (0x06, t.arg % 2 ^ 17)
  let body := match t.kind with
    | .atomic => toBytes 8 t.operand ++ toBytes 8 t.compare
    | _ => data
  ⟨mkHeader type t.node (srcNode s) tag sunit ctx t.key upper, body⟩

/-- Whether a transaction takes its data from local memory. -/
def TxnKind.sends (k : TxnKind) : Bool := k == .write || k == .posted

/-- The next transaction of an operation is issued: its data read, its tag held, its packet entering the link die of the
core; nothing happens while no tag is free (R278, R280, R285, R291). -/
def issueOp (s : State) (c id : Nat) : State :=
  match (core s c).op id with
  | none => s
  | some o =>
    match o.todo with
    | [] => s
    | t :: rest =>
      if o.kind = .atomic ∧ o.started then s
      else if t.kind.sends ∧ addrWaits s t.place then s
      else
        let die := c / 128
        let tag := if t.kind = .posted then some 0 else freeTag s die (64 * (c % 128)) 64
        match tag with
        | none => s
        | some tag =>
          let (s1, v, ok) := if t.kind.sends then readMem (throttleAccess s t.place t.len) t.lkey t.place t.len
            else (s, 0, true)
          let data := if t.kind.sends then toBytes t.len v else []
          let s2 := if t.kind = .posted then s1 else setTag s1 die tag (.held (.op c id) t s.time)
          let s3 := updCore s2 c (fun k => k.mapOp id (fun o => { o with
            todo := rest, poisoned := o.poisoned || !ok,
            unanswered := if t.kind = .posted then o.unanswered else o.unanswered + 1 }))
          route s3 die (txnPacket s t tag die o.ctx data) none

/-! ## Answers to operations (R287, R288) -/

/-- A FETCH, PUT or ATOMIC whose every transaction has been answered completes: a STATUS other than OK poisons its flag
and is recorded, unless a timeout was recorded in its place (R278, R287, R288). -/
def finishXfer (s : State) (c : Nat) (o : Op) : State :=
  let unit := if o.kind = .atomic then 0x06 else 0x04
  let s1 :=
    if o.status ≠ 0 ∧ !o.timedOut then
      coreRecord s c 0x06 0x04 (det (o.status * 2 ^ 28 + unit * 2 ^ 16 + o.desc))
    else s
  let poison := o.poisoned || o.status != 0 || o.timedOut
  finishOp s1 c o poison (if o.kind = .fetch then tagOf o.image else none)

/-- The bytes an answer writes locally: the data of a READ or the old value of an ATOMIC, NaN words for every STATUS
other than OK (R287). -/
def answerBytes (t : Txn) (status : Nat) (data : List Byte) : Nat :=
  if status = 0 then ofBytes (data.take t.len) else nanBytes t.len

/-- Whether the answer to a transaction of an operation is written locally (R278, R281, R287). -/
def answerWrites (o : Op) (t : Txn) : Bool :=
  t.kind == .read || (t.kind == .atomic && At.ret o.image)

/-- An operation's transaction is answered, or timed out: its data is written, and the operation completes when nothing
of it is outstanding (R278, R287, R288). -/
def answerOp (s : State) (c id : Nat) (t : Txn) (status : Nat) (data : List Byte) (timeout : Bool) : State :=
  match (core s c).op id with
  | none => s
  | some o =>
    if t.kind = .arrive then finishMessage s c id status false t.node (t.arg / 64) (t.arg % 64)
    else if t.kind = .signal then finishMessage s c id status true t.node (t.arg / 256) (t.arg % 256)
    else
      let writes := answerWrites o t
      let s1 := if writes then
          writeMem (throttleAccess s t.place t.len) t.lkey t.place t.len (answerBytes t status data)
        else s
      let o1 := { o with
        unanswered := o.unanswered - 1,
        poisoned := o.poisoned || (writes && rangeOffline s t.place t.len),
        status := if o.status = 0 ∧ !o.timedOut then status else o.status,
        timedOut := o.timedOut || (timeout && o.status == 0) }
      let s2 := updCore s1 c (fun k => k.mapOp id (fun _ => o1))
      if o1.todo.isEmpty ∧ o1.unanswered = 0 then finishXfer s2 c o1 else s2

/-- The bytes that an answer to a transaction would write here, if any (R278, R340). -/
def answerPlace (s : State) (user : TagUser) (t : Txn) : Option (Nat × Nat) :=
  match user with
  | .op c id =>
    match (core s c).op id with
    | some o => if answerWrites o t then some (t.place, t.len) else none
    | none => none
  | .refill => some (t.place, t.len)
  | _ => none

/-- The pages that an answer to a transaction would write (R340). -/
def answerPages (s : State) (user : TagUser) (t : Txn) : List Nat :=
  match answerPlace s user t with
  | some (a, n) => pagesOf a n
  | none => []

/-- Whether the memory that an answer would write makes it wait (R192, R227). -/
def answerWaits (s : State) (user : TagUser) (t : Txn) : Bool :=
  match answerPlace s user t with
  | some (a, _) => addrWaits s a
  | none => false

/-! ## Forwarding (R290 to R292) -/

/-- The lane-map entry of a link die for a node (R290). -/
def laneEntry (s : State) (die node : Nat) : Word := tget 0 (16384 * die + node) s.lanemaps

/-- The egress port of a packet in a link die, when its route is open (R290, R291). -/
def egress (s : State) (die : Nat) (p : Packet) : Option Nat :=
  let e := (laneEntry s die p.dst).toNat
  let port := fld e (5 * vcOfType p.type) 5
  let st := portState s port
  if bitAt e 31 ∧ !bitAt e 30 ∧ (st = Link.active ∨ st = Link.retrain) ∧ !rbit s .lanemap 0 Off.lanemapLoss port then
    some port
  else none

/-- The receive slots a packet holds (R282). -/
def Packet.slots (p : Packet) : Nat := 1 + (p.data.length + 15) / 16

/-- A packet leaves the receive slots it holds (R255). -/
def releaseSlots (s : State) (r : Routed) : State :=
  match r.ingress with
  | some p => freeSlots s p (vcOfType r.packet.type) r.packet.slots
  | none => s

/-- A packet is dropped in a link die: counted, and a request that holds a tag answered NO_ROUTE (R291). -/
def dropPacket (s : State) (die : Nat) (r : Routed) : State :=
  let s1 := releaseSlots (incReg s .lanemap die Off.lanemapDropCount) r
  if typeListed r.packet.type ∧ typeTagged r.packet.type ∧ assigned s then route s1 die (answer s r.packet 7 []) none
  else s1

/-- A packet is delivered on this device: an arrival or signal is under way to its core, anything else waits for its
step; a request holds its receive slots until its memory serves it (R255, R291). -/
def deliver (s : State) (die : Nat) (r : Routed) : State :=
  let p := r.packet
  if p.type = 5 ∨ p.type = 6 then
    let sig := decide (p.type = 6)
    let index := if sig then pf p 64 8 else pf p 64 6
    let target := if sig then pf p 72 9 else pf p 70 9
    { s with transit := s.transit ++ [⟨sig, target, index, p.ctx, some p, r.ingress, 0, 0⟩] }
  else
    let s1 := { s with inbox := s.inbox ++ [(die, r)] }
    if p.type = 0x20 ∨ vcOfType p.type = 0 then s1 else releaseSlots s1 r

/-- The first packet of a VC in a link die, and the packets without it. -/
def takeVc (vc : Nat) : List Routed → Option (Routed × List Routed)
  | [] => none
  | r :: rest =>
    if vcOfType r.packet.type = vc then some (r, rest)
    else (takeVc vc rest).map (fun x => (x.1, r :: x.2))

/-- Whether a packet is a posted write or a flush (R280). -/
def inStream (p : Packet) : Bool := p.type == 3 || (p.type == 2 && p.len == 0)

/-- Whether `q` is a posted write or a flush of the same source, SUNIT and destination as `p` (R289). -/
def sameStream (p q : Packet) : Bool := inStream q && q.src == p.src && q.sunit == p.sunit && q.dst == p.dst

/-- Whether an earlier posted write or flush of the same stream still stands in a link die (R289). -/
def overtakes (s : State) (r : Routed) : Bool :=
  inStream r.packet
    && s.routers.any (fun e => e.2.any (fun x => decide (x.seq < r.seq) && sameStream r.packet x.packet))

/-- PACKET_FORWARD: the oldest packet of a VC in a link die is delivered, forwarded on the same VC, or dropped (R291). A
posted write or flush waits for those of its stream before it (R289); a MGMT_SR carries its own route, and the first one
sets ROLLCALL_SEEN (R296, R299). -/
def execPacketForward (die vc : Fin 4) (s : State) : Host.Outcome State Fault Refusal :=
  linkClocked s <|
  match takeVc vc.val (tget [] die.val s.routers) with
  | none => .next s
  | some (r, rest) =>
    if overtakes s r then .next s else
    let p := r.packet
    let s1 := { s with routers := tset [] die.val rest s.routers }
    if p.type = 0x31 then
      .next (setRbit (releaseSlots { s1 with inbox := s1.inbox ++ [(die.val, r)] } r) .global 0 Off.globalNode 16 true)
    else if !typeListed p.type ∨ !assigned s then .next (dropPacket s1 die.val r)
    else if p.dst = thisNode s then .next (deliver s1 die.val r)
    else match egress s die.val p with
      | some port =>
        if quiescing s .port port then .next s else .next (releaseSlots (sendPort s1 port (vcOfType p.type) p) r)
      | none => .next (dropPacket s1 die.val r)

end Sys2Proof.Machine
end

