-- ==== Sys2Proof/Machine/Refill.lean ====
section
/-!
DEFINITION. What harvest and refill share: the pages of a context (R336), the refill's state, its landing counts, its end
and its abort (R346 to R349), and the Reeve's fabric transactions (R285, R291).
-/
namespace Sys2Proof.Machine

/-! ## Pages (R336) -/

/-- A number inserted into an ascending list, once. -/
def insertNat (n : Nat) : List Nat → List Nat
  | [] => [n]
  | m :: l => if n < m then n :: m :: l else if n = m then m :: l else m :: insertNat n l

/-- Numbers in ascending order, each once. -/
def sortNat (l : List Nat) : List Nat := l.foldl (fun a n => insertNat n a) []

/-- The Terrier entries a harvest of context `ctx` considers, with their indices (R336). -/
def ownEntries (s : State) (ctx : Nat) : List (Nat × QWord) :=
  s.terrier.filter (fun e => tfld e.2 0 1 == 1 && tfld e.2 1 5 == ctx && tfld e.2 16 14 == thisNode s
    && decide (tfld e.2 6 3 ≤ 1))

/-- UNIQUE of an entry (R273). -/
def entUnique (e : QWord) : Bool := tfld e 84 1 == 1
/-- REPLICATED of an entry, which UNIQUE overrides (R336). -/
def entReplicated (e : QWord) : Bool := tfld e 85 1 == 1 && !entUnique e
/-- HARVEST of an entry. -/
def entHarvest (e : QWord) : Bool := tfld e 86 1 == 1

/-- The pages of an entry. -/
def entryPages (e : QWord) : List Nat := (List.range (tfld e 64 12)).map (fun i => tfld e 32 29 + i)

/-- The pages of the context's entries that `p` picks, in ascending order. -/
def pagesWhere (s : State) (ctx : Nat) (p : QWord → Bool) : List Nat :=
  sortNat (((ownEntries s ctx).filter (fun e => p e.2)).flatMap (fun e => entryPages e.2))

/-- The pages a refill of a KIND brings in: a partner's, those of a pantry image, those of a store image (R336). -/
def refillPages (s : State) (kind ctx : Nat) : List Nat :=
  pagesWhere s ctx (fun e => if kind = 0 then entReplicated e else if kind = 1 then entHarvest e
    else entHarvest e && entUnique e)

/-- Every page of a context that some refill must bring in (R336, R346). -/
def neededPages (s : State) (ctx : Nat) : List Nat := pagesWhere s ctx (fun e => entHarvest e || entReplicated e)

/-! ## The Harvest's range of the commons (R338) -/

/-- A page's compute die and its number there: the die's four HBM stacks, then its granary (R338). -/
def localPage (p : Nat) : Option (Nat × Nat) :=
  match placeOf (p * 2 ^ 21) with
  | some ⟨.hbm, u, o⟩ => some (u / 4, u % 4 * 24576 + o / 2 ^ 21)
  | some ⟨.granary, u, o⟩ => some (u, 98304 + o / 2 ^ 21)
  | _ => none

/-- Where the Harvest's range of die `d`'s commons begins: the bitmap, and 16 KiB on the landing counts, two bytes for each
page (R338; that the counts follow there is the model's own, log entry 114). -/
def harvestBase (d : Nat) : Nat := commonsAddr d + harvestRegion

/-- A page's bit in the bitmap of its die set or cleared (R338 to R340). -/
def setCopyBit (s : State) (p : Nat) (v : Bool) : State :=
  let s1 := { s with copyPages := if v then insertNat p s.copyPages else s.copyPages.filter (fun q => q != p) }
  match localPage p with
  | none => s1
  | some (d, j) =>
    let a := harvestBase d + j / 8
    let (s2, b, _) := readMem s1 0 a 1
    writeMem s2 0 a 1 (setFld b (j % 8) 1 (b2n v))

/-- A page's landing count set (R338, R347). -/
def setLanding (s : State) (p n : Nat) : State :=
  let s1 := { s with landings := tset 0 p n s.landings }
  match localPage p with
  | none => s1
  | some (d, j) => writeMem s1 0 (harvestBase d + 2 ^ 14 + 2 * j) 2 n

/-- Every landing count returns to 0 (R348). -/
def clearLandings (s : State) : State := (s.landings.map Prod.fst).foldl (fun s p => setLanding s p 0) s

/-! ## State and records -/

/-- `HARVEST.REFILL_STATE.STATE` (R354). -/
def refillState (s : State) : Nat := rf s .harvest 0 Off.harvestRefillState 0 3

/-- The refill enters a state (R346, R444). -/
def setRefillState (s : State) (st : Nat) : State :=
  if refillState s = st then s else raiseInt (setRf s .harvest 0 Off.harvestRefillState 0 3 st) .harvest 0 2

/-- A HARVEST DONE record, with the further interrupt bits `ks` (R353, R443, R444). -/
def harvestDone (s : State) (ctx status kind : Nat) (refill : Bool) (ks : List Nat) : State :=
  let d := status * 2 ^ 28 + b2n refill * 2 ^ 27 + kind * 2 ^ 24 + rf s .context ctx Off.contextStepLo 0 24
  deviceEvent s .harvest 0 0x0A 0x01 ctx (det d) (1 :: ks)

/-- A refill or a source enters state `st` as it ends well, with its DONE record (R346, R353, R444). -/
def refillEnded (s : State) (st ctx kind : Nat) : State :=
  harvestDone (setRf s .harvest 0 Off.harvestRefillState 0 3 st) ctx 0 kind true [2]

/-- A refill or a source enters state `st` as it aborts: REASON, and the REFILL_ABORT record (R346, R353, R354, R444). -/
def refillAborted (s : State) (st ctx reason kind left : Nat) : State :=
  let s1 := setRf (setRf s .harvest 0 Off.harvestRefillState 0 3 st) .harvest 0 Off.harvestRefillState 4 4 reason
  deviceEvent s1 .harvest 0 0x0A 0x02 ctx (det (reason * 2 ^ 28 + kind * 2 ^ 24 + min left (2 ^ 24 - 1))) [2]

/-- A context's quarantine bit set or cleared (R351). -/
def setQuarantine (s : State) (ctx : Nat) (v : Bool) : State :=
  if ctx = 0 then s else setRbit s .harvest 0 Off.harvestQuarantine ctx v

/-- Whether a context is quarantined (R351). -/
def quarantined (s : State) (ctx : Nat) : Bool := rbit s .harvest 0 Off.harvestQuarantine ctx

/-- The quarantine bit of every context started since its last reset set (R351). -/
def quarantineStarted (s : State) : State :=
  setReg s .harvest 0 Off.harvestQuarantine (reg s .harvest 0 Off.harvestQuarantine ||| (s.started &&& 0xFFFFFFFE))

/-! ## Abandoned work of the Reeve -/

/-- What the FABRIC TIMEOUT record of a tag would name: the DESC of a descriptor operation, the almanac slot of an ARRIVE
or SIGNAL, 0 for a use of the Reeve (R288). -/
def tagWhat (s : State) : TagUser → Nat
  | .op c id =>
    match (core s c).op id with
    | some o => if o.kind = .arrive ∨ o.kind = .signal then o.slot else o.desc
    | none => 0
  | .orphan what => what
  | _ => 0

/-- A tag whose work `p` picks serves nothing more; its timeout would still name that work (R288). -/
def orphanTag (s : State) (p : TagUser → Bool) : TagState → TagState
  | .held u t since => .held (if p u then .orphan (tagWhat s u) else u) t since
  | x => x

/-- Waiting transactions that `p` picks are dropped, and tags they hold serve nothing more. -/
def dropUsers (s : State) (p : TagUser → Bool) : State :=
  { s with
    reeveTodo := s.reeveTodo.filter (fun x => !p x.1),
    tags := s.tags.map (fun e => (e.1, orphanTag s p e.2)) }

/-! ## A refill's end (R346 to R348) -/

/-- The pages a refill has still to make valid. -/
def pagesLeft (s : State) (r : RefillRun) : List Nat :=
  let all := if r.kind = 0 ∨ r.rows.isEmpty then refillPages s r.kind r.ctx else r.rows.map PageRow.page
  all.filter (fun p => !s.validPages.contains p)

/-- The refill ends DONE: the quarantine bit clears when every page of the context is valid (R346). -/
def refillDone (s : State) (r : RefillRun) : State :=
  let s1 := clearLandings { s with refill := none }
  let s2 := if (neededPages s1 r.ctx).all (fun p => s1.validPages.contains p) then setQuarantine s1 r.ctx false else s1
  refillEnded s2 3 r.ctx r.kind

/-- A refill of the unit aborts: counts return to 0, its reads are abandoned (R348). -/
def refillAbort (s : State) (reason : Nat) : State :=
  match s.refill with
  | none => s
  | some r =>
    let left := (pagesLeft s r).length
    let s0 := { clearLandings s with
      refill := none,
      nvme := s.nvme.filter (fun c => c.queue != 3), nvmeWait := s.nvmeWait.filter (fun c => c.queue != 3) }
    let s1 := dropUsers s0 (fun u => u == .refill)
    refillAborted s1 4 r.ctx reason r.kind left

/-- A SERVING source ends with a REFILL_ABORT record (R346). -/
def serveAbort (s : State) (reason : Nat) : State :=
  match s.serve with
  | none => s
  | some r =>
    let s1 := dropUsers { s with serve := none } (fun u => match u with
      | .serve _ => true
      | _ => false)
    refillAborted s1 0 r.ctx reason 0 0

/-- A page has become valid (R347). -/
def validPage (s : State) (p : Nat) : State :=
  setLanding { s with validPages := insertNat p s.validPages } p 0

/-- A refill write of a partner has landed in page `p`: the refill runs, the write counts in a page that is invalid, which is
valid at 4,096, and with no page left invalid the refill is DONE (R346 to R348). -/
def refillLanding (s : State) (ctx p : Nat) : State :=
  match s.refill with
  | none => s
  | some r =>
    if r.kind = 0 ∧ r.ctx = ctx ∧ (refillPages s 0 ctx).contains p then
      let r := { r with last := s.time }
      let s1 := setRefillState { s with refill := some r } 2
      let n := tget 0 p s1.landings + 1
      let s2 := if s1.validPages.contains p then s1 else if n < 4096 then setLanding s1 p n else validPage s1 p
      if (pagesLeft s2 r).isEmpty then refillDone s2 r else s2
    else s

/-- Whether a refill from an image runs: it reads through the last staging page of the lowest die (R347; log entry 114). -/
def imageRefill (s : State) : Bool :=
  match s.refill with
  | some r => r.kind != 0 && refillState s == 2
  | none => false

/-- The number of the staging page an image is read through. -/
def refillSlot (s : State) : Nat := rf s .harvest 0 Off.harvestStage 16 16 - 1

/-- Whether no harvest can start for want of a staging page beside the one an image is read through (R354). -/
def stagingTaken (s : State) : Bool := imageRefill s && refillSlot s == 0

/-! ## The Reeve's transactions (R285, R291) -/

/-- The compute die whose region of R186 holds an address. -/
def dieOf (a : Nat) : Nat :=
  match placeOf a with
  | some p => p.die
  | none => 0

/-- The lowest-numbered link die whose partition is not DOWN (R291). -/
def lowestDie (s : State) : Option Nat := (List.range 4).find? (fun d => partState s d != 3)

/-- The link die a packet of the Reeve enters: that of the die that holds its address, none while it is DOWN (R291). -/
def reeveDie (s : State) (a : Nat) : Option Nat := if partState s (dieOf a) = 3 then none else some (dieOf a)

/-- The context of a Reeve transaction: the window's for a host access (`arg`), 0 for its own (R285, R342, R401). -/
def reeveCtx (u : TagUser) (t : Txn) : Nat :=
  match u with
  | .hostRead _ | .hostFlush _ | .serve _ => t.arg
  | _ => 0

/-- A packet of the Reeve enters a link die; a tagged request for a die that is DOWN is answered NO_ROUTE (R291). -/
def reeveSend (s : State) (a : Nat) (p : Packet) : State :=
  match reeveDie s a with
  | some d => route s d p none
  | none =>
    if typeTagged p.type then { s with inbox := s.inbox ++ [(dieOf a, ⟨answer s p 7 [], none, 0⟩)] } else s

/-- A refill write of a source leaves by its port, or is answered NO_ROUTE when the port is not open (R291, R347). -/
def serveSend (s : State) (port : Nat) (p : Packet) : State :=
  let st := portState s port
  if (st = Link.active ∨ st = Link.retrain) ∧ !rbit s .lanemap 0 Off.lanemapLoss port then sendPort s port 0 p
  else
    { incReg s .lanemap (port / 8) Off.lanemapDropCount with
      inbox := s.inbox ++ [(port / 8, ⟨answer s p 7 [], none, 0⟩)] }

/-- The list without its element at an index, and the element. -/
def takeAt {α : Type} (l : List α) (i : Nat) : Option (α × List α) := (l[i]?).map (fun x => (x, removeAt l i))

/-- A waiting transaction of the Reeve is issued once a tag is free: one of the Reeve's 512 with SUNIT 4, or for a refill
write of a source one of its port's die (R285, R347). -/
def issueReeve (s : State) (i : Nat) : State :=
  match takeAt s.reeveTodo i with
  | none => s
  | some ((u, t), rest) =>
    let (sunit, n) := match u with
      | .serve port => (port / 8, 8192)
      | _ => (4, 512)
    match (if t.kind.sends && addrWaits s t.place then none else freeTag s sunit 0 n) with
    | none => s
    | some tag =>
      let (s1, v, _) := if t.kind.sends then readMem (throttleAccess s t.place t.len) t.lkey t.place t.len else (s, 0, true)
      let data := if t.kind.sends then toBytes t.len v else []
      let s2 := setTag { s1 with reeveTodo := rest } sunit tag (.held u t s.time)
      let p := txnPacket s2 t tag sunit (reeveCtx u t) data
      match u with
      | .serve port => serveSend s2 port p
      | _ => reeveSend s2 t.addr p

end Sys2Proof.Machine
end

