-- ==== Sys2Proof/Machine/Home.lean ====
section
/-!
DEFINITION. The home node: the checks and the service of READ_REQ, WRITE_REQ, WRITE_POSTED, flushes and ATOMIC_REQ (R280,
R281, R286, R289).
-/
namespace Sys2Proof.Machine

/-- Whether a key slot is assigned to a context: slot 0 to context 0 alone (R286). -/
def keyAssigned (s : State) (slot ctx : Nat) : Bool :=
  if slot = 0 then ctx == 0
  else rbit s .keys slot Off.keysSlotState 8 && rf s .keys slot Off.keysSlotState 0 5 == ctx

/-- The STATUS the checks of R286 give a request for `n` bytes at `a`, 0 when it passes. -/
def homeStatus (s : State) (a n ctx key : Nat) : Nat :=
  match placeOf a with
  | none => 4
  | some p =>
    if p.offset + n > p.kind.size then 4
    else if rangeOffline s a n ∨ (p.kind = .larder ∧ coreOffline s p.unit) then 8
    else if p.encrypted ∧ !keyAssigned s key ctx then 3
    else if !p.encrypted ∧ (ctx = 0 ∨ resident s ≠ ctx) then 1
    else if inCellarReset s p then 6
    else 0

/-- The packet at `index` of the inbox, of type `type`: its link die, itself, and the inbox without it; a request leaves the
receive slots it held (R255). -/
def takeInbox (s : State) (index type : Nat) : Option (Nat × Packet × State) :=
  match takeAt s.inbox index with
  | none => none
  | some ((d, r), rest) => 
    if r.packet.type = type then
      let s1 := { s with inbox := rest }
      some (d, r.packet, if vcOfType type = 0 then releaseSlots s1 r else s1)
    else none

/-- READ_REQ: the read at `index` is checked, performed and answered (R286). -/
def execReadReq (index : Nat) (s : State) : Host.Outcome State Fault Refusal :=
  linkClocked s <|
  match takeInbox s index 1 with
  | none => .next s
  | some (d, p, s1) =>
    let st := homeStatus s1 p.addr p.len p.ctx p.key
    if st ≠ 0 then .next (route s1 d (answer s1 p st []) none)
    else if addrWaits s p.addr then .next s
    else
      let (s2, v, ok) := readMem (throttleAccess s1 p.addr p.len) p.key p.addr p.len
      .next (route s2 d (answer s2 p (if ok then 0 else 5) (toBytes p.len v)) none)

/-- Whether an earlier packet of the same stream has not been applied yet (R289). -/
def streamWaits (s : State) (index : Nat) (p : Packet) : Bool :=
  (s.inbox.take index).any (fun x => sameStream p x.2.packet)

/-- The key under which the first error of a source's posted writes is kept (R280). -/
def postedKey (p : Packet) : Nat := 8 * p.src + p.sunit

/-- A request writes its data (R233, R286). -/
def homeWrite (s : State) (p : Packet) : State :=
  writeMem (throttleAccess s p.addr p.len) p.key p.addr p.len (ofBytes (p.data.take p.len))

/-- The page a request writes has still to be copied by a harvest (R340). -/
def homeHeld (s : State) (p : Packet) : Bool := !(heldPages s (pagesOf p.addr p.len)).isEmpty

/-- WRITE_REQ: the write or flush at `index` is checked, performed and answered; a write to a page that a harvest has
still to copy waits; a flush answers for the posted writes before it (R280, R286, R289, R340, R347). -/
def execWriteReq (index : Nat) (s : State) : Host.Outcome State Fault Refusal :=
  linkClocked s <|
  match takeInbox s index 2 with
  | none => .next s
  | some (d, p, s1) =>
    if p.len = 0 then
      if streamWaits s index p then .next s
      else
        let st := tget 0 (postedKey p) s1.postedErrors
        .next (route { s1 with postedErrors := tset 0 (postedKey p) 0 s1.postedErrors } d (answer s1 p st []) none)
    else
      let st := homeStatus s1 p.addr p.len p.ctx p.key
      if st ≠ 0 then .next (route s1 d (answer s1 p st []) none)
      else if addrWaits s p.addr then .next s
      else if homeHeld s p then .next (touchPages s (pagesOf p.addr p.len))
      else
        let s2 := homeWrite s1 p
        let s3 := (pagesOf p.addr p.len).foldl (fun s q => refillLanding s p.ctx q) s2
        .next (route s3 d (answer s3 p 0 []) none)

/-- WRITE_POSTED: the posted write at `index` is checked and performed in its source's order; its first error is kept for
the next flush (R280, R286, R289). -/
def execWritePosted (index : Nat) (s : State) : Host.Outcome State Fault Refusal :=
  linkClocked s <|
  match takeInbox s index 3 with
  | none => .next s
  | some (_, p, s1) =>
    if streamWaits s index p then .next s
    else
      let st := homeStatus s1 p.addr p.len p.ctx p.key
      if st ≠ 0 then
        let old := tget 0 (postedKey p) s1.postedErrors
        .next { s1 with postedErrors := tset 0 (postedKey p) (if old = 0 then st else old) s1.postedErrors }
      else if addrWaits s p.addr then .next s
      else if homeHeld s p then .next (touchPages s (pagesOf p.addr p.len))
      else .next (homeWrite s1 p)

/-- Bytes of an ATOMIC_REQ's operand (R284). -/
def atomicLen (p : Packet) : Nat := if pf p 117 1 = 1 then 8 else 4

/-- ATOMIC_REQ: the atomic at `index` is checked, performed in one codeword step and answered with the old value (R281,
R286, R340). -/
def execAtomicReq (index : Nat) (s : State) : Host.Outcome State Fault Refusal :=
  linkClocked s <|
  match takeInbox s index 4 with
  | none => .next s
  | some (d, p, s1) =>
    let n := atomicLen p
    let st := homeStatus s1 p.addr n p.ctx p.key
    if st ≠ 0 then .next (route s1 d (answer s1 p st []) none)
    else if addrWaits s p.addr then .next s
    else if !(heldPages s (pagesOf p.addr n)).isEmpty then .next (touchPages s (pagesOf p.addr n))
    else
      let (s2, old, ok) := atomicMem (throttleAccess s1 p.addr n) p.key p.addr n (pf p 114 3) (ofBytes (p.data.take 8))
        (ofBytes ((p.data.drop 8).take 8))
      .next (route s2 d (answer s2 p (if ok then 0 else 5) (toBytes n old)) none)

end Sys2Proof.Machine
end

