-- ==== Sys2Proof/Machine/Reduce.lean ====
section
/-!
DEFINITION. Deterministic reduction (R306 to R313, R323 to R326): the REDUCE descriptor, chunk contexts, the fixed combine,
digests, timeouts and completion, with the scale step of predicted scales (R168, R170, R173).
-/
namespace Sys2Proof.Machine

/-! ## CRC-64 (R323) -/

/-- One bit of the ECMA-182 CRC-64, most significant bit first. -/
def crc64Bit (c : Nat) : Nat := if c.testBit 63 then (2 * c) % 2 ^ 64 ^^^ 0x42F0E1EBA9EA3693 else 2 * c

/-- One byte fed to the CRC-64. -/
def crc64Byte (c b : Nat) : Nat := (List.range 8).foldl (fun c _ => crc64Bit c) (c ^^^ b * 2 ^ 56)

/-- The CRC-64 of the `n` low bytes of `v` from a running value, lowest byte first. -/
def crc64From : Nat → Nat → Nat → Nat
  | 0, _, c => c
  | n + 1, v, c => crc64From n (v / 256) (crc64Byte c (v % 256))

/-- The CRC-64 of `n` bytes: initial value 0, no final inversion (R323). -/
def crc64 (n v : Nat) : Nat := crc64From n v 0

/-! ## Descriptors and group entries (R294, R306) -/

namespace Rd
/-- KIND is DIGEST. -/
def digest (d : BitVec 512) : Bool := df d 0 4 == 1
/-- GROUP. -/
def group (d : BitVec 512) : Nat := df d 4 8
/-- CHUNK0. -/
def chunk0 (d : BitVec 512) : Nat := df d 16 24
/-- CHUNKS. -/
def chunks (d : BitVec 512) : Nat := df d 40 24
/-- LAST. -/
def last (d : BitVec 512) : Nat := df d 64 10
/-- BUF. -/
def buf (d : BitVec 512) : Nat := df d 128 64
/-- AUX. -/
def aux (d : BitVec 512) : Nat := df d 192 64
/-- FLAGS. -/
def flags (d : BitVec 512) : Nat := df d 256 64
end Rd

namespace Gr
/-- VALID. -/
def valid (e : QWord) : Bool := bitAt e.toNat 0
/-- PARENT_PORT. -/
def parent (e : QWord) : Nat := fld e.toNat 30 5
/-- ROOT. -/
def root (e : QWord) : Bool := bitAt e.toNat 35
/-- CHILD_MASK, as ports in ascending order. -/
def children (e : QWord) : List Nat := bitsOf 32 (fld e.toNat 36 32)
/-- EPOCH. -/
def epoch (e : QWord) : Nat := fld e.toNat 68 32
/-- FMT. -/
def fmt (e : QWord) : Nat := fld e.toNat 100 2
/-- B. -/
def blk (e : QWord) : Nat := 16 * 2 ^ fld e.toNat 102 2
/-- The element type of the group's buffers. -/
def elem (e : QWord) : Elem :=
  match fmt e with
  | 0 => .fp32
  | 1 => .e4m3
  | _ => .e5m2
/-- Bytes of an element. -/
def bytes (e : QWord) : Nat := if fmt e = 0 then 4 else 1
end Gr

/-- The group entry of group `g` (R294). -/
def groupEntry (s : State) (g : Nat) : QWord := tget 0 g s.groups

/-- Elements, or pages of a DIGEST, of a full chunk (R306, R307). -/
def chunkFull (d : BitVec 512) (e : QWord) : Nat := if Rd.digest d then 64 else if Gr.fmt e = 0 then 128 else 512

/-- Elements, or pages of a DIGEST, of chunk `i` of a descriptor (R306, R307). -/
def chunkCount (d : BitVec 512) (e : QWord) (i : Nat) : Nat := if i + 1 = Rd.chunks d then Rd.last d else chunkFull d e

/-- RESERVED_SET of a REDUCE (R306, R308). -/
def rdReserved (d : BitVec 512) : Bool :=
  df d 12 4 != 0 || df d 74 54 != 0 || df d 320 192 != 0 || epReserved (Rd.buf d) || epReserved (Rd.aux d)
    || epReserved (Rd.flags d) || (Rd.digest d && Rd.flags d != 0)

/-- The planes of chunk `i` of a SUM, with the permission each needs: element plane, then scale plane and flag plane
where given (R307, R308). -/
def sumPlanes (d : BitVec 512) (e : QWord) (i : Nat) : List Operand :=
  let n := chunkCount d e i
  let b := Gr.blk e
  let far : List MemKind := [.granary, .hbm]
  [⟨0, Rd.buf d, 512, n * Gr.bytes e, .d, 64, far⟩]
    ++ (if Rd.aux d = 0 then [] else [⟨1, Rd.aux d, 512 / b, n / b, .r, 64, far⟩])
    ++ (if Rd.flags d = 0 then [] else [⟨2, Rd.flags d, 128 / b, (n / b + 3) / 4, .d, 64, far⟩])

/-- Where the planes of chunk `i` lie: for a SUM its planes, for a DIGEST its pages and then its part of the page table
(R307, R308, R323). -/
def chunkRows (s : State) (c : Nat) (d : BitVec 512) (e : QWord) (i : Nat) : List (Except RowFault RowPlace) :=
  if Rd.digest d then
    let n := chunkCount d e i
    let far : List MemKind := [.granary, .hbm]
    (List.range n).map (fun k => operandRow s c ⟨0, Rd.buf d, 2 ^ 21, 2 ^ 21, .r, 64, far⟩ (64 * i + k))
      ++ [operandRow s c ⟨1, Rd.aux d, 512, 8 * n, .w, 8, far⟩ i]
  else (sumPlanes d e i).map (fun o => operandRow s c o i)

/-- The checks of a REDUCE before its addresses, 0 when they pass (R308). -/
def rdCheck (d : BitVec 512) (e : QWord) : Nat :=
  if rdReserved d then 0x02
  else if 2 ≤ df d 0 4 then 0x04
  else if Rd.chunks d = 0 ∨ 2 ^ 24 < Rd.chunk0 d + Rd.chunks d ∨ Rd.last d = 0 ∨ chunkFull d e < Rd.last d
      ∨ (!Rd.digest d ∧ Gr.fmt e ≠ 0 ∧ Rd.last d % Gr.blk e ≠ 0) then 0x07
  else if (if Rd.digest d then decide (Rd.buf d % 2 ^ 21 ≠ 0 ∨ Rd.aux d % 8 ≠ 0)
      else decide (Rd.buf d % 64 ≠ 0 ∨ Rd.aux d % 64 ≠ 0 ∨ Rd.flags d % 64 ≠ 0)) then 0x08
  else if !epContext (Rd.buf d) ∨ ((Rd.digest d ∨ Rd.aux d ≠ 0) ∧ !epContext (Rd.aux d))
      ∨ (Rd.flags d ≠ 0 ∧ !epContext (Rd.flags d)) then 0x0C
  else 0

/-- The checks of a REDUCE after its addresses: GROUP, then DROP_LIST (R308). -/
def rdGroupCheck (k : Core) (d : BitVec 512) (e : QWord) : Nat :=
  let planesBad := !Rd.digest d &&
    (if Gr.fmt e = 0 then Rd.aux d != 0 || Rd.flags d != 0 else Rd.aux d == 0 || Rd.flags d == 0)
  if !Gr.valid e ∨ Gr.fmt e = 3 ∨ planesBad then 0x10
  else if !Rd.digest d ∧ 64 ≤ k.drops.length then 0x11
  else 0

/-! ## Chunk contexts (R309, R312) -/

/-- Open chunk contexts of a link die. -/
def openChunks (s : State) (die : Nat) : Nat := (s.chunks.filter (fun x => x.chunk % 4 == die)).length

/-- The open chunk context of a chunk of a group. -/
def findChunk (s : State) (g ch : Nat) : Option Chunk := s.chunks.find? (fun x => x.group == g && x.chunk == ch)

/-- The open chunk context of a chunk of a group changed by `f`. -/
def mapChunk (s : State) (g ch : Nat) (f : Chunk → Chunk) : State :=
  { s with chunks := s.chunks.map (fun x => if x.group = g ∧ x.chunk = ch then f x else x) }

/-- A chunk context opened, an operation of its link die (R309, R380). -/
def openChunk (s : State) (g ch ctx : Nat) (owner : Option (Nat × Nat × Nat)) : State :=
  let s := countActivity s (ch % 4) 63 1
  { s with chunks := s.chunks ++ [⟨g, ch, ctx, owner, s.time, [], none, none, none, []⟩] }

/-- A REDUCE of a core changed by `f`. -/
def mapRed (s : State) (c id : Nat) (f : Op → Op) : State := updCore s c (fun k => k.mapOp id f)

/-- A member's own part of a SUM chunk: its elements, NaN where a codeword could not be corrected, its OVF bits and its
scale codes; and whether every codeword was readable (R208, R310). -/
def ownPart (s : State) (e : QWord) (n : Nat) (places : List (Nat × Nat)) : State × Part × List Nat × Bool :=
  let w := 8 * Gr.bytes e
  let (a, key) := places.getD 0 (0, 0)
  let (s1, v, bad) := readRow s key a (n * Gr.bytes e)
  let codes := (List.range n).map (fun i => if elemBad bad a i w then (Gr.elem e).nanCode else fld v (w * i) w)
  if Gr.fmt e = 0 then (s1, ⟨n * Gr.bytes e, packCodes w codes, 0⟩, [], bad.isEmpty)
  else
    let nb := n / Gr.blk e
    let (sa, sk) := places.getD 1 (0, 0)
    let (s2, sv, sbad) := readRow s1 sk sa nb
    let scales := (List.range nb).map (fun j => if elemBad sbad sa j 8 then 0xFF else fld sv (8 * j) 8)
    let (fa, fk) := places.getD 2 (0, 0)
    let (s3, fv, fbad) := readRow s2 fk fa ((nb + 3) / 4)
    let ovf := (List.range nb).foldl (fun m j => if fv.testBit (2 * j) then m ||| 2 ^ j else m) 0
    (s3, ⟨n, packCodes w codes, ovf⟩, scales, bad.isEmpty && sbad.isEmpty && fbad.isEmpty)

/-- The own part of the SUM chunk that is open as `ch` of group `g` read from BUF, with its scales and OVF bits, unless it has
been read or a die it lies on is under test (R227, R310). -/
def readOwn (s : State) (g ch : Nat) : State :=
  match (findChunk s g ch).bind (fun x => x.owner.map (fun o => (x, o))) with
  | none => s
  | some (x, c, id, i) =>
    match (core s c).op id with
    | none => s
    | some o =>
      if x.own.isSome ∨ Rd.digest o.image ∨ opTesting s o then s
      else
        let (s1, own, scales, ok) := ownPart s o.red.entry (chunkCount o.image o.red.entry i) (o.places.getD i [])
        mapChunk (mapRed s1 c id (fun o => { o with poisoned := o.poisoned || !ok })) g ch
          (fun x => { x with own := some own, scales := scales })

/-- A local REDUCE reaches chunks in chunk order, up to `fuel` of them: each opens a context, or joins one that packets
opened, and its own part is read; or, when a local REDUCE has it open, is skipped under DUP_CHUNK; while its link die has no free context the
REDUCE waits (R308, R312). -/
def placeChunks (c id : Nat) : Nat → State → State
  | 0, s => s
  | n + 1, s =>
    match (core s c).op id with
    | none => s
    | some o =>
      let i := o.red.turn
      if o.kind ≠ .reduce ∨ Rd.chunks o.image ≤ i then s
      else
        let g := Rd.group o.image
        let ch := Rd.chunk0 o.image + i
        let next := fun (s : State) => mapRed s c id (fun o => { o with red := { o.red with turn := i + 1 } })
        match findChunk s g ch with
        | some x =>
          if x.owner.isSome then
            let s1 := if o.red.dup then s else incReg (descFault s c 0x12 0x04 o.desc) .core c Off.coreMvFaultCount
            placeChunks c id n (mapRed s1 c id (fun o =>
              { o with poisoned := true, red := { o.red with turn := i + 1, left := o.red.left - 1, dup := true } }))
          else placeChunks c id n (readOwn
            (next (mapChunk s g ch (fun x => { x with owner := some (c, id, i), ctx := o.ctx }))) g ch)
        | none =>
          if 2048 ≤ openChunks s (ch % 4) then s
          else placeChunks c id n (readOwn (next (openChunk s g ch o.ctx (some (c, id, i)))) g ch)

/-- Every REDUCE that waits for a chunk context takes its turn, in core order (R312). -/
def advanceReduces (s : State) : State :=
  s.cores.foldl (fun s e =>
    (e.2.ops.filter (fun o => o.kind == .reduce)).foldl (fun s o => placeChunks e.1 o.id (Rd.chunks o.image) s) s) s

/-- A chunk context closes; a local REDUCE has one chunk fewer to come, and those that wait take their turn. `f` is what
its end does to the REDUCE. -/
def closeChunk (s : State) (x : Chunk) (f : Op → Op) : State :=
  let s0 := countActivity s (x.chunk % 4) 63 1
  let s1 := { s0 with chunks := s.chunks.filter (fun y => !(y.group == x.group && y.chunk == x.chunk)) }
  let s2 := match x.owner with
    | none => s1
    | some (c, id, _) =>
      mapRed { s1 with closedChunks := (x.ctx, x.group, x.chunk) :: s1.closedChunks } c id (fun o =>
        f { o with red := { o.red with left := o.red.left - 1 } })
  advanceReduces s2

/-! ## Launch (R306 to R308, R497) -/

/-- REDUCE: the entry launches, its descriptor is read and checked, and its chunks pass to their link dies; a SUM enters
the drop list; a refused one completes at once, poisoned (R49, R127, R306 to R308, R315, R497). -/
def execReduce (core' : Fin 512) (s : State) : Host.Outcome State Fault Refusal :=
  let c := core'.val
  .next (launch s c .reduce (fun k _ => hasRoom k) (fun s' ent =>
    let desc := entArg ent 0 16
    let flag := entArg ent 16 8
    if cellarBusy s' (c / 128) then advanceHead (cellarEnd s' c 0x04 desc flag) c
    else
    let (s1, img, bad) := readDesc s' c desc
    let d := img.getD 0
    let e := groupEntry s1 (Rd.group d)
    let reason0 := match img with
      | none => 0x01
      | some d => if bad then 0x02 else rdCheck d e
    let s2 :=
      if reason0 ≠ 0 then refuseDesc s1 c reason0 0x04 desc flag
      else
        let rows := (List.range (Rd.chunks d)).map (fun i => chunkRows s1 c d e i)
        match firstFault rows.flatten with
        | some f =>
          let s2 := if f.reason = 0x0D then terrierRecord s1 c 0x04 f.terrier f.index else s1
          refuseDesc s2 c f.reason 0x04 desc flag
        | none =>
          let k := core s1 c
          let late := rdGroupCheck k d e
          if late ≠ 0 then refuseDesc s1 c late 0x04 desc flag
          else if rowsReset s1 rows.flatten then cellarEnd s1 c 0x04 desc flag
          else
            let o := { Op.mk0 .reduce (resident s1) k.alm.slot k.histSel with
              desc := desc, image := d, flag := flag, started := true, places := rows.map rowPairs,
              red := ⟨e, 0, Rd.chunks d, [], false, none⟩ }
            let k1 := k.push o
            let k2 := if Rd.digest d then k1 else { k1 with drops := k1.drops ++ [⟨desc, d, Rd.group d⟩] }
            placeChunks c k.nextOp (Rd.chunks d) (setCore s1 c k2)
    advanceHead s2 c))

/-! ## Packets (R284, R295, R310) -/

/-- A REDUCE_ADD packet for a neighbour on a port (R283, R284). -/
def reducePacket (s : State) (port : Nat) (e : QWord) (x : Chunk) (phase : Nat) (p : Part) : Packet :=
  let upper := x.group + Gr.epoch e % 2 ^ 16 * 2 ^ 8 + x.chunk * 2 ^ 24 + p.len / 4 % 2 ^ 8 * 2 ^ 48 + phase * 2 ^ 56
  let pad := (16 - p.len % 16) % 16
  ⟨mkHeader 0x20 (rf s .port port Off.portPeer 0 14) (srcNode s) 0 (x.chunk % 4) x.ctx 0 upper,
   toBytes p.len p.bytes ++ (if Gr.fmt e = 0 then [] else List.replicate pad 0 ++ toBytes 16 p.ovf)⟩

/-- A REDUCE_ADD leaves by a port; one for a port that is not open is dropped and counted (R291, R310). -/
def sendReduce (s : State) (port : Nat) (p : Packet) : State :=
  let st := portState s port
  if (st = Link.active ∨ st = Link.retrain) ∧ !rbit s .lanemap 0 Off.lanemapLoss port then sendPort s port 2 p
  else incReg s .lanemap (port / 8) Off.lanemapDropCount

/-- The data a REDUCE_ADD carries (R284). -/
def packetPart (s : State) (p : Packet) : Part :=
  let len := 4 * pf p 112 8
  let ovf := if Gr.fmt (groupEntry s (pf p 64 8)) = 0 then 0 else ofBytes ((p.data.drop ((len + 15) / 16 * 16)).take 4)
  ⟨len, ofBytes (p.data.take len), ovf⟩

/-- A packet of a stale epoch: counted, and recorded at most once per group in 2¹⁴ ticks (R295). -/
def staleEpoch (s : State) (g received : Nat) (ingress : Nat) : State :=
  let s1 := incReg s .group 0 Off.groupEpochStaleCount
  let last := tget 0 g s.staleAt
  if last = 0 ∨ last - 1 + 2 ^ 14 ≤ s.time.toNat then
    let behind := (received + 2 ^ 16 - Gr.epoch (groupEntry s g) % 2 ^ 16) % 2 ^ 16
    let ahead := decide (1 ≤ behind ∧ behind ≤ 0x7FFF)
    deviceRecord { s1 with staleAt := tset 0 g (s.time.toNat + 1) s1.staleAt } .group 0 0x06 0x01 ingress
      (det (g * 2 ^ 24 + b2n ahead * 2 ^ 23 + received))
  else s1

/-- Whether a packet's PHASE and ingress port fit the group entry (R310). -/
def phaseFits (e : QWord) (phase : Nat) (ingress : Option Nat) : Bool :=
  match ingress with
  | none => false
  | some p =>
    Gr.valid e && (if phase = 0 then (Gr.children e).contains p else !Gr.root e && Gr.parent e == p)

/-- A packet held in its chunk context; the first from each port stands (R310). -/
def holdPart (x : Chunk) (phase port : Nat) (p : Part) : Chunk :=
  if phase = 1 then { x with parent := if x.parent.isSome then x.parent else some p }
  else if x.parts.any (fun y => y.1 == port) then x
  else { x with parts := x.parts ++ [(port, p)] }

/-- REDUCE_ADD: the packet at `index` is checked against its group's epoch and tree, and held in its chunk context, which
it opens where none is; with every context open it waits, keeping its receive slots (R295, R310, R312, R313). -/
def execReduceAdd (index : Nat) (s : State) : Host.Outcome State Fault Refusal :=
  linkClocked s <|
  match takeAt s.inbox index with
  | none => .next s
  | some ((_, r), rest) =>
    let p := r.packet
    if p.type ≠ 0x20 then .next s
    else
      let s1 := releaseSlots { s with inbox := rest } r
      let g := pf p 64 8
      let ch := pf p 88 24
      let phase := pf p 120 1
      let e := groupEntry s g
      let port := r.ingress.getD 0
      let hold := fun (s : State) => mapChunk s g ch (fun x => holdPart x phase port (packetPart s p))
      let late := incReg s1 .group 0 Off.groupLateDropCount
      if pf p 72 16 ≠ Gr.epoch e % 2 ^ 16 then .next (staleEpoch s1 g (pf p 72 16) port)
      else if !phaseFits e phase r.ingress then .next late
      else match findChunk s g ch with
        | some _ => .next (hold s1)
        | none =>
          if s.closedChunks.any (fun x => x.2 == (g, ch)) then .next late
          else if 2048 ≤ openChunks s (ch % 4) then .next s
          else .next (hold (openChunk s1 g ch p.ctx none))

/-! ## The combine (R310, R168) -/

/-- One combining step of a chunk of `n` elements: FP32 sums, or the arithmetic of R167 under this member's scale codes
with the OVF bits ORed (R168, R310). -/
def combineParts (e : QWord) (scales : List Nat) (n : Nat) (a b : Part) : Part :=
  let t := Gr.elem e
  if Gr.fmt e = 0 then
    ⟨a.len, packCodes 32 ((List.range n).map (fun i =>
      (fadd (BitVec.ofNat 32 (fld a.bytes (32 * i) 32)) (BitVec.ofNat 32 (fld b.bytes (32 * i) 32))).toNat)), 0⟩
  else
    let xs := (List.range n).map (fun i =>
      let c := scales.getD (i / Gr.blk e) 0xFF
      predicted t c (f32 (toF32 ((blockValue t c (fld a.bytes (8 * i) 8)).add (blockValue t c (fld b.bytes (8 * i) 8))))))
    let sat := xs.zipIdx.foldl (fun m x => if x.1.2 then m ||| 2 ^ (x.2 / Gr.blk e) else m) 0
    ⟨a.len, packCodes 8 (xs.map (fun x => x.1)), a.ovf ||| b.ovf ||| sat⟩

/-- The CRC-64 of each of the pages at `places`, whether every codeword was readable, and the state after (R323). -/
def pageCrcs (s : State) : List (Nat × Nat) → State × List Nat × Bool
  | [] => (s, [], true)
  | (a, key) :: rest =>
    let (s1, v, ok) := readMem s key a (2 ^ 21)
    let (s2, cs, ok') := pageCrcs s1 rest
    (s2, crc64 (2 ^ 21) v :: cs, ok && ok')

/-- The fold of a page into STEP_DIGEST (R324). -/
def digestFold (page crc : Nat) : Nat := crc64 16 (page + 2 ^ 64 * crc)

/-- `CONTEXT.STEP_DIGEST` with more pages folded in (R324). -/
def foldDigest (s : State) (ctx : Nat) (pages : List (Nat × Nat)) : State :=
  setReg64 s .context ctx Off.contextStepDigestLo
    (pages.foldl (fun d x => d ^^^ BitVec.ofNat 64 (digestFold x.1 x.2)) (reg64 s .context ctx Off.contextStepDigestLo))

/-- The pages of 2 MiB that a list of places of `n` bytes each touch. -/
def placePages (n : Nat) (l : List (Nat × Nat)) : List Nat := l.flatMap (fun x => pagesOf x.1 n)

/-- CHUNK_COMBINE: the chunk context at `index` has its own part, which is read now where a test of its die kept it from being
read at the chunk's turn, and, for a SUM, every child's packet: they are combined in ascending port order and a member that is not the root sends the result to its parent; a DIGEST hashes, writes and
folds its pages (R310, R323 to R325). -/
def execChunkCombine (index : Nat) (s : State) : Host.Outcome State Fault Refusal :=
  linkClocked s <|
  match s.chunks[index]? with
  | none => .next s
  | some x =>
    match x.owner with
    | none => .next s
    | some (c, id, i) =>
      match (core s c).op id with
      | none => .next s
      | some o =>
        let e := o.red.entry
        let n := chunkCount o.image e i
        let places := o.places.getD i []
        if x.acc.isSome ∨ opTesting s o then .next s
        else if Rd.digest o.image then
          let (a, key) := places.getD n (0, 0)
          if !(heldPages s (pagesOf a (8 * n))).isEmpty then .next (touchPages s (pagesOf a (8 * n)))
          else
            let (s1, crcs, ok) := pageCrcs s (places.take n)
            let v := packCodes 64 crcs
            let s2 := foldDigest (writeMem s1 key a (8 * n) v) o.ctx (crcs.zipIdx.map (fun y => (64 * x.chunk + y.2, y.1)))
            let s3 := mapRed s2 c id (fun o => { o with poisoned := o.poisoned || !ok || rangeOffline s a (8 * n) })
            .next (mapChunk s3 x.group x.chunk (fun x => { x with acc := some ⟨8 * n, v, 0⟩ }))
        else
          let s1 := readOwn s x.group x.chunk
          match (findChunk s1 x.group x.chunk).bind (fun y => y.own.map (fun own => (y, own))) with
          | none => .next s1
          | some (y, own) =>
            if (Gr.children e).all (fun p => y.parts.any (fun z => z.1 == p)) then
              let acc := (Gr.children e).foldl (fun acc p =>
                match y.parts.find? (fun z => z.1 == p) with
                | some z => combineParts e y.scales n acc z.2
                | none => acc) own
              let s2 := mapChunk (countActivity s1 (x.chunk % 4) 62 (n * (Gr.children e).length)) x.group x.chunk
                (fun x => { x with acc := some acc })
              .next (if Gr.root e then s2 else sendReduce s2 (Gr.parent e) (reducePacket s2 (Gr.parent e) e x 0 acc))
            else .next s1

/-! ## The total (R310, R325, R326) -/

/-- A chunk's OVF bits written into the flag fields of its blocks, their HOLD bits kept (R166, R310). -/
def writeOvf (s : State) (key a nb ovf : Nat) : State :=
  let n := (nb + 3) / 4
  let (s1, v, _) := readMem s key a n
  writeMem s1 key a n ((List.range nb).foldl (fun v j => setFld v (2 * j) 1 (b2n (ovf.testBit j))) v)

/-- The FP32 words a written total records in a histogram (R177). -/
def totalWords (e : QWord) (scales : List Nat) (n : Nat) (p : Part) : List Word :=
  (List.range n).map (fun i =>
    if Gr.fmt e = 0 then BitVec.ofNat 32 (fld p.bytes (32 * i) 32)
    else toF32 (blockValue (Gr.elem e) (scales.getD (i / Gr.blk e) 0xFF) (fld p.bytes (8 * i) 8)))

/-- A packet sent on every child port in ascending order with PHASE 1 (R310). -/
def sendChildren (s : State) (e : QWord) (x : Chunk) (p : Part) : State :=
  (Gr.children e).foldl (fun s port => sendReduce s port (reducePacket s port e x 1 p)) s

/-- The pages of a digest chunk whose CRC differs from the root's, by page number (R326). -/
def differing (chunk n own root : Nat) : List Nat :=
  ((List.range n).filter (fun k => fld own (64 * k) 64 != fld root (64 * k) 64)).map (fun k => 64 * chunk + k)

/-- Differing pages counted in the context's registers (R326). -/
def countDiverge (s : State) (ctx : Nat) (pages : List Nat) : State :=
  pages.foldl (fun s p =>
    let s1 := incReg s .context ctx Off.contextDivergeCount
    if p < (reg s1 .context ctx Off.contextDivergePage).toNat then setReg s1 .context ctx Off.contextDivergePage (det p)
    else s1) s

/-- The smaller of an optional number and a list. -/
def minOpt (a : Option Nat) (l : List Nat) : Option Nat :=
  l.foldl (fun m p => match m with
    | none => some p
    | some q => some (min p q)) a

/-- CHUNK_TOTAL_WRITTEN: the chunk context at `index` has its total: it is written over the chunk with its OVF bits and
recorded in the histogram, then sent to the children; a DIGEST is compared with the root's page CRCs and passed on; the
context closes (R310 to R312, R325, R326, R340). -/
def execChunkTotalWritten (index : Nat) (s : State) : Host.Outcome State Fault Refusal :=
  linkClocked s <|
  match s.chunks[index]? with
  | none => .next s
  | some x =>
    match x.owner, x.acc with
    | some (c, id, i), some acc =>
      match (core s c).op id with
      | none => .next s
      | some o =>
        let e := o.red.entry
        let n := chunkCount o.image e i
        let places := o.places.getD i []
        match (if opTesting s o then none else if Gr.root e then some acc else x.parent) with
        | none => .next s
        | some total =>
          if Rd.digest o.image then
            let diff := if Gr.root e then [] else differing x.chunk n acc.bytes total.bytes
            let s1 := sendChildren (countDiverge s o.ctx diff) e x total
            .next (closeChunk s1 x (fun o => { o with red := { o.red with diff := minOpt o.red.diff diff } }))
          else
            let (a, key) := places.getD 0 (0, 0)
            let len := n * Gr.bytes e
            let nb := n / Gr.blk e
            let (fa, fk) := places.getD 2 (0, 0)
            let pages := pagesOf a len ++ (if Gr.fmt e = 0 then [] else pagesOf fa ((nb + 3) / 4))
            if !(heldPages s pages).isEmpty then .next (touchPages s pages)
            else
              let s1 := writeMem s key a len total.bytes
              let s2 := if Gr.fmt e = 0 then s1 else writeOvf s1 fk fa nb total.ovf
              let s3 := sendChildren (histRecord s2 c o.hist (totalWords e x.scales n total)) e x total
              let fenced := rangeOffline s a len || (Gr.fmt e != 0 && rangeOffline s fa ((nb + 3) / 4))
              .next (closeChunk s3 x (fun o => { o with
                poisoned := o.poisoned || fenced, red := { o.red with wrote := o.red.wrote ++ [i] } }))
    | _, _ => .next s

/-! ## Timeouts (R313) -/

/-- The ports whose packet a chunk context has not received, in ascending order (R313). -/
def missingPorts (e : QWord) (digest : Bool) (x : Chunk) : List Nat :=
  sortNat ((if digest then [] else (Gr.children e).filter (fun p => !x.parts.any (fun y => y.1 == p)))
    ++ (if Gr.root e || x.parent.isSome then [] else [Gr.parent e]))

/-- CHUNK_TIMEOUT: the chunk context at `index` has been open for TXN_TIMEOUT ticks: it closes unwritten, with a FABRIC
TIMEOUT record and its count, and a local REDUCE's flag will be poisoned (R288, R313). -/
def execChunkTimeout (index : Nat) (s : State) : Host.Outcome State Fault Refusal :=
  linkClocked s <|
  match s.chunks[index]? with
  | none => .next s
  | some x =>
    if s.time.toNat < x.opened.toNat + (reg s .lanemap 0 Off.lanemapTxnTimeout).toNat then .next s
    else
      let op := x.owner.bind (fun y => ((core s y.1).op y.2.1).map (fun o => (y.1, o)))
      let e := match op with
        | some (_, o) => o.red.entry
        | none => groupEntry s x.group
      let digest := match op with
        | some (_, o) => Rd.digest o.image
        | none => false
      let node := match missingPorts e digest x with
        | p :: _ => rf s .port p Off.portPeer 0 14
        | [] => 0x3FFF
      let s1 := match op with
        | some (c, o) => coreRecord s c 0x06 0x05 (det (node * 2 ^ 18 + o.desc))
        | none => deviceRecord s .lanemap 0 0x06 0x05 0xFFFF (det (node * 2 ^ 18))
      let s2 := incReg s1 .lanemap (x.chunk % 4) Off.lanemapTimeoutCount
      .next (closeChunk s2 x (fun o => { o with poisoned := true }))

/-! ## Completion (R311, R170, R173, R326) -/

/-- The blocks of chunk `i` whose OVF is 1 (R170). -/
def flaggedBlocks (s : State) (o : Op) (i : Nat) : List Nat :=
  let nb := chunkCount o.image o.red.entry i / Gr.blk o.red.entry
  let (fa, fk) := (o.places.getD i []).getD 2 (0, 0)
  let v := (readMem s fk fa ((nb + 3) / 4)).2.1
  (List.range nb).filter (fun j => v.testBit (2 * j))

/-- The re-encoding of an element as half its value; NaN and infinities are kept (R170). -/
def halveCode (t : Elem) (q : Nat) : Nat := if (t.num q).isFin then narrow t none ((t.num q).scale (-1)) else q

/-- The scale step of one flagged block of chunk `i`: a code below 0xFE goes up by one with the elements halved, and HOLD
is set by the policy (R170). -/
def halveBlock (s : State) (o : Op) (i : Nat) (hold : Bool) (j : Nat) : State :=
  let e := o.red.entry
  let b := Gr.blk e
  let t := Gr.elem e
  let places := o.places.getD i []
  let (a, key) := places.getD 0 (0, 0)
  let (sa, sk) := places.getD 1 (0, 0)
  let (fa, fk) := places.getD 2 (0, 0)
  let (s1, c, _) := readMem s sk (sa + j) 1
  let s2 :=
    if c < 0xFE then
      let (s2, v, _) := readMem (writeMem s1 sk (sa + j) 1 (c + 1)) key (a + b * j) b
      writeMem s2 key (a + b * j) b (packCodes 8 ((List.range b).map (fun k => halveCode t (fld v (8 * k) 8))))
    else s1
  let (s3, f, _) := readMem s2 fk (fa + j / 4) 1
  writeMem s3 fk (fa + j / 4) 1 (setFld f (2 * (j % 4) + 1) 1 (b2n hold))

/-- The chunks a block-format SUM's completion changes, with their flagged blocks (R170). -/
def flaggedChunks (s : State) (o : Op) : List (Nat × List Nat) :=
  if Rd.digest o.image ∨ Gr.fmt o.red.entry = 0 then []
  else (o.red.wrote.map (fun i => (i, flaggedBlocks s o i))).filter (fun x => !x.2.isEmpty)

/-- The pages R170's step writes. -/
def flaggedPages (o : Op) (l : List (Nat × List Nat)) : List Nat :=
  l.flatMap (fun x =>
    let n := chunkCount o.image o.red.entry x.1
    let nb := n / Gr.blk o.red.entry
    ((o.places.getD x.1 []).zip [n, nb, (nb + 3) / 4]).flatMap (fun y => pagesOf y.1.1 y.2))

/-- REDUCE_COMPLETE: every chunk of a REDUCE has been written or closed: the scale step of R170, the record and count of
R173 or the record of R326, and the flag (R311). -/
def execReduceComplete (core' : Fin 512) (op : Nat) (s : State) : Host.Outcome State Fault Refusal :=
  let c := core'.val
  match (core s c).op op with
  | none => .next s
  | some o =>
    if o.kind ≠ .reduce ∨ o.red.turn < Rd.chunks o.image ∨ o.red.left ≠ 0 ∨ opTesting s o then .next s
    else
      let g := Rd.group o.image
      let flagged := flaggedChunks s o
      let pages := flaggedPages o flagged
      if !(heldPages s pages).isEmpty then .next (touchPages s pages)
      else
        let hold := !(core s c).heldApply
        let s1 := flagged.foldl (fun s x => x.2.foldl (fun s j => halveBlock s o x.1 hold j) s) s
        let n := (flagged.map (fun x => x.2.length)).sum
        let s2 := if n = 0 then s1
          else addReg (coreRecord s1 c 0x07 0x01 (det (g * 2 ^ 24 + min n 0xFFFFFF))) .core c Off.coreNumOvfCount n
        let s3 := match o.red.diff with
          | some p => deviceRecord s2 .group 0 0x06 0x02 g (det p)
          | none => s2
        .next (finishOp s3 c o o.poisoned none)

end Sys2Proof.Machine
end

