-- ==== Sys2Proof/Machine/Commit.lean ====
section
/-!
DEFINITION. COMMIT and the step decision (R314 to R320), and the legacy per-tensor scale slots (R174, R175).
-/
namespace Sys2Proof.Machine

/-! ## Legacy scale slots (R174, R175) -/

/-- A scale slot of a context. -/
def tscale (s : State) (ctx slot : Nat) : TScale := tget TScale.reset (32 * ctx + slot) s.tscales

/-- A scale slot of a context replaced. -/
def setTscale (s : State) (ctx slot : Nat) (v : TScale) : State :=
  { s with tscales := tset TScale.reset (32 * ctx + slot) v s.tscales }

/-- Where a slot's entry lies in the commons of die `d` (R174). -/
def tscaleAddr (s : State) (ctx d slot : Nat) : Nat :=
  commonsAddr d + rf s .context ctx Off.contextTscaleBase 0 25 + 16 * slot

/-- 1 ÷ σ (R174). -/
def sigmaInv (w : Word) : Word := toF32 (rcpNum (f32 w))

/-- σ and 1 ÷ σ of a slot written into every die's table (R175). -/
def writeSigma (s : State) (ctx slot : Nat) : State :=
  let sigma := (tscale s ctx slot).sigma
  (List.range 4).foldl (fun s d =>
    writeMem (writeMem s 0 (tscaleAddr s ctx d slot + 4) 4 sigma.toNat) 0 (tscaleAddr s ctx d slot + 8) 4
      (sigmaInv sigma).toNat) s

/-- Every AMAX_IN of a context zeroed (R175). -/
def zeroAmax (s : State) (ctx : Nat) : State :=
  (List.range 4).foldl (fun s d => (List.range 32).foldl (fun s k => writeMem s 0 (tscaleAddr s ctx d k) 4 0) s) s

/-- The largest of the four dies' AMAX_IN words of a slot by bit pattern, and the state after reading them (R175). -/
def readAmax (s : State) (ctx slot : Nat) : State × Word :=
  (List.range 4).foldl (fun x d =>
    let (s1, v, _) := readMem x.1 0 (tscaleAddr x.1 ctx d slot) 4
    (s1, if x.2.toNat < v then BitVec.ofNat 32 v else x.2)) (s, 0)

/-- The larger of two FP32 words by value. -/
def largerWord (a b : Word) : Word := if (f32 a).lt (f32 b) then b else a

/-- The smallest e with 2ᵉ × F ≥ H, F being 1.75 × 2^emax (R174, R175). -/
def scaleFor (emax : Int) (h : Num) : Int :=
  match h.log2 with
  | none => 0
  | some l => if (Num.fin false 7 (l - 2)).lt h then l - emax + 1 else l - emax

/-- σ after a history whose largest entry is H; none when it stays (R175). -/
def newSigma (t : TScale) (h : Word) : Option Word :=
  let x := f32 h
  if x.isZero ∨ x.isNeg then none
  else
    let e := scaleFor (if t.e5m2 then 15 else 8) x + (t.margin.toNat : Int)
    some (toF32 (.fin false 1 (max (-126) (min 127 e))))

/-- One enabled slot updated at a decision to apply (R175). -/
def updateTscale (s : State) (ctx slot : Nat) : State :=
  let t := tscale s ctx slot
  if !t.en then s
  else
    let (s1, a) := readAmax s ctx slot
    if !(f32 a).isFin then writeSigma (setRbit s1 .context ctx Off.contextTscaleNf slot true) ctx slot
    else
      let history := a :: t.history.take 15
      let h := history.foldl largerWord (history.headD 0)
      writeSigma (setTscale s1 ctx slot { t with history := history, sigma := (newSigma t h).getD t.sigma }) ctx slot

/-- Every enabled slot updated, then every AMAX_IN zeroed (R175). -/
def updateTscales (s : State) (ctx : Nat) : State :=
  zeroAmax ((List.range 32).foldl (fun s k => updateTscale s ctx k) s) ctx

/-- Every table of a context written from its slots' σ, as ALM_GO does (R175). -/
def writeTables (s : State) (ctx : Nat) : State := (List.range 32).foldl (fun s k => writeSigma s ctx k) s

/-! ## Step status (R317, R328) -/

namespace Step
/-- Codes of `CONTEXT.STEP_STATUS.STATE`. -/
abbrev idle : Nat := 0
/-- COLLECTING. -/
abbrev collecting : Nat := 1
/-- WAITING. -/
abbrev waiting : Nat := 2
/-- GO. -/
abbrev go : Nat := 3
/-- DROPPING. -/
abbrev dropping : Nat := 4
end Step

/-- `CONTEXT.STEP_STATUS.STATE`. -/
def stepState (s : State) (ctx : Nat) : Nat := rf s .context ctx Off.contextStepStatus 0 3

/-- The step state set. -/
def setStepState (s : State) (ctx st : Nat) : State := setRf s .context ctx Off.contextStepStatus 0 3 st

/-- `CONTEXT.STEP`. -/
def contextStep (s : State) (ctx : Nat) : DWord := reg64 s .context ctx Off.contextStepLo

/-- GROUP of a COMMIT entry (R41). -/
def commitGroup (e : QWord) : Nat := entArg e 16 8
/-- AUTO of a COMMIT entry. -/
def commitAuto (e : QWord) : Bool := entArg e 8 1 == 1
/-- HIST_MASK of a COMMIT entry. -/
def commitMask (e : QWord) : Nat := entArg e 0 8

/-- The cores counted under R314: those whose root word was VALID, less those HALTED or OFFLINE. -/
def countedCores (s : State) : List (Nat × Core) :=
  s.cores.filter (fun e => e.2.alm.state != .idle && e.2.alm.state != .halted && !coreOffline s e.1)

/-- The COMMIT at the head of a core that runs, where it has not been decided yet. -/
def commitHead (k : Core) : Option QWord :=
  if (k.alm.state == .running || k.alm.state == .starved) && !k.alm.skip && k.alm.commit.isNone && !k.alm.halting then
    match k.alm.headEntry with
    | some e => if opOfCode (entOp e) = some .commit then some e else none
    | none => none
  else none

/-- The COMMITs of the counted cores, when each has one at its head and all name one group (R314). -/
def commits (s : State) : Option (List QWord) :=
  match (countedCores s).map (fun e => commitHead e.2) with
  | [] => none
  | some e :: rest =>
    if rest.all (fun x => match x with
      | some f => commitGroup f == commitGroup e
      | none => false)
    then some (e :: rest.filterMap id) else none
  | none :: _ => none

/-- An accepted SUM REDUCE of group `g` that a core has in flight (R314, R497). -/
def sumPending (k : Core) (g : Nat) : Bool :=
  k.ops.any (fun o => o.kind == .reduce && !Rd.digest o.image && Rd.group o.image == g)

/-- The verdict on the counted COMMITs: 2 with AUTO 0 in one, 1 on a non-finite bin or a POISON bit of any core, else 0
(R83, R179, R316). -/
def verdict (s : State) (es : List QWord) : Nat :=
  let mask := es.foldl (fun m e => m ||| commitMask e) 0
  let bins := s.cores.any (fun e => (bitsOf 8 mask).any (fun k =>
    tget 0 (histKey k 66) e.2.hist != 0 || tget 0 (histKey k 67) e.2.hist != 0))
  if es.any (fun e => !commitAuto e) then 2
  else if bins || s.cores.any (fun e => e.2.flagPoison != 0) then 1
  else 0

/-! ## Decisions (R318, R319, R334) -/

/-- A decision of context `ctx` asks for a harvest at the next step boundary when one is due or named for its step
(R334); `step` is the step before it advances. -/
def askHarvest (s : State) (ctx : Nat) (step : DWord) : State :=
  let refill := match s.refill with
    | some r => r.ctx == ctx
    | none => false
  let serving := match s.serve with
    | some r => r.ctx == ctx
    | none => false
  let at' := rbit s .harvest 0 Off.ctrl 2 && reg64 s .harvest 0 Off.harvestAtStepLo == step
  let timed := rbit s .harvest 0 Off.ctrl 1 && s.harvestDue
  if enabled s .harvest 0 && rf s .harvest 0 Off.ctrl 8 5 == ctx && s.harvest.isNone && !refill && !serving
      && !stagingTaken s
      && (at' || timed) then { s with harvestWanted := true } else s

/-- What every decision does after its own work: the step advances, LAST is set, the digest registers are cleared, the
group leaves every drop list, chunks may be reduced again, and every counted COMMIT may launch (R315, R318, R319). -/
def finishDecision (s : State) (ctx g : Nat) (drop : Bool) : State :=
  let step := contextStep s ctx
  let s1 := addReg64 s .context ctx Off.contextStepLo 1
  let s2 := setRbit s1 .context ctx Off.contextStepStatus 3 drop
  let s3 := setReg (setReg (setReg64 s2 .context ctx Off.contextStepDigestLo 0) .context ctx Off.contextDivergeCount 0)
    .context ctx Off.contextDivergePage 0xFFFFFFFF
  let s4 := (countedCores s3).foldl (fun s e => updCore s e.1 (fun k =>
    { k with alm := { k.alm with commit := if (commitHead k).isSome then some drop else k.alm.commit } })) s3
  let s5 := { s4 with
    cores := tmap (fun _ => Core.reset) (fun _ k => { k with drops := k.drops.filter (fun d => d.group != g) }) s4.cores,
    closedChunks := s4.closedChunks.filter (fun x => x.1 != ctx) }
  setStepState (askHarvest s5 ctx step) ctx Step.idle

/-- GO: the scale slots are updated, then the decision finishes (R318). -/
def decideGo (s : State) (ctx : Nat) : State :=
  finishDecision (updateTscales (setStepState s ctx Step.go) ctx) ctx (rf s .context ctx Off.contextStepStatus 8 8) false

/-- The fill of one chunk of a drop-list entry: its element plane, and its flag fields in a block format; a plane that no
longer translates leaves the chunk as it is, with a FABRIC TERRIER record (R171, R319). -/
def dropChunk (s : State) (c : Nat) (d : DropEntry) (i : Nat) : State :=
  let e := groupEntry s d.group
  let n := chunkCount d.image e i
  let planes := (sumPlanes d.image e i).filter (fun o => o.index != 1)
  let rows := planes.map (fun o => operandRow s c o i)
  match firstFault (planes.map (fun o => rowPlace s c o.ep o.pitch i o.bytes (some o.perm))), firstFault rows with
  | some f, _ => if f.reason = 0x0D then terrierRecord s c 0x04 f.terrier f.index else s
  | none, some _ => s
  | none, none =>
    let l := rowPairs rows
    let (a, key) := l.getD 0 (0, 0)
    let s1 := writeMem s key a (n * Gr.bytes e) 0
    if Gr.fmt e = 0 then s1
    else
      let (fa, fk) := l.getD 1 (0, 0)
      zeroFlags s1 fk fa (n / Gr.blk e)

/-- The pages that the fill of one chunk writes. -/
def dropChunkPages (s : State) (c : Nat) (d : DropEntry) (i : Nat) : List Nat :=
  let e := groupEntry s d.group
  let planes := (sumPlanes d.image e i).filter (fun o => o.index != 1)
  planes.flatMap (fun o => match operandRow s c o i with
    | .ok p => pagesOf p.addr o.bytes
    | .error _ => [])

/-- Every drop-list entry of a group, with its core. -/
def dropEntries (s : State) (g : Nat) : List (Nat × DropEntry) :=
  s.cores.flatMap (fun e => (e.2.drops.filter (fun d => d.group == g)).map (fun d => (e.1, d)))

/-- Every fill of a DROP (R319). -/
def dropFills (s : State) (g : Nat) : State :=
  (dropEntries s g).foldl (fun s x => (List.range (Rd.chunks x.2.image)).foldl (fun s i => dropChunk s x.1 x.2 i) s) s

/-- The pages that the fills of a DROP write. -/
def dropPages (s : State) (g : Nat) : List Nat :=
  (dropEntries s g).flatMap (fun x => (List.range (Rd.chunks x.2.image)).flatMap (fun i => dropChunkPages s x.1 x.2 i))

/-- A step command accepted in WAITING takes effect on the resident context: GO finishes at once, DROP starts its fills
(R317 to R319). -/
def applyStepCmd (s : State) (ctx : Nat) (drop : Bool) : State :=
  if drop then setStepState s ctx Step.dropping else decideGo s ctx

/-- A write of `CONTEXT.STEP_CMD`: refused outside WAITING or with both bits set; for a context that is switched out it is
kept until the context resumes (R317, R328). -/
def writeStepCmd (s : State) (ctx : Nat) (v : Word) : State :=
  let go := v.toNat.testBit 0
  let drop := v.toNat.testBit 1
  if ctx = 0 then refuse s .context 0 0x06 Off.contextStepCmd
  else if stepState s ctx ≠ Step.waiting then refuse s .context ctx 0x40 Off.contextStepCmd
  else if go && drop then refuse s .context ctx 0x04 Off.contextStepCmd
  else if !go && !drop then s
  else if resident s = ctx then applyStepCmd s ctx drop
  else setReg s .context ctx Off.contextStepCmd v

/-- A step command kept while its context was switched out takes effect as it resumes (R317). -/
def resumeStepCmd (s : State) (ctx : Nat) : State :=
  let v := reg s .context ctx Off.contextStepCmd
  if v = 0 then s else applyStepCmd (setReg s .context ctx Off.contextStepCmd 0) ctx (v.toNat.testBit 1)

/-! ## Meanings -/

/-- COMMIT: a COMMIT at the head makes the step COLLECTING while it is undecided; once decided it launches, and after a
DROP the core skips what follows (R49, R314, R317 to R320). -/
def execCommit (core' : Fin 512) (s : State) : Host.Outcome State Fault Refusal :=
  let c := core'.val
  let ctx := resident s
  match (core s c).alm.commit with
  | some drop =>
    .next (launch s c .commit (fun _ _ => true) (fun s' _ =>
      updCore (advanceHead s' c) c (fun k => { k with alm := { k.alm with skip := drop } })))
  | none =>
    match commitHead (core s c) with
    | none => .next s
    | some e =>
      if ctx ≠ 0 ∧ stepState s ctx = Step.idle ∧ coreOffline s c = false then
        .next (setRf (setStepState s ctx Step.collecting) .context ctx Off.contextStepStatus 8 8 (commitGroup e))
      else .next s

/-- STEP_READY: every counted core holds a COMMIT of one group and its SUM REDUCEs have completed: the record is written
with its verdict, and the step is decided GO or waits (R314, R316, R317). -/
def execStepReady (s : State) : Host.Outcome State Fault Refusal :=
  let ctx := resident s
  match commits s with
  | none => .next s
  | some es =>
    let g := commitGroup (es.headD 0)
    if ctx = 0 ∨ Step.waiting ≤ stepState s ctx ∨ (countedCores s).any (fun e => sumPending e.2 g)
        ∨ (s.switch.phase ≠ .idle ∧ s.switch.phase ≠ .requested) then .next s
    else
      let v := verdict s es
      let s1 := setRf (setRf s .context ctx Off.contextStepStatus 8 8 g) .context ctx Off.contextStepStatus 4 2 v
      let s2 := contextEvent s1 .context ctx 0x07 0x02 ctx
        (det (g * 2 ^ 24 + v * 2 ^ 22 + (contextStep s ctx).toNat % 2 ^ 16)) ctx 0
      .next (if v = 0 then decideGo s2 ctx else setStepState s2 ctx Step.waiting)

/-- STEP_DROP_DONE: the fills of a DROP are made and the decision finishes; a page that a harvest has still to copy, and a die
in a bond self-test, hold the fills back (R171, R175, R227, R319, R340). -/
def execStepDropDone (s : State) : Host.Outcome State Fault Refusal :=
  let ctx := resident s
  if ctx = 0 ∨ stepState s ctx ≠ Step.dropping then .next s
  else
    let g := rf s .context ctx Off.contextStepStatus 8 8
    let pages := dropPages s g
    if !(heldPages s pages).isEmpty then .next (touchPages s pages)
    else if pages.any (fun p => addrTesting s (p * 2 ^ 21)) then .next s
    else .next (finishDecision (zeroAmax (dropFills s g) ctx) ctx g true)

/-! ## Skipping after a DROP (R320) -/

/-- The flag a skipped entry increments, none for an entry that names none (R320). -/
def skipFlag (e : QWord) : Option Nat :=
  match opOfCode (entOp e) with
  | some .matrix | some .vector | some .move | some .fetch | some .put | some .reduce | some .atomic =>
    some (entArg e 16 8)
  | _ => none

/-- A flag advanced by `n` (R81, R320). -/
def addFlag (k : Core) (f n : Nat) : Core :=
  { k with flags := tset 0 f (tget 0 f k.flags + BitVec.ofNat 16 n) k.flags }

/-- The entries of a loop body and how often each would have launched: each is multiplied by the COUNT of every loop of
`ls`, given by its last index and its count, that encloses it (R320). -/
def bodyGains : Nat → List (Nat × Nat) → List QWord → List (Nat × Nat)
  | _, _, [] => []
  | i, ls, e :: es =>
    let ls := ls.filter (fun l => decide (i ≤ l.1))
    if entOp e = 0x11 then bodyGains (i + 1) ((i + entArg e 16 9, entArg e 0 16) :: ls) es
    else
      let n := ls.foldl (fun n l => n * l.2) 1
      match skipFlag e with
      | some f => (f, n) :: bodyGains (i + 1) ls es
      | none => bodyGains (i + 1) ls es

/-- The head moved past `n` entries and out of the loops that end there. -/
def skipEntries (s : State) (c n : Nat) : State :=
  updCore s c (fun k =>
    let (fs, h) := Machine.advance k.alm.frames (k.alm.head + n)
    { k with alm := { k.alm with frames := fs, head := h, headSince := s.time, timeoutFired := false, commit := none } })

/-- ENTRY_SKIP: after a DROP the head entry retires without launching: an entry with a flag adds to it, a LOOP retires
with its body; VARIANT, SWITCH and the segment's final entry are not skipped (R320). -/
def execEntrySkip (core' : Fin 512) (s : State) : Host.Outcome State Fault Refusal :=
  let c := core'.val
  let a := (core s c).alm
  match a.headEntry, a.active with
  | some e, some b =>
    let entries := (a.bank b).entries
    let op := opOfCode (entOp e)
    if !a.skip ∨ (a.state ≠ .running ∧ a.state ≠ .starved) ∨ !coreMayLaunch s c ∨ a.head + 1 = entries.length
        ∨ op = some .variant ∨ op = some .switch then .next s
    else if op = some .loop then
      let body := entArg e 16 9
      let gains := bodyGains 0 [] ((entries.drop a.head).take (1 + body))
      let s1 := updCore s c (fun k => gains.foldl (fun k x => addFlag k x.1 x.2) k)
      .next (skipEntries s1 c (1 + body))
    else
      let s1 := match skipFlag e with
        | some f => updCore s c (fun k => addFlag k f 1)
        | none => s
      .next (skipEntries s1 c 1)
  | _, _ => .next s

end Sys2Proof.Machine
end

