-- ==== Sys2Proof/Machine/Harvest.lean ====
section
/-!
DEFINITION. The Watch and the Harvest (R330 to R349): periods, arming, copies, the drain to the pantry and the shared store,
aborts, and the pantry's commands (R409 to R411, R477).
-/
namespace Sys2Proof.Machine

/-! ## The Watch (R330, R331, R333) -/

/-- Accumulator A_i of the Watch. -/
def watchAcc (s : State) (i : Nat) : Nat := (reg s .watch i Off.watchAccValue).toNat

/-- A_i at the end of a period with `n` events (R330). -/
def accStep (decay a n : Nat) : Nat := min (2 ^ 32 - 1) (a - ceilDiv a (2 ^ decay) + 256 * n)

/-- The largest WEAR_LIFE of any quadrant (R330). -/
def worstLife (s : State) : Nat :=
  s.wear.foldl (fun m e => match e.2 with
    | some w => max m w.life.toNat
    | none => m) 0

/-- The accumulators after a period (R330). -/
def watchAccumulate (s : State) : State :=
  let decay := rf s .watch 0 Off.ctrl 0 4
  let s1 := (List.range 6).foldl (fun s i =>
    let n := tget 0 i s.watchEvents
    let (n, rest) := if i = 1 then (n / 65536, n % 65536) else (n, 0)
    { setReg s .watch i Off.watchAccValue (det (accStep decay (watchAcc s i) n)) with
      watchEvents := tset 0 i rest s.watchEvents }) s
  setReg s1 .watch 6 Off.watchAccValue (det (worstLife s / 2 ^ 8))

/-- The level (R331). -/
def watchLevelNow (s : State) : Nat :=
  min 255 (((List.range 7).map (fun i =>
    rf s .watch 0 (Off.watchWeight + 4 * i) 0 16 * min (watchAcc s i) (2 ^ 24 - 1))).sum / 2 ^ 20)

/-- Byte `b` of the SHORTEN table (R333). -/
def shortenByte (s : State) (b : Nat) : Nat := rf s .harvest 0 (Off.harvestShorten + 4 * (b / 4)) (8 * (b % 4)) 8

/-- The effective harvest interval in ticks at a level (R333). -/
def harvestInterval (s : State) (level : Nat) : Nat :=
  (reg s .harvest 0 Off.harvestIntervalBase).toNat * (shortenByte s (level / 16) + 1) / 256 * 2 ^ 16

/-- WATCH_PERIOD: at each multiple of 2²⁴ ticks the accumulators and the level are updated, an alert is raised, and a
harvest found due (R330, R331, R333). -/
def execWatchPeriod (s : State) : Host.Outcome State Fault Refusal :=
  if s.time.toNat % 2 ^ 24 ≠ 0 then .next s
  else match fireOnce s 2 with
  | none => .next s
  | some s0 =>
    let before := rf s0 .watch 0 Off.watchLevel 0 8
    let s1 := watchAccumulate s0
    let level := watchLevelNow s1
    let s2 := setRf s1 .watch 0 Off.watchLevel 0 8 level
    let alert := rf s .watch 0 Off.ctrl 8 8
    let s3 := healthStep s (if before < alert ∧ alert ≤ level then raiseInt s2 .watch 0 0 else s2)
    let due := enabled s3 .harvest 0 && !s3.harvestDue
      && decide (harvestInterval s3 level ≤ (s3.time - reg64 s3 .harvest 0 Off.harvestLastTickLo).toNat)
    .next (if due then raiseInt { s3 with harvestDue := true } .harvest 0 0 else s3)

/-! ## Pantry commands (R409 to R411) -/

/-- A HOST PANTRY_ERROR record (R411, R417). -/
def pantryError (s : State) (status queue : Nat) : State :=
  deviceRecord s .pantry 0 0x0B 0x05 0xFFFF (det (status * 2 ^ 16 + queue * 2 ^ 8))

/-- Whether the pantry queues accept commands (R438, R465). -/
def pantryTakes (s : State) : Bool := enabled s .pantry 0 && !quiescing s .pantry 0

/-- A pantry command issued, or kept while its queue is full or the pantry accepts none (R409, R410, R465). -/
def nvmeSubmit (s : State) (c : NvmeCmd) : State :=
  if pantryTakes s ∧ (s.nvme.filter (fun x => x.queue == c.queue)).length < 255 ∧ !s.nvmeWait.any (fun x => x.queue == c.queue) then
    emit { s with nvme := s.nvme ++ [{ c with since := s.time }] } (.nvme c.queue c.lba)
  else { s with nvmeWait := s.nvmeWait ++ [c] }

/-- The oldest waiting command of a queue issued, once there is room. -/
def nvmeNext (s : State) (queue : Nat) : State :=
  match s.nvmeWait.find? (fun x => x.queue == queue) with
  | none => s
  | some c =>
    if pantryTakes s ∧ (s.nvme.filter (fun x => x.queue == queue)).length < 255 then
      emit { s with
        nvmeWait := s.nvmeWait.erase c, nvme := s.nvme ++ [{ c with since := s.time }] } (.nvme c.queue c.lba)
    else s

/-- Commands of 128 KiB that move `n` × 128 KiB between a staging address and the drive from `lba` on (R410). -/
def nvmeBlock (s : State) (write : Bool) (lba addr n : Nat) : State :=
  (List.range n).foldl (fun s j =>
    nvmeSubmit s ⟨if write then 1 + j % 2 else 3, if write then .write else .read, lba + 32 * j, addr + 2 ^ 17 * j, 0⟩) s

/-- The staging address of slot `k` of die `d` (R339). -/
def stageAddr (s : State) (d k : Nat) : Nat := hbmAddr (4 * d) + (rf s .harvest 0 Off.harvestStage 0 16 + k) * 2 ^ 21

/-- The die whose staging area holds the header and the records. -/
def stageDie (s : State) : Nat := (lowestDie s).getD 0

/-! ## Images (R337, R342; the layout is the model's own) -/

/-- 64-bit words of a 2 MiB block. -/
abbrev blockWords : Nat := 2 ^ 18

/-- The first block of an image slot of the pantry. -/
def pantryBase (s : State) (slot : Bool) : Nat :=
  (reg s .harvest 0 (if slot then Off.harvestPantryLba1 else Off.harvestPantryLba0)).toNat

/-- The address of an image slot of the shared store. -/
def storeBase (s : State) (slot : Bool) : Nat :=
  ((reg s .harvest 0 Off.harvestStoreBase).toNat
    + (if slot then (reg s .harvest 0 Off.harvestStoreSlot).toNat else 0)) * 2 ^ 21

/-- The page table as words: two for each row (R337). -/
def rowWords (rows : List PageRow) : List Nat := rows.flatMap (fun r => [r.page + b2n r.unique * 2 ^ 32, r.crc.toNat])

/-- The record words of an image: context record, fabric record, page table (R337). -/
def HarvestRun.words (r : HarvestRun) : List Nat := r.contextWords ++ r.fabricWords ++ rowWords r.rows

/-- Blocks of records of an image. -/
def recordBlocks (n : Nat) : Nat := ceilDiv n blockWords

/-- The header of an image as 512 words, the last the CRC-64 of the others (R337). -/
def headerWords (s : State) (r : HarvestRun) (slot : Bool) : List Nat :=
  let l := [1, Config.provisionedId.toNat, thisNode s + r.ctx * 2 ^ 16 + b2n slot * 2 ^ 24 + b2n r.gap * 2 ^ 32
      + b2n r.skew * 2 ^ 33, r.step.toNat, r.time.toNat, r.epoch.toNat, s.pantryId.toNat, r.rows.length, 2 ^ 21,
    r.contextWords.length, r.fabricWords.length, 2 ^ 21 + 8 * (r.contextWords.length + r.fabricWords.length),
    (1 + recordBlocks r.words.length) * 2 ^ 21, 2 ^ 21 + 8 * r.contextWords.length]
  let l := l ++ List.replicate (511 - l.length) 0
  l ++ [crc64 4088 (packCodes 64 l)]

/-- Whether an image of the shared store is written: some page is UNIQUE (R336, R342). -/
def HarvestRun.store (r : HarvestRun) : Bool := r.rows.any PageRow.unique

/-- The writes of 512 B that drain `n` × 512 B of a staging address to the shared store (R342). -/
def storeWrites (s : State) (addr far n : Nat) : List (TagUser × Txn) :=
  (List.range n).map (fun j =>
    (.harvest, ⟨.write, rf s .harvest 0 Off.harvestStoreNode 0 14, far + 512 * j, 512, addr + 512 * j, 0, 0, 0, 0, 0⟩))

/-- A staging page starts to drain: block `block` of the pantry image and, where `storeBlock` is given, that block of the
store image (R342). -/
def drainStage (s : State) (r : HarvestRun) (d k block : Nat) (storeBlock : Option Nat) : State :=
  let addr := stageAddr s d k
  let n := if storeBlock.isSome then 4096 else 0
  let s1 := { s with harvest := some { r with stages := r.stages ++ [⟨d, k, 16, n⟩] } }
  let s2 := nvmeBlock s1 true (pantryBase s r.pantrySlot + 512 * block) addr 16
  match storeBlock with
  | none => s2
  | some b => { s2 with reeveTodo := s2.reeveTodo ++ storeWrites s addr (storeBase s r.storeSlot + 2 ^ 21 * b) 4096 }

/-! ## The end of a harvest (R340, R344, R345) -/

/-- The wait of a page's first touch enters STALL_MAX (R340). -/
def noteStall (s : State) (page : Nat) : State :=
  let t := tget 0 page s.touches
  let wait := s.time.toNat - (t - 1)
  let s1 := { s with touches := tset 0 page 0 s.touches }
  if t ≠ 0 ∧ (reg s .harvest 0 Off.harvestStallMax).toNat < wait then
    setReg s1 .harvest 0 Off.harvestStallMax (det (min wait (2 ^ 32 - 1))) else s1

/-- Whether a pantry command belongs to the Harvest's writes. -/
def harvestCmd (c : NvmeCmd) : Bool := c.queue == 1 || c.queue == 2 || (c.queue == 4 && c.op == .flush)

/-- The harvest in progress aborts with a status: its bits clear, its staged pages are discarded, and the record is
written (R345). -/
def harvestAbort (s : State) (status : Nat) : State :=
  match s.harvest with
  | none => s
  | some r =>
    let s1 := (s.touches.map Prod.fst).foldl noteStall s
    let s1 := s1.copyPages.foldl (fun s p => setCopyBit s p false) s1
    let s2 := dropUsers { s1 with
      harvest := none, nvme := s1.nvme.filter (fun c => !harvestCmd c),
      nvmeWait := s1.nvmeWait.filter (fun c => !harvestCmd c) } (fun u => u == .harvest)
    resubmit (harvestDone s2 r.ctx status (b2n r.pantrySlot) false [])

/-- The harvest is complete: its image slots become current, and it is counted and recorded (R344). -/
def harvestComplete (s : State) (r : HarvestRun) : State :=
  let s1 := { s with
    harvest := none, pantryImage := some r.pantrySlot, storeImage := if r.store then some r.storeSlot else s.storeImage }
  harvestDone (incReg s1 .harvest 0 Off.harvestCount) r.ctx 0 (b2n r.pantrySlot) false []

/-- The next part of an image once everything staged has drained: record blocks, the Flush, the header, the Flush, the
end (R342, R344, R411). -/
def harvestAdvance (s : State) : State :=
  match s.harvest with
  | none => s
  | some r =>
    if !r.stages.isEmpty then s
    else
      let words := r.words
      let blocks := recordBlocks words.length
      let d := stageDie s
      let addr := stageAddr s d 0
      let flush := fun (s : State) (p : HarvestPhase) =>
        nvmeSubmit { s with harvest := some { r with phase := p } } ⟨4, .flush, 0, 0, 0⟩
      let records := fun (b : Nat) =>
        if blocks < b then flush s .flushBefore
        else
          let part := (words.drop ((b - 1) * blockWords)).take blockWords
          let s1 := writeMem s 0 addr (2 ^ 21) (packCodes 64 part)
          drainStage s1 { r with phase := .records b } d 0 b (if r.store then some b else none)
      match r.phase with
      | .pages => if s.copyPages.isEmpty then records 1 else s
      | .records b => records (b + 1)
      | .header => flush s .flushAfter
      | .flushBefore => s
      | .flushAfter => s

/-- The Flush before the header has completed: the header is staged and drained (R411). -/
def harvestHeader (s : State) (r : HarvestRun) : State :=
  let d := stageDie s
  let addr := stageAddr s d 0
  let s1 := writeMem s 0 addr (2 ^ 17) (packCodes 64 (headerWords s r r.pantrySlot))
  let s2 := writeMem s1 0 (addr + 2 ^ 17) (2 ^ 12) (packCodes 64 (headerWords s r r.storeSlot))
  let s3 := { s2 with harvest := some { r with
    phase := .header, stages := [⟨d, 0, 1, if r.store then 8 else 0⟩] } }
  let s4 := nvmeBlock s3 true (pantryBase s r.pantrySlot) addr 1
  if r.store then
    { s4 with reeveTodo := s4.reeveTodo ++ storeWrites s (addr + 2 ^ 17) (storeBase s r.storeSlot) 8 }
  else s4

/-- A part of the staging page that holds `addr` has drained; a page wholly drained is free (R341, R342). -/
def stageDrained (s : State) (addr : Nat) (pantry : Bool) : State :=
  match s.harvest with
  | none => s
  | some r =>
    let hit := fun (t : Stage) => stageAddr s t.die t.slot ≤ addr && addr < stageAddr s t.die t.slot + 2 ^ 21
    let stages := (r.stages.map (fun t =>
      if hit t then (if pantry then { t with pantryLeft := t.pantryLeft - 1 } else { t with storeLeft := t.storeLeft - 1 })
      else t)).filter (fun t => t.pantryLeft != 0 || t.storeLeft != 0)
    harvestAdvance { s with harvest := some { r with stages := stages } }

/-! ## Arming (R332 to R338) -/

/-- Whether every counted core stands at the step boundary, or, with `entry`, at a HARVEST entry that may launch (R332,
R335). -/
def boundaryHeads (s : State) (entry : Bool) : Bool :=
  !(countedCores s).isEmpty && (countedCores s).all (fun x =>
    let a := x.2.alm
    if entry then
      match readyEntry s x.1 .harvest with
      | some e => waitHolds x.2 e && !waitForeign x.2 (resident s) e
      | none => false
    else match a.headEntry, a.active with
      | some e, some b =>
        let entries := (a.bank b).entries
        opOfCode (entOp e) == some .harvest
          || (a.head + 1 == entries.length && entries.any (fun f => opOfCode (entOp f) == some .commit))
      | _, _ => false)

/-- No operation of the context is in flight and its engines hold nothing (R332). -/
def boundaryQuiet (s : State) : Bool :=
  s.cores.all (fun x => x.2.ops.isEmpty && x.2.mxRuns.isEmpty && x.2.mxPend.isNone && x.2.vxRuns.isEmpty
    && x.2.vxPend.isNone)

/-- The epoch a core's boundary SEGMENT would set (R337). -/
def boundaryEpoch (k : Core) : DWord :=
  match k.alm.active with
  | some b =>
    match (k.alm.bank b).entries.getLast? with
    | some e => if opOfCode (entOp e) = some .segment then k.alm.epoch + BitVec.ofNat 64 (entArg e 0 48) else k.alm.epoch
    | none => k.alm.epoch
  | none => k.alm.epoch

/-- The segment a core's boundary would load next: the last VARIANT choice, or NEXT (R337). -/
def boundaryNext (k : Core) : Option Nat :=
  match k.alm.choice, k.alm.active with
  | some a, _ => some a
  | none, some b => if hdrNext (k.alm.bank b).header = 0 then none else some (hdrNext (k.alm.bank b).header)
  | none, none => none

/-- The gates that a context owns, as (core × 64 + gate, configuration) (R337). -/
def ownGates (s : State) (ctx : Nat) : List (Nat × Gate) :=
  s.cores.flatMap (fun x => (x.2.gates.filter (fun g => g.2.owner.toNat == ctx)).map (fun g => (64 * x.1 + g.1, g.2)))

/-- A gate's GATE_CFG and GATE_TIMEOUT as one record word (R66, R337). -/
def gateWord (g : Gate) : Nat :=
  g.count.toNat + b2n g.phase0 * 2 ^ 15 + g.owner.toNat * 2 ^ 16 + b2n g.arm * 2 ^ 31 + g.ticks.toNat * 2 ^ 32

/-- The context record of an image (R337): counts first, then entries. -/
def contextRecordWords (s : State) (ctx : Nat) : List Nat :=
  let entries := s.terrier.filter (fun e => tfld e.2 0 1 == 1 && tfld e.2 1 5 == ctx)
  let gates := ownGates s ctx
  let roots := (List.range 512).map (fun c =>
    if (core s c).alm.state = .idle then 0
    else match boundaryNext (core s c) with
      | some a => a % 2 ^ 48 + 2 ^ 63
      | none => 0)
  [entries.length] ++ entries.flatMap (fun e => [e.1, e.2.toNat % 2 ^ 64, e.2.toNat / 2 ^ 64])
    ++ [gates.length] ++ gates.flatMap (fun g => [g.1, gateWord g.2]) ++ roots
    ++ [(reg64 s .context ctx Off.contextSrSeedLo).toNat]
    ++ (List.range 32).flatMap (fun k =>
      let t := tscale s ctx k
      [b2n t.e5m2 + t.margin.toNat * 2 ^ 4 + b2n t.en * 2 ^ 31 + t.sigma.toNat * 2 ^ 32]
        ++ t.history.map BitVec.toNat)
    ++ (List.range 512).map (fun c =>
      (reg s .core c Off.coreMxCtrl).toNat + (reg s .core c Off.coreNumCtrl).toNat * 2 ^ 32)

/-- Whether a group entry names a port of this device: one child, or a parent (R337). -/
def groupNamesPort (e : QWord) : Bool := Gr.valid e && (!(Gr.children e).isEmpty || !Gr.root e)

/-- The fabric record of an image (R337). -/
def fabricRecordWords (s : State) : List Nat :=
  let groups := s.groups.filter (fun e => groupNamesPort e.2)
  [s.lanemaps.length] ++ s.lanemaps.flatMap (fun e => [e.1 + e.2.toNat * 2 ^ 32])
    ++ [groups.length] ++ groups.flatMap (fun e => [e.1, e.2.toNat % 2 ^ 64, e.2.toNat / 2 ^ 64])

/-- The page table of a harvest before any page is copied (R336, R337). -/
def harvestRows (s : State) (ctx : Nat) : List PageRow :=
  (pagesWhere s ctx entHarvest).map (fun p =>
    let es := (ownEntries s ctx).filter (fun e => entHarvest e.2 && (entryPages e.2).contains p)
    ⟨p, (es.head?.map (fun e => tfld e.2 88 6)).getD 0, es.any (fun e => entUnique e.2), 0⟩)

/-- The Harvest arms: bits set, LAST_TICK written, what the records hold taken, the boundary released (R337, R338). -/
def armHarvest (s : State) (ctx : Nat) : State :=
  let cores := countedCores s
  let epoch := (cores.head?.map (fun x => boundaryEpoch x.2)).getD 0
  let rows := harvestRows s ctx
  let r : HarvestRun :=
    { ctx := ctx, pantrySlot := s.pantryImage == some false, storeSlot := s.storeImage == some false,
      step := contextStep s ctx, time := s.time, epoch := epoch,
      gap := s.cores.any (fun x => x.2.alm.state != .idle && (boundaryNext x.2).isNone), skew := cores.any (fun x => boundaryEpoch x.2 != epoch),
      contextWords := contextRecordWords s ctx, fabricWords := fabricRecordWords s, rows := rows, stages := [],
      phase := .pages }
  let s0 := (rows.map PageRow.page).foldl (fun s p => setCopyBit s p true)
    { s with harvest := some r, harvestDue := false, harvestWanted := false }
  let s1 := setReg64 s0 .harvest 0 Off.harvestLastTickLo s.time
  harvestAdvance s1

/-- HARVEST_ARM: the harvest context stands at the step boundary that a decision asked a harvest for (R332, R334, R338). -/
def execHarvestArm (s : State) : Host.Outcome State Fault Refusal :=
  if s.harvestWanted ∧ boundaryHeld s ∧ s.harvest = none ∧ boundaryHeads s false ∧ boundaryQuiet s then
    .next (armHarvest s (resident s))
  else .next s

/-- Whether a HARVEST entry of the resident context starts a harvest (R334, R335, R346). -/
def entryHarvests (s : State) : Bool :=
  let ctx := resident s
  let busy := s.refill.any (fun r => r.ctx == ctx) || s.serve.any (fun r => r.ctx == ctx)
  enabled s .harvest 0 && rf s .harvest 0 Off.ctrl 8 5 == ctx && s.harvest.isNone && !busy && !stagingTaken s

/-- HARVEST: every counted core stands at a HARVEST entry at a step boundary with no harvest of the context in progress:
the entries launch together and a harvest starts (R332, R334, R335). -/
def execHarvest (core' : Fin 512) (s : State) : Host.Outcome State Fault Refusal :=
  let c := core'.val
  match readyEntry s c .harvest with
  | none => .next s
  | some e =>
    let mine : Bool := match s.harvest with
      | some r => r.ctx == resident s
      | none => false
    if waitForeign (core s c) (resident s) e then .next (almFault s c 0x0C (core s c).alm.slot)
    else if mine ∨ !boundaryHeads s true ∨ !boundaryQuiet s then .next s
    else
      let s1 := if entryHarvests s then armHarvest s (resident s) else s
      .next (((countedCores s).map Prod.fst).dedup.foldl (fun s d =>
        match (core s d).alm.headEntry with
        | some f => advanceHead (noteLaunch s d f) d
        | none => s) s1)

/-! ## Copies (R339 to R341) -/

/-- The first free staging slot of a die; one that an image is read through is not free (R341, R347). -/
def freeStage (s : State) (r : HarvestRun) (d : Nat) : Option Nat :=
  (List.range (rf s .harvest 0 Off.harvestStage 16 16)).find? (fun k =>
    !r.stages.any (fun t => t.die == d && t.slot == k) && !(imageRefill s && d == stageDie s && k == refillSlot s))

/-- The page a die's engine copies next: the one whose first touch has waited longest, else the lowest (R339, R340). -/
def nextCopy (s : State) (d : Nat) : Option Nat :=
  let pages := s.copyPages.filter (fun p => dieOf (p * 2 ^ 21) == d)
  let touched := pages.filter (fun p => tget 0 p s.touches != 0)
  match touched with
  | p :: rest => some (rest.foldl (fun m q => if tget 0 q s.touches < tget 0 m s.touches then q else m) p)
  | [] => pages.head?

/-- The index of the page-table row of a page. -/
def rowIndex (rows : List PageRow) (p : Nat) : Nat := rows.findIdx (fun r => r.page == p)

/-- PAGE_COPY_DONE: a die's copy engine has copied a page into a free staging page; its bit clears, held writes may
proceed, and the staged page drains to its tiers. While the die is in a bond self-test or the page's place waits, the copy
does (R192, R227, R336, R339 to R342). -/
def execPageCopyDone (die : Fin 4) (s : State) : Host.Outcome State Fault Refusal :=
  match s.harvest with
  | none => .next s
  | some r =>
    match nextCopy s die.val, freeStage s r die.val with
    | some p, some k =>
      if bondTesting s die.val || addrWaits s (p * 2 ^ 21) then .next s
      else
      let i := rowIndex r.rows p
      let row := r.rows.getD i ⟨p, 0, false, 0⟩
      let (s1, v, _) := readMem s row.key (p * 2 ^ 21) (2 ^ 21)
      let s2 := writeMem s1 0 (stageAddr s die.val k) (2 ^ 21) v
      let s3 := noteStall (setCopyBit s2 p false) p
      let r := { r with rows := r.rows.set i { row with crc := BitVec.ofNat 64 (crc64 (2 ^ 21) v) } }
      let first := 1 + recordBlocks r.words.length
      let unique := (r.rows.take i).filter PageRow.unique
      .next (resubmit (drainStage s3 r die.val k (first + i) (if row.unique then some (first + unique.length) else none)))
    | _, _ => .next s

/-- HARVEST_STALL_LIMIT: a write has waited STALL_LIMIT ticks for the copy of `page`; the harvest aborts (R341, R345). -/
def execHarvestStallLimit (page : Nat) (s : State) : Host.Outcome State Fault Refusal :=
  let t := tget 0 page s.touches
  if s.harvest.isSome ∧ t ≠ 0 ∧ t - 1 + rf s .harvest 0 Off.harvestStallLimit 0 24 ≤ s.time.toNat then
    .next (harvestAbort s 1)
  else .next s

end Sys2Proof.Machine
end

