-- ==== Sys2Proof/Machine/Restore.lean ====
section
/-!
DEFINITION. Refills (R346 to R350): from an image of the pantry or the shared store, from a partner, and the source's side;
the completions, timeouts and memory requests of the pantry drive (R409 to R411, R477).
-/
namespace Sys2Proof.Machine

/-! ## Reading an image (R347; the layout is the model's own) -/

/-- `n` 64-bit words of a number, from the low end. -/
def dwords : Nat → Nat → List Nat
  | 0, _ => []
  | n + 1, v => v % 2 ^ 64 :: dwords n (v / 2 ^ 64)

/-- The staging address an image is read through. -/
def refillAddr (s : State) : Nat := stageAddr s (stageDie s) (refillSlot s)

/-- The refill reads block `block` of its image into its staging page: `n` pieces of 128 KiB from the pantry, or
`m` of 512 B from the shared store (R342, R347, R410). -/
def refillRead (s : State) (r : RefillRun) (block n m : Nat) : State :=
  let addr := refillAddr s
  let s1 := { s with refill := some { r with left := if r.kind = 1 then n else m } }
  if r.kind = 1 then nvmeBlock s1 false (pantryBase s r.slot + 512 * block) addr n
  else
    { s1 with reeveTodo := s1.reeveTodo ++ (List.range m).map (fun j =>
        (TagUser.refill, ⟨.read, rf s .harvest 0 Off.harvestStoreNode 0 14, storeBase s r.slot + 2 ^ 21 * block + 512 * j,
          512, addr + 512 * j, 0, 0, 0, 0, 0⟩)) }

/-- Word `i` of the header that a refill has read. -/
def RefillRun.header (r : RefillRun) (i : Nat) : Nat := r.words.getD i 0
/-- The context record of the image. -/
def RefillRun.context (r : RefillRun) : List Nat := (r.words.drop 512).take (r.header 9)
/-- The fabric record of the image. -/
def RefillRun.fabric (r : RefillRun) : List Nat := (r.words.drop (512 + r.header 9)).take (r.header 10)
/-- The page table of the image, as words. -/
def RefillRun.table (r : RefillRun) : List Nat := (r.words.drop (512 + r.header 9 + r.header 10)).take (2 * r.header 7)
/-- How many record blocks the image has. -/
def RefillRun.blocks (r : RefillRun) : Nat := recordBlocks (r.header 9 + r.header 10 + 2 * r.header 7)

/-- Groups of three words. -/
def triples : List Nat → List (Nat × Nat × Nat)
  | a :: b :: c :: l => (a, b, c) :: triples l
  | _ => []

/-- Pairs of words. -/
def wordPairs : List Nat → List (Nat × Nat)
  | a :: b :: l => (a, b) :: wordPairs l
  | _ => []

/-- A counted list of items of `k` words, and what follows it. -/
def counted (k : Nat) (l : List Nat) : List Nat × List Nat :=
  match l with
  | [] => ([], [])
  | n :: rest => (rest.take (k * n), rest.drop (k * n))

/-- The Terrier entries of a context record. -/
def recordEntries (l : List Nat) : List (Nat × QWord) :=
  (triples (counted 3 l).1).map (fun x => (x.1, BitVec.ofNat 128 (x.2.1 + 2 ^ 64 * x.2.2)))

/-- The group entries of a fabric record. -/
def recordGroups (l : List Nat) : List (Nat × QWord) :=
  (triples (counted 3 (counted 1 l).2).1).map (fun x => (x.1, BitVec.ofNat 128 (x.2.1 + 2 ^ 64 * x.2.2)))

/-- The page table of an image with each page's key slot, taken from the context record's entries. -/
def recordRows (entries : List (Nat × QWord)) (l : List Nat) : List PageRow :=
  (wordPairs l).map (fun x =>
    let page := x.1 % 2 ^ 32
    let key := match entries.find? (fun e => (entryPages e.2).contains page) with
      | some e => tfld e.2 88 6
      | none => 0
    ⟨page, key, x.1.testBit 32, BitVec.ofNat 64 x.2⟩)

/-- The first page of the table from index `i` on that is not valid yet. -/
def nextRow (s : State) (rows : List PageRow) (i : Nat) : Option Nat :=
  (List.range rows.length).find? (fun j =>
    decide (i ≤ j) && !s.validPages.contains (rows.getD j ⟨0, 0, false, 0⟩).page)

/-! ## Installing records (R350) -/

/-- A gate written from a record word, and armed where its GATE_CFG arms it (R67, R350). -/
def gateOfWord (w : Nat) : Gate :=
  { count := BitVec.ofNat 15 w, phase0 := w.testBit 15, owner := BitVec.ofNat 5 (w / 2 ^ 16), arm := w.testBit 31,
    ticks := BitVec.ofNat 24 (w / 2 ^ 32), arrived := 0, phase := w.testBit 15,
    state := if w.testBit 31 ∧ w % 2 ^ 15 ≠ 0 then .armed else .idle }

/-- A scale slot from its 17 record words. -/
def tscaleOfWords (l : List Nat) : TScale :=
  let w := l.headD 0
  { en := w.testBit 31, e5m2 := w.testBit 0, margin := BitVec.ofNat 4 (w / 2 ^ 4), sigma := BitVec.ofNat 32 (w / 2 ^ 32),
    history := (l.drop 1).map (BitVec.ofNat 32) }

/-- The root words written to the table at `CONTEXT.ALM_ROOT` (R45, R350). -/
def writeRoots (s : State) (ctx : Nat) (roots : List Nat) : State :=
  let base := (reg64 s .context ctx Off.contextAlmRootLo).toNat
  roots.zipIdx.foldl (fun s x =>
    match translateHere s 4 ctx (base + 8 * x.2) 8 none with
    | some t => writeMem s t.key t.addr 8 x.1
    | none => s) s

/-- The context record installed (R350). -/
def installContext (s : State) (r : RefillRun) : State :=
  let ctx := r.ctx
  let l := (counted 3 r.context).2
  let (gates, l) := counted 2 l
  let s1 := (recordEntries r.context).foldl (fun s e => { s with terrier := tset 0 e.1 e.2 s.terrier }) s
  let s2 := (wordPairs gates).foldl (fun s x =>
    updCore s (x.1 / 64) (fun k => heldGates s (x.1 / 64) (k.setGate (x.1 % 64) (gateOfWord x.2)))) s1
  let s3 := writeRoots s2 ctx (l.take 512)
  let s4 := setReg64 s3 .context ctx Off.contextSrSeedLo (BitVec.ofNat 64 (l.getD 512 0))
  let s5 := (List.range 32).foldl (fun s k =>
    setTscale s ctx k (tscaleOfWords ((l.drop (513 + 17 * k)).take 17))) s4
  let s6 := (List.range 512).foldl (fun s c =>
    let w := l.getD (513 + 17 * 32 + c) 0
    setReg (setReg s .core c Off.coreMxCtrl (BitVec.ofNat 32 w)) .core c Off.coreNumCtrl (BitVec.ofNat 32 (w / 2 ^ 32))) s5
  setReg64 s6 .context ctx Off.contextStepLo (BitVec.ofNat 64 (r.header 3))

/-- The fabric record installed, where its image was made by this very device: the lane maps as a whole, and every group
entry it holds (R337, R350). -/
def installFabric (s : State) (r : RefillRun) : State :=
  if r.header 1 ≠ Config.provisionedId.toNat then s
  else
    let s1 := (counted 1 r.fabric).1.foldl (fun s w =>
      { s with lanemaps := tset 0 (w % 2 ^ 32) (BitVec.ofNat 32 (w / 2 ^ 32)) s.lanemaps }) { s with lanemaps := [] }
    (recordGroups r.fabric).foldl (fun s e => { s with groups := tset 0 e.1 e.2 s.groups }) s1

/-- Every record installed, and the group's EPOCH set to `REFILL_EPOCH` (R350). -/
def installRecords (s : State) (r : RefillRun) : State :=
  let s1 := installFabric (installContext s r) r
  let g := rf s .harvest 0 Off.harvestRefillGroup 0 8
  let e := groupEntry s1 g
  { s1 with groups := tset 0 g (BitVec.ofNat 128 (setFld e.toNat 68 32 r.epoch.toNat)) s1.groups }

/-! ## Progress (R347, R348) -/

/-- The next page of the image is read, or the refill installs its records and is DONE (R347). -/
def refillNextPage (s : State) (r : RefillRun) (i : Nat) : State :=
  match nextRow s r.rows i with
  | some j =>
    refillRead s { r with phase := .pages, block := j } (1 + r.blocks + j) 16 4096
  | none => refillDone (installRecords s r) r

/-- The header has been read: its checks, then the records. PANTRY_ID comes first, as an image under another key decrypts to no
header (R343, R347, R348; DEDUCED, log entry 114). -/
def refillHeader (s : State) (r : RefillRun) : State :=
  let (s1, v, _) := readMem s 0 (refillAddr s) 4096
  let l := dwords 512 v
  if r.kind = 1 ∧ l.getD 6 0 ≠ s.pantryId.toNat then refillAbort s1 6
  else if l.getD 511 0 ≠ crc64 4088 (v % 2 ^ (8 * 4088)) ∨ l.getD 0 0 ≠ 1
      ∨ (r.kind = 1 ∧ l.getD 1 0 ≠ Config.provisionedId.toNat) then refillAbort s1 5
  else refillRead s1 { r with words := l, phase := .records, block := 1 } 1 16 4096

/-- The records have been read: the group's epoch is checked, and the pages follow (R346 to R348). -/
def refillRows (s : State) (r : RefillRun) : State :=
  let g := rf s .harvest 0 Off.harvestRefillGroup 0 8
  let epochBad := match (recordGroups r.fabric).find? (fun e => e.1 == g) with
    | some e => Gr.epoch e.2 != r.epoch.toNat
    | none => false
  if epochBad then refillAbort s 7
  else
    let rows := (recordRows (recordEntries r.context) r.table).filter (fun x => r.kind != 2 || x.unique)
    let s1 := if r.fresh then
        { s with validPages := s.validPages.filter (fun p => !rows.any (fun x => x.page == p)) } else s
    refillNextPage s1 { r with rows := rows, fresh := false } 0

/-- A block of the image has been read into the staging page (R347). -/
def refillBlock (s : State) (r : RefillRun) : State :=
  let addr := refillAddr s
  match r.phase with
  | .header => refillHeader s r
  | .records =>
    let (s1, v, _) := readMem s 0 addr (2 ^ 21)
    let r := { r with words := r.words ++ dwords blockWords v }
    if r.block < r.blocks then refillRead s1 { r with block := r.block + 1 } (r.block + 1) 16 4096
    else refillRows s1 r
  | .pages =>
    let row := r.rows.getD r.block ⟨0, 0, false, 0⟩
    let (s1, v, _) := readMem s 0 addr (2 ^ 21)
    if crc64 (2 ^ 21) v ≠ row.crc.toNat then refillAbort s1 5
    else refillNextPage (validPage (writeMem s1 row.key (row.page * 2 ^ 21) (2 ^ 21) v) row.page) { r with last := s.time }
      (r.block + 1)
  | .waiting => s

/-- One read of the image has been answered OK (R347). -/
def refillAnswered (s : State) : State :=
  match s.refill with
  | none => s
  | some r =>
    let r := { r with left := r.left - 1 }
    if r.left = 0 then refillBlock { s with refill := some r } r else { s with refill := some r }

/-! ## Commands (R346, R347, R354) -/

/-- Whether a harvest of a context is in progress. -/
def harvesting (s : State) (ctx : Nat) : Bool :=
  match s.harvest with
  | some r => r.ctx == ctx
  | none => false

/-- PREPARE: a write of REFILL_CMD that readies a refill of a context (R346, R354). -/
def prepareRefill (s : State) (kind ctx : Nat) : State :=
  if kind = 3 ∨ ctx = 0 then refuse s .harvest 0 0x02 Off.harvestRefillCmd
  else if contextRuns s ctx then refuse s .harvest 0 0x08 Off.harvestRefillCmd
  else if refillState s ≠ 0 || harvesting s ctx then refuse s .harvest 0 0x40 Off.harvestRefillCmd
  else
    let epoch := reg s .harvest 0 Off.harvestRefillEpoch
    let step := reg64 s .harvest 0 Off.harvestRefillStepLo
    let fresh := decide (tget (3, 0, 0) ctx s.lastRefill ≠ (kind, epoch, step))
    let slot := (if kind = 1 then s.pantryImage else s.storeImage).getD false
    let pages := refillPages s kind ctx
    let s1 := { s with
      refill := some ⟨kind, ctx, fresh, epoch, step, s.time, slot, .waiting, 0, 0, [], []⟩,
      lastRefill := tset (3, 0, 0) ctx (kind, epoch, step) s.lastRefill,
      validPages := if fresh then s.validPages.filter (fun p => !pages.contains p) else s.validPages }
    setRefillState (setRf s1 .harvest 0 Off.harvestRefillState 4 4 0) 1

/-- Whether a harvest holds the staging page an image is read through, or, with one page alone, may want it (R354). -/
def stagingBusy (s : State) : Bool :=
  match s.harvest with
  | some r => refillSlot s == 0 || r.stages.any (fun t => t.die == stageDie s && t.slot == refillSlot s)
  | none => s.harvestWanted && refillSlot s == 0

/-- START: a PREPARED refill from an image runs; BUSY where a harvest holds its staging page (R346, R347, R354). -/
def startImageRefill (s : State) : State :=
  match s.refill with
  | none => if refillState s = 5 then refuse s .harvest 0 0x40 Off.harvestRefillCmd else s
  | some r =>
    if refillState s = 2 then refuse s .harvest 0 0x40 Off.harvestRefillCmd
    else if r.kind = 0 then s
    else if stagingBusy s then refuse s .harvest 0 0x40 Off.harvestRefillCmd
    else refillRead (setRefillState s 2) { r with phase := .header, last := s.time } 0 1 8

/-- ABORT: a refill of the unit, or a SERVING source, ends (R346, R348). -/
def abortRefill (s : State) : State :=
  if s.refill.isSome then refillAbort s 4 else if s.serve.isSome then serveAbort s 4 else s

/-- ACK: DONE and ABORTED return to IDLE (R346). -/
def ackRefill (s : State) : State :=
  if refillState s = 3 ∨ refillState s = 4 then setRefillState s 0 else s

/-- The refill writes of a SERVING source: every page of the context's REPLICATED entries as writes of 512 B, the pages
dealt round-robin over the ports (R347). -/
def serveWrites (s : State) (ctx : Nat) : List (TagUser × Txn) :=
  let ports := bitsOf 32 (reg s .harvest 0 Off.harvestRefillPorts).toNat
  let unit := rf s .harvest 0 Off.harvestRefillPeer 0 14
  (pagesWhere s ctx entReplicated).zipIdx.flatMap (fun x =>
    let key := match (ownEntries s ctx).find? (fun e => entReplicated e.2 && (entryPages e.2).contains x.1) with
      | some e => tfld e.2 88 6
      | none => 0
    match ports[x.2 % max 1 ports.length]? with
    | none => []
    | some port => (List.range 4096).map (fun j =>
        let a := x.1 * 2 ^ 21 + 512 * j
        (TagUser.serve port, ⟨.write, unit, a, 512, a, key, key, ctx, 0, 0⟩)))

/-- SERVE: a source in IDLE, on which nothing runs and whose group stands at the epoch named, sends its replicated pages
(R346, R347). -/
def serveRefill (s : State) (ctx : Nat) : State :=
  if ctx = 0 then refuse s .harvest 0 0x02 Off.harvestRefillCmd
  else if refillState s ≠ 0 || harvesting s ctx then refuse s .harvest 0 0x40 Off.harvestRefillCmd
  else if Gr.epoch (groupEntry s (rf s .harvest 0 Off.harvestRefillGroup 0 8))
      ≠ (reg s .harvest 0 Off.harvestRefillEpoch).toNat then refuse s .harvest 0 0x41 Off.harvestRefillCmd
  else if contextRuns s (resident s) then refuse s .harvest 0 0x42 Off.harvestRefillCmd
  else
    let n := 4096 * (pagesWhere s ctx entReplicated).length
    let s1 := setRefillState { s with
      serve := some ⟨ctx, n⟩, reeveTodo := s.reeveTodo ++ serveWrites s ctx } 5
    if n = 0 then refillEnded { s1 with serve := none } 0 ctx 0 else s1

/-- A refill write of a SERVING source has been answered (R346, R348). -/
def serveAnswered (s : State) (status : Nat) : State :=
  match s.serve with
  | none => s
  | some r =>
    if status ≠ 0 then serveAbort s 3
    else if r.left ≤ 1 then refillEnded { s with serve := none } 0 r.ctx 0
    else { s with serve := some { r with left := r.left - 1 } }

/-- A write of `HARVEST.REFILL_CMD` (R346, R354). -/
def writeRefillCmd (s : State) (v : Word) : State :=
  let kind := fld v.toNat 4 2
  let ctx := fld v.toNat 8 5
  match fld v.toNat 0 3 with
  | 0 => s
  | 1 => prepareRefill s kind ctx
  | 2 => startImageRefill s
  | 3 => abortRefill s
  | 4 => serveRefill s ctx
  | 5 => ackRefill s
  | _ => refuse s .harvest 0 0x02 Off.harvestRefillCmd

/-- SOURCE_SILENT: a RUNNING refill has had no refill write for REFILL_TIMEOUT ticks; it aborts (R348). -/
def execSourceSilent (s : State) : Host.Outcome State Fault Refusal :=
  match s.refill with
  | none => .next s
  | some r =>
    if refillState s = 2 ∧ r.last.toNat + rf s .harvest 0 Off.harvestRefillTimeout 0 24 ≤ s.time.toNat then
      .next (refillAbort s 1)
    else .next s

/-! ## The drive (R409 to R411, R477) -/

/-- The staged bytes of a read command decrypted in place: units of 4 KiB under the pantry key (R342). -/
def decryptStage (s : State) (c : NvmeCmd) : State :=
  (List.range 32).foldl (fun s j =>
    let (s1, v, _) := readMem s 0 (c.addr + 4096 * j) 4096
    let p := (pantryXts (Config.drawnKey s.pantryDraw) (c.lba + j)).symm (BitVec.ofNat 32768 v)
    writeMem s1 0 (c.addr + 4096 * j) 4096 p.toNat) s

/-- A pantry command has failed: the record, and the harvest or the refill it served aborts (R411). -/
def pantryFailed (s : State) (c : NvmeCmd) (status : Nat) : State :=
  let s1 := pantryError s status c.queue
  if c.queue = 3 then refillAbort s1 2
  else if harvestCmd c then harvestAbort s1 3
  else s1

/-- A pantry command has completed well (R342, R344, R347, R411, R477). -/
def pantryDone (s : State) (c : NvmeCmd) (log : BitVec 16) : State :=
  match c.op with
  | .write => stageDrained s c.addr true
  | .read => refillAnswered (decryptStage s c)
  | .smart =>
    let s1 := setReg s .pantry 0 Off.pantrySmart (log.setWidth 32)
    if rf s .pantry 0 Off.pantrySmart 0 8 = 0 ∧ log.toNat % 2 ^ 8 ≠ 0 then raiseInt s1 .pantry 0 0 else s1
  | .flush =>
    match s.harvest with
    | none => s
    | some r =>
      if r.phase = .flushBefore then harvestHeader s r
      else if r.phase = .flushAfter then harvestComplete s r
      else s

/-- PANTRY_COMPLETION: the command at `index` completes with an NVMe status; `log` holds what a SMART read returned
(R411, R477). -/
def execPantryCompletion (index : Nat) (status log : BitVec 16) (s : State) : Host.Outcome State Fault Refusal :=
  match takeAt s.nvme index with
  | none => .next s
  | some (c, rest) =>
    let s1 := nvmeNext { s with nvme := rest } c.queue
    .next (if status = 0 then pantryDone s1 c log else pantryFailed s1 c status.toNat)

/-- PANTRY_CMD_TIMEOUT: the command at `index` has been unanswered for CMD_TIMEOUT; an Abort is sent for it (R409, R411,
R417; that it is: DESIGN CHOICE, log entry 116). -/
def execPantryCmdTimeout (index : Nat) (s : State) : Host.Outcome State Fault Refusal :=
  match takeAt s.nvme index with
  | none => .next s
  | some (c, rest) =>
    if c.since.toNat + rf s .pantry 0 Off.pantryCmdTimeout 0 24 ≤ s.time.toNat then
      .next (pantryFailed (emit (nvmeNext { s with nvme := rest } c.queue) (.nvmeAdmin 0x08 c.queue)) c 0xFFFF)
    else .next s

/-- The command in progress, of a kind, whose buffer holds `n` bytes at a device address. -/
def bufferOf (s : State) (op : NvmeOp) (a n : Nat) : Option NvmeCmd :=
  s.nvme.find? (fun c => c.op == op && decide (c.addr ≤ a ∧ a + n ≤ c.addr + 2 ^ 17))

/-- Bytes a drive reads from the buffer of a write command: 4 KiB units under the pantry key (R342). -/
def bufferBytes (s : State) (c : NvmeCmd) (a n : Nat) : State × List Byte :=
  let first := (a - c.addr) / 4096
  let units := (a + n - c.addr + 4095) / 4096 - first
  let (s1, l) := (List.range units).foldl (fun (x : State × List Byte) j =>
    let (s1, v, _) := readMem x.1 0 (c.addr + 4096 * (first + j)) 4096
    let e := pantryXts (Config.drawnKey s.pantryDraw) (c.lba + first + j) (BitVec.ofNat 32768 v)
    (s1, x.2 ++ toBytes 4096 e.toNat)) (s, [])
  (s1, (l.drop ((a - c.addr) % 4096)).take n)

/-- DRIVE_MEMORY_REQUEST: a request of the drive reaches its queues or the buffer of a command in progress, or completes
with Unsupported Request (R410). -/
def execDriveMemoryRequest (req : DriveRequest) (s : State) : Host.Outcome State Fault Refusal :=
  match req with
  | .queue => .next s
  | .read a n =>
    match bufferOf s .write a n with
    | some c =>
      let (s1, l) := bufferBytes s c a n
      .next (emit s1 (.driveData l))
    | none => .next (emit s .driveUnsupported)
  | .write a data =>
    match bufferOf s .read a data.length with
    | some _ => .next (writeMem s 0 a data.length (ofBytes data))
    | none => .next (emit s .driveUnsupported)

/-- SMART_REFRESH: at each multiple of 2²⁸ ticks the Reeve reads the drive's SMART log (R477). -/
def execSmartRefresh (s : State) : Host.Outcome State Fault Refusal :=
  if s.time.toNat % 2 ^ 28 ≠ 0 ∨ !enabled s .pantry 0 then .next s
  else match fireOnce s 3 with
  | none => .next s
  | some s1 => .next (nvmeSubmit s1 ⟨4, .smart, 0, 0, 0⟩)

/-- The admin commands of a bring-up, by opcode and queue: Identify of controller and namespace, the features Number of Queues
and Volatile Write Cache, and the four I/O completion and submission queues (R409; their order: DESIGN CHOICE, log entry
116). -/
abbrev bringUp : List (Nat × Nat) :=
  [(0x06, 0), (0x06, 0), (0x09, 0), (0x09, 0), (0x05, 1), (0x05, 2), (0x05, 3), (0x05, 4), (0x01, 1), (0x01, 2), (0x01, 3), (0x01, 4)]

/-- The admin commands sent to a drive that has trained; what the bring-up finds is latched (R409, R477). -/
def latchDrive (s : State) (d : DriveReport) : State :=
  let s0 := if d.width = 0 then s else bringUp.foldl (fun s x => emit s (.nvmeAdmin x.1 x.2)) s
  let s1 := setReg s0 .pantry 0 Off.pantryLink (det (d.width.toNat + (if d.width = 0 then 0 else 5 * 2 ^ 8)))
  let s2 := setReg s1 .pantry 0 Off.pantryDrive (det (b2n d.present + b2n d.lba4k * 2 + d.mdts.toNat * 2 ^ 8))
  setReg64 s2 .pantry 0 Off.pantryCapLo d.blocks

end Sys2Proof.Machine
end

