-- ==== Sys2Proof/Machine/Window.lean ====
section
/-!
DEFINITION. The host's side of PCIe: windows (R401, R402), doorbell pages and event queues (R406 to R408), the link and IDE
(R404, R405).
-/
namespace Sys2Proof.Machine

/-! ## Windows (R401, R402) -/

/-- One word of a read that failed, `n` of them as bytes (R401). -/
def nanWords (n : Nat) : List Byte := (List.replicate n (toBytes 4 0x7FC00000)).flatten

/-- A HOST WINDOW_FAULT record of a function, and its count (R401, R417). -/
def windowFault (s : State) (fn status reason addr : Nat) : State :=
  incReg (deviceRecord s .pcie 0 0x0B 0x01 fn (det (status * 2 ^ 28 + reason * 2 ^ 24 + addr / 2 ^ 32 % 2 ^ 16)))
    .pcie 0 Off.pcieWinFaultCount

/-- The context of a window (R401). -/
def windowContext (s : State) (fn : Nat) : Nat := if fn = 0 then rf s .pcie 0 Off.pcieWin4 0 5 else fn

/-- The context address of offset `o` of a window (R401). -/
def windowAddr (s : State) (fn o : Nat) : Nat :=
  if fn = 0 then (rf s .pcie 0 Off.pcieWin4 16 16 + o / 2 ^ 32 % 2 ^ 6) % 2 ^ 16 * 2 ^ 32 + o % 2 ^ 32
  else rf s .doorbell fn Off.doorbellWinIndex 0 16 * 2 ^ 32 + o % 2 ^ 32

/-- Why a window access fails before it is carried: PCIE disabled, or its translation, which writes a FABRIC TERRIER record
with unit code 0x07 (R276, R401, R465). -/
def windowTarget (s : State) (fn a n : Nat) (perm : Perm) : Except (State × Nat) Target :=
  if !enabled s .pcie 0 then .error (s, 0)
  else match translate s 4 (windowContext s fn) a n (some perm) with
    | .ok t => .ok t
    | .error r =>
      .error (devqPush s (record 0x06 0x03 0xFFFF (det (r * 2 ^ 24 + 0x07 * 2 ^ 16 + a / 2 ^ 32 % 2 ^ 16))), r)

/-- Whether a request is turned away because it comes outside an IDE stream while one is required (R404). -/
def ideBlocked (s : State) (ide : Bool) : Bool := rbit s .pcie 0 Off.pcieIdeCtrl 0 && !ide

/-- Whether `n` bytes from offset `o` of the PF's window pass the size that its BAR4 has (R398, R399). -/
def windowOutside (s : State) (fn o n : Nat) : Bool := fn == 0 && decide (2 ^ (30 + s.bar4) < o + n)

/-- Transactions of up to 512 B that carry `len` bytes at a remote address, none crossing a 512 B boundary; `place` counts
bytes of the access. -/
def splitTxns (kind : TxnKind) (t : Target) (ctx : Nat) : Nat → Nat → Nat → List Txn
  | 0, _, _ => []
  | fuel + 1, pos, len =>
    if len ≤ pos then []
    else
      let n := min (len - pos) (512 - (t.addr + pos) % 512)
      ⟨kind, t.node, t.addr + pos, n, pos, 0, t.key, ctx, 0, 0⟩ :: splitTxns kind t ctx fuel (pos + n) len

/-- The transactions of a host read that waits for nothing more are queued for their tags (R402). -/
def releaseReads (s : State) : State :=
  let ready := s.hostReads.filter (fun r => r.flushes.isEmpty && !r.txns.isEmpty)
  { s with
    hostReads := s.hostReads.map (fun r => if r.flushes.isEmpty then { r with txns := [] } else r),
    reeveTodo := s.reeveTodo ++ ready.flatMap (fun r => r.txns.map (fun t => (TagUser.hostRead r.id, t))) }

/-- WINDOW_READ: a host read of `len` dwords at dword `dw` of the window of function `fn`, inside an IDE stream or not: it
is carried as Tilby reads once a flush of every node with unflushed host writes has been answered; a failed translation
completes with NaN words (R401, R402, R404). -/
def execWindowRead (fn : Fin 32) (dw len : Nat) (ide : Bool) (s : State) : Host.Outcome State Fault Refusal :=
  let f := fn.val
  let a := windowAddr s f (4 * dw)
  let n := 4 * len
  if ideBlocked s ide || windowOutside s f (4 * dw) n then .next (unsupported s f)
  else if len = 0 ∨ quiescing s .pcie 0 then .next s
  else match windowTarget s f a n .r with
    | .error (s1, r) => .next (emit (windowFault s1 f 0xF r a) (.hostData f a (nanWords len)))
    | .ok t =>
      let ctx := windowContext s f
      let txns := splitTxns .read t ctx (n / 512 + 2) 0 n
      let waiting := (s.hostReads.getLast?.map HostRead.flushes).getD []
      let s1 := { s with
        hostReads := s.hostReads ++ [⟨s.nextRead, f, a, n, waiting ++ s.hostDirty, txns, txns.length, false, []⟩],
        nextRead := s.nextRead + 1, hostDirty := [],
        reeveTodo := s.reeveTodo ++ s.hostDirty.map (fun node =>
          (TagUser.hostFlush node, ⟨.flush, node, 0, 0, 0, 0, 0, 0, 0, 0⟩)) }
      .next (releaseReads s1)

/-- WINDOW_WRITE: a host write of whole dwords at dword `dw` of the window of function `fn`: it is sent as posted writes;
a failed translation discards it (R401, R402, R404). -/
def execWindowWrite (fn : Fin 32) (dw : Nat) (data : List Byte) (ide : Bool) (s : State) :
    Host.Outcome State Fault Refusal :=
  let f := fn.val
  let a := windowAddr s f (4 * dw)
  let n := data.length / 4 * 4
  if ideBlocked s ide || windowOutside s f (4 * dw) n then .next (unsupported s f)
  else if n = 0 ∨ quiescing s .pcie 0 then .next s
  else match windowTarget s f a n .w with
    | .error (s1, r) => .next (windowFault s1 f 0xF r a)
    | .ok t =>
      let ctx := windowContext s f
      let txns := splitTxns .posted t ctx (n / 512 + 2) 0 n
      let s1 := { s with hostDirty := insertNat t.node s.hostDirty }
      .next (txns.foldl (fun s x =>
        reeveSend s x.addr (txnPacket s x 0 4 ctx ((data.drop x.place).take x.len))) s1)

/-- A flush for a host read has been answered: an error is reported, and reads that waited for it alone go on (R402). -/
def hostFlushed (s : State) (node status : Nat) : State :=
  let s1 := if status = 0 then s else windowFault s 0 status 0 0
  releaseReads { s1 with hostReads := s1.hostReads.map (fun r => { r with flushes := r.flushes.erase node }) }

/-- Bytes stored into a table from a key on. -/
def putBytes (t : Table Byte) (k : Nat) : List Byte → Table Byte
  | [] => t
  | b :: l => putBytes (tset 0 k b t) (k + 1) l

/-- A transaction of a host read has been answered; the last completes the read, with NaN words where any failed, and the
one record (R401). -/
def hostAnswered (s : State) (id : Nat) (t : Txn) (status : Nat) (data : List Byte) : State :=
  match s.hostReads.find? (fun r => r.id == id) with
  | none => s
  | some r =>
    let s1 := if status ≠ 0 ∧ !r.failed then windowFault s r.fn status 0 r.addr else s
    let r := { r with
      left := r.left - 1, failed := r.failed || status != 0, data := putBytes r.data t.place (data.take t.len) }
    if r.left = 0 then
      let out := if r.failed then nanWords (r.len / 4) else (List.range r.len).map (fun i => tget 0 i r.data)
      emit { s1 with hostReads := s1.hostReads.filter (fun x => x.id != id) } (.hostData r.fn r.addr out)
    else { s1 with hostReads := s1.hostReads.map (fun x => if x.id = id then r else x) }

/-! ## Doorbell pages (R406 to R408) -/

/-- A refused write of a doorbell page (R406, R407). -/
def refuseDoorbell (s : State) (ctx code : Nat) : State :=
  setRf (setRbit s .doorbell ctx Off.doorbellEvqStatus 2 true) .doorbell ctx Off.doorbellEvqStatus 8 8 code

/-- A host write of `v` to the register at `off` of the doorbell page of context `ctx`, whose effect is `f`: context 0 has no
page; a write that sets a reserved bit is refused with 0x01, and before dawn is done it is refused with 0x03 (R14, R399,
R424). -/
def doorbellWrite (s : State) (ctx off : Nat) (v : Word) (f : State → State) : State :=
  if ctx = 0 then s
  else if reservedSet .doorbell off v then refuseDoorbell s ctx 0x01
  else if rbit s .global 0 Off.globalDawn 8 then f s else refuseDoorbell s ctx 0x03

/-- A write of a ring word (R56, R406). -/
def writeRing (s : State) (ctx slot word : Nat) (v : Word) : State :=
  doorbellWrite s ctx (0x20 * slot + 4 * word) v (fun s => setReg s .doorbell ctx (0x20 * slot + 4 * word) v)

/-- DOORBELL: a bucket ring word of context `ctx` is written (R56, R404, R406). -/
def execDoorbell (ctx : Fin 32) (slot : Fin 16) (word : Fin 8) (value : BitVec 32) (ide : Bool) (s : State) :
    Host.Outcome State Fault Refusal :=
  if ideBlocked s ide then .next (unsupported s ctx.val)
  else .next (writeRing s ctx.val slot.val word.val value)

/-- Whether the whole ring of an event queue translates through one entry as R407 asks. -/
def evqPlace (s : State) (ctx base size : Nat) : Bool :=
  match translate s 4 ctx base (8 * size) (some .w) with
  | .ok t => t.node == thisNode s && t.kind == 1
  | .error _ => false

/-- The code of R407 that refuses to enable an event queue, 0 when it passes. -/
def evqCheck (s : State) (ctx log : Nat) : Nat :=
  let base := (reg64 s .doorbell ctx Off.doorbellEvqBaseLo).toNat
  if log < 6 ∨ 20 < log then 0x02
  else if base % (8 * 2 ^ log) ≠ 0 then 0x0A
  else if !evqPlace s ctx base (2 ^ log) then 0x02
  else 0

/-- The code of R407 that refuses a write of EN = 1, 0 when it passes: LOG2SIZE as written has to be in range, and the ring, which
has the size held where the queue is enabled, to be in order. -/
def evqEnableCheck (s : State) (ctx log : Nat) : Nat :=
  if log < 6 ∨ 20 < log then 0x02
  else evqCheck s ctx (if evqEnabled s ctx then rf s .doorbell ctx Off.doorbellEvqCfg 0 5 else log)

/-- A write of EVQ_CFG: EN = 1 runs the check of R407; LOG2SIZE keeps its value while the queue is enabled; EN = 0 disables it; a
refused write leaves the queue as it was (R13, R406, R407). -/
def writeEvqCfg (s : State) (ctx : Nat) (v : Word) : State :=
  let log := fld v.toNat 0 5
  let en := v.toNat.testBit 8
  let on := evqEnabled s ctx
  doorbellWrite s ctx Off.doorbellEvqCfg v fun s =>
  if en ∧ evqEnableCheck s ctx log ≠ 0 then refuseDoorbell s ctx (evqEnableCheck s ctx log)
  else
    let held := setFld v.toNat 0 5 (if on then rf s .doorbell ctx Off.doorbellEvqCfg 0 5 else log)
    setRbit (setReg s .doorbell ctx Off.doorbellEvqCfg (det held)) .doorbell ctx Off.doorbellEvqStatus 0 en

/-- EVQ_ENABLE: EVQ_CFG of context `ctx` is written with EN 1 (R404, R407). -/
def execEvqEnable (ctx : Fin 32) (value : BitVec 32) (ide : Bool) (s : State) : Host.Outcome State Fault Refusal :=
  if ideBlocked s ide then .next (unsupported s ctx.val)
  else .next (writeEvqCfg s ctx.val (value ||| 0x100))

/-- A write of EVQ_HEAD: discarded when TAIL − HEAD would exceed the ring (R407). -/
def writeEvqHead (s : State) (ctx : Nat) (v : Word) : State :=
  doorbellWrite s ctx Off.doorbellEvqHead v fun s =>
  if 2 ^ rf s .doorbell ctx Off.doorbellEvqCfg 0 5 < (reg s .doorbell ctx Off.doorbellEvqTail - v).toNat then
    refuseDoorbell s ctx 0x02
  else setReg s .doorbell ctx Off.doorbellEvqHead v

/-- EVQ_HEAD_WRITE: records of context `ctx` are consumed (R404, R407). -/
def execEvqHeadWrite (ctx : Fin 32) (value : BitVec 32) (ide : Bool) (s : State) : Host.Outcome State Fault Refusal :=
  if ideBlocked s ide then .next (unsupported s ctx.val) else .next (writeEvqHead s ctx.val value)

/-- EVQ_MESSAGE: TAIL differs from that of the last message and HOLDOFF ticks have passed since it: VF vector 0 is sent
(R403, R408). -/
def execEvqMessage (ctx : Fin 32) (s : State) : Host.Outcome State Fault Refusal :=
  let c := ctx.val
  let tail := reg s .doorbell c Off.doorbellEvqTail
  let (last, at') := tget (0, 0) c s.evqSent
  if c ≠ 0 ∧ tail ≠ last ∧ at'.toNat + rf s .doorbell c Off.doorbellEvqCfg 16 16 ≤ s.time.toNat then
    .next (sendMsix { s with evqSent := tset (0, 0) c (tail, s.time) s.evqSent } c 0)
  else .next s

/-! ## The link and IDE (R404, R405) -/

/-- PCIE_LINK: the host link trains, or goes down with speed 0, without PERST_N: nothing is reset, and the record is written
(R405, R417, R477, R479). -/
def execPcieLink (speed : BitVec 3) (width : BitVec 5) (flit : Bool) (s : State) : Host.Outcome State Fault Refusal :=
  let up := speed ≠ 0
  let now := if up then speed.toNat + width.toNat * 2 ^ 4 + b2n flit * 2 ^ 9 else 0
  let old := rf s .pcie 0 Off.pcieLink 0 3
  let s1 := setReg s .pcie 0 Off.pcieLink (det now)
  .next (if (old = 0) = (speed = 0) then (if old = speed.toNat then s1 else raiseInt s1 .pcie 0 0)
    else deviceEvent s1 .pcie 0 0x0B 0x03 0 (det (b2n up)) [0])

/-- IDE_FAIL: an IDE stream fails an integrity check: the record is written, and the stream becomes insecure, its keys gone (R404,
R417; what a failed stream does is PCIe's: PRESUMED, log entry 118). -/
def execIdeFail (stream : BitVec 2) (s : State) : Host.Outcome State Fault Refusal :=
  .next (deviceRecord (setRbit s .pcie 0 Off.pcieIdeState stream.toNat false) .pcie 0 0x0B 0x04 0 (det stream.toNat))

/-- IDE_KM: over an established SPDM session the keys of an IDE stream are installed (R404, R477). -/
def execIdeKm (stream : BitVec 2) (s : State) : Host.Outcome State Fault Refusal :=
  .next (if s.spdm = .session then setRbit s .pcie 0 Off.pcieIdeState stream.toNat true else s)

/-! ## Configuration (R398, R399, R403) -/

/-- The mask bit of an MSI-X vector written: a vector that is pending is sent as it is unmasked (R403). -/
def maskMsix (s : State) (fn v : Nat) (masked : Bool) : State :=
  let key := 64 * fn + v
  let s1 := { s with msixOpen := tset false key (!masked) s.msixOpen }
  if !masked && tget false key s.msixPending then
    emit { s1 with msixPending := tset false key false s1.msixPending } (.msix fn v)
  else s1

/-- The DOE protocols by index with the next index: Discovery, CMA/SPDM, Secured CMA/SPDM; beyond them none (R398). -/
def doeProtocol (index : Nat) : Nat × Nat := if index < 3 then (index, (index + 1) % 3) else (0xFF, 0)

/-- What a configuration request that is served does (R398, R399, R403). -/
def configAccess (s : State) : ConfigAccess → State
  | .other => s
  | .bar4Size size => { s with bar4 := size.val }
  | .msixMask fn v masked => maskMsix s fn.val v.val masked
  | .aerRead fn => emit s (.aer (tget 0 fn.val s.aer))
  | .aerClear fn bits => { s with aer := tset 0 fn.val (tget 0 fn.val s.aer &&& ~~~bits) s.aer }
  | .doeDiscovery index => emit s (.doe (doeProtocol index.val).1 (doeProtocol index.val).2)

end Sys2Proof.Machine
end

