-- ==== Sys2Proof/Machine/Answers.lean ====
section
/-!
DEFINITION. Tags and answers (R285, R287, R288): the issue of transactions, the answers that return, and tags that time out.
-/
namespace Sys2Proof.Machine

/-- TXN_ISSUE: the next transaction of an operation, or the waiting transaction of the Reeve at an index, is issued once a
tag is free (R278, R280, R285). -/
def execTxnIssue (issuer : Issuer) (s : State) : Host.Outcome State Fault Refusal :=
  linkClocked s <|
  match issuer with
  | .op core' id => .next (issueOp s core'.val id)
  | .reeve index => .next (issueReeve s index)

/-- What the end of a transaction means to the work that holds its tag: the operation, the host's read or flush, the
harvest, the refill or the source it served; `timeout` is set when no answer came (R278, R287, R288, R342, R346 to R348,
R401, R402). -/
def answerUser (s : State) (u : TagUser) (t : Txn) (status : Nat) (data : List Byte) (timeout : Bool) : State :=
  match u with
  | .op c id => answerOp s c id t status data timeout
  | .hostRead id => hostAnswered s id t status data
  | .hostFlush node => hostFlushed s node status
  | .harvest => if status = 0 then stageDrained s t.place false else harvestAbort s 4
  | .refill => if status = 0 then refillAnswered (writeMem s 0 t.place t.len (ofBytes (data.take t.len)))
      else refillAbort s 2
  | .serve _ => serveAnswered s status
  | .orphan _ => s

/-- An answer of a type at an index of the inbox: it frees the tag it names and acts on the work that held it; one that
matches no held tag is counted and discarded; one whose data a page that a harvest has still to copy, or a die under test,
must receive waits (R192, R227, R285, R287, R288, R340). -/
def answerPacket (s : State) (index type : Nat) : State :=
  match takeInbox s index type with
  | none => s
  | some (d, p, s1) =>
    match tagState s p.sunit p.tag with
    | .held u t _ =>
      if answerWaits s u t then s
      else if !(heldPages s (answerPages s u t)).isEmpty then touchPages s (answerPages s u t)
      else answerUser (setTag s1 p.sunit p.tag .free) u t p.status p.data false
    | _ => incReg s1 .lanemap d Off.lanemapOrphanCount

/-- READ_RSP (R278, R287). -/
def execReadRsp (index : Nat) (s : State) : Host.Outcome State Fault Refusal := .next (answerPacket s index 0x10)

/-- STATUS_RSP (R287). -/
def execStatusRsp (index : Nat) (s : State) : Host.Outcome State Fault Refusal := .next (answerPacket s index 0x11)

/-- ATOMIC_RSP (R281, R287). -/
def execAtomicRsp (index : Nat) (s : State) : Host.Outcome State Fault Refusal := .next (answerPacket s index 0x12)

/-- `LANEMAP.TXN_TIMEOUT` in ticks (R302). -/
def txnTimeout (s : State) : Nat := rf s .lanemap 0 Off.lanemapTxnTimeout 0 24

/-- The FABRIC TIMEOUT record of a tag: the core with the descriptor or the almanac slot, or 0xFFFF for the Reeve (R288). A
refill write of a source holds a tag of a core. -/
def timeoutRecord (s : State) (sunit tag : Nat) (u : TagUser) (t : Txn) : State :=
  let node := t.node * 2 ^ 18
  match u with
  | .op c _ => coreRecord s c 0x06 0x05 (det (node + tagWhat s u))
  | _ =>
    if sunit < 4 then coreRecord s (128 * sunit + tag / 64) 0x06 0x05 (det (node + tagWhat s u))
    else deviceRecord s .lanemap 0 0x06 0x05 0xFFFF (det node)

/-- TAG_TIMEOUT: a tag has been unanswered for TXN_TIMEOUT ticks: it counts as answered with NO_ROUTE, the record is
written, and the tag is retired (R288). -/
def execTagTimeout (sunit : Fin 5) (tag : Fin 8192) (s : State) : Host.Outcome State Fault Refusal :=
  linkClocked s <|
  match tagState s sunit.val tag.val with
  | .held u t since =>
    if s.time.toNat < since.toNat + txnTimeout s || answerWaits s u t then .next s
    else if !(heldPages s (answerPages s u t)).isEmpty then .next (touchPages s (answerPages s u t))
    else
      let die := if sunit.val < 4 then sunit.val else dieOf t.addr
      let s1 := incReg (timeoutRecord s sunit.val tag.val u t) .lanemap die Off.lanemapTimeoutCount
      .next (answerUser (setTag s1 sunit.val tag.val (.retired s.time)) u t 7 [] true)
  | _ => .next s

/-- TAG_RETIRE_END: a retired tag may be issued again after 2 × TXN_TIMEOUT ticks (R288). -/
def execTagRetireEnd (sunit : Fin 5) (tag : Fin 8192) (s : State) : Host.Outcome State Fault Refusal :=
  match tagState s sunit.val tag.val with
  | .retired since =>
    if since.toNat + 2 * txnTimeout s ≤ s.time.toNat then .next (setTag s sunit.val tag.val .free) else .next s
  | _ => .next s

end Sys2Proof.Machine
end

