-- ==== Sys2Proof/Machine/Bell.lean ====
section
/-!
DEFINITION. The Bell: BELLTIME and its corrections (R30 to R36), frames and delay exchanges (R33, R34, R259 to R261),
BELL_IN and BELL_OUT (R37, R38).
-/
namespace Sys2Proof.Machine

namespace Bell
/-- Codes of `BELL.STATUS.STATE` (R454). -/
abbrev free : Nat := 0
/-- ACQUIRING. -/
abbrev acquiring : Nat := 1
/-- LOCKED. -/
abbrev locked : Nat := 2
/-- HOLDOVER. -/
abbrev holdover : Nat := 3
/-- ADRIFT. -/
abbrev adrift : Nat := 4
/-- GRANDMASTER. -/
abbrev grandmaster : Nat := 5
end Bell

/-- `BELL.STATUS.STATE` (R35). -/
def bellState (s : State) : Nat := rf s .bell 0 Off.status 4 3

/-- Whether the Bell sends frames, answers exchanges and may pulse: LOCKED or GRANDMASTER (R33, R37, R260). -/
def bellServes (s : State) : Bool := bellState s == Bell.grandmaster || bellState s == Bell.locked

/-- BELL_OUT is no longer driven once pulses are disabled or the state is neither LOCKED nor GRANDMASTER (R37). -/
def dropPulse (s : State) : State :=
  if s.bellPulse.isSome && !(rbit s .bell 0 Off.ctrl 2 && bellServes s)
  then emit { s with bellPulse := none } (.bellOut false) else s

/-- The Bell enters a state: what was left to slew is dropped, and a pulse the state does not allow ends (R35, R37,
R444). -/
def setBellState (s : State) (st : Nat) : State :=
  if bellState s = st then s
  else dropPulse (raiseInt { setRf s .bell 0 Off.status 4 3 st with bellSlew := 0 } .bell 0 0)

/-- Whether this device is a grandmaster (R33). -/
def isGrandmaster (s : State) : Bool := rbit s .bell 0 Off.ctrl 0

/-- Whether a follower's parent port is in use (R454). -/
def parentEn (s : State) : Bool := rbit s .bell 0 Off.ctrl 9

/-- `BELL.CTRL.PARENT_PORT` (R33). -/
def parentPort (s : State) : Nat := rf s .bell 0 Off.ctrl 4 5

/-- The offset in whole ticks, truncated toward zero, as BELL.OFFSET and the records show it (R34, R61). -/
def offsetTicks (off : Int) : Word := BitVec.ofInt 32 (off.tdiv 256)

/-- Whether an offset lies within `n` ticks. -/
def within (off : Int) (n : Nat) : Bool := decide (off.natAbs ≤ 256 * n)

/-- A Bell record, which the BELL page counts; it enters the running context's queue too (R61, R444). -/
def bellRecord (s : State) (code : Nat) : State :=
  contextRecord s .bell 0 0x02 code (parentPort s) (offsetTicks s.bellOffset) (resident s)

/-- The Bell starts to acquire: STEP_ALLOW is cleared (R35, R454). -/
def bellAcquire (s : State) : State :=
  setBellState { setRbit s .bell 0 Off.ctrl 3 false with bellRun := 0 } Bell.acquiring

/-- The Bell goes ADRIFT: STEP_ALLOW is cleared, and the record written (R35, R61). -/
def bellAdrift (s : State) : State := bellRecord (setBellState (setRbit s .bell 0 Off.ctrl 3 false) Bell.adrift) 0x05

/-- The Bell locks (R35, R61). -/
def bellLock (s : State) : State :=
  if bellState s = Bell.locked then s else bellRecord (setBellState s Bell.locked) 0x06

/-- BELLTIME brought to `target`: a forward difference in one step, a backward one by holding it (R31, R35, R38). -/
def correctTime (s : State) (target : Nat) : State :=
  if s.time.toNat ≤ target
  then { s with time := BitVec.ofNat 64 target, timeHeld := false, holdLeft := 0, bellSlew := 0 }
  else { s with timeHeld := true, holdLeft := s.time.toNat - target, bellSlew := 0 }

/-- Whether a grandmaster is corrected from BELL_IN: SOURCE is PIN (R35, R38). -/
def sourcePin (s : State) : Bool := isGrandmaster s && rbit s .bell 0 Off.ctrl 1

/-- The Bell's state after a write of its CTRL register, or of a role (R35, R37, R454). A role that changes from
GRANDMASTER to FOLLOWER with a parent port enabled leads to FREE (DEDUCED, log entry 103). -/
def bellControl (s : State) : State :=
  let st := bellState s
  let s1 :=
    if isGrandmaster s then
      if sourcePin s then setBellState s Bell.grandmaster
      else { setBellState s Bell.grandmaster with bellSlew := 0 }
    else if !parentEn s || st == Bell.grandmaster then setBellState s Bell.free
    else if st = Bell.adrift ∧ rbit s .bell 0 Off.ctrl 3 then bellAcquire s
    else s
  dropPulse s1

/-- Units of `bellSlew` and `refTime` in a nominal tick: 256 × 20,000, so that 256 of them are 50 ppm of it (R34). -/
abbrev tickUnits : Nat := 5120000

/-- What one local tick may slew: 50 ppm of it, and no more than is left (R34). -/
def slewStep (left : Int) : Int := max (-256) (min 256 left)

/-- One local tick of the Bell: BELLTIME advances at its edge, unless it is held (R30, R31, R35). While there is
something to slew the tick's period differs from the nominal one by at most 50 ppm: a BELLTIME that has to gain ticks
sooner (R34). -/
def tick (s : State) : State :=
  if s.timeHeld then { s with holdLeft := s.holdLeft - 1, refTime := s.refTime + tickUnits }
  else
    let d := slewStep s.bellSlew
    { s with time := s.time + 1, bellSlew := s.bellSlew - d, refTime := s.refTime + ((tickUnits : Int) - d).toNat }

/-! ## Frames and exchanges -/

/-- A link-local message queued on an ACTIVE port (R256, R257). -/
def sendLocal (s : State) (p : Nat) (slot : Nat) : State :=
  if portState s p = Link.active then updPort s p (fun k => queueSlot k ⟨3, true, BitVec.ofNat 128 slot⟩) else s

/-- BELL_FRAME_TIMER: at each multiple of 2¹⁴ ticks a grandmaster or LOCKED device sends a BELL_SYNC on each child port;
the slot takes its stamp as it leaves (R33, R259). -/
def execBellFrameTimer (s : State) : Host.Outcome State Fault Refusal :=
  if s.time.toNat % 2 ^ 14 = 0 ∧ bellServes s then
    match fireOnce s 0 with
    | none => .next s
    | some s1 => .next ((bitsOf 32 (reg s .bell 0 Off.bellChildMask).toNat).foldl (fun s p => sendLocal s p 0xF0) s1)
  else .next s

/-- DELAY_REQ_TIMER: halfway between frames a follower sends DELAY_REQ with a new XID on its parent port (R260). -/
def execDelayReqTimer (s : State) : Host.Outcome State Fault Refusal :=
  let p := parentPort s
  if s.time.toNat % 2 ^ 14 = 2 ^ 13 ∧ !isGrandmaster s ∧ parentEn s ∧ portState s p = Link.active then
    match fireOnce s 1 with
    | none => .next s
    | some s1 =>
      let xid := ((portOf s p).xid + 1) % 2 ^ 16
      let s2 := updPort s1 p (fun k => { k with xid := xid, request := some (xid, stampOf s.time 0) })
      .next (sendLocal s2 p (0xF1 + xid * 2 ^ 16))
  else .next s

/-- DELAY_REQ: a DELAY_REQ is the port's first link-local message: a grandmaster or LOCKED device answers it on a child
port, with a TURN it takes as it leaves (R260). -/
def execDelayReq (port : Fin 32) (s : State) : Host.Outcome State Fault Refusal :=
  let p := port.val
  match takeLocal s p 0xF1 with
  | none => .next s
  | some (msg, s1) =>
    if bellServes s && rbit s .bell 0 Off.bellChildMask p then
      .next (sendLocal s1 p (0xF2 + msg.frac.toNat * 2 ^ 8 + fld msg.slot.toNat 16 16 * 2 ^ 16 + msg.time.toNat * 2 ^ 64))
    else .next s1

/-- The mean of the exchanges a port has completed, in units of 1/256 tick (R260). -/
def meanDelay (delays : List Nat) : Nat := delays.sum / (2 * max 1 delays.length)

/-- DELAY_RESP: a DELAY_RESP is the port's first link-local message: where its XID matches, the exchange enters the mean
of the last 8 (R260). -/
def execDelayResp (port : Fin 32) (s : State) : Host.Outcome State Fault Refusal :=
  let p := port.val
  match takeLocal s p 0xF2 with
  | none => .next s
  | some (msg, s1) =>
    match (portOf s p).request with
    | none => .next s1
    | some (xid, t1) =>
      if fld msg.slot.toNat 16 16 ≠ xid then .next s1
      else
        let twice := stampOf msg.time msg.frac.toNat - t1 - fld msg.slot.toNat 32 32
        let delays := (twice :: (portOf s p).delays).take 8
        let s2 := updPort s1 p (fun k => { k with request := none, delays := delays })
        .next (setReg s2 .port p Off.portBellDelay (det (meanDelay delays)))

/-- BELLTIME is to be slewed until an offset of `off` / 256 ticks is gone (R34, R36). -/
def slewOff (s : State) (off : Int) : State := { s with bellSlew := -(off * 20000) }

/-- A valid frame with offset `off` acts on the Bell's state (R34 to R36): ACQUIRING steps or holds BELLTIME, LOCKED and
HOLDOVER slew it. `arrived` is the frame's arrival stamp. -/
def bellFrame (s : State) (off : Int) (arrived : Nat) (since : Nat) : State :=
  let s0 := { s with bellOffset := off, bellFrameAt := s.time }
  let s1 := setReg s0 .bell 0 Off.bellOffset (offsetTicks off)
  let st := bellState s
  if st = Bell.free ∨ st = Bell.acquiring then
    let s2 := if st = Bell.free then bellAcquire s1 else s1
    let run := if within off 2 then s2.bellRun + 1 else 0
    let s3 := { s2 with bellRun := run }
    if 4 ≤ run then slewOff (bellLock s3) off
    else correctTime s3 (since + (((arrived : Int) - off) / 256).toNat)
  else if st = Bell.locked ∨ st = Bell.holdover then
    if !within off 256 then bellAdrift s1
    else if st = Bell.holdover ∧ within off 2 then slewOff (bellLock s1) off
    else slewOff s1 off
  else s1

/-- BELL_SYNC: a BELL_SYNC is the port's first link-local message: on the parent port of a follower whose delay is the
mean of 8 exchanges it forms an offset and acts on the Bell; anywhere else it is discarded (R34, R35, "When things
meet"). -/
def execBellSync (port : Fin 32) (s : State) : Host.Outcome State Fault Refusal :=
  let p := port.val
  match takeLocal s p 0xF0 with
  | none => .next s
  | some (msg, s1) =>
    let delays := (portOf s p).delays
    if isGrandmaster s ∨ !parentEn s ∨ parentPort s ≠ p ∨ delays.length < 8 then .next s1
    else
      let m := msg.slot.toNat
      let arrived := stampOf msg.time msg.frac.toNat
      let off : Int := (arrived : Int) - ((fld m 64 64 * 256 + fld m 8 8 + meanDelay delays : Nat) : Int)
      .next (bellFrame s1 off arrived (s.time - msg.time).toNat)

/-- BELL_HOLDOVER: no valid frame has come for 4 frame periods in LOCKED (R35, R61). -/
def execBellHoldover (s : State) : Host.Outcome State Fault Refusal :=
  if bellState s = Bell.locked ∧ s.bellFrameAt.toNat + 4 * 2 ^ 14 ≤ s.time.toNat then
    .next (bellRecord (setBellState s Bell.holdover) 0x04)
  else .next s

/-- BELLTIME_HOLD_END: the parent's time has reached a BELLTIME that was held; it counts again (R35). -/
def execBelltimeHoldEnd (s : State) : Host.Outcome State Fault Refusal :=
  if s.timeHeld ∧ s.holdLeft = 0 then .next { s with timeHeld := false } else .next s

/-! ## Pins and software -/

/-- BELL_OUT_PULSE: BELLTIME[19:0] has become 0 and pulses are enabled; BELL_OUT is driven high (R37). -/
def execBellOutPulse (s : State) : Host.Outcome State Fault Refusal :=
  if s.time.toNat % 2 ^ 20 = 0 ∧ rbit s .bell 0 Off.ctrl 2 ∧ bellServes s ∧ s.bellPulse = none then
    .next (emit { s with bellPulse := some s.time } (.bellOut true))
  else .next s

/-- BELL_OUT_PULSE_END: 256 ticks after it began, the pulse ends (R37). -/
def execBellOutPulseEnd (s : State) : Host.Outcome State Fault Refusal :=
  match s.bellPulse with
  | none => .next s
  | some t =>
    if t.toNat + 256 ≤ s.time.toNat then .next (emit { s with bellPulse := none } (.bellOut false)) else .next s

/-- BELL_IN_EDGE: a rising edge on BELL_IN captures BELLTIME; a grandmaster with SOURCE PIN slews toward the nearest
BELLTIME whose bits [19:0] are 0 (R38, R444; the nearest: DEDUCED, log entry 103). -/
def execBellInEdge (s : State) : Host.Outcome State Fault Refusal :=
  let s1 := raiseInt (setReg64 s .bell 0 Off.bellInCaptureLo s.time) .bell 0 1
  let e : Nat := s.time.toNat % 2 ^ 20
  let off : Int := if e < 2 ^ 19 then (e : Int) else (e : Int) - 1048576
  .next (if sourcePin s then { s1 with bellSlew := -(off * 5120000) } else s1)

/-- A write of BELL.SET_HI: refused while a context is resident or the role is FOLLOWER; otherwise BELLTIME is corrected
to the value set (R38, R455). -/
def writeSetHi (s : State) (value : Word) : State :=
  if resident s ≠ 0 then refuse s .bell 0 0x08 Off.bellSetHi
  else if !isGrandmaster s then refuse s .bell 0 0x40 Off.bellSetHi
  else
    let s1 := setReg s .bell 0 Off.bellSetHi value
    correctTime s1 (reg64 s1 .bell 0 Off.bellSetLo).toNat

end Sys2Proof.Machine
end

