-- ==== Sys2Proof/Machine/Tables.lean ====
section
/-!
DEFINITION. The table pages: the staging buffers of TERRIER and GROUP, their commits, lane-map entries and `SEL` (R273 to
R275, R290, R294, R299, R376, R433, R434, R475, R476).
-/
namespace Sys2Proof.Machine

/-! ## Staging buffers (R476) -/

/-- The 128 bits in the staging buffer of TERRIER or GROUP (R476). -/
def staged (s : State) (b : Block) : QWord :=
  BitVec.ofNat 128 ((reg s b 0 0x100).toNat + (reg s b 0 0x104).toNat * 2 ^ 32 + (reg s b 0 0x108).toNat * 2 ^ 64
    + (reg s b 0 0x10C).toNat * 2 ^ 96)

/-- The staging buffer of TERRIER or GROUP loaded with an entry (R476). -/
def loadStage (s : State) (b : Block) (e : QWord) : State :=
  (List.range 4).foldl (fun s j => setReg s b 0 (0x100 + 4 * j) (det (fld e.toNat (32 * j) 32))) s

/-! ## TERRIER (R273 to R275) -/

/-- The bits of a Terrier entry that R273 does not list. -/
def terrierReserved (e : QWord) : Bool :=
  tfld e 9 7 != 0 || tfld e 30 2 != 0 || tfld e 61 3 != 0 || tfld e 76 4 != 0 || tfld e 87 1 != 0 || tfld e 94 34 != 0

/-- The memory kind that KIND names (R273). -/
def entryKind (e : QWord) : Option MemKind :=
  match tfld e 6 3 with
  | 0 => some .hbm | 1 => some .granary | 2 => some .commons | 3 => some .larder | _ => none

/-- Whether an entry's range lies in one region of its KIND (R274). -/
def inRegion (e : QWord) : Bool :=
  let a := tfld e 32 29 * 2 ^ 21
  match placeOf a with
  | some p => some p.kind == entryKind e && decide (p.offset + tfld e 64 12 * 2 ^ 21 ≤ p.kind.size)
  | none => false

/-- Whether index `i` holds an entry of a measured schedule (R376). -/
def measuredIndex (s : State) (i : Nat) : Bool := s.measured.any (fun x => x.1 % 65536 == i)

/-- The code that refuses to commit entry `e` at index `i`, the lowest that applies, 0 when none does (R275, R376,
R439). -/
def terrierCheck (s : State) (i : Nat) (e : QWord) : Nat :=
  let old := tget 0 i s.terrier
  let valid := tfld e 0 1 == 1
  let commonsOrLarder := tfld e 6 3 == 2 || tfld e 6 3 == 3
  if terrierReserved e ∨ (valid ∧ commonsOrLarder ∧ tfld e 88 6 ≠ 0) then 0x01
  else if valid ∧ (4 ≤ tfld e 6 3 ∨ tfld e 64 12 = 0 ∨ 2048 < tfld e 64 12) then 0x02
  else if contextRuns s (tfld old 1 5) ∨ contextRuns s (tfld e 1 5) then 0x08
  else if valid ∧ !inRegion e then 0x40
  else if measuredIndex s i then 0x41
  else 0

/-- A committed entry takes its place: until BUSY falls, each compute die's copy holds the old entry or the new one
(R275). -/
def commitTerrier (s : State) (i : Nat) (e : QWord) : State :=
  let (s1, w) := freshWord s
  setRbit { s1 with terrierOld := some (i, tget 0 i s.terrier, w), terrier := tset 0 i e s1.terrier } .terrier 0 Off.status 1 true

/-- A write of TERRIER.ENTRY3: the last word is set and the whole buffer committed or refused (R275, R476). -/
def writeTerrier3 (s : State) (v : Word) : State :=
  let s1 := setReg s .terrier 0 0x10C v
  let i := rf s1 .terrier 0 Off.sel 0 16
  let e := staged s1 .terrier
  let code := terrierCheck s1 i e
  if code ≠ 0 then refuse s1 .terrier 0 code 0x10C else commitTerrier s1 i e

/-- TERRIER_COMMIT (R275, R376, R424, R476). -/
def execTerrierCommit (value : BitVec 32) (s : State) : Host.Outcome State Fault Refusal :=
  .next (hostWrite s .terrier 0 0x10C value (fun s => writeTerrier3 s value))

/-- TERRIER_UPDATE_DONE: the last copy changes and BUSY falls (R275, R479). -/
def execTerrierUpdateDone (s : State) : Host.Outcome State Fault Refusal :=
  match s.terrierOld with
  | none => .next s
  | some _ => .next (raiseInt (setRbit { s with terrierOld := none } .terrier 0 Off.status 1 false) .terrier 0 0)

/-! ## GROUP (R294) -/

/-- Whether a REDUCE of group `g` is in flight on this device (R497). -/
def groupInFlight (s : State) (g : Nat) : Bool :=
  s.cores.any (fun c => c.2.ops.any (fun o => o.kind == .reduce && Rd.group o.image == g))

/-- The code that refuses group entry `e` at index `g`, 0 when none does (R294). -/
def groupCheck (s : State) (g : Nat) (e : QWord) : Nat :=
  if tfld e 104 24 ≠ 0 then 0x01
  else if tfld e 0 1 = 1 ∧ (tfld e 1 15 = 0 ∨ 16384 < tfld e 1 15 ∨ tfld e 1 15 ≤ tfld e 16 14) then 0x02
  else if groupInFlight s g then 0x08
  else 0

/-- A write of GROUP.ENTRY3: the buffer is committed to every copy or refused (R294, R476). -/
def writeGroup3 (s : State) (v : Word) : State :=
  let s1 := setReg s .group 0 0x10C v
  let g := rf s1 .group 0 Off.sel 0 8
  let e := staged s1 .group
  let code := groupCheck s1 g e
  if code ≠ 0 then refuse s1 .group 0 code 0x10C else { s1 with groups := tset 0 g e s1.groups }

/-- GROUP_COMMIT (R294, R424, R476). -/
def execGroupCommit (value : BitVec 32) (s : State) : Host.Outcome State Fault Refusal :=
  .next (hostWrite s .group 0 0x10C value (fun s => writeGroup3 s value))

/-! ## LANEMAP (R290) -/

/-- A write of LANEMAP.ENTRY: one entry of the link die in SEL.DIE (R302, R476). -/
def writeLaneEntry (s : State) (v : Word) : State :=
  { s with lanemaps := tset 0 (16384 * rf s .lanemap 0 Off.sel 16 2 + rf s .lanemap 0 Off.sel 0 14) v s.lanemaps }

/-- LANEMAP_ENTRY_WRITE (R290, R302, R424, R476). -/
def execLanemapEntryWrite (value : BitVec 32) (s : State) : Host.Outcome State Fault Refusal :=
  .next (hostWrite s .lanemap 0 Off.lanemapEntry value (fun s => writeLaneEntry s value))

/-! ## SEL (R433, R434) -/

/-- The instance of a page that a host access reaches (R433, R434). -/
def shownInstance (s : State) (b : Block) : Nat := if b.instanced then rf s b 0 Off.sel 0 9 else 0

/-- A write of a window's SEL: beyond the last instance it is refused with 0x02; in an entry window, whose SEL has every
entry's number, a reserved bit is refused with 0x01; otherwise it selects, and loads a table's staging buffer (R14, R302,
R433, R434, R476). -/
def writeSel (s : State) (b : Block) (v : Word) : State :=
  if b.instanced && decide (b.count ≤ v.toNat) then refuse s b (shownInstance s b) 0x02 Off.sel
  else if v &&& ~~~(definedMask b Off.sel) ≠ 0 then refuse s b 0 0x01 Off.sel
  else
    let s1 := setReg s b 0 Off.sel v
    match b with
    | .terrier => loadStage s1 .terrier (tget 0 v.toNat s1.terrier)
    | .group => loadStage s1 .group (tget 0 v.toNat s1.groups)
    | _ => s1

/-- The page of BAR0 at a 4 KiB page number and its instance on a repeated page (R432). -/
def pageOf (n : Nat) : Option (Block × Nat) :=
  if n < 8 then some ([.global, .reeve, .bell, .steward, .watch, .harvest, .keys, .context].getD n .global, 0)
  else if 0x10 ≤ n ∧ n < 0x14 then some (.cellar, n - 0x10)
  else if 0x14 ≤ n ∧ n < 0x18 then some (.granary, n - 0x14)
  else if 0x18 ≤ n ∧ n < 0x1C then some (.stack, n - 0x18)
  else if 0x20 ≤ n ∧ n < 0x30 then some (.hbm, n - 0x20)
  else if 0x30 ≤ n ∧ n < 0x35 then some ([.core, .port, .terrier, .lanemap, .group].getD (n - 0x30) .core, 0)
  else if 0x40 ≤ n ∧ n < 0x43 then some ([.pcie, .pantry, .sideband].getD (n - 0x40) .pcie, 0)
  else none

/-- SEL_WRITE: `SEL` of the window at page number `page` is written (R424, R434, R476). -/
def execSelWrite (page : BitVec 14) (value : BitVec 32) (s : State) : Host.Outcome State Fault Refusal :=
  match pageOf page.toNat with
  | none => .next s
  | some (b, _) =>
    if b.windowed then .next (hostWrite s b (shownInstance s b) Off.sel value (fun s => writeSel s b value)) else .next s

/-! ## GLOBAL.NODE (R299) -/

/-- A host write of GLOBAL.NODE: before roll call it numbers and assigns the device, afterwards it is refused (R14,
R299). -/
def writeNode (s : State) (v : Word) : State :=
  if fld v.toNat 14 1 ≠ 0 ∨ fld v.toNat 17 15 ≠ 0 then refuse s .global 0 0x01 Off.globalNode
  else if rbit s .global 0 Off.globalNode 16 then refuse s .global 0 0x04 Off.globalNode
  else setRbit (setRf s .global 0 Off.globalNode 0 14 v.toNat) .global 0 Off.globalNode 15 true

/-- NODE_WRITE (R299). -/
def execNodeWrite (value : BitVec 32) (s : State) : Host.Outcome State Fault Refusal := .next (writeNode s value)

end Sys2Proof.Machine
end

