-- ==== Sys2Proof/Machine/Manage.lean ====
section
/-!
DEFINITION. Roll call and management (R296 to R299), and the mailbox commands of the Reeve for MGMT and firmware (R452,
R453).
-/
namespace Sys2Proof.Machine

/-! ## The mailbox (R452, R453) -/

/-- `n` bytes of the mailbox from byte `off`, a multiple of 4. -/
def mboxBytes (s : State) (off n : Nat) : List Byte :=
  ((List.range ((n + 3) / 4)).flatMap (fun k => toBytes 4 (reg s .reeve 0 (Off.reeveMbox + off + 4 * k)).toNat)).take n

/-- Bytes put into the mailbox from byte `off`, a multiple of 4, in whole words. -/
def putMbox (s : State) (off : Nat) (l : List Byte) : State :=
  (List.range (l.length / 4)).foldl (fun s k =>
    setReg s .reeve 0 (Off.reeveMbox + off + 4 * k) (det (ofBytes ((l.drop (4 * k)).take 4)))) s

/-- Codes of `REEVE.CMD_STATUS.CMD`. -/
inductive MboxCmd where
  | lc | fw | mgmt
  deriving DecidableEq, Repr

/-- A command's code in CMD_STATUS (R452). -/
def MboxCmd.code : MboxCmd → Nat
  | .lc => 1 | .fw => 2 | .mgmt => 3

/-- Whether a mailbox command runs (R453). -/
def mboxBusy (s : State) : Bool := rf s .reeve 0 Off.reeveCmdStatus 0 2 == 1

/-- A mailbox command begins: STATE RUNNING (R452). -/
def beginCmd (s : State) (c : MboxCmd) : State :=
  setRf (setRf (setRf s .reeve 0 Off.reeveCmdStatus 0 2 1) .reeve 0 Off.reeveCmdStatus 4 4 0) .reeve 0
    Off.reeveCmdStatus 8 8 c.code

/-- A mailbox command ends with RESULT: DONE when it is 0, FAILED otherwise, and the page's interrupt (R444, R452). -/
def endCmd (s : State) (result : Nat) : State :=
  raiseInt (setRf (setRf s .reeve 0 Off.reeveCmdStatus 0 2 (if result = 0 then 2 else 3)) .reeve 0 Off.reeveCmdStatus 4 4
    result) .reeve 0 1

/-! ## MGMT and MGMT_SR packets (R284, R296, R297) -/

namespace Mg
/-- MOP. -/
def mop (p : Packet) : Nat := pf p 72 8
/-- XID. -/
def xid (p : Packet) : Nat := pf p 80 16
/-- RSP. -/
def rsp (p : Packet) : Bool := pf p 96 1 == 1
/-- STATUS. -/
def status (p : Packet) : Nat := pf p 97 4
/-- HOPS of a MGMT_SR. -/
def hops (p : Packet) : Nat := pf p 64 4
/-- INDEX of a MGMT_SR. -/
def index (p : Packet) : Nat := pf p 68 4
/-- Whether a packet is a MGMT_SR. -/
def sr (p : Packet) : Bool := p.type == 0x31
/-- The forward route of a MGMT_SR. -/
def route (p : Packet) : Nat := ofBytes (p.data.take 16)
/-- The return route of a MGMT_SR. -/
def ret (p : Packet) : Nat := ofBytes ((p.data.drop 16).take 16)
/-- The payload. -/
def payload (p : Packet) : List Byte := if sr p then p.data.drop 32 else p.data
/-- Hop `i` of a route. -/
def hop (r i : Nat) : Nat := fld r (5 * i) 5
end Mg

/-- The upper half of a MGMT header (R284). -/
def mgUpper (hops index mop xid status : Nat) (rsp : Bool) : Nat :=
  hops % 16 + index % 16 * 2 ^ 4 + mop % 256 * 2 ^ 8 + xid % 2 ^ 16 * 2 ^ 16 + b2n rsp * 2 ^ 32 + status % 16 * 2 ^ 33

/-- A MGMT_SR leaves on a port, or is dropped and counted when the port is not ACTIVE (R296). -/
def sendSr (s : State) (port : Nat) (p : Packet) : State :=
  if portState s port = Link.active then sendPort s port 3 p else incReg s .lanemap (port / 8) Off.lanemapDropCount

/-- A received MGMT_SR with its ingress port in RET[INDEX] and INDEX advanced (R296). -/
def srArrived (p : Packet) (port : Nat) : Packet :=
  let ret := setFld (Mg.ret p) (5 * Mg.index p) 5 port
  ⟨BitVec.ofNat 128 (setFld p.header.toNat 68 4 (Mg.index p + 1)), toBytes 16 (Mg.route p) ++ toBytes 16 ret ++ Mg.payload p⟩

/-- The route back: RET[HOPS − 1], and so on down to RET[0] (R296). -/
def routeBack (p : Packet) : Nat :=
  (List.range (Mg.hops p)).foldl (fun a i => a + Mg.hop (Mg.ret p) (Mg.hops p - 1 - i) * 2 ^ (5 * i)) 0

/-- The MGMT or MGMT_SR at an index of the inbox that is at its destination, with the inbox without it; a MGMT_SR as it is
after its arrival (R296). -/
def takeMgmt (s : State) (i : Nat) (rsp : Bool) : Option (Packet × State) :=
  match takeAt s.inbox i with
  | none => none
  | some ((_, r), rest) =>
    let s1 := { s with inbox := rest }
    if Mg.rsp r.packet ≠ rsp then none
    else if r.packet.type = 0x30 then some (r.packet, s1)
    else match r.packet.type, r.ingress with
      | 0x31, some port =>
        let p := srArrived r.packet port
        if Mg.index p = Mg.hops p then some (p, s1) else none
      | _, _ => none

/-- MGMT_SR_RELAY: a MGMT_SR that is not at its destination records its ingress port and goes on by its route (R296). -/
def execMgmtSrRelay (index : Nat) (s : State) : Host.Outcome State Fault Refusal :=
  match takeAt s.inbox index with
  | none => .next s
  | some ((_, r), rest) =>
    match r.packet.type, r.ingress with
    | 0x31, some port =>
      let p := srArrived r.packet port
      if Mg.index p = Mg.hops p then .next s
      else .next (sendSr { s with inbox := rest } (Mg.hop (Mg.route p) (Mg.index p)) p)
    | _, _ => .next s

/-- The answer to a management request (R283, R291, R296). -/
def answerMgmt (s : State) (req : Packet) (status : Nat) (payload : List Byte) : State :=
  if Mg.sr req then
    let back := routeBack req
    let h := mkHeader 0x31 req.src (srcNode s) req.tag req.sunit 0 0
      (mgUpper (Mg.hops req) 0 (Mg.mop req) (Mg.xid req) status true)
    sendSr s (Mg.hop back 0) ⟨h, toBytes 16 back ++ toBytes 16 0 ++ payload⟩
  else
    let h := mkHeader 0x30 req.src (srcNode s) req.tag req.sunit 0 0 (mgUpper 0 0 (Mg.mop req) (Mg.xid req) status true)
    match lowestDie s with
    | some d => Machine.route s d ⟨h, payload⟩ none
    | none => s

/-! ## Requests (R297, R298) -/

/-- The ports that are ACTIVE, by bit (R297). -/
def activePorts (s : State) : Nat :=
  ((List.range 32).filter (fun p => portState s p == Link.active)).foldl (fun a p => a + 2 ^ p) 0

/-- What IDENTIFY answers: the provisioned ID in [47:0], GLOBAL.NODE in [79:48], the life-cycle state in [81:80], the OFFLINE
summary in [88] and the mask of ACTIVE ports in [127:96] (R297; the layout is the model's: log entry 42). -/
def identity (s : State) : List Byte :=
  toBytes 16 (Config.provisionedId.toNat + (reg s .global 0 Off.globalNode).toNat * 2 ^ 48
    + rf s .reeve 0 Off.reeveLc 0 2 * 2 ^ 80 + b2n (anyOffline s) * 2 ^ 88 + activePorts s * 2 ^ 96)

/-- IDENTIFY: a request whose MOP is IDENTIFY is answered; one with a MOP that no device accepts is DENIED (R297). -/
def execIdentify (index : Nat) (s : State) : Host.Outcome State Fault Refusal :=
  match takeMgmt s index false with
  | none => .next s
  | some (p, s1) =>
    if Mg.mop p = 0x01 then .next (answerMgmt s1 p 0 (identity s1))
    else if Mg.mop p = 0x02 ∨ Mg.mop p = 0x03 ∨ Mg.mop p = 0x04 then .next s
    else .next (answerMgmt s1 p 0xB [])

/-- STATUS of an ASSIGN: MISMATCH, CONFLICT, DENIED outside MGMT_SR, or OK; its payload holds NODE in [13:0] and the
provisioned ID in [63:16] (R298; the layout is the model's). -/
def assignStatus (s : State) (p : Packet) : Nat :=
  let v := ofBytes ((Mg.payload p).take 8)
  if !Mg.sr p then 0xB
  else if fld v 16 48 ≠ Config.provisionedId.toNat then 0xA
  else if assigned s ∧ thisNode s ≠ fld v 0 14 then 0x9
  else 0

/-- ASSIGN: the device takes its node number, or answers why it does not (R298, R301). -/
def execAssign (index : Nat) (s : State) : Host.Outcome State Fault Refusal :=
  match takeMgmt s index false with
  | none => .next s
  | some (p, s1) =>
    let node := ofBytes ((Mg.payload p).take 8) % 2 ^ 14
    let st := assignStatus s1 p
    if Mg.mop p ≠ 0x02 then .next s
    else if st ≠ 0 then .next (answerMgmt s1 p st [])
    else
      let s2 := setRbit (setRf s1 .global 0 Off.globalNode 0 14 node) .global 0 Off.globalNode 15 true
      let s3 := setReg s2 .global 0 Off.globalFmNode (det (p.src + 2 ^ 15))
      .next (answerMgmt (devqPush s3 (record 0x06 0x06 node (det (p.src * 2 ^ 18 + node)))) p 0 [])

/-- Whether LANEMAP_WRITE and GROUP_WRITE are accepted from the originator of a request (R298). -/
def mgmtTrusted (s : State) (p : Packet) : Bool :=
  !assigned s || p.src == thisNode s
    || (rbit s .global 0 Off.globalFmNode 15 && p.src == rf s .global 0 Off.globalFmNode 0 14)

/-- Entry `k` of a LANEMAP_WRITE payload: DIEMASK in [3:0], the first index in [17:4], COUNT in [21:18], entries of 32 bits
from bit 32 on (R297; the layout is the model's). -/
def laneWriteEntry (v k : Nat) : Nat := fld v (32 + 32 * k) 32

/-- Whether a LANEMAP_WRITE payload writes nothing it may not: COUNT 1 to 12, indices within the map, no reserved bit
(R290, R297). -/
def laneWriteGood (v : Nat) : Bool :=
  let n := fld v 18 4
  decide (1 ≤ n ∧ n ≤ 12 ∧ fld v 4 14 + n ≤ 16384)
    && (List.range n).all (fun k => fld (laneWriteEntry v k) 20 10 == 0)

/-- The entries of a LANEMAP_WRITE put into the lane maps of the dies it picks (R297). -/
def applyLaneWrite (s : State) (v : Nat) : State :=
  (bitsOf 4 (fld v 0 4)).foldl (fun s d => (List.range (fld v 18 4)).foldl (fun s k =>
    { s with lanemaps := tset 0 (16384 * d + fld v 4 14 + k) (det (laneWriteEntry v k)) s.lanemaps }) s) s

/-- LANEMAP_WRITE (R297, R298). -/
def execLanemapWrite (index : Nat) (s : State) : Host.Outcome State Fault Refusal :=
  match takeMgmt s index false with
  | none => .next s
  | some (p, s1) =>
    let v := ofBytes (Mg.payload p)
    if Mg.mop p ≠ 0x03 then .next s
    else if !mgmtTrusted s1 p then .next (answerMgmt s1 p 0xB [])
    else if !laneWriteGood v then .next (answerMgmt s1 p 0x9 [])
    else .next (answerMgmt (applyLaneWrite s1 v) p 0 [])

/-- GROUP_WRITE: the group index in [7:0] of the first payload slot, the entry in the second; a write that R294 would
refuse is CONFLICT (R297, R298; the layout is the model's). -/
def execGroupWrite (index : Nat) (s : State) : Host.Outcome State Fault Refusal :=
  match takeMgmt s index false with
  | none => .next s
  | some (p, s1) =>
    let g := ofBytes ((Mg.payload p).take 1)
    let e : QWord := BitVec.ofNat 128 (ofBytes (((Mg.payload p).drop 16).take 16))
    if Mg.mop p ≠ 0x04 then .next s
    else if !mgmtTrusted s1 p then .next (answerMgmt s1 p 0xB [])
    else if groupCheck s1 g e ≠ 0 then .next (answerMgmt s1 p 0x9 [])
    else .next (answerMgmt { s1 with groups := tset 0 g e s1.groups } p 0 [])

/-! ## The originator (R297, R452, R453) -/

/-- The payload a MGMT command sends: PSLOTS slots of the mailbox from byte 16 (R452). -/
def mgmtPayload (s : State) : List Byte := mboxBytes s 16 (16 * rf s .reeve 0 Off.reeveMgmtDst 20 4)

/-- A MGMT command begins under a fresh XID, which the spec leaves to the Reeve (R452, R453). -/
def beginMgmt (s : State) : State × Nat :=
  let (s1, w) := freshWord s
  let xid := w.toNat % 2 ^ 16
  (setRf (beginCmd { s1 with mgmt := some ⟨xid, s.time⟩ } .mgmt) .reeve 0 Off.reeveCmdStatus 16 16 xid, xid)

/-- A write of MGMT_CMD.GO: a MGMT leaves for MGMT_DST (R283, R291, R452, R453). -/
def sendMgmt (s : State) : State :=
  if mboxBusy s then refuse s .reeve 0 0x42 Off.reeveMgmtCmd
  else
    let (s1, xid) := beginMgmt s
    let h := mkHeader 0x30 (rf s .reeve 0 Off.reeveMgmtDst 0 14) (srcNode s) 0 4 0 0
      (mgUpper 0 0 (rf s .reeve 0 Off.reeveMgmtDst 24 8) xid 0 false)
    match lowestDie s with
    | some d => Machine.route s1 d ⟨h, mgmtPayload s⟩ none
    | none => s1

/-- A write of MGMT_CMD.SR: a MGMT_SR leaves on the first port of the route in the mailbox; HOPS 0 is out of range (R296,
R452, R453). -/
def sendMgmtSr (s : State) : State :=
  let hops := rf s .reeve 0 Off.reeveMgmtDst 16 4
  if hops = 0 then refuse s .reeve 0 0x02 Off.reeveMgmtCmd
  else if mboxBusy s then refuse s .reeve 0 0x42 Off.reeveMgmtCmd
  else
    let (s1, xid) := beginMgmt s
    let route := mboxBytes s 0 16
    let h := mkHeader 0x31 (rf s .reeve 0 Off.reeveMgmtDst 0 14) (srcNode s) 0 4 0 0
      (mgUpper hops 0 (rf s .reeve 0 Off.reeveMgmtDst 24 8) xid 0 false)
    sendSr s1 (Mg.hop (ofBytes route) 0) ⟨h, route ++ toBytes 16 0 ++ mgmtPayload s⟩

/-- A write of MGMT_CMD (R14, R452). -/
def writeMgmtCmd (s : State) (v : Word) : State :=
  if 4 ≤ v.toNat then refuse s .reeve 0 0x01 Off.reeveMgmtCmd
  else if bitAt v.toNat 1 then sendMgmtSr s
  else if bitAt v.toNat 0 then sendMgmt s
  else s

/-- MGMT_SEND (R452). -/
def execMgmtSend (s : State) : Host.Outcome State Fault Refusal := .next (sendMgmt s)

/-- MGMT_SR_SEND (R452). -/
def execMgmtSrSend (s : State) : Host.Outcome State Fault Refusal := .next (sendMgmtSr s)

/-- MGMT_RESPONSE: the response to the command that runs ends it, and its payload replaces the mailbox from byte 16; any
other response is discarded (R453). -/
def execMgmtResponse (index : Nat) (s : State) : Host.Outcome State Fault Refusal :=
  match takeMgmt s index true with
  | none => .next s
  | some (p, s1) =>
    match s1.mgmt with
    | none => .next s1
    | some r =>
      if r.xid ≠ Mg.xid p then .next s1
      else .next (endCmd (putMbox { s1 with mgmt := none } 16 (Mg.payload p)) (Mg.status p))

/-- MGMT_TIMEOUT: no response has come in TXN_TIMEOUT ticks (R453). -/
def execMgmtTimeout (s : State) : Host.Outcome State Fault Refusal :=
  match s.mgmt with
  | none => .next s
  | some r =>
    if s.time.toNat < r.since.toNat + txnTimeout s then .next s else .next (endCmd { s with mgmt := none } 0xF)

/-! ## Firmware (R415, R452, R453) -/

/-- A write of FW_CMD: a flash command begins, or is refused with the lowest code that applies: 0x02 for OP 0, 0x41 for
the slot that booted, 0x42 while a command runs (R452, R453). -/
def firmware (s : State) (op : Nat) (slot : Bool) : State :=
  if op = 0 then refuse s .reeve 0 0x02 Off.reeveFwCmd
  else if slot = s.booted then refuse s .reeve 0 0x41 Off.reeveFwCmd
  else if mboxBusy s then refuse s .reeve 0 0x42 Off.reeveFwCmd
  else
    let off := rf s .reeve 0 Off.reeveFwOffset 0 24
    let data := if op = 2 then mboxBytes s 0 256 else []
    let s1 := beginCmd { s with fw := some ⟨op, slot, off, data⟩ } .fw
    if op = 3 then s1 else emit s1 (.flash slot (if op = 2 then off else 0) data)

/-- FW_ERASE (R453). -/
def execFwErase (slot : Bool) (s : State) : Host.Outcome State Fault Refusal := .next (firmware s 1 slot)

/-- FW_WRITE (R453). -/
def execFwWrite (slot : Bool) (s : State) : Host.Outcome State Fault Refusal := .next (firmware s 2 slot)

/-- FW_VERIFY (R453). -/
def execFwVerify (slot : Bool) (s : State) : Host.Outcome State Fault Refusal := .next (firmware s 3 slot)

/-- FW_CMD_DONE: the flash command that runs ends with RESULT (R452, R453). -/
def execFwCmdDone (result : BitVec 4) (s : State) : Host.Outcome State Fault Refusal :=
  match s.fw with
  | none => .next s
  | some _ => .next (endCmd { s with fw := none } result.toNat)

end Sys2Proof.Machine
end

