-- ==== Sys2Proof/Machine/Matrix.lean ====
section
/-!
DEFINITION. The matrix array and the Tally (R120 to R139): descriptors and their checks, the arithmetic of the cell,
promotion drains, slots and the tile queue.
-/
namespace Sys2Proof.Machine

/-! ## Descriptors (R123 to R126) -/

/-- The element type of a MATRIX format code (R124). -/
def mxElem : Nat → Option Elem
  | 0x0 => some .bf16 | 0x1 => some .fp16 | 0x2 => some .e4m3 | 0x3 => some .e5m2 | 0x4 => some .e3m2
  | 0x5 => some .e2m3 | 0x6 => some .e2m1 | 0x8 => some .int4 | 0x9 => some .int3 | 0xA => some .int2
  | _ => none

/-- The expansion target of a TARGET code (R123). -/
def mxTarget : Nat → Elem
  | 0 => .e4m3 | 1 => .e5m2 | _ => .bf16

namespace Mx
/-- A_FMT. -/
def aFmt (d : BitVec 512) : Nat := df d 0 4
/-- B_FMT. -/
def bFmt (d : BitVec 512) : Nat := df d 4 4
/-- A_SCALE. -/
def aScale (d : BitVec 512) : Nat := df d 8 2
/-- B_SCALE. -/
def bScale (d : BitVec 512) : Nat := df d 10 2
/-- Block size along K. -/
def blk (d : BitVec 512) : Nat := 16 * 2 ^ df d 12 2
/-- EXPAND. -/
def expand (d : BitVec 512) : Nat := df d 14 2
/-- G for SCALE_ZERO. -/
def group (d : BitVec 512) : Nat := 32 * 2 ^ df d 16 2
/-- TARGET. -/
def target (d : BitVec 512) : Nat := df d 18 2
/-- MODE. -/
def mode (d : BitVec 512) : Nat := df d 20 2
/-- SLOT. -/
def slot (d : BitVec 512) : Nat := df d 22 4
/-- KB. -/
def kb (d : BitVec 512) : Nat := df d 32 16
/-- A_BASE. -/
def aBase (d : BitVec 512) : Nat := df d 64 15
/-- B_BASE. -/
def bBase (d : BitVec 512) : Nat := df d 80 15
/-- A_SBASE. -/
def aSbase (d : BitVec 512) : Nat := df d 96 15
/-- B_SBASE. -/
def bSbase (d : BitVec 512) : Nat := df d 112 15
/-- EXP_BASE. -/
def expBase (d : BitVec 512) : Nat := df d 128 21
end Mx

/-- Whether a reserved field of a MATRIX descriptor, or one that must be 0, is set (R123). Code 3 of GROUP or TARGET where the
field must be 0 is reported here, as the first row of R126 that holds (DEDUCED, log entry 106). -/
def mxReserved (d : BitVec 512) : Bool :=
  df d 26 5 != 0 || df d 58 6 != 0 || df d 79 1 != 0 || df d 95 1 != 0 || df d 111 1 != 0 || df d 127 1 != 0
    || df d 149 363 != 0
    || (Mx.expand d != 3 && df d 16 2 != 0) || (Mx.expand d == 0 && (Mx.target d != 0 || Mx.expBase d != 0))
    || (Mx.aScale d != 2 && df d 48 5 != 0) || (Mx.bScale d != 2 && df d 53 5 != 0)
    || (Mx.aScale d != 1 && Mx.aSbase d != 0) || (Mx.bScale d != 1 && Mx.bSbase d != 0)

/-- Whether the pair, scale kinds and expansion are permitted (R125). Code 3 of a scale field is not judged here
(R126). -/
def mxPair (d : BitVec 512) (a b : Elem) : Bool :=
  let as' := Mx.aScale d
  let bs := Mx.bScale d
  let ex := Mx.expand d
  let aOk := match a with
    | .bf16 | .fp16 => as' == 0 || as' == 3
    | .e4m3 | .e5m2 => true
    | _ => as' != 2
  let bOk := if b.isInt then bs == 0 || bs == 3
    else if b.isFp8 then true
    else if b.isBlock then bs != 2
    else bs == 0 || bs == 3
  let pairOk := match a with
    | .bf16 => b == .bf16 || b.isInt
    | .fp16 => b == .fp16
    | _ => b.isBlock || b.isInt
  let exOk := if b.isInt then ex != 0 && (Mx.target d == 3 || (if a = .bf16 then Mx.target d == 2 else Mx.target d != 2))
    else ex == 0
  aOk && bOk && pairOk && exOk

/-- Bytes of an element row of KB k-blocks (R126). -/
def mxRowBytes (d : BitVec 512) (t : Elem) : Nat := 64 * Mx.kb d * t.width / 8

/-- The reason a descriptor image is refused, 0 when it passes; DESC_RANGE is judged before the image is read
(R126). -/
def mxCheck (d : BitVec 512) : Nat :=
  if mxReserved d then 0x02
  else if df d 31 1 ≠ 0 then 0x03
  else match mxElem (Mx.aFmt d), mxElem (Mx.bFmt d) with
    | some a, some b =>
      if a.isInt then 0x04
      else if !mxPair d a b then 0x05
      else if Mx.aScale d = 3 ∨ Mx.bScale d = 3 ∨ Mx.mode d = 3 ∨ df d 16 2 = 3 ∨ Mx.target d = 3 then 0x06
      else
        let k := 64 * Mx.kb d
        let blocks := Mx.aScale d = 1 ∨ Mx.bScale d = 1
        if Mx.kb d = 0 ∨ (blocks ∧ k % Mx.blk d ≠ 0) ∨ (Mx.expand d = 2 ∧ k % 128 ≠ 0)
            ∨ (Mx.expand d = 3 ∧ k % Mx.group d ≠ 0) then 0x07
        else if Mx.aBase d % 64 ≠ 0 ∨ Mx.bBase d % 64 ≠ 0 ∨ Mx.aSbase d % 64 ≠ 0 ∨ Mx.bSbase d % 64 ≠ 0
            ∨ ((Mx.expand d = 1 ∨ Mx.expand d = 2) ∧ Mx.expBase d % 32 ≠ 0)
            ∨ (Mx.expand d = 3 ∧ Mx.expBase d % 4 ≠ 0) then 0x08
        else if 2 ^ 15 < Mx.aBase d + mxRowBytes d a ∨ 2 ^ 15 < Mx.bBase d + mxRowBytes d b
            ∨ (Mx.aScale d = 1 ∧ 2 ^ 15 < Mx.aSbase d + k / Mx.blk d)
            ∨ (Mx.bScale d = 1 ∧ 2 ^ 15 < Mx.bSbase d + k / Mx.blk d) then 0x09
        else
          let bytes := match Mx.expand d with
            | 1 => 32
            | 2 => 64 * (k / 128) * 32
            | 3 => 64 * (k / Mx.group d) * 4
            | _ => 0
          if 2 ^ 21 < Mx.expBase d + bytes then 0x0A else 0
    | _, _ => 0x04

/-- Products per cell per cycle of a pair (R120). -/
def mxRate (d : BitVec 512) : Nat :=
  match mxElem (Mx.aFmt d), mxElem (Mx.bFmt d) with
  | some a, some b =>
    if a = .bf16 ∨ a = .fp16 then 1 else if a = .e2m1 ∧ b = .e2m1 then 4 else 2
  | _, _ => 1

/-! ## Operands (R105 to R107, R121) -/

/-- The bytes of Larder bank `i` from an in-bank offset, as stored; a word the codes cannot correct reads as NaN words
(R121, R208). -/
structure Operands where
  aRows : List Nat
  bRows : List Nat
  aScales : List Nat
  bScales : List Nat
  exps : Nat
  deriving DecidableEq, Repr

/-- One row in each of the 64 banks of core `c`, `n` bytes from in-bank offset `base`, as numbers (R121). -/
def readRows (s : State) (c base n : Nat) : Nat → State × List Nat × Bool
  | 0 => (s, [], true)
  | i + 1 =>
    let (s1, rows, ok) := readRows s c base n i
    let (s2, v, ok') := readMem s1 0 (larderAddr c + i * 2 ^ 15 + base) n
    (s2, rows ++ [v], ok && ok')

/-- Everything an interval of k-blocks `j0` to `j0 + p - 1` reads: the state after, the operands, and whether all of
it was readable (R121, R122). Scale rows and expansion data are read whole. -/
def readOperands (s : State) (c : Nat) (d : BitVec 512) (j0 p : Nat) : State × Operands × Bool :=
  let a := (mxElem (Mx.aFmt d)).getD .bf16
  let b := (mxElem (Mx.bFmt d)).getD .bf16
  let k := 64 * Mx.kb d
  let (s1, ar, ok1) := readRows s c (Mx.aBase d + 8 * a.width * j0) (8 * a.width * p) 64
  let (s2, br, ok2) := readRows s1 c (Mx.bBase d + 8 * b.width * j0) (8 * b.width * p) 64
  let (s3, asc, ok3) := if Mx.aScale d = 1 then readRows s2 c (Mx.aSbase d) (k / Mx.blk d) 64 else (s2, [], true)
  let (s4, bsc, ok4) := if Mx.bScale d = 1 then readRows s3 c (Mx.bSbase d) (k / Mx.blk d) 64 else (s3, [], true)
  let bytes := match Mx.expand d with
    | 1 => 32
    | 2 => 64 * (k / 128) * 32
    | 3 => 64 * (k / Mx.group d) * 4
    | _ => 0
  let (s5, ex, ok5) := readMem s4 0 (larderAddr c + Mx.expBase d) bytes
  (s5, ⟨ar, br, asc, bsc, ex⟩, ok1 && ok2 && ok3 && ok4 && ok5)

/-- Element a[m][k] of an interval that starts at k-block `j0` (R121). -/
def operandA (d : BitVec 512) (o : Operands) (j0 m k : Nat) : Num :=
  let t := (mxElem (Mx.aFmt d)).getD .bf16
  t.num (packedElem t (o.aRows.getD m 0) (k - 64 * j0))

/-- Element b[k][n] of an interval, expanded where the descriptor expands (R105 to R107, R121). -/
def operandB (d : BitVec 512) (o : Operands) (j0 n k : Nat) : Num :=
  let t := (mxElem (Mx.bFmt d)).getD .bf16
  let q := packedElem t (o.bRows.getD n 0) (k - 64 * j0)
  let tgt := mxTarget (Mx.target d)
  let kAll := 64 * Mx.kb d
  match Mx.expand d with
  | 0 => t.num q
  | 1 => tgt.num (fld o.exps (16 * q) tgt.width)
  | 2 => tgt.num (fld o.exps (8 * 32 * (n * (kAll / 128) + k / 128) + 16 * q) tgt.width)
  | _ =>
    let w := fld o.exps (8 * 4 * (n * (kAll / Mx.group d) + k / Mx.group d)) 32
    match tgt.fmt with
    | some f => decode f (rne f (scaleZero w q))
    | none => .nan

/-- The block-scale exponent an operand contributes at element `k`, none for NaN (R129). -/
def scaleExp (scales : List Nat) (blockScaled : Bool) (row blk k : Nat) : Option Int :=
  if blockScaled then e8m0Exp (fld (scales.getD row 0) (8 * (k / blk)) 8) else some 0

/-- One product of cell (m, n) at `k`, with the combined block scale applied (R128, R129). -/
def cellProduct (d : BitVec 512) (o : Operands) (j0 m n k : Nat) : Num :=
  match scaleExp o.aScales (Mx.aScale d == 1) m (Mx.blk d) k,
        scaleExp o.bScales (Mx.bScale d == 1) n (Mx.blk d) k with
  | some ga, some gb => ((operandA d o j0 m k).mul (operandB d o j0 n k)).scale (ga + gb)
  | _, _ => .nan

/-- The exact sum of one cycle's products, from `k0`, added to a value (R128, R130). -/
def cycleSum (d : BitVec 512) (o : Operands) (j0 m n k0 : Nat) (acc : Num) : Nat → Num
  | 0 => acc
  | i + 1 => (cycleSum d o j0 m n k0 acc i).add (cellProduct d o j0 m n (k0 + i))

/-- The accumulator format of a rate (R120). -/
def cellFmt (np : Nat) : Fmt := if np = 1 then .fp32 else .a20

/-- The accumulator of cell (m, n) after `t` more cycles of an interval whose first `from'` cycles left it at `acc`, as a
code of its format: one rounding a cycle (R128, R131). -/
def cellRun (d : BitVec 512) (o : Operands) (np j0 m n from' acc : Nat) : Nat → Nat
  | 0 => acc
  | t + 1 =>
    let f := cellFmt np
    rne f (cycleSum d o j0 m n (64 * j0 + np * (from' + t)) (decode f (cellRun d o np j0 m n from' acc t)) np)

/-- What cell (m, n) drains after an interval of `p` k-blocks of which `from'` cycles had left `acc`: an exact value
(R97, R132). -/
def cellDrain (d : BitVec 512) (o : Operands) (np j0 p m n from' acc : Nat) : Num :=
  decode (cellFmt np) (cellRun d o np j0 m n from' acc (64 * p / np - from'))

/-- An accumulator as the FP32 word of its value: an A20 encoding is the 20 high bits of it (R97). -/
def cellWord (np code : Nat) : Word := BitVec.ofNat 32 (if np = 1 then code else code * 2 ^ 12)

/-- The accumulator of cell (m, n) that a run resumes with: the 12 low bits of an A20 value's word are dropped; +0 where no
switch has caught the interval (R97, R128). -/
def MatrixRun.accCode (r : MatrixRun) (np m n : Nat) : Nat :=
  let w := (r.acc.getD (64 * m + n) 0).toNat
  if np = 1 then w else w / 2 ^ 12

/-! ## The Tally (R133, R134) -/

/-- The address of word (m, n) of Tally slot `sl` of core `c` (R133, R154). -/
def tallyWord (c sl m n : Nat) : Nat := tallyAddr c + 4096 * m + 4 * (64 * sl + n)

/-- A Tally slot's state (R134). -/
def slotState (k : Core) (sl : Nat) : SlotState := tget .clear sl k.slots

/-- A Tally slot's state set (R134). -/
def Core.setSlot (k : Core) (sl : Nat) (v : SlotState) : Core := { k with slots := tset .clear sl v k.slots }

/-- The word a drain writes over the old word `t` (R133). -/
def drainWord (overwrite : Bool) (v : Num) (st t : Word) : Word :=
  let p := v.mul (f32 st)
  if overwrite then toF32 p else toF32 ((f32 t).add p)

/-- Row `m` of a slot rewritten by a drain: the old words read, each new word formed, the 64 words written (R133). -/
def drainRow (s : State) (c sl m : Nat) (fresh overwrite : Bool) (st : Word) (row : Nat → Num) : State :=
  let a := tallyWord c sl m 0
  let (s1, old, _) := if fresh || overwrite then (s, 0, true) else readMem s 0 a 256
  let ws := (List.range 64).map (fun n => (drainWord overwrite (row n) st (BitVec.ofNat 32 (fld old (32 * n) 32))).toNat)
  writeMem s1 0 a 256 (packCodes 32 ws)

/-- Every row of a slot rewritten by a drain, in row order. -/
def drainTile (s : State) (c sl : Nat) (fresh overwrite : Bool) (st : Word) (v : Nat → Nat → Num) : Nat → State
  | 0 => s
  | m + 1 => drainRow (drainTile s c sl fresh overwrite st v m) c sl m fresh overwrite st (v m)

/-- Every word of a slot set to NaN: the final drain of a descriptor that read an uncorrectable operand. -/
def drainNan (s : State) (c sl : Nat) : State :=
  (List.range 64).foldl (fun s m => writeMem s 0 (tallyWord c sl m 0) 256 (packCodes 32 (List.replicate 64 nan32.toNat))) s

/-! ## Meanings -/

/-- The σ of a legacy scale slot of a context (R174). -/
def sigmaOf (s : State) (ctx slot : Nat) : Word := (tget TScale.reset (32 * ctx + slot) s.tscales).sigma

/-- MATRIX: the entry launches; its descriptor is read and checked, and it takes the pending slot, refused or not
(R41, R49, R123, R126, R127). -/
def execMatrix (core' : Fin 512) (s : State) : Host.Outcome State Fault Refusal :=
  let c := core'.val
  .next (launch s c .matrix (fun k _ => k.mxPend.isNone) (fun s' e =>
    let desc := entArg e 0 16
    if cellarBusy s' (c / 128) then
      advanceHead (cellarEnd s' c 0x01 desc (entArg e 16 8)) c
    else
    let (s1, img, bad) := readDesc s' c desc
    let image := img.getD 0
    let reason := match img with
      | none => 0x01
      | some d => if bad then 0x02 else mxCheck d
    let s2 := if reason = 0 then s1
      else incReg (descFault s1 c reason 0x01 desc) .core c Off.coreMxFaultCount
    advanceHead (updCore s2 c (fun k =>
      { k with mxPend := some ⟨desc, image, reason, entArg e 16 8, resident s', false⟩ })) c))

/-- Whether the engines of core `c` begin new work: they proceed, and no switch-out has begun (R160, R361). -/
def coreIssues (s : State) (c : Nat) : Bool := coreClocked s c && s.switch.phase != .draining

/-- Whether a descriptor in the array has drained its last interval. -/
def MatrixRun.drained (r : MatrixRun) : Bool := decide (Mx.kb r.image ≤ r.kdone)

/-- MATRIX_START: the pending descriptor begins its feed once the array is free and its slot is not EMITTED; waiting
for the slot is counted once (R133, R134, R136). A descriptor that has drained and still waits to push or complete holds
neither the running nor the pending slot once the next one feeds (R134; DEDUCED, log entry 106). -/
def execMatrixStart (core' : Fin 512) (s : State) : Host.Outcome State Fault Refusal :=
  let c := core'.val
  let k := core s c
  match k.mxPend with
  | none => .next s
  | some p =>
    let free := match k.mxRuns with
      | [] => true
      | [r] => r.drained && !r.pushWait
      | _ => false
    let sl := Mx.slot p.image
    let free := free && coreIssues s c
    let emitting := k.mxRuns.any (fun r => Mx.mode r.image == 2 && Mx.slot r.image == sl)
    if p.refused ≠ 0 ∨ !free then .next s
    else if slotState k sl = .emitted ∨ emitting then
      if p.waited then .next s
      else .next (incReg (updCore s c (fun k => { k with mxPend := some { p with waited := true } }))
        .core c Off.coreMxSlotWaitCount)
    else
      let one : Word := 0x3F800000
      let sa := if Mx.aScale p.image = 2 then sigmaOf s p.ctx (df p.image 48 5) else one
      let sb := if Mx.bScale p.image = 2 then sigmaOf s p.ctx (df p.image 53 5) else one
      let r : MatrixRun := ⟨p.desc, p.image, p.flag, p.ctx, 2 ^ k.heldPromote, fmul sa sb, 0, 0, [], false, false, false⟩
      .next (updCore s c (fun k => { k with mxPend := none, mxRuns := k.mxRuns ++ [r] }))

/-- The descriptor an interval drains: the first in the array that has not drained its last. -/
def feeding (k : Core) : Option MatrixRun := k.mxRuns.find? (fun r => !r.drained)

/-- PROMOTION_DRAIN: a promotion interval ends and the cells' sums drain into the Tally slot; the final drain of a
descriptor whose operands met an uncorrectable error writes NaN (R128 to R134). -/
def execPromotionDrain (core' : Fin 512) (s : State) : Host.Outcome State Fault Refusal :=
  let c := core'.val
  let k := core s c
  match feeding k with
  | none => .next s
  | some r => clocked s c (
    let d := r.image
    let np := mxRate d
    let p := min r.promote (Mx.kb d - r.kdone)
    let (s1, o, ok) := readOperands s c d r.kdone p
    let bad := r.poisoned || !ok
    let sl := Mx.slot d
    let fresh := slotState k sl == .clear
    let overwrite := Mx.mode d == 1 && r.kdone == 0
    let s2 := drainTile s1 c sl fresh overwrite r.scale
      (fun m n => cellDrain d o np r.kdone p m n r.cycles (r.accCode np m n)) 64
    let r' := { r with kdone := r.kdone + p, cycles := 0, acc := [], poisoned := bad }
    let s3 := if r'.drained && bad then drainNan s2 c sl else s2
    let s4 := countActivity (addReg64 s3 .core c Off.coreMxActiveLo (64 * p / np - r.cycles)) (c / 128) 16 1
    .next (updCore s4 c (fun k =>
      { (k.setSlot sl (if slotState k sl = .clear then .held else slotState k sl)) with
        mxRuns := k.mxRuns.map (fun x => if x = r then r' else x) })))

/-- TILE_QUEUE_PUSH: the oldest descriptor, ACCUMULATE_AND_EMIT and drained, pushes its entry into the 8-entry tile
queue and its slot is EMITTED; a push that waits for room is counted once (R134). -/
def execTileQueuePush (core' : Fin 512) (s : State) : Host.Outcome State Fault Refusal :=
  let c := core'.val
  let k := core s c
  match k.mxRuns with
  | [] => .next s
  | r :: rest =>
    if Mx.mode r.image ≠ 2 ∨ !r.drained ∨ r.pushed ∨ !coreClocked s c then .next s
    else if 8 ≤ k.tiles.length then
      if r.pushWait then .next s
      else .next (incReg (updCore s c (fun k => { k with mxRuns := { r with pushWait := true } :: rest }))
        .core c Off.coreMxQueueWaitCount)
    else
      .next (updCore s c (fun k =>
        { (k.setSlot (Mx.slot r.image) .emitted) with
          mxRuns := { r with pushed := true } :: rest,
          tiles := k.tiles ++ [⟨Mx.slot r.image, r.desc⟩] }))

/-- MATRIX_COMPLETE: the oldest descriptor has finished its final drain, and its push where it emits: its flag is
incremented (R82, R134). -/
def execMatrixComplete (core' : Fin 512) (s : State) : Host.Outcome State Fault Refusal :=
  let c := core'.val
  match (core s c).mxRuns with
  | [] => .next s
  | r :: rest =>
    if r.drained ∧ (Mx.mode r.image ≠ 2 ∨ r.pushed) ∧ coreClocked s c then
      .next (updCore s c (fun k => bumpFlag { k with mxRuns := rest } r.flag r.poisoned))
    else .next s

/-- MATRIX_REFUSED_COMPLETE: a refused descriptor completes poisoned once no earlier one runs (R127). -/
def execMatrixRefusedComplete (core' : Fin 512) (s : State) : Host.Outcome State Fault Refusal :=
  let c := core'.val
  let k := core s c
  match k.mxPend with
  | none => .next s
  | some p =>
    if p.refused ≠ 0 ∧ k.mxRuns.isEmpty ∧ (coreClocked s c ∨ coreOffline s c) then
      .next (updCore s c (fun k => bumpFlag { k with mxPend := none } p.flag true))
    else .next s

/-- TALLY_CLEAR: a write of the register sets each named slot CLEAR; refused while the owning context runs (R134,
R138). -/
def writeTallyClear (s : State) (c : Nat) (v : Word) : State :=
  if fld v.toNat 16 16 ≠ 0 then refuse s .core c 0x01 Off.coreTallyClear
  else if contextRuns s (resident s) then refuse s .core c 0x08 Off.coreTallyClear
  else updCore s c (fun k => (bitsOf 16 v.toNat).foldl (fun k sl => k.setSlot sl .clear) k)

end Sys2Proof.Machine
end

