-- ==== Sys2Proof/Machine/Vector.lean ====
section
/-!
DEFINITION. The vector engine (R140 to R163): descriptors and their checks, the tile queue's hand-off, every
instruction of R147, run-time faults, and the lane generators (R115 to R119).
-/
namespace Sys2Proof.Machine

/-! ## Descriptors (R141, R143) -/

namespace Vx
/-- START. -/
def start (d : BitVec 512) : Nat := df d 0 11
/-- KIND. -/
def kind (d : BitVec 512) : Nat := df d 16 2
/-- TILE. -/
def tile (d : BitVec 512) : Bool := df d 18 1 == 1
/-- SRC of a LOAD. -/
def src (d : BitVec 512) : Nat := df d 64 21
/-- COUNT of a LOAD. -/
def count (d : BitVec 512) : Nat := df d 96 12
end Vx

/-- The reason a VECTOR descriptor image is refused, 0 when it passes (R143). The fields a LOAD leaves at 0 are judged
with the reserved ones. -/
def vxCheck (d : BitVec 512) : Nat :=
  if df d 11 5 ≠ 0 ∨ df d 19 45 ≠ 0 ∨ df d 320 192 ≠ 0 ∨ (Vx.kind d = 1 ∧ (df d 85 11 ≠ 0 ∨ df d 108 212 ≠ 0)) then 0x02
  else if 2 ≤ Vx.kind d ∨ (Vx.kind d = 1 ∧ Vx.tile d) then 0x06
  else if Vx.kind d = 1 ∧ Vx.src d % 8 ≠ 0 then 0x08
  else if Vx.kind d = 1 ∧ (Vx.count d = 0 ∨ 2048 < Vx.start d + Vx.count d ∨ 2 ^ 21 < Vx.src d + 8 * Vx.count d) then 0x0B
  else 0

/-! ## Lane generators (R115 to R117) -/

/-- Every lane generator of core `c` seeded with step number `n` (R116). -/
def seedCore (s : State) (c n : Nat) : State :=
  let seed := reg64 s .context (resident s) Off.contextSrSeedLo
  updCore s c (fun k =>
    { k with vec := { k.vec with gens := (List.range 64).foldl (fun t l => tset 0 l (seedLane seed n c l) t) k.vec.gens } })

/-- A seed held for its place in the launch order, applied when there is one. -/
def seedHeld (s : State) (c : Nat) : Option Nat → State
  | some n => seedCore s c n
  | none => s

/-- One use of lane `l`'s generator with `k` bits: the generators after, and the random integer (R115). -/
def drawLane (t : Table DWord) (l k : Nat) : Table DWord × Nat :=
  let g := lfsrUse (tget 0 l t)
  (tset 0 l g t, lfsrDraw k g)

/-- One use of each of the lanes listed, in order (R117). -/
def drawLanes (t : Table DWord) (k : Nat) : List Nat → Table DWord × List Nat
  | [] => (t, [])
  | l :: ls =>
    let (t1, r) := drawLane t l k
    let (t2, rs) := drawLanes t1 k ls
    (t2, r :: rs)

/-! ## Registers (R140) -/

/-- Lane `i` of vector register `r`. -/
def VecState.lane (v : VecState) (r i : Nat) : Word := (tget zeroLanes r v.v).getD i 0
/-- Mask register `m`; M0 reads as all ones (R140). -/
def VecState.mask (v : VecState) (m : Nat) : Nat := if m = 0 then 2 ^ 64 - 1 else (tget 0 m v.m).toNat
/-- Address register `a`. -/
def VecState.addr (v : VecState) (a : Nat) : Nat := (tget 0 a v.a).toNat
/-- Instruction `i` of the program store. -/
def VecState.inst (v : VecState) (i : Nat) : Nat := (tget 0 i v.prog).toNat

/-- The enabled lanes of vector register `r` set by `f`; the others keep their values (R148). -/
def VecState.setLanes (v : VecState) (r en : Nat) (f : Nat → Word) : VecState :=
  { v with v := tset zeroLanes r ((List.range 64).map (fun i => if en.testBit i then f i else v.lane r i)) v.v }

/-- The enabled bits of mask register `m` set by `f`; the others keep their values (R148). -/
def VecState.setMask (v : VecState) (m en : Nat) (f : Nat → Bool) : VecState :=
  let bits := (List.range 64).foldl
    (fun n i => n + b2n (if en.testBit i then f i else (v.mask m).testBit i) * 2 ^ i) 0
  { v with m := tset 0 m (BitVec.ofNat 64 bits) v.m }

/-! ## Instruction fields (R146) -/

namespace Vi
/-- OPC. -/
def opc (w : Nat) : Nat := fld w 58 6
/-- MK. -/
def mk (w : Nat) : Nat := fld w 55 3
/-- VD of the arithmetic layout; V of the memory layout. -/
def vd (w : Nat) : Nat := fld w 49 6
/-- VA. -/
def va (w : Nat) : Nat := fld w 43 6
/-- VB. -/
def vb (w : Nat) : Nat := fld w 37 6
/-- VC. -/
def vc (w : Nat) : Nat := fld w 31 6
/-- IMM. -/
def imm (w : Nat) : Nat := fld w 0 31
/-- AN. -/
def an (w : Nat) : Nat := fld w 45 4
/-- AS. -/
def as' (w : Nat) : Nat := fld w 41 4
/-- FMT. -/
def fmt (w : Nat) : Nat := fld w 37 4
/-- RND. -/
def rnd (w : Nat) : Bool := w.testBit 36
/-- SR_BITS − 1. -/
def sr (w : Nat) : Nat := fld w 32 4
/-- BLK. -/
def blk (w : Nat) : Nat := fld w 30 2
/-- STRIDE. -/
def stride (w : Nat) : Nat := fld w 15 15
/-- OFF. -/
def off (w : Nat) : Int := sgn 15 w
end Vi

/-- The opcodes of R147. -/
def vxListed (opc : Nat) : Bool := decide (opc ≤ 0x26) || (decide (0x30 ≤ opc) && decide (opc ≤ 0x35)) || opc == 0x3F

/-- How an instruction uses its VA, VB and VC fields. -/
inductive SrcUse where
  | unused | vector | mask
  deriving DecidableEq, Repr

/-- Whether a source field obeys its use: 0 when unused, three bits when it names a mask (R146). -/
def SrcUse.ok (u : SrcUse) (x : Nat) : Bool :=
  match u with
  | .unused => x == 0
  | .vector => true
  | .mask => decide (x < 8)

/-- Whether the source fields and the upper immediate bits of an arithmetic instruction are in order: `bits` immediate
bits are used (R146, R160). -/
def srcOk (w : Nat) (a b c : SrcUse) (bits : Nat) : Bool :=
  a.ok (Vi.va w) && b.ok (Vi.vb w) && c.ok (Vi.vc w) && decide (Vi.imm w < 2 ^ bits)

/-- Whether VD names a mask register that may be written (R146, R148). -/
def maskDestOk (w : Nat) : Bool := decide (Vi.vd w < 8) && Vi.vd w != 0

/-! ## Issue (R142, R157, R160, R162) -/

/-- The run that issues on a core: the last descriptor, when it is a RUN that has its tile, has not ended and does not wait
in a TREL (R142, R144, R145). -/
def issuing (k : Core) : Option VecRun :=
  match k.vxRuns.getLast? with
  | some r => if r.load || r.needTile || r.ended || r.trel then none else some r
  | none => none

/-- The last run of a core replaced. -/
def Core.setRun (k : Core) (r : VecRun) : Core := { k with vxRuns := k.vxRuns.dropLast ++ [r] }

/-- Issue stops: the run ends, its loop levels stay with the engine, and a SEED that waits for it is applied (R117, R140, R159,
R160). -/
def endRun (s : State) (c : Nat) (r : VecRun) (poison : Bool) : State :=
  let held := (core s c).seedBefore
  let s1 := updCore s c (fun k =>
    { (k.setRun { r with ended := true, poisoned := r.poisoned || poison }) with
      seedBefore := none, vec := { k.vec with loops := r.loops } })
  seedHeld s1 c held

/-- A run-time fault: the registers, the count and the record, and issue stops (R160). -/
def vecFault (s : State) (c : Nat) (r : VecRun) (reason pc : Nat) : State :=
  let s1 := setRf (setRf s .core c Off.coreVxFault 0 11 pc) .core c Off.coreVxFault 16 8 reason
  let s2 := incReg (descFault s1 c reason 0x02 r.desc) .core c Off.coreVxFaultCount
  endRun s2 c r true

/-- The next instruction after one at `n - 1`: back to a body's start while iterations remain (R157). -/
def vecAdvance : List VecLoop → Nat → List VecLoop × Nat
  | [], n => ([], n)
  | f :: fs, n =>
    if n = f.start + f.body then
      if f.iter + 1 < f.count then ({ f with iter := f.iter + 1 } :: fs, f.start) else vecAdvance fs n
    else (f :: fs, n)

/-- The run moves past its instruction; past index 2,047 it faults (R160). -/
def vecNext (s : State) (c : Nat) (r : VecRun) (poison : Bool) : State :=
  let (ls, pc) := vecAdvance r.loops (r.pc + 1)
  let r1 := { r with loops := ls, pc := pc, poisoned := r.poisoned || poison }
  if 2048 ≤ pc then vecFault s c r1 0x21 2047 else updCore s c (fun k => k.setRun r1)

/-- The issue of instruction `w` counted: VX_ISSUE, and the activity of the pipe it goes to; an instruction of the
transcendental unit holds it for 4 cycles (R158, R380; log entry 115). -/
def countIssue (s : State) (c w : Nat) : State :=
  let mem := decide (0x30 ≤ Vi.opc w ∧ Vi.opc w ≤ 0x32)
  let s1 := countActivity (addReg64 s .core c Off.coreVxIssueLo 1) (c / 128) (if mem then 26 else 20) 1
  if 0x0A ≤ Vi.opc w ∧ Vi.opc w ≤ 0x0D then countActivity s1 (c / 128) 31 4 else s1

/-- The engine of core `c` issues its next instruction when its opcode is one that `mine` names: the issue is counted;
`act` gives the state after and whether the flag is poisoned, or the reason of a fault (R160). -/
def vecIssue (s : State) (c : Nat) (mine : Nat → Bool) (act : State → VecRun → Nat → Except Nat (State × Bool)) : State :=
  match issuing (core s c) with
  | none => s
  | some r =>
    let w := (core s c).vec.inst r.pc
    if !coreIssues s c || !mine (Vi.opc w) then s
    else
      let s1 := countIssue s c w
      match act s1 r w with
      | .error reason => vecFault s1 c r reason r.pc
      | .ok (s2, poison) => vecNext s2 c r poison

/-- An ALU instruction: `ok` is its field check; `f` its effect on the engine's state (R146, R148, R160). -/
def vecAlu (c opc : Nat) (ok : Nat → Bool) (f : VecState → Nat → Nat → VecState) (s : State) : State :=
  vecIssue s c (· == opc) (fun s _ w =>
    if ok w then
      .ok (updCore s c (fun k => { k with vec := f k.vec w (k.vec.mask (Vi.mk w)) }), false)
    else .error 0x20)

/-- A lane operation on VA and VB (R147). -/
def laneOp2 (c opc : Nat) (f : Word → Word → Word) (s : State) : State :=
  vecAlu c opc (fun w => srcOk w .vector .vector .unused 0)
    (fun v w en => v.setLanes (Vi.vd w) en (fun i => f (v.lane (Vi.va w) i) (v.lane (Vi.vb w) i))) s

/-- A lane operation on VA, VB and VC (R147). -/
def laneOp3 (c opc : Nat) (f : Word → Word → Word → Word) (s : State) : State :=
  vecAlu c opc (fun w => srcOk w .vector .vector .vector 0)
    (fun v w en => v.setLanes (Vi.vd w) en
      (fun i => f (v.lane (Vi.va w) i) (v.lane (Vi.vb w) i) (v.lane (Vi.vc w) i))) s

/-- A lane operation on VA with `bits` immediate bits and a further check of the immediate (R147). -/
def laneOp1 (c opc bits : Nat) (ok : Nat → Bool) (f : Nat → Word → Word) (s : State) : State :=
  vecAlu c opc (fun w => srcOk w .vector .unused .unused bits && ok (Vi.imm w))
    (fun v w en => v.setLanes (Vi.vd w) en (fun i => f (Vi.imm w) (v.lane (Vi.va w) i))) s

/-- A comparison of VA and VB into a mask register (R147). -/
def laneCmp (c opc : Nat) (f : Nat → Word → Word → Bool) (s : State) : State :=
  vecAlu c opc (fun w => srcOk w .vector .vector .unused 3 && maskDestOk w && decide (Vi.imm w ≤ 5))
    (fun v w en => v.setMask (Vi.vd w) en (fun i => f (Vi.imm w) (v.lane (Vi.va w) i) (v.lane (Vi.vb w) i))) s

/-- A logical operation on mask registers (R147). -/
def maskOp (c opc : Nat) (b : SrcUse) (f : Bool → Bool → Bool) (s : State) : State :=
  vecAlu c opc (fun w => srcOk w .mask b .unused 0 && maskDestOk w)
    (fun v w en => v.setMask (Vi.vd w) en
      (fun i => f ((v.mask (Vi.va w)).testBit i) ((v.mask (Vi.vb w)).testBit i))) s

/-! ## Arithmetic (R149 to R153) -/

/-- IEEE 754 minimum: NaN if an operand is NaN, −0 below +0 (R149). -/
def fmin (a b : Word) : Word :=
  let x := f32 a
  let y := f32 b
  if x.isNan || y.isNan then nan32 else if x.lt y || (x.eqv y && x.isNeg) then a else b

/-- IEEE 754 maximum: NaN if an operand is NaN, −0 below +0 (R149). -/
def fmax (a b : Word) : Word :=
  let x := f32 a
  let y := f32 b
  if x.isNan || y.isNan then nan32 else if y.lt x || (x.eqv y && !x.isNeg) then a else b

/-- Fused multiply and add, rounded once (R147). -/
def ffma (a b c : Word) : Word := toF32 (((f32 a).mul (f32 b)).add (f32 c))

/-- A floating-point condition (R147, R149). -/
def fcond (k : Nat) (a b : Word) : Bool :=
  let x := f32 a
  let y := f32 b
  match k with
  | 0 => x.eqv y
  | 1 => !x.eqv y
  | 2 => x.lt y
  | 3 => x.lt y || x.eqv y
  | 4 => y.lt x
  | _ => y.lt x || x.eqv y

/-- A signed integer condition (R147). -/
def icond (k : Nat) (a b : Word) : Bool :=
  match k with
  | 0 => a == b
  | 1 => a != b
  | 2 => decide (a.toInt < b.toInt)
  | 3 => decide (a.toInt ≤ b.toInt)
  | 4 => decide (b.toInt < a.toInt)
  | _ => decide (b.toInt ≤ a.toInt)

/-- One level of a reduction tree: adjacent pairs combined. -/
def redLevel (f : Word → Word → Word) : List Word → List Word
  | a :: b :: l => f a b :: redLevel f l
  | l => l

/-- The reduction tree of R151, six levels. -/
def redTree (f : Word → Word → Word) (l : List Word) : Word :=
  (redLevel f (redLevel f (redLevel f (redLevel f (redLevel f (redLevel f l)))))).headD 0

/-- The operation of a RED, and what a disabled lane enters as (R151). -/
def redOp : Nat → (Word → Word → Word) × Word
  | 0 => (fadd, 0x80000000)
  | 1 => (fmin, 0x7F800000)
  | _ => (fmax, 0xFF800000)

/-- Widths of PACK and UNPACK (R153). -/
def packWidth (w : Nat) : Bool := [2, 3, 4, 6, 8, 16].contains w

/-- The stream PACK forms (R101, R153). -/
def packStream (v : VecState) (r w : Nat) : Nat := packCodes w ((List.range 64).map (fun i => (v.lane r i).toNat))

/-- The stream in the lanes of a register, lane 0 lowest. -/
def laneStream (v : VecState) (r : Nat) : Nat := packCodes 32 ((List.range 64).map (fun i => (v.lane r i).toNat))

/-- The element type of a conversion code (R152). -/
def cvtElem (code : Nat) : Option Elem :=
  if (1 ≤ code ∧ code ≤ 7) ∨ (0xB ≤ code ∧ code ≤ 0xD) then
    match vfmtOf code with
    | some (.elem t) => some t
    | _ => none
  else none

/-- CVT on the enabled lanes, in lane order; no histogram records it, as CVT is no output writer, to an integer code either
(R113, R117, R152, R156, R177; DEDUCED, log entry 108). -/
def cvtLanes (t : Elem) (sr : Option Nat) (v : VecState) (vd va en : Nat) : VecState :=
  let lanes := bitsOf 64 en
  match sr with
  | none => v.setLanes vd en (fun i => BitVec.ofNat 32 (narrow t none (f32 (v.lane va i))))
  | some k =>
    let (g, rs) := drawLanes v.gens k lanes
    let draws := lanes.zip rs
    { (v.setLanes vd en (fun i =>
        BitVec.ofNat 32 (narrow t (some (k, (draws.lookup i).getD 0)) (f32 (v.lane va i))))) with gens := g }

/-! ## Memory instructions (R154 to R156) -/

/-- The cellar address of lane `i`, in full (R154). -/
def laneAddr (base : Nat) (w e i : Nat) : Int := (base : Int) + Vi.off w + ((i * Vi.stride w * e : Nat) : Int)

/-- The memory addresses of the enabled lanes of an LD or ST of `e`-byte elements, or the reason it faults: every lane's
address in its space, every lane's address aligned, the format allowed in the Tally (R154, R155, R160). -/
def laneAddrs (s : State) (c base w e en : Nat) (tallyOk : Bool) : Except Nat (List (Nat × Nat)) :=
  let lanes := bitsOf 64 en
  let at' := fun i =>
    let a := laneAddr base w e i
    if a < 0 ∨ a.toNat / 2 ^ 30 ≠ base / 2 ^ 30 then none else cellarRange s c a.toNat e
  if base / 2 ^ 30 = 3 ∨ (List.range 64).any (fun i => (at' i).isNone) then .error 0x22
  else if (List.range 64).any (fun i => (laneAddr base w e i).toNat % e ≠ 0) then .error 0x23
  else if base / 2 ^ 30 = 1 ∧ !tallyOk then .error 0x24
  else .ok (lanes.map (fun i => (i, (at' i).getD 0)))

/-- Each codeword of a list of codeword numbers read once, in ascending order: the state after and what each
delivered. -/
def readWordSet (s : State) : List Nat → State × Table (Nat × Bool)
  | [] => (s, [])
  | w :: ws =>
    let (s1, t) := readWordSet s ws
    if (tget (0, false) w t) ≠ (0, false) then (s1, t)
    else
      let (s2, v, ok) := readWord s1 0 w
      (s2, tset (0, false) w (v, ok) t)

/-- Words to be written, by codeword number: the bytes and the mask of those supplied. -/
abbrev WriteSet := Table (Nat × Nat)

/-- `n` bytes within one codeword added to a write set, over any bytes already there. -/
def WriteSet.put (t : WriteSet) (a n v : Nat) : WriteSet :=
  let (d, m) := tget (0, 0) (a / 16) t
  let k := a % 16
  tset (0, 0) (a / 16) (setFld d (8 * k) (8 * n) v, setFld m k n (2 ^ n - 1)) t

/-- A write set written, in ascending order. -/
def writeSet (s : State) : WriteSet → State
  | [] => s
  | (w, d, m) :: t => writeSet (writeWord s 0 w d m) t

/-- LD (R155). -/
def vecLoad (s : State) (c : Nat) (w : Nat) : Except Nat (State × Bool) :=
  let v := (core s c).vec
  match vfmtOf (Vi.fmt w) with
  | none => .error 0x20
  | some f =>
    let accepted := decide (Vi.fmt w ≤ 4) || (decide (8 ≤ Vi.fmt w) && decide (Vi.fmt w ≤ 10)) || Vi.fmt w == 0xE
    if !accepted || Vi.as' w != 0 || Vi.rnd w || Vi.sr w != 0 || Vi.blk w != 0 then .error 0x20
    else
      let e := f.width / 8
      let en := v.mask (Vi.mk w)
      match laneAddrs s c (v.addr (Vi.an w)) w e en (f == .elem .fp32 || f == .raw 32) with
      | .error r => .error r
      | .ok lanes =>
        let (s1, t) := readWordSet s ((lanes.map (fun l => l.2 / 16)).reverse)
        let word := fun i =>
          match lanes.lookup i with
          | none => (0 : Word)
          | some a =>
            let (x, ok) := tget (0, false) (a / 16) t
            if ok then f.widen (fld x (8 * (a % 16)) f.width) else nan32
        .ok (updCore s1 c (fun k => { k with vec := k.vec.setLanes (Vi.vd w) en word }), t.any (fun p => !p.2.2))

/-- ST (R156). -/
def vecStore (s : State) (c : Nat) (r : VecRun) (w : Nat) : Except Nat (State × Bool) :=
  let v := (core s c).vec
  match vfmtOf (Vi.fmt w) with
  | none => .error 0x20
  | some f =>
    let accepted := decide (Vi.fmt w ≤ 4) || (decide (8 ≤ Vi.fmt w) && decide (Vi.fmt w ≤ 10))
    let stochasticOk := !Vi.rnd w || (1 ≤ Vi.fmt w && Vi.fmt w ≤ 4)
    if !accepted || !stochasticOk || Vi.as' w != 0 || Vi.blk w != 0 || (!Vi.rnd w && Vi.sr w != 0) then .error 0x20
    else
      let e := f.width / 8
      let en := v.mask (Vi.mk w)
      match laneAddrs s c (v.addr (Vi.an w)) w e en (f == .elem .fp32 || f == .raw 32) with
      | .error x => .error x
      | .ok lanes =>
        let k := Vi.sr w + 1
        let (g, rs) := if Vi.rnd w then drawLanes v.gens k (lanes.map Prod.fst) else (v.gens, lanes.map (fun _ => 0))
        let code := fun (x : Word) (d : Nat) => match f with
          | .elem t => narrow t (if Vi.rnd w then some (k, d) else none) (f32 x)
          | _ => x.toNat % 2 ^ f.width
        let ws : WriteSet := (lanes.zip rs).foldl
          (fun t p => WriteSet.put t p.1.2 e (code (v.lane (Vi.vd w) p.1.1) p.2)) []
        let s1 := writeSet s ws
        let s2 := updCore s1 c (fun k => { k with vec := { k.vec with gens := g } })
        .ok (match f with
          | .elem _ => histRecord s2 c r.hist (lanes.map (fun l => v.lane (Vi.vd w) l.1))
          | _ => s2, false)

/-- Bytes at an address turned into a write set. -/
def bytesSet (a : Nat) : Nat → Nat → WriteSet
  | 0, _ => []
  | n + 1, v => WriteSet.put (bytesSet a n v) (a + n) 1 (fld v (8 * n) 8)

/-- STB: 64 elements of V, or 128 of V and V + 1, as blocks with measured scales (R156, R164, R165). -/
def vecStoreBlock (s : State) (c : Nat) (r : VecRun) (w : Nat) : Except Nat (State × Bool) :=
  let v := (core s c).vec
  let wide := Vi.blk w == 3
  match vfmtOf (Vi.fmt w) with
  | some (.elem t) =>
    if !t.isBlock || Vi.mk w != 0 || Vi.off w != 0 || Vi.stride w != 0 || (wide && Vi.vd w == 63)
        || (!Vi.rnd w && Vi.sr w != 0) then .error 0x20
    else
      let n := if wide then 128 else 64
      let b := 16 * 2 ^ Vi.blk w
      let aE := v.addr (Vi.an w)
      let aS := v.addr (Vi.as' w)
      let space := fun a => a / 2 ^ 30 == 0 || a / 2 ^ 30 == 2
      match cellarRange s c aE (n * t.width / 8), cellarRange s c aS (n / b) with
      | some pe, some ps =>
        if !space aE || !space aS then .error 0x22
        else
          let xs := (List.range n).map (fun i => v.lane (Vi.vd w + i / 64) (i % 64))
          let k := Vi.sr w + 1
          let (g, rs) := if Vi.rnd w then drawLanes v.gens k ((List.range n).map (· % 64)) else (v.gens, [])
          let blocks := chunks b (n / b) (xs.map f32)
          let draws := chunks b (n / b) rs
          let scales := blocks.map (measureScale t)
          let codes := ((blocks.zip scales).zip draws).flatMap (fun p =>
            blockCodes t p.1.2 (if Vi.rnd w then some (k, p.2) else none) p.1.1)
          let s1 := writeSet s (bytesSet pe (n * t.width / 8) (packCodes t.width codes))
          let s2 := writeSet s1 (bytesSet ps (n / b) (packCodes 8 scales))
          let s3 := updCore s2 c (fun k => { k with vec := { k.vec with gens := g } })
          .ok (histRecord s3 c r.hist xs, false)
      | _, _ => .error 0x22
  | _ => .error 0x20

/-- LOOP: its fields, its nesting and its body checked, its level opened; no issue cycle is spent on it (R157, R160). -/
def vecLoop (s : State) (c : Nat) : State :=
  match issuing (core s c) with
  | none => s
  | some r =>
    let v := (core s c).vec
    let w := v.inst r.pc
    let count := fld w 0 16
    let body := fld w 16 11
    if !coreIssues s c || Vi.opc w != 0x35 then s
    else if Vi.mk w ≠ 0 ∨ Vi.vd w ≠ 0 ∨ !srcOk w .unused .unused .unused 27 ∨ count = 0 ∨ body = 0 ∨ 2046 < body then
      vecFault s c r 0x20 r.pc
    else if 2 ≤ r.loops.length ∨ 2047 < r.pc + body ∨ r.loops.any (fun l => decide (l.start + l.body ≤ r.pc + body))
        ∨ (List.range body).any (fun i => Vi.opc (v.inst (r.pc + 1 + i)) == 0x3F) then
      vecFault s c r 0x25 r.pc
    else updCore s c (fun k => k.setRun { r with loops := ⟨r.pc + 1, body, count, 0⟩ :: r.loops, pc := r.pc + 1 })

/-! ## Descriptors: launch, start, completion -/

/-- The histogram slot later writers of a core record into (R178). -/
abbrev Core.histSlot (k : Core) : Nat := k.histSel

/-- VECTOR: the entry launches; its descriptor is read and checked, and it takes the pending slot, refused or not
(R41, R49, R141, R143). -/
def execVector (core' : Fin 512) (s : State) : Host.Outcome State Fault Refusal :=
  let c := core'.val
  .next (launch s c .vector (fun k _ => k.vxPend.isNone) (fun s' e =>
    let desc := entArg e 0 16
    if cellarBusy s' (c / 128) then advanceHead (cellarEnd s' c 0x02 desc (entArg e 16 8)) c
    else
    let (s1, img, bad) := readDesc s' c desc
    let image := img.getD 0
    let reason := match img with
      | none => 0x01
      | some d => if bad then 0x02 else vxCheck d
    let s2 := if reason = 0 then s1
      else incReg (descFault s1 c reason 0x02 desc) .core c Off.coreVxFaultCount
    advanceHead (updCore s2 c (fun k =>
      { k with vxPend := some ⟨desc, image, reason, entArg e 16 8, resident s', k.histSlot⟩ })) c))

/-- VECTOR_START: the pending descriptor begins once the one ahead has ended: a RUN loads A0 to A7; the loop levels are those
the engine holds (R117, R140, R142). -/
def execVectorStart (core' : Fin 512) (s : State) : Host.Outcome State Fault Refusal :=
  let c := core'.val
  let k := core s c
  match k.vxPend with
  | none => .next s
  | some p =>
    let free := match k.vxRuns with
      | [] => true
      | [r] => r.ended
      | _ => false
    if p.refused ≠ 0 ∨ !free ∨ !coreIssues s c then .next s
    else
      let load := Vx.kind p.image == 1
      let r : VecRun := ⟨p.desc, p.image, p.flag, p.ctx, p.hist, load, Vx.start p.image, k.vec.loops, Vx.tile p.image,
        false, false, false, false, false⟩
      let a := if load then k.vec.a
        else (List.range 8).foldl (fun t n => tset 0 n (BitVec.ofNat 32 (df p.image (64 + 32 * n) 32)) t) k.vec.a
      .next (updCore s c (fun k =>
        { k with
          vxPend := none, vxRuns := k.vxRuns ++ [r], vec := { k.vec with a := a },
          seedBefore := k.seedAfter, seedAfter := none }))

/-- VECTOR_REFUSED_COMPLETE: a refused descriptor completes poisoned once no VECTOR descriptor runs (R143). -/
def execVectorRefusedComplete (core' : Fin 512) (s : State) : Host.Outcome State Fault Refusal :=
  let c := core'.val
  let k := core s c
  match k.vxPend with
  | none => .next s
  | some p =>
    if p.refused ≠ 0 ∧ k.vxRuns.isEmpty ∧ (coreClocked s c ∨ coreOffline s c) then
      let s1 := updCore s c (fun k => bumpFlag { k with vxPend := none, seedAfter := none } p.flag true)
      .next (seedHeld s1 c k.seedAfter)
    else .next s

/-- LOAD_COMPLETE: a LOAD has copied its instructions: NaN words where a codeword was uncorrectable (R142, R208). -/
def execLoadComplete (core' : Fin 512) (s : State) : Host.Outcome State Fault Refusal :=
  let c := core'.val
  let k := core s c
  match k.vxRuns with
  | [] => .next s
  | r :: rest =>
    if !r.load then .next s
    else
      let n := Vx.count r.image
      let (s1, v, ok) := readMem s 0 (larderAddr c + Vx.src r.image) (8 * n)
      let s2 := updCore s1 c (fun k =>
        let prog := (List.range n).foldl
          (fun t i => tset 0 (Vx.start r.image + i) (BitVec.ofNat 64 (fld v (64 * i) 64)) t) k.vec.prog
        bumpFlag { k with vec := { k.vec with prog := prog }, vxRuns := rest, seedBefore := none } r.flag !ok)
      clocked s c (.next (seedHeld s2 c k.seedBefore))

/-- The run of a core that holds the head tile entry. -/
def holder (k : Core) : Option VecRun := k.vxRuns.find? (·.held)

/-- The held entry released: its slot CLEAR, its queue place free (R134, R145). -/
def releaseTile (k : Core) : Core :=
  match holder k with
  | none => k
  | some _ =>
    let k1 := match k.tiles with
      | t :: _ => k.setSlot t.slot .clear
      | [] => k
    { k1 with
      tiles := k.tiles.tail,
      vxRuns := k.vxRuns.map (fun r => if r.held then { r with held := false, trel := false } else r) }

/-- TILE_TAKE: a run that waits for its tile takes the head entry; with none present the wait is counted once (R142,
R144). -/
def execTileTake (core' : Fin 512) (s : State) : Host.Outcome State Fault Refusal :=
  let c := core'.val
  let k := core s c
  match k.vxRuns.getLast? with
  | none => .next s
  | some r =>
    if !r.needTile || (holder k).isSome || !coreIssues s c then .next s
    else match k.tiles with
      | [] =>
        if r.tileWaited then .next s
        else .next (incReg (updCore s c (fun k => k.setRun { r with tileWaited := true })) .core c Off.coreVxTileWaitCount)
      | t :: _ =>
        .next (updCore s c (fun k =>
          let k1 := k.setRun { r with needTile := false, held := true }
          { k1 with vec := { k1.vec with a := tset 0 15 (BitVec.ofNat 32 (0x40000000 + 256 * t.slot)) k1.vec.a } }))

/-- TILE_RELEASE: a held entry whose program has issued TREL is released (R145). -/
def execTileRelease (core' : Fin 512) (s : State) : Host.Outcome State Fault Refusal :=
  let c := core'.val
  match holder (core s c) with
  | none => .next s
  | some r => if r.trel then clocked s c (.next (updCore s c releaseTile)) else .next s

/-- VECTOR_COMPLETE: every store of an ended run has landed: its tile is released and its flag incremented (R82, R145,
R159, R160). -/
def execVectorComplete (core' : Fin 512) (s : State) : Host.Outcome State Fault Refusal :=
  let c := core'.val
  match (core s c).vxRuns with
  | [] => .next s
  | r :: _ =>
    if r.load || !r.ended then .next s
    else
      clocked s c (.next (updCore s c (fun k =>
        let k1 := if r.held then releaseTile k else k
        bumpFlag { k1 with vxRuns := k1.vxRuns.tail } r.flag r.poisoned)))

/-! ## The instructions (R147) -/

/-- NOP, and every reserved opcode, which faults BAD_INST (R147, R160). -/
def execNop (core' : Fin 512) (s : State) : Host.Outcome State Fault Refusal :=
  .next (vecIssue s core'.val (fun o => o == 0 || !vxListed o) (fun s _ w => if w = 0 then .ok (s, false) else .error 0x20))

/-- ADD. -/
def execAdd (core' : Fin 512) (s : State) : Host.Outcome State Fault Refusal := .next (laneOp2 core'.val 0x01 fadd s)
/-- SUB. -/
def execSub (core' : Fin 512) (s : State) : Host.Outcome State Fault Refusal :=
  .next (laneOp2 core'.val 0x02 (fun a b => toF32 ((f32 a).add (f32 b).neg)) s)
/-- MUL. -/
def execMul (core' : Fin 512) (s : State) : Host.Outcome State Fault Refusal := .next (laneOp2 core'.val 0x03 fmul s)
/-- FMA. -/
def execFma (core' : Fin 512) (s : State) : Host.Outcome State Fault Refusal := .next (laneOp3 core'.val 0x04 ffma s)
/-- FMS. -/
def execFms (core' : Fin 512) (s : State) : Host.Outcome State Fault Refusal :=
  .next (laneOp3 core'.val 0x05 (fun a b c => toF32 (((f32 a).mul (f32 b)).add (f32 c).neg)) s)
/-- MIN. -/
def execMin (core' : Fin 512) (s : State) : Host.Outcome State Fault Refusal := .next (laneOp2 core'.val 0x06 fmin s)
/-- MAX. -/
def execMax (core' : Fin 512) (s : State) : Host.Outcome State Fault Refusal := .next (laneOp2 core'.val 0x07 fmax s)
/-- CMP. -/
def execCmp (core' : Fin 512) (s : State) : Host.Outcome State Fault Refusal := .next (laneCmp core'.val 0x08 fcond s)
/-- SEL (R147). -/
def execSel (core' : Fin 512) (s : State) : Host.Outcome State Fault Refusal :=
  .next (vecAlu core'.val 0x09 (fun w => srcOk w .vector .vector .unused 3)
    (fun v w en => v.setLanes (Vi.vd w) en
      (fun i => if (v.mask (Vi.imm w)).testBit i then v.lane (Vi.va w) i else v.lane (Vi.vb w) i)) s)
/-- EXP2 (R150). -/
def execExp2 (core' : Fin 512) (s : State) : Host.Outcome State Fault Refusal :=
  .next (laneOp1 core'.val 0x0A 0 (fun _ => true) (fun _ a => toF32 (exp2Num (f32 a))) s)
/-- LOG2 (R150). -/
def execLog2 (core' : Fin 512) (s : State) : Host.Outcome State Fault Refusal :=
  .next (laneOp1 core'.val 0x0B 0 (fun _ => true) (fun _ a => toF32 (log2Num (f32 a))) s)
/-- RCP (R150). -/
def execRcp (core' : Fin 512) (s : State) : Host.Outcome State Fault Refusal :=
  .next (laneOp1 core'.val 0x0C 0 (fun _ => true) (fun _ a => toF32 (rcpNum (f32 a))) s)
/-- RSQ (R150). -/
def execRsq (core' : Fin 512) (s : State) : Host.Outcome State Fault Refusal :=
  .next (laneOp1 core'.val 0x0D 0 (fun _ => true) (fun _ a => toF32 (rsqNum (f32 a))) s)
/-- CVT: with RND 0 the SR_BITS field is unused (R146, R152). -/
def execCvt (core' : Fin 512) (s : State) : Host.Outcome State Fault Refusal :=
  .next (vecAlu core'.val 0x0E
    (fun w => srcOk w .vector .unused .unused 9 && (cvtElem (fld w 0 4)).isSome && (w.testBit 4 || fld w 5 4 == 0))
    (fun v w en => cvtLanes ((cvtElem (fld w 0 4)).getD .bf16) (if w.testBit 4 then some (fld w 5 4 + 1) else none)
      v (Vi.vd w) (Vi.va w) en) s)
/-- CVTF (R152). -/
def execCvtf (core' : Fin 512) (s : State) : Host.Outcome State Fault Refusal :=
  .next (vecAlu core'.val 0x0F
    (fun w => srcOk w .vector .unused .unused 4 && ((cvtElem (Vi.imm w)).isSome || Vi.imm w == 0xE))
    (fun v w en => v.setLanes (Vi.vd w) en
      (fun i => ((vfmtOf (Vi.imm w)).getD .e8m0).widen (v.lane (Vi.va w) i).toNat)) s)
/-- PERM (R153). -/
def execPerm (core' : Fin 512) (s : State) : Host.Outcome State Fault Refusal :=
  .next (vecAlu core'.val 0x10 (fun w => srcOk w .vector .vector .vector 0)
    (fun v w en => v.setLanes (Vi.vd w) en (fun i =>
      let x := (v.lane (Vi.vb w) i).toNat
      v.lane (if x.testBit 6 then Vi.vc w else Vi.va w) (x % 64))) s)
/-- BFLY (R147). -/
def execBfly (core' : Fin 512) (s : State) : Host.Outcome State Fault Refusal :=
  .next (vecAlu core'.val 0x11 (fun w => srcOk w .vector .unused .unused 6)
    (fun v w en => v.setLanes (Vi.vd w) en (fun i => v.lane (Vi.va w) (i ^^^ Vi.imm w))) s)
/-- ROT (R147). -/
def execRot (core' : Fin 512) (s : State) : Host.Outcome State Fault Refusal :=
  .next (vecAlu core'.val 0x12 (fun w => srcOk w .vector .unused .unused 6)
    (fun v w en => v.setLanes (Vi.vd w) en (fun i => v.lane (Vi.va w) ((i + Vi.imm w) % 64))) s)
/-- ILV (R153). -/
def execIlv (core' : Fin 512) (s : State) : Host.Outcome State Fault Refusal :=
  .next (vecAlu core'.val 0x13 (fun w => srcOk w .vector .vector .unused 1)
    (fun v w en => v.setLanes (Vi.vd w) en
      (fun i => v.lane (if i % 2 = 0 then Vi.va w else Vi.vb w) (i / 2 + 32 * Vi.imm w))) s)
/-- DLV (R153). -/
def execDlv (core' : Fin 512) (s : State) : Host.Outcome State Fault Refusal :=
  .next (vecAlu core'.val 0x14 (fun w => srcOk w .vector .vector .unused 1)
    (fun v w en => v.setLanes (Vi.vd w) en
      (fun i => if i < 32 then v.lane (Vi.va w) (2 * i + Vi.imm w) else v.lane (Vi.vb w) (2 * (i - 32) + Vi.imm w))) s)
/-- PACK (R153). -/
def execPack (core' : Fin 512) (s : State) : Host.Outcome State Fault Refusal :=
  .next (vecAlu core'.val 0x15 (fun w => srcOk w .vector .unused .unused 5 && packWidth (Vi.imm w))
    (fun v w en =>
      let st := packStream v (Vi.va w) (Vi.imm w)
      v.setLanes (Vi.vd w) en (fun i => BitVec.ofNat 32 (fld st (32 * i) 32))) s)
/-- UNPACK (R153). -/
def execUnpack (core' : Fin 512) (s : State) : Host.Outcome State Fault Refusal :=
  .next (vecAlu core'.val 0x16 (fun w => srcOk w .vector .unused .unused 5 && packWidth (Vi.imm w))
    (fun v w en =>
      let st := laneStream v (Vi.va w)
      v.setLanes (Vi.vd w) en (fun i => BitVec.ofNat 32 (fld st (Vi.imm w * i) (Vi.imm w)))) s)
/-- RED (R151). -/
def execRed (core' : Fin 512) (s : State) : Host.Outcome State Fault Refusal :=
  .next (vecAlu core'.val 0x17 (fun w => srcOk w .vector .unused .unused 2 && Vi.imm w != 3)
    (fun v w en =>
      let (f, u) := redOp (Vi.imm w)
      let x := redTree f ((List.range 64).map (fun i => if en.testBit i then v.lane (Vi.va w) i else u))
      v.setLanes (Vi.vd w) en (fun _ => x)) s)
/-- IADD. -/
def execIadd (core' : Fin 512) (s : State) : Host.Outcome State Fault Refusal :=
  .next (laneOp2 core'.val 0x18 (fun a b => a + b) s)
/-- AND. -/
def execAnd (core' : Fin 512) (s : State) : Host.Outcome State Fault Refusal :=
  .next (laneOp2 core'.val 0x19 (fun a b => a &&& b) s)
/-- OR. -/
def execOr (core' : Fin 512) (s : State) : Host.Outcome State Fault Refusal :=
  .next (laneOp2 core'.val 0x1A (fun a b => a ||| b) s)
/-- XOR. -/
def execXor (core' : Fin 512) (s : State) : Host.Outcome State Fault Refusal :=
  .next (laneOp2 core'.val 0x1B (fun a b => a ^^^ b) s)
/-- SHL. -/
def execShl (core' : Fin 512) (s : State) : Host.Outcome State Fault Refusal :=
  .next (laneOp1 core'.val 0x1C 5 (fun _ => true) (fun n a => a <<< n) s)
/-- SHR. -/
def execShr (core' : Fin 512) (s : State) : Host.Outcome State Fault Refusal :=
  .next (laneOp1 core'.val 0x1D 5 (fun _ => true) (fun n a => a >>> n) s)
/-- SRA: copies bit 31. -/
def execSra (core' : Fin 512) (s : State) : Host.Outcome State Fault Refusal :=
  .next (laneOp1 core'.val 0x1E 5 (fun _ => true) (fun n a => a.sshiftRight n) s)
/-- IMIN. -/
def execImin (core' : Fin 512) (s : State) : Host.Outcome State Fault Refusal :=
  .next (laneOp2 core'.val 0x1F (fun a b => if a.toInt ≤ b.toInt then a else b) s)
/-- IMAX. -/
def execImax (core' : Fin 512) (s : State) : Host.Outcome State Fault Refusal :=
  .next (laneOp2 core'.val 0x20 (fun a b => if b.toInt ≤ a.toInt then a else b) s)
/-- ICMP. -/
def execIcmp (core' : Fin 512) (s : State) : Host.Outcome State Fault Refusal := .next (laneCmp core'.val 0x21 icond s)
/-- IOTA. -/
def execIota (core' : Fin 512) (s : State) : Host.Outcome State Fault Refusal :=
  .next (vecAlu core'.val 0x22 (fun w => srcOk w .unused .unused .unused 31)
    (fun v w en => v.setLanes (Vi.vd w) en (fun i => BitVec.ofNat 32 (i + Vi.imm w))) s)
/-- MAND. -/
def execMand (core' : Fin 512) (s : State) : Host.Outcome State Fault Refusal :=
  .next (maskOp core'.val 0x23 .mask (fun a b => a && b) s)
/-- MOR. -/
def execMor (core' : Fin 512) (s : State) : Host.Outcome State Fault Refusal :=
  .next (maskOp core'.val 0x24 .mask (fun a b => a || b) s)
/-- MXOR. -/
def execMxor (core' : Fin 512) (s : State) : Host.Outcome State Fault Refusal :=
  .next (maskOp core'.val 0x25 .mask (fun a b => a ^^ b) s)
/-- MNOT. -/
def execMnot (core' : Fin 512) (s : State) : Host.Outcome State Fault Refusal :=
  .next (maskOp core'.val 0x26 .unused (fun a _ => !a) s)
/-- LD (R155). -/
def execLd (core' : Fin 512) (s : State) : Host.Outcome State Fault Refusal :=
  .next (vecIssue s core'.val (· == 0x30) (fun s _ w => vecLoad s core'.val w))
/-- ST (R156). -/
def execSt (core' : Fin 512) (s : State) : Host.Outcome State Fault Refusal :=
  .next (vecIssue s core'.val (· == 0x31) (fun s r w => vecStore s core'.val r w))
/-- STB (R156). -/
def execStb (core' : Fin 512) (s : State) : Host.Outcome State Fault Refusal :=
  .next (vecIssue s core'.val (· == 0x32) (fun s r w => vecStoreBlock s core'.val r w))
/-- AADD: bits [31:25] stay (R147). -/
def execAadd (core' : Fin 512) (s : State) : Host.Outcome State Fault Refusal :=
  .next (vecIssue s core'.val (· == 0x33) (fun s _ w =>
    if Vi.mk w = 0 ∧ Vi.vd w < 16 ∧ srcOk w .unused .unused .unused 24 then
      .ok (updCore s core'.val (fun k =>
        let old := k.vec.addr (Vi.vd w)
        let new := unsgn 25 ((old % 2 ^ 25 : Nat) + sgn 24 (Vi.imm w))
        { k with vec := { k.vec with a := tset 0 (Vi.vd w) (BitVec.ofNat 32 (setFld old 0 25 new)) k.vec.a } }), false)
    else .error 0x20))
/-- TREL: a held tile is to be released once earlier Tally reads have returned; no later instruction issues before
(R145). -/
def execTrel (core' : Fin 512) (s : State) : Host.Outcome State Fault Refusal :=
  .next (vecTrel core'.val s)
where
  /-- The issue of TREL: the issuing run, when it holds a tile, asks for its release. -/
  vecTrel (c : Nat) (s : State) : State :=
    match issuing (core s c) with
    | none => s
    | some r =>
      let w := (core s c).vec.inst r.pc
      if !coreIssues s c || Vi.opc w != 0x34 then s
      else
        let s1 := countIssue s c w
        if fld w 0 58 ≠ 0 then vecFault s1 c r 0x20 r.pc
        else vecNext s1 c { r with trel := r.held } false
/-- LOOP (R157). -/
def execVectorLoop (core' : Fin 512) (s : State) : Host.Outcome State Fault Refusal := .next (vecLoop s core'.val)
/-- END: issue stops (R159). -/
def execEndProgram (core' : Fin 512) (s : State) : Host.Outcome State Fault Refusal :=
  .next (vecEnd core'.val s)
where
  /-- The issue of END. -/
  vecEnd (c : Nat) (s : State) : State :=
    match issuing (core s c) with
    | none => s
    | some r =>
      let w := (core s c).vec.inst r.pc
      if !coreIssues s c || Vi.opc w != 0x3F then s
      else
        let s1 := countIssue s c w
        if fld w 0 58 ≠ 0 then vecFault s1 c r 0x20 r.pc else endRun s1 c r false

/-! ## SEED and HIST -/

/-- SEED: the lane generators are reseeded in launch order with the core's VECTOR descriptors (R116, R117). -/
def execSeed (core' : Fin 512) (s : State) : Host.Outcome State Fault Refusal :=
  let c := core'.val
  .next (launch s c .seed (fun _ _ => true) (fun s' e =>
    let n := entArg e 0 48
    let k := core s' c
    let busy := k.vxRuns.any (fun r => !r.ended)
    let s1 := if k.vxPend.isSome then updCore s' c (fun k => { k with seedAfter := some n })
      else if busy then updCore s' c (fun k => { k with seedBefore := some n })
      else seedCore s' c n
    advanceHead s1 c))

/-- HIST: the slot for later writers is selected, and cleared when CLEAR is 1 (R178). -/
def execHist (core' : Fin 512) (s : State) : Host.Outcome State Fault Refusal :=
  let c := core'.val
  .next (launch s c .hist (fun _ _ => true) (fun s' e =>
    let slot := entArg e 0 3
    let s1 := updCore s' c (fun k =>
      { k with
        histSel := slot,
        hist := if entArg e 3 1 = 1 then k.hist.filter (fun p => p.1 / 128 != slot) else k.hist })
    advanceHead s1 c))

end Sys2Proof.Machine
end

