-- ==== Sys2Proof/Machine/Ends.lean ====
section
/-!
DEFINITION. Work that ends before it completes: with CELLAR_RESET (R237), on a core that is fenced (R230), or with its
context (R84, R373).
-/
namespace Sys2Proof.Machine

/-! ## Operations in flight -/

/-- The unit code of an operation in MEMORY CELLAR_RESET records (R237, R276). -/
def OpKind.unit : OpKind → Nat
  | .move => 0x03
  | .atomic => 0x06
  | .fetch | .put | .reduce => 0x04
  | .arrive | .signal => 0

/-- Whether an operation increments a flag (R81). -/
def OpKind.flagged : OpKind → Bool
  | .arrive | .signal => false
  | _ => true

/-- The chunk contexts that operation `id` of core `c` holds close (R312). -/
def closeOwned (s : State) (c id : Nat) : State :=
  (s.chunks.filter (fun x => match x.owner with
    | some (c', id', _) => c' == c && id' == id
    | none => false)).foldl (fun s x => closeChunk s x (fun o => o)) s

/-- The residency tag an operation advances (R196, R201, R277). -/
def Op.tag (o : Op) : Option (Nat × Nat) :=
  match o.kind with
  | .move | .fetch => tagOf o.image
  | _ => none

/-- An operation of core `c` ends in error before it completes: its flag and any tag it names are poisoned, its
transactions are abandoned, its chunk contexts close (R83, R230, R237). -/
def endOp (s : State) (c : Nat) (o : Op) : State :=
  closeOwned (finishOp (dropUsers s (fun u => u == .op c o.id)) c o true o.tag) c o.id

/-! ## Engines -/

/-- The descriptors in the array or held pending that a reset ends: each run, and a pending one that passed its checks, as
DESC and flag. -/
def Core.matrixWork (k : Core) : List (Nat × Nat) :=
  k.mxRuns.map (fun r => (r.desc, r.flag))
    ++ (match k.mxPend with
      | some p => if p.refused = 0 then [(p.desc, p.flag)] else []
      | none => [])

/-- The descriptors in the vector engine that a reset ends, likewise. -/
def Core.vectorWork (k : Core) : List (Nat × Nat) :=
  k.vxRuns.map (fun r => (r.desc, r.flag))
    ++ (match k.vxPend with
      | some p => if p.refused = 0 then [(p.desc, p.flag)] else []
      | none => [])

/-- A core whose engines hold no descriptor that passed its checks, and whose tile queue is empty; the vector engine keeps
its registers and loop levels (R140, R160). -/
def Core.dropWork (k : Core) : Core :=
  { k with
    vec := { k.vec with loops := match issuing k with
      | some r => r.loops
      | none => k.vec.loops }
    mxRuns := [], mxPend := k.mxPend.filter (fun p => p.refused != 0), vxRuns := [],
    vxPend := k.vxPend.filter (fun p => p.refused != 0), tiles := [] }

/-- The seeds that wait for their places in the launch order, applied as the descriptors before them have ended (R116). -/
def seedsDue (s : State) (c : Nat) : State :=
  let k := core s c
  let s1 := seedHeld (updCore s c (fun k => { k with seedBefore := none })) c k.seedBefore
  if k.vxPend.isSome then s1 else seedHeld (updCore s1 c (fun k => { k with seedAfter := none })) c k.seedAfter

/-- Every descriptor in the engines of a core ends: `f` is what each does, given the unit code, DESC and the flag. -/
def endEngines (s : State) (c : Nat) (f : State → Nat → Nat × Nat → State) : State :=
  let k := core s c
  let s1 := k.matrixWork.foldl (fun s x => f s 0x01 x) s
  let s2 := k.vectorWork.foldl (fun s x => f s 0x02 x) s1
  seedsDue (updCore s2 c Core.dropWork) c

/-! ## A CELLAR reset (R237) -/

/-- Whether an address lies in the cellar or the granary of die `d`. -/
def inDie (d a : Nat) : Bool :=
  match placeOf a with
  | some p => p.kind != .hbm && p.die == d
  | none => false

/-- Whether a transaction of an operation that has not been issued reaches the cellar or granary of die `d`: its local
place, or the target of a local ATOMIC. -/
def todoReaches (d : Nat) (o : Op) (t : Txn) : Bool :=
  inDie d t.place || (o.kind == .atomic && o.started && inDie d t.addr)

/-- Whether the answer to a transaction that an operation waits for would be written into the cellar or granary of
die `d`. -/
def answerReaches (s : State) (d c : Nat) (o : Op) : Bool :=
  s.tags.any (fun e => match e.2 with
    | .held (.op c' id) t _ => c' == c && id == o.id && answerWrites o t && inDie d t.place
    | _ => false)

/-- Whether an operation of core `c` has an endpoint in the cellar or granary of die `d`. -/
def opReaches (s : State) (d c : Nat) (o : Op) : Bool :=
  o.kind.flagged && (o.places.any (fun l => l.any (fun x => inDie d x.1)) || o.todo.any (todoReaches d o)
    || answerReaches s d c o)

/-- The engines and the refill of a core of the die in reset end with CELLAR_RESET (R237). -/
def resetCoreWork (s : State) (c : Nat) : State :=
  let s1 := endEngines s c (fun s unit x => cellarEnd s c unit x.1 x.2)
  match (core s1 c).alm.refill with
  | none => s1
  | some r => refillReset s1 c r

/-- The operations of a core that reach the cellar or granary of die `d` end with CELLAR_RESET (R237). -/
def resetCoreOps (s : State) (d c : Nat) : State :=
  ((core s c).ops.filter (opReaches s d c)).foldl (fun s o => endOp (cellarRecord s c o.kind.unit o.desc) c o) s

/-- Every operation that reaches the cellar or granary of die `d` ends with CELLAR_RESET (R237). -/
def cellarSweep (s : State) (d : Nat) : State :=
  let cores := s.cores.map Prod.fst
  let s1 := (cores.filter (fun c => c / 128 == d)).foldl resetCoreWork s
  cores.foldl (fun s c => resetCoreOps s d c) s1

/-! ## A fenced core (R230) -/

/-- A core fenced OFFLINE: its operations end with their flags poisoned, and its gates go IDLE (R80, R230). -/
def fenceCore (s : State) (c : Nat) : State :=
  let s1 := endEngines s c (fun s _ x => completeFlag s c x.2 true)
  let s2 := ((core s1 c).ops.filter (fun o => o.kind.flagged)).foldl (fun s o => endOp s c o) s1
  updCore s2 c Core.idleGates

/-! ## A context that is reset (R84, R373) -/

/-- The MOVE that the engine of a core that is reset serves stops at a row boundary: how many of its rows were written is
free, none where a page that a harvest holds stands in its way. Later MOVEs have written nothing (R221). -/
def stopMove (s : State) (c : Nat) (o : Op) : State :=
  if o.kind ≠ .move ∨ !moveServed (core s c) o ∨ !(heldPages s (opPages o)).isEmpty then s
  else
    let (s1, w) := freshWord s
    (moveRows s1 c o (w.toNat % (Mv.rows o.image + 1))).1

/-- The work of the resident context on the cores of `cs` is abandoned: no flag moves, and what is still to come of it
serves nothing (R84, R373). -/
def abandonCores (s : State) (cs : List Nat) : State :=
  let s1 := cs.foldl (fun s c => (core s c).ops.foldl (fun s o => stopMove s c o) s) s
  let s2 := dropUsers s1 (fun u => match u with
    | .op c _ => cs.contains c
    | _ => false)
  { s2 with transit := s2.transit.filter (fun t => t.packet.isSome || !cs.contains t.srcCore) }

/-- The chunk contexts of a context close (R312, R313). -/
def closeContext (s : State) (ctx : Nat) : State :=
  { s with chunks := s.chunks.filter (fun x => x.ctx != ctx), closedChunks := s.closedChunks.filter (fun x => x.1 != ctx) }

end Sys2Proof.Machine
end

