-- ==== Sys2Proof/Machine/Checks.lean ====
section
/-!
DEFINITION. The ENABLE checks of the pages (R439, R458, R462, R470, R472, R474, R478), and what comes with a page's
ENABLED (R357, R464, R465).
-/
namespace Sys2Proof.Machine

/-! ## Contexts (R357) -/

namespace Ctx
/-- FREE. -/
abbrev free : Nat := 0
/-- READY. -/
abbrev ready : Nat := 1
/-- RESIDENT. -/
abbrev resident : Nat := 2
/-- SAVING. -/
abbrev saving : Nat := 3
/-- RESTORING. -/
abbrev restoring : Nat := 4
/-- RESETTING. -/
abbrev resetting : Nat := 5
end Ctx

/-- The state of a context (R357). -/
def ctxState (s : State) (c : Nat) : Nat := rf s .context c Off.contextCtxState 0 3

/-- A context enters a state (R357, R444). -/
def setCtxState (s : State) (c st : Nat) : State :=
  if ctxState s c = st then s else raiseInt (setRf s .context c Off.contextCtxState 0 3 st) .context c 1

/-- Whether a saved image of a context is held (R357). -/
def ctxSaved (s : State) (c : Nat) : Bool := rbit s .context c Off.contextCtxState 3

/-- SAVED of a context set (R357). -/
def setSaved (s : State) (c : Nat) (v : Bool) : State := setRbit s .context c Off.contextCtxState 3 v

/-! ## The checks (R439) -/

/-- The first of the conditions that holds, as its code and its register's offset. -/
def firstCheck : List (Bool × Nat × Nat) → Option (Nat × Nat)
  | [] => none
  | (bad, code, off) :: l => if bad then some (code, off) else firstCheck l

/-- The checks of a context (R183, R272, R358, R462). -/
def contextChecks (s : State) (c : Nat) : List (Bool × Nat × Nat) :=
  let off := rf s .context c Off.contextSaveOffset 0 5
  let key := rf s .context c Off.contextSaveKey 0 6
  [(c == 0, 0x02, Off.ctrl), (rbit s .global 0 Off.status 3, 0x03, Off.ctrl),
   ((List.range 32).any (fun d => d != c && ctxState s d != Ctx.free && rf s .context d Off.contextSaveOffset 0 5 == off),
    0x04, Off.contextSaveOffset),
   (off % 2 == 1, 0x0A, Off.contextSaveOffset),
   (key == 0 || !keyAssigned s key c, 0x06, Off.contextSaveKey),
   (decide (65536 < rf s .context c Off.contextTerrierBase 0 16 + rf s .context c Off.contextTerrierCount 0 17), 0x09,
    Off.contextTerrierCount),
   (rf s .context c Off.contextTscaleBase 0 25 % 512 != 0, 0x0A, Off.contextTscaleBase)]

/-- The checks of HARVEST (R341, R354, R458). -/
def harvestChecks (s : State) : List (Bool × Nat × Nat) :=
  let pages := rf s .harvest 0 Off.harvestStage 16 16
  [(rf s .harvest 0 Off.ctrl 8 5 == 0, 0x02, Off.ctrl), (!enabled s .pantry 0, 0x03, Off.ctrl),
   (pages == 0, 0x02, Off.harvestStage),
   (decide (24576 < rf s .harvest 0 Off.harvestStage 0 16 + pages), 0x09, Off.harvestStage),
   (decide (txnTimeout s ≤ rf s .harvest 0 Off.harvestStallLimit 0 24), 0x04, Off.harvestStallLimit)]

/-- The checks of a core (R470). -/
def coreChecks (s : State) (c : Nat) : List (Bool × Nat × Nat) :=
  [(coreOffline s c, 0x05, Off.ctrl), (rf s .core c Off.coreDescBase 0 21 % 64 != 0, 0x0A, Off.coreDescBase),
   (rf s .core c Off.coreAlmVtabBaseLo 0 32 % 128 != 0, 0x0A, Off.coreAlmVtabBaseLo),
   (decide (5 ≤ rf s .core c Off.coreMxCtrl 0 3), 0x02, Off.coreMxCtrl)]

/-- The checks of STACK (R472). -/
def stackChecks (s : State) (d : Nat) : List (Bool × Nat × Nat) :=
  [(rf s .stack d Off.stackHotCtrl 0 4 == 0 || rf s .stack d Off.stackHotCtrl 16 6 == 0, 0x02, Off.stackHotCtrl),
   (rf s .stack d Off.stackWearSwing 0 8 == 0, 0x02, Off.stackWearSwing),
   (rf s .stack d Off.stackWearExp 0 8 == 0, 0x02, Off.stackWearExp)]

/-- The checks of a port (R474). -/
def portChecks (s : State) (p : Nat) : List (Bool × Nat × Nat) :=
  [(partState s (p / 8) != 0, 0x03, Off.ctrl),
   (rf s .port p Off.portCfg 0 2 == 3 || decide (2 ≤ rf s .port p Off.portCfg 4 2) || rf s .port p Off.portCfg 16 8 == 0,
    0x02, Off.portCfg),
   (rf s .port p Off.portTimer 0 16 == 0, 0x02, Off.portTimer),
   (inField s && rf s .port p Off.portTest 0 2 != 0, 0x07, Off.portTest)]

/-- The checks of PCIE and PANTRY (R418, R478): an MDTS of 0 sets no limit, one below 5 less than 128 KiB. -/
def pantryChecks (s : State) : List (Bool × Nat × Nat) :=
  let mdts := rf s .pantry 0 Off.pantryDrive 8 8
  [(rf s .pantry 0 Off.pantryCmdTimeout 0 24 == 0, 0x02, Off.pantryCmdTimeout),
   (!rbit s .pantry 0 Off.pantryDrive 0, 0x05, Off.pantryDrive), (!rbit s .pantry 0 Off.pantryDrive 1, 0x40, Off.pantryDrive),
   (mdts != 0 && decide (mdts < 5), 0x41, Off.pantryDrive)]

/-- The ENABLE check of a page: the code and the offset of its first failure, none when it passes (R439). -/
def enableCheck (s : State) (b : Block) (i : Nat) : Option (Nat × Nat) :=
  match b with
  | .context => firstCheck (contextChecks s i)
  | .harvest => firstCheck (harvestChecks s)
  | .core => firstCheck (coreChecks s i)
  | .stack => firstCheck (stackChecks s i)
  | .port => firstCheck (portChecks s i)
  | .pcie =>
    firstCheck [(rbit s .pcie 0 Off.pcieIdeCtrl 0 && rf s .pcie 0 Off.pcieIdeState 0 4 == 0, 0x40, Off.pcieIdeCtrl)]
  | .pantry => firstCheck (pantryChecks s)
  | .lanemap => firstCheck [(txnTimeout s == 0, 0x02, Off.lanemapTxnTimeout)]
  | _ => none

/-! ## Enabling (R437, R439, R464, R465) -/

/-- CTRL.ENABLE and STATUS.ENABLED of a page set to `v`. -/
def setEnabled (s : State) (b : Block) (i : Nat) (v : Bool) : State :=
  match b.enableBit with
  | some k => setRbit (setRbit s b i Off.ctrl k v) b i Off.status 0 v
  | none => s

/-- A page becomes enabled, with what that starts: a context becomes READY, a port detects its link, a die's stack acts on
its new values, the pantry takes the commands that wait (R245, R357, R409, R465). -/
def enablePage (s : State) (b : Block) (i : Nat) : State :=
  let s1 := setEnabled s b i true
  match b with
  | .context => if ctxState s1 i = Ctx.free then setCtxState s1 i Ctx.ready else s1
  | .port => if linkOff s1 then s1 else portEnabled s1 i
  | .stack => { s1 with stackHeld := s1.stackHeld.filter (fun e => e.1 != i) }
  | .pantry => s1.nvmeWait.foldl (fun s c => nvmeNext s c.queue) s1
  | _ => s1

/-- The Reeve sets ENABLE on a page: where its check fails the page shows the refusal, and a core that is OFFLINE is left
alone (R464). -/
def reeveEnable (s : State) (b : Block) (i : Nat) : State :=
  if enabled s b i || (b == .core && coreOffline s i) then s
  else match enableCheck s b i with
    | some (code, off) => refuse s b i code off
    | none => enablePage s b i

/-- The Reeve sets ENABLE on each of some units of a page. -/
def reeveEnableAll (s : State) (b : Block) (l : List Nat) : State := l.foldl (fun s i => reeveEnable s b i) s

/-- The same at the end of a reset of kind `k`, on a page whose header that kind returns to its reset values (R432, R464). -/
def reeveEnableAfter (k : ResetKind) (s : State) (b : Block) (l : List Nat) : State :=
  if b.headerSurvives.testBit k.bit then s else reeveEnableAll s b l

end Sys2Proof.Machine
end

