-- ==== Sys2Proof/Machine/Keys.lean ====
section
/-!
DEFINITION. The memory key slots (R366 to R369) and the wipes (R370 to R372).
-/
namespace Sys2Proof.Machine

/-! ## Key slots (R366, R367) -/

/-- A slot's key overwritten with 512 fresh bits in the store and in every controller (R367). -/
def drawKey (s : State) (slot : Nat) : State :=
  { s with keyDraws := tset 0 slot (s.draws + 1) s.keyDraws, draws := s.draws + 1 }

/-- The owner of a slot. -/
def slotOwner (s : State) (slot : Nat) : Nat := rf s .keys slot Off.keysSlotState 0 5

/-- Whether a slot is ASSIGNED. -/
def slotAssigned (s : State) (slot : Nat) : Bool := rbit s .keys slot Off.keysSlotState 8

/-- A slot's key is destroyed and the slot is FREE (R367, R368). -/
def freeSlot (s : State) (slot : Nat) : State := setReg (drawKey s slot) .keys slot Off.keysSlotState 0

/-- The keys of the slots that `p` picks, slot 0 apart, are destroyed (R368, R372). -/
def destroyKeys (s : State) (p : Nat → Bool) : State :=
  (((List.range 64).drop 1).filter p).foldl freeSlot s

/-- Whether a health test of the entropy source has failed (R369). -/
def entropyFailed (s : State) : Bool := rbit s .keys 0 Off.status 0

/-- A write of KEYS.SLOT_CMD, refused with the lowest code that applies (R14, R367, R439). -/
def writeSlotCmd (s : State) (v : Word) : State :=
  let slot := rf s .keys 0 Off.keysSel 0 6
  let owner := fld v.toNat 0 5
  let assign := bitAt v.toNat 8
  let release := bitAt v.toNat 9
  let refuse := fun code => refuse s .keys 0 code Off.keysSlotCmd
  if fld v.toNat 5 3 ≠ 0 ∨ fld v.toNat 10 22 ≠ 0 then refuse 0x01
  else if assign && release then refuse 0x04
  else if assign then
    if slot = 0 ∨ owner = 0 then refuse 0x02
    else if entropyFailed s then refuse 0x40
    else if slotAssigned s slot then refuse 0x41
    else setReg (drawKey s slot) .keys slot Off.keysSlotState (det (owner + 2 ^ 8))
  else if release then
    let st := ctxState s (slotOwner s slot)
    if slot = 0 then refuse 0x02
    else if slotAssigned s slot ∧ (st = Ctx.resident ∨ st = Ctx.restoring ∨ st = Ctx.saving) then refuse 0x08
    else freeSlot s slot
  else s

/-- ASSIGN_SLOT (R367, R424). -/
def execAssignSlot (owner : BitVec 5) (s : State) : Host.Outcome State Fault Refusal :=
  let v := det (owner.toNat + 2 ^ 8)
  .next (hostWrite s .keys 0 Off.keysSlotCmd v (fun s => writeSlotCmd s v))

/-- RELEASE_SLOT (R367, R424). -/
def execReleaseSlot (s : State) : Host.Outcome State Fault Refusal :=
  .next (hostWrite s .keys 0 Off.keysSlotCmd (det (2 ^ 9)) (fun s => writeSlotCmd s (det (2 ^ 9))))

/-- ENTROPY_FAIL: a health test fails: the bit is set, the record written, the page's interrupt raised (R369, R377, R444). -/
def execEntropyFail (s : State) : Host.Outcome State Fault Refusal :=
  .next (deviceEvent (setRbit s .keys 0 Off.status 0 true) .keys 0 0x09 0x04 0xFFFF 0 [0])

/-! ## Zero-fill (R370 to R372) -/

/-- The zero-fill engine on the pages of HBM or granary from `lo` to `hi`: those whose written bit is set are filled, and
their bits clear (R370, R371). -/
def wipeWritten (s : State) (lo hi : Nat) : State :=
  let out := fun a => a < lo || hi ≤ a || !pageWritten s (a / 2 ^ 21)
  { s with
    mem := s.mem.filter (fun c => out c.1), chk := s.chk.filter (fun c => out (8 * c.1)),
    pageBits := s.pageBits.filter (fun e => e.1 < lo / 2 ^ 21 || hi / 2 ^ 21 ≤ e.1) }

/-- The granary and the HBM stacks of die `d` wiped. -/
def wipeDieFar (s : State) (d : Nat) : State :=
  (List.range 4).foldl (fun s k => wipeWritten s (hbmAddr (4 * d + k)) (hbmAddr (4 * d + k) + 48 * 2 ^ 30))
    (wipeWritten s (granaryAddr d) (granaryAddr (d + 1)))

/-- The wipe engine on the cellar of die `d`; the harvest region of its commons is left where `keep` says so (R237, R338,
R363). -/
def wipeCellar (s : State) (keep : Bool) (d : Nat) : State :=
  let s1 := zeroFill s (larderAddr (128 * d)) (larderAddr (128 * (d + 1)))
  let s2 := zeroFill s1 (tallyAddr (128 * d)) (tallyAddr (128 * (d + 1)))
  zeroFill s2 (commonsAddr d) (commonsAddr d + if keep then harvestRegion else 2 ^ 25)

/-- Every cellar wiped, the protected harvest region apart (R338, R363, R372). -/
def wipeCellars (s : State) : State := (List.range 4).foldl (fun s d => wipeCellar s (regionHeld s) d) s

/-- The page whose STATUS.WIPING shows a wipe (R372). -/
def WipeScope.page : WipeScope → Block × Nat
  | .device => (.global, 0)
  | .partition _ => (.global, 0)
  | .context c => (.context, c)

/-- A wipe begins: WIPING reads 1 (R372). -/
def beginWipe (s : State) (w : WipeScope) : State :=
  setRbit { s with wipes := s.wipes ++ [(w, s.time)] } w.page.1 w.page.2 Off.status 3 true

/-- The SECURITY WIPE_DONE record of a scope (R372, R377): duration in µs of 250 ticks, saturating. -/
def wipeDoneRecord (s : State) (scope unit : Nat) (since : DWord) : State :=
  deviceRecord s .global 0 0x09 0x01 unit
    (det (scope * 2 ^ 28 + min ((s.time.toNat - since.toNat) / 250) (2 ^ 28 - 1)))

/-- Where a context's reset has returned the CORE window, the Reeve enables it at the reset's end (R464). -/
def enableReturned (s : State) (c : Nat) : State :=
  if s.coreReturned.toNat.testBit c then
    reeveEnableAll { s with coreReturned := s.coreReturned &&& ~~~(BitVec.ofNat 32 (2 ^ c)) } .core (List.range 512)
  else s

/-- The end of a context's wipe: the CONTEXT page of the context returns to its reset values, the CORE window that its reset
returned is enabled, and the context is FREE (R357, R373, R464). -/
def contextFreed (s : State) (c : Nat) : State :=
  let s1 := setCtxState (enableReturned s c) c Ctx.free
  resetPages { s1 with
    tscales := s1.tscales.filter (fun e => e.1 / 32 != c), energy := s1.energy.filter (fun e => e.1 / 8 != c) }
    (fun b i => b == .context && i == c) .context false

/-- Whether a wipe may end: that of a reset with a dawn ends in dawn step 5 (R422). -/
def wipeMayEnd (s : State) : WipeScope → Bool
  | .device => decide (5 ≤ rf s .global 0 Off.globalDawn 0 4)
  | .partition n => decide (5 ≤ tget 0 n s.partDawn)
  | .context _ => true

/-- WIPE_DONE: the wipe at `index` ends: WIPING clears and the record is written (R357, R372, R377, R422). -/
def execWipeDone (index : Nat) (s : State) : Host.Outcome State Fault Refusal :=
  match takeAt s.wipes index with
  | none => .next s
  | some ((w, since), rest) =>
    if !wipeMayEnd s w then .next s else
    let s1 := { s with wipes := rest }
    let s2 := if rest.any (fun x => x.1.page == w.page) then s1
      else setRbit s1 w.page.1 w.page.2 Off.status 3 false
    match w with
    | .device => .next (wipeDoneRecord s2 0 0xFFFF since)
    | .partition _ => .next (wipeDoneRecord s2 1 0xFFFF since)
    | .context c => .next (contextFreed (wipeDoneRecord s2 3 c since) c)

end Sys2Proof.Machine
end

