-- ==== Sys2Proof/Machine/Start.lean ====
section
/-!
DEFINITION. Starting a context: ALM_GO with its checks (R45, R231, R461, R466) and the measurement of its schedule
(R376).
-/
namespace Sys2Proof.Machine

/-! ## The root table (R45) -/

/-- `n` codewords from codeword `w`, each with whether it was readable. -/
def codewords (s : State) (key : Nat) : Nat → Nat → State × List (Nat × Bool)
  | 0, _ => (s, [])
  | n + 1, w =>
    let (s1, v, ok) := readWord s key w
    let (s2, l) := codewords s1 key n (w + 1)
    (s2, (v, ok) :: l)

/-- The 512 root words at an address, each with whether its codeword was readable. -/
def rootTable (s : State) (key a : Nat) : State × List (Nat × Bool) :=
  let (s1, l) := codewords s key (if a % 16 = 0 then 256 else 257) (a / 16)
  (s1, (List.range 512).map (fun j =>
    let p := a % 16 + 8 * j
    let (v, ok) := l.getD (p / 16) (0, true)
    (fld v (8 * (p % 16)) 64, ok)))

/-- `CONTEXT.ALM_ROOT`. -/
def almRoot (s : State) (ctx : Nat) : Nat := rf s .context ctx Off.contextAlmRootLo 0 32 + rf s .context ctx Off.contextAlmRootHi 0 16 * 2 ^ 32

/-- Whether MEASURE of a context is set (R376). -/
def measures (s : State) (ctx : Nat) : Bool := rbit s .context ctx Off.ctrl 0

/-- The first of the four schedule entries of a context (R376). -/
def schedFirst (s : State) (ctx : Nat) : Nat := rf s .context ctx Off.contextSchedEntry 0 16

/-- Whether a context address lies outside the schedule entries of a measured context (R376). -/
def outsideSchedule (s : State) (ctx a : Nat) : Bool :=
  let i := rf s .context ctx Off.contextTerrierBase 0 16 + a / 2 ^ 32
  measures s ctx && !(decide (schedFirst s ctx ≤ i ∧ i < schedFirst s ctx + 4))

/-- The Reeve reads a context's root table; none where it does not lie on this node. In a CELLAR reset of its die no word
can be read. -/
def readRoot (s : State) (ctx : Nat) : State × Option (List (Nat × Bool)) :=
  match translateHere s 4 ctx (almRoot s ctx) 4096 none with
  | none => (s, none)
  | some t =>
    if addrReset s t.addr then (s, some (List.replicate 512 (0, false)))
    else
      let (s1, l) := rootTable s t.key t.addr
      (s1, some l)

/-- VALID of a root word that could be read. -/
def rootValid (w : Nat × Bool) : Bool := w.2 && bitAt w.1 63

/-! ## The checks (R461) -/

/-- Whether an entry of the context maps an OFFLINE footprint of this device (R231). -/
def mapsOffline (s : State) (ctx : Nat) : Bool :=
  (ownEntries s ctx).any (fun e => rangeOffline s (tfld e.2 32 29 * 2 ^ 21) (tfld e.2 64 12 * 2 ^ 21))

/-- Whether a VALID root word names a core that is OFFLINE or not enabled (R231, R466). -/
def namesOffline (s : State) (l : List (Nat × Bool)) : Bool :=
  (List.range 512).any (fun c => rootValid (l.getD c (0, false)) && (coreOffline s c || !enabled s .core c))

/-- The code of the first check before the last of R461, 0 when they pass. -/
def almGoCheck (s : State) (ctx : Nat) : Nat :=
  if ctxState s ctx ≠ Ctx.resident then 0x42
  else if quarantined s ctx then 0x41
  else if !assigned s then 0x03
  else if bellState s ≠ Bell.grandmaster ∧ (bellState s ≠ Bell.locked ∨ !within s.bellOffset 2) then 0x03
  else if almRoot s ctx % 8 ≠ 0 then 0x0A
  else 0

/-! ## The start (R45) -/

/-- The compute-die state of a core as ALM_GO starts it: flags, tags and the vector engine's registers zeroed, every
Tally slot CLEAR, the context-held registers copied, bank 0 loading (R45, R46, R84, R134, R140, R178, R201, R469). -/
def startedCore (s : State) (ctx c : Nat) (k : Core) (addr : Option Nat) : Core :=
  { k with
    alm := { Almanac.reset with
      state := .running, epoch := reg64 s .context ctx Off.contextAlmEpoch0Lo, headSince := s.time
      bank0 := if addr.isSome then { Bank.empty with status := .loading } else .empty
      refill := addr.map (fun a => ⟨false, a⟩) }
    flags := [], flagPoison := 0, rtags := [], rtagPoison := 0, slots := [], tiles := []
    vec := { k.vec with v := [], m := [], a := [] }
    histSel := 0
    heldDesc := rf s .core c Off.coreDescBase 0 21
    heldVtab := rf s .core c Off.coreAlmVtabBaseLo 0 32 + rf s .core c (Off.coreAlmVtabBaseLo + 4) 0 16 * 2 ^ 32
    heldPromote := rf s .core c Off.coreMxCtrl 0 3, heldApply := rbit s .core c Off.coreNumCtrl 0 }

/-- Core `c` takes its root word: it starts, or stays IDLE, or faults on a word that cannot be read, breaks R45, or lies
with its table outside a measured schedule (R45, R60, R376). -/
def startCore (s : State) (ctx : Nat) (outside : Bool) (c : Nat) (w : Nat × Bool) : State :=
  if !w.2 then
    let s1 := if addrReset s (almRoot s ctx) then cellarRecord s c 0x05 0 else s
    almFault (updCore s1 c (fun k => startedCore s ctx c k none)) c 0x0B 0
  else if !bitAt w.1 63 then updCore s c (fun k => { k with alm := .reset })
  else if outside ∨ fld w.1 48 15 ≠ 0 then
    almFault (seedCore (updCore s c (fun k => startedCore s ctx c k none)) c 0) c 0x06 0
  else seedCore (updCore s c (fun k => startedCore s ctx c k (some (fld w.1 0 48)))) c 0

/-- Every ring word of a context's doorbell page zeroed (R56). -/
def clearRings (s : State) (ctx : Nat) : State :=
  (List.range 128).foldl (fun s k => setReg s .doorbell ctx (4 * k) 0) s

/-- The cores of a context start (R45, R56, R174, R317, R351). Where the root table does not lie on this node no core
does. -/
def startContext (s : State) (ctx : Nat) (root : Option (List (Nat × Bool))) : State :=
  let s := dropWanted s ctx
  let s1 := match root with
    | none => s
    | some l =>
      (List.range 512).foldl (fun s c => startCore s ctx (outsideSchedule s ctx (almRoot s ctx)) c (l.getD c (0, false))) s
  let s2 := setStepState (clearRings s1 ctx) ctx Step.idle
  writeTables { s2 with started := s2.started ||| BitVec.ofNat 32 (2 ^ ctx) } ctx

/-- A write of `CONTEXT.ALM_GO`: refused by the first check that fails, or the start, which a measurement holds (R14, R45,
R376, R459, R461). -/
def writeAlmGo (s : State) (ctx : Nat) (v : Word) : State :=
  if ctx = 0 then refuse s .context 0 0x06 Off.contextAlmGo
  else if 2 ≤ v.toNat then refuse s .context ctx 0x01 Off.contextAlmGo
  else if v = 0 then s
  else if almGoCheck s ctx ≠ 0 then refuse s .context ctx (almGoCheck s ctx) Off.contextAlmGo
  else
    let (s1, root) := readRoot s ctx
    if mapsOffline s1 ctx || (root.map (namesOffline s1)).getD false then refuse s1 .context ctx 0x05 Off.contextAlmGo
    else if measures s1 ctx then setRbit { s1 with measuring := some ctx } .context ctx Off.status 1 true
    else startContext s1 ctx root

/-! ## Measurement (R376) -/

/-- The bytes of the range of a Terrier entry of this node, read under its key. -/
def entryBytes (s : State) (e : QWord) : State × List Byte :=
  if tfld e 0 1 = 1 ∧ tfld e 16 14 = thisNode s then
    let n := tfld e 64 12 * 2 ^ 21
    let (s1, v, _) := readMem s (tfld e 88 6) (tfld e 32 29 * 2 ^ 21) n
    (s1, toBytes n v)
  else (s, [])

/-- What a measured entry was stored as, all ones where nothing is measured. -/
abbrev unmeasured : QWord := BitVec.allOnes 128

/-- W, A and D of an entry cleared; what it held is kept until its context is reset (R376). -/
def measureEntry (s : State) (ctx i : Nat) : State :=
  let e := tget 0 i s.terrier
  let key := 65536 * ctx + i
  { s with
    measured := if tget unmeasured key s.measured = unmeasured then tset unmeasured key e s.measured else s.measured
    terrier := tset 0 i (BitVec.ofNat 128 (setFld e.toNat 81 3 0)) s.terrier }

/-- The four schedule entries of a context, hashed in order (R376). -/
def measureSchedule (s : State) (ctx : Nat) : State :=
  let is := (List.range 4).map (fun k => schedFirst s ctx + k)
  let (s1, bytes) := is.foldl (fun (x : State × List Byte) i =>
    let (s1, l) := entryBytes x.1 (tget 0 i x.1.terrier)
    (s1, x.2 ++ l)) (s, [])
  is.foldl (fun s i => measureEntry s ctx i)
    { s1 with measurements := tset 0 ctx (sha384 bytes) s1.measurements }

/-- MEASURE_DONE: the hash is complete; the start it held goes ahead while its context is still resident (R376). -/
def execMeasureDone (s : State) : Host.Outcome State Fault Refusal :=
  match s.measuring with
  | none => .next s
  | some ctx =>
    let s1 := setRbit (measureSchedule { s with measuring := none } ctx) .context ctx Off.status 1 false
    if ctxState s1 ctx ≠ Ctx.resident then .next s1
    else
      let (s2, root) := readRoot s1 ctx
      .next (startContext s2 ctx root)

end Sys2Proof.Machine
end

