-- ==== Sys2Proof/Machine/Context.lean ====
section
/-!
DEFINITION. Switching contexts (R77, R359 to R363) and resetting one (R78, R373).
-/
namespace Sys2Proof.Config

/-- What a core resumes with when its save slot is read under another key than it was written under, by a counter
(R210, R368). -/
opaque unreadableCore : Nat → Option Sys2Proof.Machine.Core

/-- What the saved state of a core reads as where the listed codewords of its compute-die part are zero words; the spec does
not lay that part out (R362). -/
opaque zeroedCore : Sys2Proof.Machine.Core → List Nat → Option Sys2Proof.Machine.Core

end Sys2Proof.Config

namespace Sys2Proof.Machine

/-! ## The request (R359) -/

/-- The chosen context begins to restore (R357, R359). -/
def beginRestore (s : State) (c : Nat) : State :=
  setCtxState { s with switch := { s.switch with phase := .restoring, next := c } } c Ctx.restoring

/-- The step of a power-state entry that follows the end of a switch (R426). -/
def powerAfter (s : State) : Nat :=
  match s.switch.goal with
  | .context | .lost => s.powerStep
  | .dusk => 1
  | .night => 2

/-- The switch ends: BUSY reads 0 and the interrupt is raised; where it was for DUSK or NIGHT the entry goes on (R378, R426,
R444). -/
def endSwitch (s : State) : State :=
  raiseInt (setRbit { s with switch := ⟨.idle, 0, 0, .context⟩, powerStep := powerAfter s } .global 0 Off.globalRun 17 false)
    .global 0 3

/-- Whether every partition is in SERVICE (R364). -/
def inService (s : State) : Bool := rf s .global 0 Off.globalPartState 0 8 == 0

/-- The code that refuses a REQ for context `next`, the lowest that applies, 0 when none does (R346, R351, R359, R378).
Outside RUN the cores cannot hold a context, and the request is refused with 0x03. -/
def switchCheck (s : State) (next : Nat) : Nat :=
  if next = 0 then 0x02
  else if ctxState s next ≠ Ctx.ready ∨ !inService s then 0x03
  else if s.serve.any (fun r => r.ctx == next) then 0x08
  else if s.switch.phase ≠ .idle then 0x40
  else if quarantined s next then 0x42
  else if powerState s ≠ 0 then 0x03
  else 0

/-- The resident context is asked to switch out, for what `goal` says; with none resident the outgoing half is over
(R359, R426). -/
def beginSwitch (s : State) (next : Nat) (goal : SwitchGoal) : State :=
  let s1 := setRbit s .global 0 Off.globalRun 17 true
  if resident s = 0 then beginRestore { s1 with switch := ⟨.restoring, next, s.time, goal⟩ } next
  else { s1 with switch := ⟨.requested, next, s.time, goal⟩ }

/-- A write of `GLOBAL.RUN`: NEXT is set, and REQ requests the switch or is refused; naming the resident context asks for
nothing (R14, R359, R378). -/
def writeRun (s : State) (v : Word) : State :=
  let next := fld v.toNat 8 5
  let s1 := setRf s .global 0 Off.globalRun 8 5 next
  if v &&& ~~~(definedMask .global Off.globalRun) ≠ 0 then refuse s .global 0 0x01 Off.globalRun
  else if !bitAt v.toNat 16 ∨ (next ≠ 0 ∧ next = resident s) then s1
  else if switchCheck s next ≠ 0 then refuse s .global 0 (switchCheck s next) Off.globalRun
  else beginSwitch s1 next .context

/-! ## Switching out (R77, R360, R361) -/

/-- Whether a core stands at a switch point (R360). -/
def atSwitchPoint (s : State) (c : Nat) : Bool :=
  let a := (core s c).alm
  coreOffline s c || a.state == .halted || a.state == .fault || a.state == .idle
    || (!a.halting && (match a.headEntry with
      | some e => opOfCode (entOp e) == some .switch
      | none => false))

/-- The cores that stand at no switch point. -/
def notAtPoint (s : State) : List Nat := (s.cores.map Prod.fst).filter (fun c => !atSwitchPoint s c)

/-- A core applies every arrival in its queue (R77). -/
def applyArrivals (k : Core) : Core :=
  k.arrivals.foldl (fun k g => k.setGate g (gateOf k g).arrive) { k with arrivals := [] }

/-- The switch-out: no core accepts arrivals or launches, the queued arrivals are applied, and a record is written for
each head in a GATE wait (R77, R361). -/
def switchOut (s : State) : State :=
  let s1 := { s with switch := { s.switch with phase := .draining } }
  (s.cores.map Prod.fst).foldl (fun s c => ownerLostWaiter (updCore s c applyArrivals) c) s1

/-- SWITCH_OUT: every core of the resident context stands at a switch point (R77, R360). -/
def execSwitchOut (s : State) : Host.Outcome State Fault Refusal :=
  if s.switch.phase = .requested ∧ (notAtPoint s).isEmpty then .next (switchOut s) else .next s

/-- FORCED_OFF: 25,000 ticks after the request some core has not reached a switch point: the record, and the switch is
forced (R361, R377). -/
def execForcedOff (s : State) : Host.Outcome State Fault Refusal :=
  let n := (notAtPoint s).length
  if s.switch.phase = .requested ∧ n ≠ 0 ∧ s.switch.since.toNat + 25000 ≤ s.time.toNat then
    let c := resident s
    .next (switchOut (deviceRecord s .context c 0x09 0x02 c (det n)))
  else .next s

/-! ## The save (R362) -/

/-- Whether the waits of R361 have ended: no core has an operation in flight. -/
def drained (s : State) : Bool := s.cores.all (fun x => x.2.ops.isEmpty)

/-- The array of core `c` stops where pre-emption finds it: how many cycles of its interval have run is free, and the
accumulators of its cells are kept as FP32 words (R97, "When things meet" of the matrix array). -/
def pauseArray (s : State) (c : Nat) : State :=
  match feeding (core s c) with
  | none => s
  | some r =>
    let d := r.image
    let np := mxRate d
    let p := min r.promote (Mx.kb d - r.kdone)
    let (s1, w) := freshWord s
    let n := r.cycles + w.toNat % (64 * p / np - r.cycles)
    let (s2, o, ok) := readOperands s1 c d r.kdone ((np * n + 63) / 64)
    let acc := (List.range 4096).map (fun i =>
      cellWord np (cellRun d o np r.kdone (i / 64) (i % 64) r.cycles (r.accCode np (i / 64) (i % 64)) (n - r.cycles)))
    let s3 := addReg64 s2 .core c Off.coreMxActiveLo (n - r.cycles)
    if n = r.cycles then s1
    else updCore s3 c (fun k => { k with
      mxRuns := k.mxRuns.map (fun x => if x = r then { r with cycles := n, acc := acc, poisoned := r.poisoned || !ok } else x) })

/-- The save begins: every array stops, and the context is SAVING (R357, R361, R362). -/
def beginSave (s : State) : State :=
  let s1 := (s.cores.map Prod.fst).foldl pauseArray s
  setCtxState { s1 with switch := { s1.switch with phase := .saving } } (resident s) Ctx.saving

/-- The address of core `c`'s part of a context's save slots (R362). -/
def saveSlot (s : State) (ctx c : Nat) : Nat :=
  granaryAddr (c / 128) + c % 128 * 2 ^ 26 + rf s .context ctx Off.contextSaveOffset 0 5 * 2 ^ 21

/-- The key slot of a context's save. -/
def saveKey (s : State) (ctx : Nat) : Nat := rf s .context ctx Off.contextSaveKey 0 6

/-- Bytes of the compute-die state in a slot (R362). -/
abbrev savedStateBytes : Nat := 98304

/-- The cellar parts of core `c`'s slot: address in the slot, cellar address, length; the protected harvest region is no
part of it (R338, R362). -/
def saveParts (s : State) (c : Nat) : List (Nat × Nat × Nat) :=
  [(0, larderAddr c, 2 ^ 21), (2 ^ 21, tallyAddr c, 2 ^ 18)]
    ++ (if regionHeld s ∧ c % 128 = 127 then []
      else [(2 ^ 21 + 2 ^ 18, commonsAddr (c / 128) + c % 128 * 2 ^ 18, 2 ^ 18)])

/-- A copy of `n` bytes of plaintext from one place to another, NaN words where a codeword cannot be corrected (R208,
R362). -/
def copyMem (s : State) (keyFrom src keyTo dst n : Nat) : State :=
  let (s1, v, _) := readMem s keyFrom src n
  writeMem s1 keyTo dst n v

/-- Core `c` saves to its slot: its cellar, and its compute-die state in a form the spec does not lay out (R362). -/
def saveCore (s : State) (ctx c : Nat) : State :=
  let base := saveSlot s ctx c
  let key := saveKey s ctx
  let s1 := (saveParts s c).foldl (fun s p => copyMem s 0 p.2.1 key (base + p.1) p.2.2) s
  let (s2, v) := freshBytes s1 savedStateBytes
  writeMem s2 key (base + 2 ^ 21 + 2 ^ 19) savedStateBytes v

/-- The gates of a core that context `ctx` owns (R77). -/
def gatesOf (k : Core) (ctx : Nat) : Table Gate := k.gates.filter (fun g => g.2.owner.toNat == ctx)

/-- What a core keeps once its context has left: its gates as they stand, whose owners' absence refuses arrivals
(R66, R69, R77; the numbering of operations is the model's). -/
def leftCore (k : Core) : Core := { Core.reset with gates := k.gates, nextOp := k.nextOp }

/-- What is saved of a core: everything, of its gates those of its context (R63, R77, R362). -/
def savedCore (k : Core) (ctx : Nat) : Core := { k with gates := gatesOf k ctx, nextOp := 0 }

/-- What follows once the outgoing context has left the cores: the next begins to restore, or the switch ends (R357,
R426). -/
def outgoingGone (s : State) : State :=
  let next := s.switch.next
  if next = 0 then endSwitch s else beginRestore s next

/-- The cores of the outgoing context as it leaves them. -/
def leaveCores (s : State) : State := { s with cores := tmap (fun _ => Core.reset) (fun _ k => leftCore k) s.cores }

/-- SAVE_DONE: the save ends: the image lies in the slots, the context is READY with SAVED 1, and what the switch leads to
begins (R357, R362). A bond self-test holds it (R227). -/
def execSaveDone (s : State) : Host.Outcome State Fault Refusal :=
  if s.switch.phase ≠ .saving ∨ (List.range 4).any (bondTesting s) then .next s
  else
    let ctx := resident s
    let s1 := (List.range 512).foldl (fun s c => saveCore s ctx c) s
    let image := (List.range 512).foldl (fun t c => tset Core.reset (512 * ctx + c) (savedCore (core s c) ctx) t)
      (s1.saved.filter (fun e => e.1 / 512 != ctx))
    let s2 := leaveCores { s1 with
      saved := image, savedDraw := tset 0 ctx (tget 0 (saveKey s ctx) s.keyDraws) s1.savedDraw }
    let s3 := setRf (setSaved (setCtxState s2 ctx Ctx.ready) ctx true) .global 0 Off.globalRun 0 5 0
    .next (outgoingGone s3)

/-! ## The restore (R64, R362, R363) -/

/-- A core with the gates it has, and those of the image over them (R77). -/
def mergeGates (k : Core) (live : Table Gate) : Core :=
  { k with gates := k.gates.foldl (fun t g => tset Gate.reset g.1 g.2 t) live }

/-- A core's saved state shifted by ALM_SHIFT, its head waiting afresh (R64, R74). -/
def resumedCore (s : State) (ctx : Nat) (k : Core) : Core :=
  { k with alm := { k.alm with epoch := k.alm.epoch + reg64 s .context ctx Off.contextAlmShiftLo, headSince := s.time } }

/-- A core's state read back under another key: free, with nothing in flight (R362). -/
def freeCore (s : State) : State × Core :=
  ({ s with frees := s.frees + 1 }, { (Config.unreadableCore s.frees).getD Core.reset with ops := [], arrivals := [] })

/-- A core's saved state with zero words for the codewords `bad` of its compute-die part: what that leaves of it is free, but
for the slot states, which lie in the Tally's part (R362). -/
def zeroedState (k : Core) (bad : List Nat) : Core :=
  { (Config.zeroedCore k bad).getD k with slots := k.slots, ops := [], arrivals := [] }

/-- Core `c` restores from its slot: its cellar, NaN words where a codeword cannot be corrected, and its compute-die state,
zero words where a codeword cannot; the core then resumes in FAULT with reason MEMORY. Where the slot's key has been replaced
since, nothing is known of the state (R60, R64, R77, R80, R362). -/
def restoreCore (s : State) (ctx c : Nat) : State :=
  let base := saveSlot s ctx c
  let key := saveKey s ctx
  let live := core s c
  let s1 := (saveParts s c).foldl (fun s p => copyMem s key (base + p.1) 0 p.2.1 p.2.2) s
  let (s2, l) := codewords s1 key (savedStateBytes / 16) ((base + 2 ^ 21 + 2 ^ 19) / 16)
  let bad := (List.range l.length).filter (fun i => !(l.getD i (0, true)).2)
  let place := fun (s : State) (k : Core) =>
    setCore s c (heldGates s c { mergeGates (resumedCore s ctx k) live.gates with nextOp := live.nextOp })
  let (s3, k) := if tget 0 ctx s.savedDraw = tget 0 key s.keyDraws
    then (s2, tget Core.reset (512 * ctx + c) s2.saved) else freeCore s2
  if bad.isEmpty then place s3 k
  else
    let k' := zeroedState k bad
    almFault (place s3 k') c 0x0B k'.alm.slot

/-- The image of a context is gone. -/
def dropImage (s : State) (ctx : Nat) : State :=
  setSaved { s with
    saved := s.saved.filter (fun e => e.1 / 512 != ctx), savedDraw := s.savedDraw.filter (fun e => e.1 != ctx) } ctx false

/-- A fresh start: every cellar zero-filled, the compute-die state as at ALM_GO with the program store 0; the gates stand as
the host driver has left them (R65, R363; DEDUCED, log entry 105). -/
def freshStart (s : State) : State := leaveCores (wipeCellars s)

/-- RESTORE_DONE: the restore or the fresh start ends: the chosen context is RESIDENT (R63, R64, R317, R357, R362, R363).
A bond self-test holds it, and it waits for RUN (R227, R426). -/
def execRestoreDone (s : State) : Host.Outcome State Fault Refusal :=
  if s.switch.phase ≠ .restoring ∨ (List.range 4).any (bondTesting s) ∨ powerState s ≠ 0 ∨ tripped s then .next s
  else
    let ctx := s.switch.next
    let s0 := setRf s .global 0 Off.globalRun 0 5 ctx
    let s1 := if ctxSaved s ctx then dropImage ((List.range 512).foldl (fun s c => restoreCore s ctx c) s0) ctx
      else freshStart s0
    .next (resumeStepCmd (endSwitch (setCtxState s1 ctx Ctx.resident)) ctx)

/-! ## A switch that breaks off -/

/-- A CELLAR reset in SAVING or RESTORING: the switch aborts, its context is READY without an image and quarantined ("When
things meet"). -/
def switchAbort (s : State) : State :=
  match s.switch.phase with
  | .saving =>
    let c := resident s
    let s1 := setRf (leaveCores s) .global 0 Off.globalRun 0 5 0
    endSwitch (setQuarantine (dropImage (setCtxState s1 c Ctx.ready) c) c true)
  | .restoring =>
    let c := s.switch.next
    endSwitch (setQuarantine (dropImage (setCtxState s c Ctx.ready) c) c true)
  | _ => s

/-! ## A CONTEXT reset (R78, R373) -/

/-- The gates of a context on a core go to LOST, whether it is resident or not; ARRIVED and PHASE stay (R66, R78; of a
context that is not resident: DEDUCED, log entry 105). -/
def loseGates (k : Core) (ctx : Nat) : Core :=
  { k with gates := tmap (fun _ => Gate.reset) (fun _ g => if g.owner.toNat = ctx then { g with state := .lost } else g) k.gates }

/-- The gates of a context LOST on every core; a core that is OFFLINE holds its gates IDLE (R78, R80). -/
def loseAllGates (s : State) (ctx : Nat) : State :=
  { s with cores := tmap (fun _ => Core.reset) (fun c k => heldGates s c (loseGates k ctx)) s.cores }

/-- The resident context leaves the cores of `cs` as a CONTEXT reset ends them: its operations abandoned, a record for each
head in a GATE wait, the CORE window at the values that a CONTEXT reset gives its fields (R15, R78, R373, R428, R468). -/
def resetCores (s : State) (cs : List Nat) : State :=
  let s1 := cs.foldl ownerLostWaiter s
  let s2 := abandonCores s1 cs
  let s3 := cs.foldl (fun s c => updCore s c leftCore) s2
  resetPages s3 (fun b i => b == .core && cs.contains i) .context false

/-- The switch in progress as a CONTEXT reset of `c` leaves it: one that saves or restores `c`, or has still to bring it
out, ends; one that would restore `c` later brings in no context. -/
def switchReset (s : State) (c : Nat) : State :=
  match s.switch.phase with
  | .idle => s
  | .restoring => if s.switch.next = c then endSwitch s else s
  | _ =>
    if resident s = c then endSwitch s
    else if s.switch.next = c then { s with switch := { s.switch with next := 0 } } else s

/-- The doorbell page of a context returned to its reset values (R405, R428). -/
def resetDoorbell (s : State) (c : Nat) : State :=
  { (resetPages s (fun b i => b == .doorbell && i == c) .context false) with
    evqSent := s.evqSent.filter (fun e => e.1 != c), evqWait := s.evqWait.filter (fun e => e.1 != c) }

/-- The entries of a context whose schedule has been measured have W, A and D again (R376). -/
def unmeasure (s : State) (c : Nat) : State :=
  let mine := s.measured.filter (fun e => e.1 / 65536 == c)
  let s1 := mine.foldl (fun (s : State) e =>
    let i := e.1 % 65536
    { s with terrier := tset 0 i (BitVec.ofNat 128 (setFld (tget 0 i s.terrier).toNat 81 3 (tfld e.2 81 3))) s.terrier }) s
  { s1 with
    measured := s1.measured.filter (fun e => e.1 / 65536 != c),
    measuring := if s1.measuring = some c then none else s1.measuring }

/-- The pages and save slots of a context zero-filled; a FREE context has no save slots (R358, R372). -/
def wipeContext (s : State) (c : Nat) : State :=
  let s1 := (ownEntries s c).foldl (fun s e =>
    wipeWritten s (tfld e.2 32 29 * 2 ^ 21) ((tfld e.2 32 29 + tfld e.2 64 12) * 2 ^ 21)) s
  if ctxState s c = Ctx.free then s1
  else (List.range 512).foldl (fun s k => wipeWritten s (saveSlot s c k) (saveSlot s c k + 2 ^ 22)) s1

/-- Writes of a context that a harvest of it holds are discarded with it ("When things meet" of the harvest). -/
def discardHeld (s : State) : State := { s with waiting := s.waiting.filter (fun b => !beatHeld s b) }

/-- The harvest of a context aborts with status 5, its held writes discarded (R345). -/
def resetHarvest (s : State) (c : Nat) : State :=
  if s.harvest.any (fun r => r.ctx == c) then harvestAbort (discardHeld s) 5 else s

/-- A CONTEXT reset of context `c`: nothing while it is RESETTING; else its work is abandoned, its gates LOST, its image
discarded, its bit set, its keys destroyed, and the wipe begins (R372, R373). -/
def contextReset (s : State) (c : Nat) : State :=
  if c = 0 ∨ ctxState s c = Ctx.resetting then s
  else
    let s1 := switchReset (resetHarvest s c) c
    let s2 := closeContext s1 c
    let s3 := loseAllGates (if resident s2 = c then
        wipeCellars (setRf (resetCores s2 (List.range 512)) .global 0 Off.globalRun 0 5 0)
      else s2) c
    let s4 := setQuarantine (dropImage s3 c) c true
    let s5 := destroyKeys s4 (fun k => slotAssigned s4 k && slotOwner s4 k == c)
    let s6 := wipeContext s5 c
    let s7 := dropWanted (resetDoorbell (unmeasure s6 c) c) c
    let bit := BitVec.ofNat 32 (2 ^ c)
    beginWipe (setCtxState { s7 with
      started := s7.started &&& ~~~bit
      coreReturned := if resident s2 = c then s7.coreReturned ||| bit else s7.coreReturned } c Ctx.resetting) (.context c)

/-- A write of `CONTEXT.CTX_CMD` (R14, R373, R459). -/
def writeCtxCmd (s : State) (c : Nat) (v : Word) : State :=
  if c = 0 then refuse s .context 0 0x06 Off.contextCtxCmd
  else if 2 ≤ v.toNat then refuse s .context c 0x01 Off.contextCtxCmd
  else if v = 0 then s
  else contextReset s c

end Sys2Proof.Machine
end

