-- ==== Sys2Proof/Machine/Cellar.lean ====
section
/-!
DEFINITION. The CELLAR reset of a die: its GO write, the quiesce, the wipe and the end after the exit self-test (R237, R349,
R372, R471).
-/
namespace Sys2Proof.Machine

/-! ## The GO write (R237, R471) -/

/-- Whether a CELLAR, PARTITION or PORT reset is discarded with 0x08: in DUSK or NIGHT, or while one of them is being left
(R426). -/
def inLowPower (s : State) : Bool := powerState s == 1 || powerState s == 2 || powerState s == 4

/-- Whether a PARTITION reset of partition `n` runs (R421). -/
def partResetting (s : State) (n : Nat) : Bool := tget 0 n s.partDawn != 0 || s.partWaiting.contains n

/-- The beats that wait for die `d`'s cellar or granary are refused (R237). -/
def dropBeats (s : State) (d : Nat) : State :=
  { s with
    waiting := s.waiting.filter (fun b => !inDie d (16 * b.word))
    throttles := tmap (fun _ => Throttle.reset) (fun f t => if f / 128 = d then { t with held := [] } else t) s.throttles }

/-- A CELLAR reset of die `d` begins: a harvest, a refill, a serving source and a switch that it meets end first; then every
request is refused and what is in flight ends with CELLAR_RESET: step 1 is at once, and step 2 lasts until what is still
under way has ended (R237, R345, R348, R349, R471). -/
def startCellarReset (s : State) (d : Nat) : State :=
  let s1 := harvestAbort s 2
  let s2 := if refillState s1 = 2 then refillAbort s1 8 else s1
  let s3 := switchAbort (serveAbort s2 8)
  let s4 := setRf (setRbit s3 .cellar d Off.status 1 true) .cellar d Off.cellarResetStep 0 3 2
  cellarSweep (drainRings (dropBeats s4 d)) d

/-- A write of `CELLAR.RESET` (R14, R237, R421, R471). -/
def writeCellarReset (s : State) (d : Nat) (v : Word) : State :=
  if 2 ≤ v.toNat then refuse s .cellar d 0x01 Off.cellarReset
  else if v = 0 ∨ cellarBusy s d then s
  else if inLowPower s || partResetting s d then refuse s .cellar d 0x08 Off.cellarReset
  else startCellarReset s d

/-- CELLAR_RESET: the host writes 1 to RESET.GO of a die (R237, R424). -/
def execCellarReset (die : Fin 4) (s : State) : Host.Outcome State Fault Refusal :=
  .next (hostWrite s .cellar die.val Off.cellarReset 1 (fun s => writeCellarReset s die.val 1))

/-! ## The steps -/

/-- CELLAR_QUIESCED: requests in flight have ended, and the granary enters self-refresh; the wipe begins with the next tick,
for which step 3 stands (R237, R372, R471; DESIGN CHOICE, log entry 113). -/
def execCellarQuiesced (die : Fin 4) (s : State) : Host.Outcome State Fault Refusal :=
  let d := die.val
  if rf s .cellar d Off.cellarResetStep 0 3 = 2 then
    .next (setRf (setRf s .cellar d Off.cellarResetStep 0 3 3) .granary d Off.granaryState 0 2 1)
  else .next s

/-- The wipe of die `d`'s cellar begins, its granary in self-refresh: step 4 (R237, R372). -/
def beginCellarWipe (s : State) (d : Nat) : State :=
  if rf s .cellar d Off.cellarResetStep 0 3 = 3 then
    setRbit { setRf s .cellar d Off.cellarResetStep 0 3 4 with fired := tset 0 (16 + d) (s.time.toNat + 1) s.fired }
      .cellar d Off.status 3 true
  else s

/-- Every wipe that the tick begins. -/
def beginCellarWipes (s : State) : State := (List.range 4).foldl beginCellarWipe s

/-- What a step on an empty queue does: the Bell ticks, and a wipe that stands at step 3 begins (R30, R237; DESIGN CHOICE, log
entries 3 and 113). -/
def idleStep (s : State) : State := beginCellarWipes (tick s)

/-- A core whose Tally has been wiped: every slot CLEAR, the tile queue empty (R134, R237). -/
def Core.clearTally (k : Core) : Core := { k with slots := [], tiles := [] }

/-- CELLAR_WIPE_DONE: every word of the cellar is zero and every Tally slot CLEAR: the record is written and the exit
self-test begins (R226, R237, R372, R377). -/
def execCellarWipeDone (die : Fin 4) (s : State) : Host.Outcome State Fault Refusal :=
  let d := die.val
  if rf s .cellar d Off.cellarResetStep 0 3 = 4 then
    let s1 := wipeCellar s false d
    let s2 := { s1 with
      cores := tmap (fun _ => Core.reset) (fun c k => if c / 128 = d then k.clearTally else k) s1.cores
      tests := tset BondTest.none d .cellar s1.tests }
    let s3 := setRbit (setRf s2 .cellar d Off.cellarResetStep 0 3 5) .cellar d Off.status 3 false
    .next (wipeDoneRecord s3 2 0xFFFF (BitVec.ofNat 64 (tget 0 (16 + d) s3.fired - 1)))
  else .next s

/-- The CELLAR reset of die `d` ends: the granary serves again, and the page has returned to its reset values and is enabled
(R15, R237, R464, R479). -/
def endCellarReset (s : State) (d : Nat) : State :=
  let s1 := setRf s .granary d Off.granaryState 0 2 0
  let s2 := resetPages s1 (fun b i => b == .cellar && i == d) .cellar false
  raiseInt (reeveEnable s2 .cellar d) .cellar d 0

end Sys2Proof.Machine
end

