-- ==== Sys2Proof/Machine/Stack.lean ====
section
/-!
DEFINITION. The bond self-test: when it runs, the remapping of failing lanes and the fence (R224 to R231, R238); and the
refreshes of HBM (R185).
-/
namespace Sys2Proof.Machine

/-! ## HBM (R185) -/

/-- HBM_RFM: a stack asks for refresh management, which is honoured and counted (R185, R471, R480). -/
def execHbmRfm (stack : Fin 16) (s : State) : Host.Outcome State Fault Refusal :=
  .next (incReg s .hbm stack.val Off.hbmRfmCount)

/-- HBM_REFRESH: a per-bank refresh, which keeps what the bank holds and counts as activity; its times are the controller's
(R185, R380). -/
def execHbmRefresh (stack : Fin 16) (s : State) : Host.Outcome State Fault Refusal :=
  .next (countActivity s (stack.val / 4) 56 1)

/-! ## The periodic test (R226, R227) -/

/-- Whether a periodic window of die `d` is skipped: a CELLAR reset of the die runs, whose exit test replaces it; or another
test of the die does, or the die has no power or no clock: in NIGHT, DOWN, tripped, or its rail out of range (R237; beyond
it DEDUCED, log entry 74). -/
def bondSkips (s : State) (d : Nat) : Bool :=
  cellarBusy s d || bondTesting s d || memoryOff s || partState s d == 3 || railGated s d

/-- BOND_SELF_TEST: die d is tested at each tick where BELLTIME mod 2²⁸ equals d × 2²⁶, unless the window is skipped (R226,
R227, R237). -/
def execBondSelfTest (die : Fin 4) (s : State) : Host.Outcome State Fault Refusal :=
  let d := die.val
  if s.time.toNat % 2 ^ 28 ≠ d * 2 ^ 26 ∨ bondSkips s d then .next s
  else match fireOnce s (8 + d) with
  | none => .next s
  | some s1 => .next { s1 with tests := tset BondTest.none d .periodic s1.tests }

/-! ## Lanes (R224, R225) -/

namespace Lane

/-- The unit a failing lane serves, as 128 × die + local index. -/
def device (f : LaneFail) (d : Nat) : Nat := 128 * d + f.unit.val

/-- Spares of the lane's group (R224). -/
def spares (f : LaneFail) : Nat := if f.footprint then 2 else 1

/-- Whether the report names a lane of the part: 240 groups of 33 lanes, or 6 of 66 (R224). -/
def real (f : LaneFail) : Bool := if f.footprint then decide (f.group.val < 6) else decide (f.lane.val < 33)

/-- The remap register of the lane's group (R225). -/
def key (f : LaneFail) (d : Nat) : Nat := (512 * b2n f.footprint + device f d) * 256 + f.group.val

/-- The unit field of STACK records (R238). -/
def recordUnit (f : LaneFail) (d : Nat) : Nat := b2n f.footprint * 2 ^ 12 + device f d

end Lane

/-! ## Fencing (R230) -/

/-- Whether the unit a lane serves is fenced. -/
def unitOffline (s : State) (d : Nat) (f : LaneFail) : Bool :=
  if f.footprint then footprintOffline s d f.unit.val else coreOffline s (Lane.device f d)

/-- The unit that a lane serves is fenced OFFLINE: its fuse, its bit, the record, and what a fenced core's work comes to. The
fuses can be blown in FIELD alone (R80, R229, R230, R238, R374, R479). -/
def fenceUnit (s : State) (d : Nat) (f : LaneFail) : State :=
  if unitOffline s d f || !inField s then s
  else
    let off := if f.footprint then Off.stackOfflineFp else Off.stackOfflineCore
    let s1 := setRbit s .stack d (off + 4 * (f.unit.val / 32)) (f.unit.val % 32) true
    let s2 := deviceEvent s1 .stack d 0x04 0x02 (Lane.recordUnit f d) (det (f.group.val * 2 ^ 24)) [0]
    if f.footprint then s2 else fenceCore s2 (Lane.device f d)

/-- A failing lane takes a free spare of its group (R225, R228, R330). -/
def useSpare (s : State) (d : Nat) (f : LaneFail) (used : List Nat) : State :=
  let left := Lane.spares f - used.length - 1
  let s1 := { s with remaps := tset [] (Lane.key f d) (used ++ [f.lane.val]) s.remaps }
  let s2 := deviceRecord (incReg s1 .stack d Off.stackSpareUsedCount) .stack d 0x04 0x01 (Lane.recordUnit f d)
    (det (f.group.val * 2 ^ 24 + f.lane.val * 2 ^ 16 + left * 2 ^ 8))
  watchCount s2 3 1

/-- One failing lane of a test: a lane already remapped carries nothing; else it takes a free spare, or its unit is fenced
(R225, R228, R230). -/
def laneFails (s : State) (d : Nat) (f : LaneFail) : State :=
  let used := tget [] (Lane.key f d) s.remaps
  if !Lane.real f || used.contains f.lane.val then s
  else if used.length < Lane.spares f then useSpare s d f used
  else fenceUnit s d f

/-- Every failing lane that a test of die `d` has found. -/
def testFails (s : State) (d : Nat) (fails : List LaneFail) : State := fails.foldl (fun s f => laneFails s d f) s

/-- SELF_TEST_COMPLETE: a periodic test, or one at an exit, ends with the lanes found failing: each is remapped or its unit
fenced, what waited goes on, and a CELLAR reset is over. The tests of dawn end with its step 6 (R226 to R230, R237). -/
def execSelfTestComplete (die : Fin 4) (fails : List LaneFail) (s : State) : Host.Outcome State Fault Refusal :=
  let d := die.val
  let t := tget BondTest.none d s.tests
  if t = .none ∨ t = .dawn then .next s
  else
    let s1 := testFails { s with tests := tset BondTest.none d .none s.tests } d fails
    let s2 := if t = .cellar then endCellarReset s1 d else s1
    .next (healthStep s (resubmit s2))

end Sys2Proof.Machine
end

