-- ==== Sys2Proof/Machine/Steward.lean ====
section
/-!
DEFINITION. The Steward: its periods, power estimates, caps and bubbles, heat, wear, operating points, droop and curfew
(R232, R234 to R236, R239, R379 to R396, R414).
-/
namespace Sys2Proof.Machine

/-! ## FP32 of the Steward -/

/-- An exact quotient, with the zero and non-finite rules of IEEE 754. -/
def Num.div : Num → Num → Num
  | .nan, _ => .nan
  | _, .nan => .nan
  | .inf a, .inf b => if a = b then .nan else .nan
  | .inf a, .fin n _ _ => .inf (a != n)
  | .fin n _ _, .inf b => .fin (n != b) 0 0
  | .fin a m e, .fin b k f =>
    if k = 0 then (if m = 0 then .nan else .inf (a != b)) else quotSticky (a != b) m k 80 (e - f)

/-- FP32 division, rounded once. -/
def fdiv (a b : Word) : Word := toF32 ((f32 a).div (f32 b))

/-- A count as FP32. -/
def fnat (n : Nat) : Word := toF32 (.fin false n 0)

/-- An FP32 sum, left to right. -/
def fsum (l : List Word) : Word := l.foldl fadd 0

/-- `⌊x × 2^40⌋` of an FP32 value; 0 below zero, and a number beyond every bound where it is not finite. -/
def fixed40 (w : Word) : Nat :=
  match f32 w with
  | .fin false m e => if 0 ≤ e + 40 then m * 2 ^ (e + 40).toNat else m / 2 ^ (-(e + 40)).toNat
  | .fin true _ _ => 0
  | .inf true => 0
  | _ => 2 ^ 200

/-- A Steward period in units of 10⁻¹² s: 2.048 µs (R379). -/
abbrev periodPs : Nat := 2048000

/-! ## What the Steward keeps for a die -/

/-- What the Steward keeps for die `d`. -/
def soc (s : State) (d : Nat) : Soc := tget Soc.reset d s.socs

/-- What the Steward keeps for die `d`, changed. -/
def updSoc (s : State) (d : Nat) (f : Soc → Soc) : State := { s with socs := tset Soc.reset d (f (soc s d)) s.socs }

/-- The effective voltage of a point in mV: VOLT and the guard band, point 0 held to 850 mV (R390). -/
def effVolt (s : State) (d p : Nat) : Nat :=
  let v := (Config.vfVolt d p).toNat + (soc s d).guard
  if p = 0 then min v 850 else v

/-- Whether a point of die `d` is retired (R390). -/
def retired (s : State) (d p : Nat) : Bool := p != 0 && decide (850 < effVolt s d p)

/-- The highest point of die `d` that is not retired and no higher than `t` (R391). -/
def usable (s : State) (d t : Nat) : Nat := ((List.range (t + 1)).reverse.find? (fun p => !retired s d p)).getD 0

/-- The hottest quadrant of die `d` (R386). -/
def hottest (s : State) (d : Nat) : Nat := (soc s d).quads.foldl max 0

/-- The effective cap C_d of die `d` in sixteenths of a watt (R383, R387). -/
def capSixteenths (s : State) (d : Nat) : Nat := (16 - (soc s d).capDown) * rf s .steward 0 (Off.stewardDieCap + 4 * d) 0 10

/-- A POWER record (R395, R444). -/
def powerRecord (s : State) (code unit detail : Nat) : State := deviceRecord s .steward 0 0x08 code unit (det detail)

/-- A POWER record that raises an interrupt bit with it (R395, R443, R444). -/
def powerEvent (s : State) (code unit detail k : Nat) : State := deviceEvent s .steward 0 0x08 code unit (det detail) [k]

/-! ## Sensors (R234, R386) -/

/-- HOT_CTRL, WEAR_SWING and WEAR_EXP of die `d` as they act (R239, R465). -/
def stackActing (s : State) (d : Nat) : Word × Word × Word :=
  match s.stackHeld.find? (fun e => e.1 == d) with
  | some e => e.2
  | none => (reg s .stack d Off.stackHotCtrl, reg s .stack d Off.stackWearSwing, reg s .stack d Off.stackWearExp)

/-- The greatest number below `2^n` more than `acc` whose 16th power does not pass `v`, built from the top bit. -/
def rootFrom (v : Nat) : Nat → Nat → Nat
  | 0, acc => acc
  | n + 1, acc => rootFrom v n (if (acc + 2 ^ n) ^ 16 ≤ v then acc + 2 ^ n else acc)

/-- x to the power e ÷ 16 in FP32, rounded once from the exact value (R236; that it is rounded once: DESIGN CHOICE, log
entry 112). -/
def wearPow (x : Word) (e : Nat) : Word :=
  if e = 0 then 0x3F800000
  else match f32 x with
  | .fin false 0 _ => 0
  | .fin false m k =>
    -- x^e is N × 2^(k e); N is shifted by `sh` so that what remains of the exponent is a multiple of 16.
    let n := m ^ e
    let sh : Int := 600 - (Nat.log2 n : Int)
    let sh := sh + (k * e - sh) % 16
    let v := if 0 ≤ sh then n * 2 ^ sh.toNat else n / 2 ^ (-sh).toNat
    let r := rootFrom v 40 0
    let exact := r ^ 16 = v ∧ (0 ≤ sh ∨ v * 2 ^ (-sh).toNat = n)
    toF32 (.fin false (2 * r + (if exact then 0 else 1)) ((k * e - sh) / 16 - 1))
  | .fin true _ _ => nan32
  | .inf neg => if neg then nan32 else 0x7F800000
  | .nan => nan32

/-- The share of rated bond life of one half-cycle, in units of 2⁻³² (R236). -/
def wearWeight (s : State) (d swing : Nat) : Nat :=
  let ratio := fdiv (fnat swing) (fnat (Config.wearTref d).toNat)
  let e := (stackActing s d).2.2.toNat % 256
  match f32 (fdiv (fmul 0x3F000000 (wearPow ratio e)) (fnat (Config.wearNref d).toNat)) with
  | .fin false m e => rneInt m (e + 32)
  | .fin true _ _ => 0
  | _ => 2 ^ 32 - 1

/-- A quadrant's tracker after a sample `t` (R234, R235). -/
def wearStep (s : State) (d t : Nat) : Option Wear → Wear
  | none => ⟨t, true, 0, 0⟩
  | some w =>
    let swing := if w.x ≤ t then t - w.x else w.x - t
    if (w.up ∧ w.x < t) ∨ (!w.up ∧ t < w.x) then { w with x := t }
    else if (stackActing s d).2.1.toNat % 256 ≤ swing then
      ⟨t, !w.up, satInc w.half, satAdd w.life (wearWeight s d swing)⟩
    else w

/-- One quadrant sensor sampled (R234, R386). -/
def sampleQuad (s : State) (i t : Nat) : State :=
  { s with wear := tset none i (some (wearStep s (i / 4) t (tget none i s.wear))) s.wear }

/-- One stack's temperature read; its page raises its bit when it reaches 95 °C (R386, R471, R479). -/
def sampleStack (s : State) (k t : Nat) : State :=
  let before := rf s .hbm k Off.hbmTemp 0 10
  let s1 := setRf s .hbm k Off.hbmTemp 0 10 t
  if before < 380 ∧ 380 ≤ t then raiseInt s1 .hbm k 0 else s1

/-- Every sensor sampled (R234, R386). -/
def sampleAll (s : State) (r : PeriodReport) : State :=
  let q := fun i => (r.quads.getD i 0).toNat
  let s1 := (List.range 4).foldl (fun s d =>
    updSoc s d (fun k => { k with quads := (List.range 4).map (fun j => q (4 * d + j)), link := (r.links.getD d 0).toNat })) s
  let s2 := (List.range 16).foldl (fun s i => sampleQuad s i (q i)) s1
  (List.range 16).foldl (fun s k => sampleStack s k (r.stackTemps.getD k 0).toNat) s2

/-! ## Heat (R387) -/

/-- The hottest of the four stacks of a die. -/
def hottestStack (s : State) (d : Nat) : Nat := ((List.range 4).map (fun k => rf s .hbm (4 * d + k) Off.hbmTemp 0 10)).foldl max 0

/-- The heat of die `d` moves its effective cap by one step, and the first hot period is recorded (R387, R444). -/
def heatStep (s : State) (d : Nat) : State :=
  let limit := rf s .steward 0 Off.stewardTLimit 0 10
  let hotQuad := decide (limit ≤ hottest s d)
  let hot := hotQuad || decide (380 ≤ hottestStack s d)
  let cool := decide (hottest s d + 8 < limit) && decide (hottestStack s d < 372)
  let before := (soc s d).hot
  let s1 := updSoc s d (fun k => { k with
    hot := hot
    capDown := if hot then min 12 (k.capDown + 1) else if cool then k.capDown - 1 else k.capDown })
  if hot && !before then
    powerEvent s1 0x04 d (2 ^ 24 + (if hotQuad then hottest s d else hottestStack s d)) 1
  else s1

/-! ## Activity (R379, R380, R394, R397) -/

/-- Whether the events of an activity counter are commands, which the state counts (log entry 115). -/
def countedHere (j : Nat) : Bool := [16, 20, 26, 31, 46, 56, 61, 62, 63].contains j

/-- What the state has counted since the period began. -/
def ownActivity (s : State) : List Activity :=
  s.activity.map (fun e =>
    ⟨⟨e.1 / 256 % 32, Nat.mod_lt _ (by decide)⟩, ⟨e.1 / 64 % 4, Nat.mod_lt _ (by decide)⟩,
      ⟨e.1 % 64, Nat.mod_lt _ (by decide)⟩, BitVec.ofNat 32 e.2⟩)

/-- Whether a context may be charged for events of the period: 0, the resident one, one that was resident in it (R394). -/
def chargeable (s : State) (c : Nat) : Bool := c == 0 || c == resident s || s.activity.any (fun e => e.1 / 256 == c)

/-- The counts of the period that ends: those of the state, and those reported for the counters whose events lie within
commands, charged to a context that was resident in it (R379, R380, R394). -/
def periodActivity (s : State) (report : List Activity) : List Activity :=
  let rest := report.filter (fun a => !countedHere a.counter.val)
  ownActivity s ++ rest.map (fun a =>
    if chargeable s a.ctx.val then a else { a with ctx := ⟨resident s % 32, Nat.mod_lt _ (by decide)⟩ })

/-! ## Estimates (R380 to R382) -/

/-- The events of activity counter `j` of die `d` that `p` picks, SATURATING (R380, R397). -/
def activityCount (acts : List Activity) (d j : Nat) (p : Nat → Bool) : Nat :=
  min (2 ^ 32 - 1) ((acts.filter (fun a => a.die.val == d && a.counter.val == j && p a.ctx.val)).map (fun a => a.count.toNat)).sum

/-- One term w_j × a_j in pJ (R380, R381). -/
def energyTerm (d j : Nat) (a : Word) : Word := fmul (toF32 (.fin false (Config.activityWeight d j).toNat (-4))) a

/-- V ÷ V15 of die `d` (R381). -/
def voltRatio (s : State) (d : Nat) : Word := fdiv (fnat (effVolt s d (soc s d).cur)) (fnat (Config.vfVolt d 15).toNat)

/-- The leakage of die `d` in W (R381). -/
def leakage (s : State) (d : Nat) : Word :=
  let t := toF32 (.fin false (hottest s d) (-2))
  fmul (fmul (Config.standing d 0) (voltRatio s d)) (toF32 (exp2Num (f32 (fdiv (fadd t 0xC2AA0000) 0x41A00000))))

/-- Whether the compute dies are power-gated, so that only memory standing power and refresh are estimated ("When things
meet"). -/
def powerGated (s : State) : Bool := powerState s == 2 || s.powerStep == 5 || s.powerStep == 6

/-- P_die of die `d` in W, from the counts `a` (R381, R382). -/
def dieWatts (s : State) (d : Nat) (a : Nat → Word) : Word :=
  if powerGated s then 0
  else
    let r := voltRatio s d
    let e := fmul (fmul r r) (fsum ((List.range 48).map (fun j => energyTerm d j (a j))))
    fadd (fdiv e (fnat periodPs)) (leakage s d)

/-- P_mem,d in W (R381). -/
def memWatts (s : State) (d : Nat) (a : Nat → Word) : Word :=
  let js := if powerGated s then [56] else (List.range 9).map (fun j => 48 + j)
  fadd (fdiv (fsum (js.map (fun j => energyTerm d j (a j)))) (fnat periodPs)) (Config.standing d 1)

/-- P_link,d in W (R381). -/
def linkWatts (s : State) (d : Nat) (a : Nat → Word) : Word :=
  if powerGated s then 0
  else
    fadd (fdiv (fsum ((List.range 7).map (fun j => energyTerm d (57 + j) (a (57 + j))))) (fnat periodPs)) (Config.standing d 2)

/-- The actual counts of a period (R380). -/
def actualCount (acts : List Activity) (d j : Nat) : Word := fnat (activityCount acts d j (fun _ => true))

/-- The demand counts: MATRIX counts without the bubbles (R382). -/
def demandCount (s : State) (acts : List Activity) (d j : Nat) : Word :=
  let a := actualCount acts d j
  if j < 20 then fdiv (fmul a (fnat 16)) (fnat (16 - (soc s d).bubble)) else a

/-- The power of the package, given each die's P_die (R381). -/
def packageWatts (s : State) (acts : List Activity) (p : Nat → Word) : Word :=
  fadd (fsum ((List.range 4).map (fun d =>
    fadd (fadd (p d) (memWatts s d (actualCount acts d))) (linkWatts s d (actualCount acts d)))))
    (fnat (rf s .steward 0 Off.stewardPFixed 0 10))

/-- The estimates of a period: demand and actual of each die and of the package (R381, R382). -/
def estimates (s : State) (acts : List Activity) : List (Word × Word) :=
  let dem := fun d => dieWatts s d (demandCount s acts d)
  let act := fun d => dieWatts s d (actualCount acts d)
  (List.range 4).map (fun d => (dem d, act d)) ++ [(packageWatts s acts dem, packageWatts s acts act)]

/-! ## Energy (R394) -/

/-- The attribution class of an activity counter, 5 for Base (R380). -/
def activityClass (j : Nat) : Nat :=
  if j < 20 then 0
  else if j < 32 then 1
  else if j < 56 then 2
  else if j = 56 ∨ j = 57 ∨ j = 60 then 5
  else if j < 62 then 3
  else 4

/-- The energy of the counters of a class on die `d`, for the work that `p` picks, in units of 2⁻⁴⁰ pJ (R381, R394). -/
def classEnergy (s : State) (acts : List Activity) (d cls : Nat) (p : Nat → Bool) : Nat :=
  let js := (List.range 64).filter (fun j => activityClass j == cls)
  let sum := fun q => fsum ((js.filter q).map (fun j => energyTerm d j (fnat (activityCount acts d j p))))
  let r := voltRatio s d
  fixed40 (fadd (fmul (fmul r r) (sum (fun j => j < 48))) (sum (fun j => 48 ≤ j)))

/-- More energy on one counter. -/
def addEnergy (s : State) (key n : Nat) : State := { s with energy := tset 0 key (tget 0 key s.energy + n) s.energy }

/-- What a period adds to ENERGY_BASE: leakage, standing power, P_FIXED and the Base counters (R394). -/
def baseEnergy (s : State) (acts : List Activity) : Nat :=
  let watts := fun w => fixed40 (fmul w (fnat periodPs))
  ((List.range 4).map (fun d => classEnergy s acts d 5 (fun _ => true) + watts (Config.standing d 1)
    + (if powerGated s then 0 else watts (leakage s d) + watts (Config.standing d 2)))).sum
    + rf s .steward 0 Off.stewardPFixed 0 10 * periodPs * 2 ^ 40

/-- The energy of a period attributed (R394). -/
def attributeEnergy (s : State) (acts : List Activity) : State :=
  let ctxs := (List.range 32).filter (fun c => acts.any (fun a => a.ctx.val == c))
  let s1 := ctxs.foldl (fun s c => (List.range 5).foldl (fun s k =>
    addEnergy s (8 * c + k) ((List.range 4).map (fun d => classEnergy s acts d k (fun x => x == c))).sum) s) s
  addEnergy s1 256 (baseEnergy s acts)

/-! ## Periods (R232, R379, R384) -/

/-- The footprints that become HOT: those beneath a core that issued feed beats in THRESH sixteenths of its cycles (R232). -/
def hotSet (s : State) (feed : List (Fin 512 × Fin 17)) : BitVec 512 :=
  feed.foldl (fun m x =>
    if (stackActing s (x.1.val / 128)).1.toNat % 16 ≤ x.2.val then m ||| BitVec.ofNat 512 (2 ^ x.1.val) else m) 0

/-- STEWARD_PERIOD: at each tick where BELLTIME mod 512 is 0 the activity counters are read and cleared, the sensors and wear
sampled, the caps moved by heat, and the energy attributed (R232, R234, R379 to R382, R386, R387, R394). -/
def execStewardPeriod (report : PeriodReport) (s : State) : Host.Outcome State Fault Refusal :=
  if s.time.toNat % 512 ≠ 0 then .next s
  else match fireOnce s 5 with
  | none => .next s
  | some s0 =>
    let s1 := sampleAll s0 report
    let s2 := (List.range 4).foldl heatStep s1
    let acts := periodActivity s report.activity
    .next (attributeEnergy { s2 with
      estNext := estimates s2 acts, hotNext := hotSet s2 report.feed, activity := [] } acts)

/-- `min(15, ⌈16 × GAIN × (P − C) ÷ C⌉)`, 0 when P ≤ C; `cap` in sixteenths of a watt (R384). -/
def bubbleFor (gain : Nat) (watts : Word) (cap : Nat) : Nat :=
  let p := 16 * fixed40 watts
  let c := cap * 2 ^ 40
  if p ≤ c then 0 else min 15 (ceilDiv (gain * (p - c)) c)

/-- n_d as the caps give it (R384). -/
def bubbleCount (s : State) (d : Nat) : Nat :=
  let gain := rf s .steward 0 Off.ctrl 0 6
  max (bubbleFor gain (soc s d).demand (capSixteenths s d)) (bubbleFor gain s.pkgEst.1 (16 * rf s .steward 0 Off.stewardPkgCap 0 12))

/-- A die takes its bubble count, 15 in CURFEW, and records a CAP at most once in 2¹⁴ ticks (R384, R393, R395). -/
def takeBubbles (s : State) (d : Nat) : State :=
  let n := bubbleCount s d
  let k := soc s d
  let s1 := updSoc s d (fun k => { k with bubble := if s.curfew = .none then n else 15 })
  if n ≠ 0 ∧ (k.capAt = 0 ∨ k.capAt - 1 + 2 ^ 14 ≤ s.time.toNat) then
    powerRecord (updSoc s1 d (fun k => { k with capAt := s.time.toNat + 1 })) 0x02 d
      (n * 2 ^ 28 + min (fixed40 k.demand / 2 ^ 40) (2 ^ 16 - 1))
  else s1

/-- The HOT states of the period take force (R232, R233). -/
def takeHot (s : State) : State :=
  (s.throttles.map Prod.fst).foldl releaseCool { s with hotFp := s.hotNext }

/-- ESTIMATE_COMPLETE: 64 ticks into a period the estimates are complete, and the bubble counts and HOT states take force
(R232, R233, R379, R384). -/
def execEstimateComplete (s : State) : Host.Outcome State Fault Refusal :=
  if s.time.toNat % 512 ≠ 64 ∨ s.estNext.isEmpty then .next s
  else
    let e := fun i => s.estNext.getD i (0, 0)
    let s1 := (List.range 4).foldl (fun s d => updSoc s d (fun k => { k with demand := (e d).1, actual := (e d).2 })) s
    let s2 := { s1 with pkgEst := e 4, estNext := [] }
    let s3 := if (List.range 4).any (fun d => bubbleCount s2 d != 0) then incReg s2 .steward 0 Off.stewardCapPeriods else s2
    .next (takeHot ((List.range 4).foldl takeBubbles s3))

/-! ## Thermal trip (R388) -/

/-- THERMTRIP: a sensor of compute or link die `die` reads 115 °C or more: THERMTRIP_N falls, every clock stops, TRIPPED is
set and the record written (R388, R395, R444, R451). -/
def execThermtrip (die : Fin 4) (temp : BitVec 10) (s : State) : Host.Outcome State Fault Refusal :=
  if temp.toNat < 460 ∨ tripped s then .next s
  else
    let s1 := emit (setRbit s .steward 0 Off.stewardThermtrip 0 true) .thermtrip
    let s2 := powerEvent s1 0x04 die.val (2 * 2 ^ 24 + temp.toNat) 1
    .next (healthStep s s2)

/-! ## Operating points (R389 to R391, R414) -/

/-- VOUT_COMMAND of PMBus. -/
abbrev voutCommand : Nat := 0x21

/-- A transaction with the regulator of die `d`, at its address, its page selected first (R414). -/
def pmbusSend (s : State) (d command value : Nat) : State :=
  let a := reg s .sideband 0 (Off.sidebandPmbAddr + 4 * d)
  emit (emit s (.pmbus d (fld a.toNat 0 7) 0x00 (fld a.toNat 8 8))) (.pmbus d (fld a.toNat 0 7) command value)

/-- A voltage write to a die's regulator is sent, or sent again (R391, R414). -/
def sendVolt (s : State) (d : Nat) (w : VoltWrite) : State :=
  pmbusSend (updSoc s d (fun k => { k with volt := some w })) d voutCommand (effVolt s d w.point)

/-- A voltage write to a die's regulator begins (R391, R414). -/
def setVolt (s : State) (d p : Nat) (upward : Bool) : State := sendVolt s d ⟨p, upward, 0, false, s.time⟩

/-- Die `d` moves to point `p`: upward the voltage is written first, downward the clock changes first (R391). -/
def moveTo (s : State) (d p : Nat) : State :=
  let k := soc s d
  if k.cur < p then
    if k.rising = some p then s
    else setVolt (updSoc s d (fun k => { k with rising := some p, settleFrom := none })) d p true
  else if p < k.cur ∨ k.rising.isSome then
    setVolt (updSoc s d (fun k => { k with cur := p, rising := none, settleFrom := none })) d p false
  else s

/-- The target of die `d` (R391, R396). -/
def vfTarget (s : State) (d : Nat) : Nat := rf s .steward 0 Off.stewardVfTarget (4 * d) 4

/-- Die `d` moves toward its target, unless CURFEW, NIGHT or a thermal trip holds it (R388, R391, R393, R427). -/
def steer (s : State) (d : Nat) : State :=
  if s.curfew ≠ .none ∨ linkOff s then s else moveTo s d (usable s d (vfTarget s d))

/-- Every die moves toward its target. -/
def steerAll (s : State) : State := (List.range 4).foldl steer s

/-- A write of `STEWARD.VF_TARGET`: refused with 0x40 where a die's point is retired, else each die moves; in CURFEW the value
is kept (R14, R391, R396). -/
def writeVfTarget (s : State) (v : Word) : State :=
  if 2 ^ 16 ≤ v.toNat then refuse s .steward 0 0x01 Off.stewardVfTarget
  else if (List.range 4).any (fun d => retired s d (fld v.toNat (4 * d) 4)) then refuse s .steward 0 0x40 Off.stewardVfTarget
  else steerAll (setReg s .steward 0 Off.stewardVfTarget v)

/-- VF_TARGET_WRITE (R391, R396, R424). -/
def execVfTargetWrite (value : BitVec 32) (s : State) : Host.Outcome State Fault Refusal :=
  .next (hostWrite s .steward 0 Off.stewardVfTarget value (fun s => writeVfTarget s value))

/-- VF_SETTLE: VF_SETTLE ticks after the voltage of an upward move was written, the clock changes (R391). -/
def execVfSettle (die : Fin 4) (s : State) : Host.Outcome State Fault Refusal :=
  let k := soc s die.val
  match k.rising, k.settleFrom with
  | some p, some t =>
    if t.toNat + rf s .steward 0 Off.stewardVfSettle 0 16 ≤ s.time.toNat then
      .next (updSoc s die.val (fun k => { k with cur := p, rising := none, settleFrom := none }))
    else .next s
  | _, _ => .next s

/-- The HOST PMBUS_FAULT record of a die: command VOUT_COMMAND by default (R414, R417). -/
def pmbusFault (s : State) (d command : Nat) : State :=
  deviceRecord s .sideband 0 0x0B 0x06 0xFFFF (det (command * 2 ^ 8 + d))

/-- PMBUS_TRANSACTION_DONE: the voltage write of a die ends; a NACK or a PEC error is retried twice, and a third failure is
recorded, abandons an upward move and parks a downward write (R391, R414). -/
def execPmbusTransactionDone (die : Fin 4) (ok : Bool) (s : State) : Host.Outcome State Fault Refusal :=
  let d := die.val
  match (soc s d).volt with
  | none => .next s
  | some w =>
    if w.parked then .next s
    else if ok then
      .next (updSoc s d (fun k => { k with volt := none, settleFrom := if w.upward then some s.time else none }))
    else if w.failures < 2 then
      .next (sendVolt s d { w with failures := w.failures + 1 })
    else if w.upward then
      .next (pmbusFault (updSoc s d (fun k => { k with volt := none, rising := none, settleFrom := none })) d voutCommand)
    else
      .next (pmbusFault (updSoc s d (fun k => { k with volt := some { w with failures := 0, parked := true, since := s.time } })) d
        voutCommand)

/-- PMBUS_RETRY: a downward or CURFEW voltage write that failed is tried again every 2¹⁴ ticks (R414). -/
def execPmbusRetry (die : Fin 4) (s : State) : Host.Outcome State Fault Refusal :=
  let d := die.val
  match (soc s d).volt with
  | none => .next s
  | some w =>
    if w.parked ∧ w.since.toNat + 2 ^ 14 ≤ s.time.toNat then
      .next (sendVolt s d { w with parked := false })
    else .next s

/-! ## Wear and the guard band (R235, R239, R390) -/

/-- The guard band of die `d` as its wear gives it, in mV (R390). -/
def guardBand (s : State) (d : Nat) : Nat :=
  let worst := ((List.range 4).map (fun q => match tget none (4 * d + q) s.wear with
    | some w => w.life.toNat
    | none => 0)).foldl max 0
  ceilDiv (Config.gbSlope.toNat * worst) (2 ^ 32)

/-- The guard band of die `d` recomputed: points beyond 850 mV retire, each with its record, and a die whose point has
retired moves down at once (R390, R395). -/
def updateGuard (s : State) (d : Nat) : State :=
  let g := guardBand s d
  let s1 := updSoc s d (fun k => { k with guard := g })
  let gone := (List.range 16).filter (fun p => !retired s d p && retired s1 d p)
  let s2 := gone.foldl (fun s p => powerRecord s 0x05 d (p + g % 256 * 16)) s1
  let k := soc s2 d
  if retired s2 d k.cur || k.rising.any (fun p => retired s2 d p) then moveTo s2 d (usable s2 d (vfTarget s2 d)) else s2

/-- The Reeve writes the wear of every quadrant to storage, and the guard bands follow (R235, R239, R390). -/
def storeWear (s : State) : State := (List.range 4).foldl updateGuard { s with wearStored := s.wear }

/-- WEAR_WRITEBACK: every 2²⁸ ticks (R239, R390). -/
def execWearWriteback (s : State) : Host.Outcome State Fault Refusal :=
  if s.time.toNat % 2 ^ 28 ≠ 0 then .next s
  else match fireOnce s 4 with
  | none => .next s
  | some s1 => .next (storeWear s1)

/-- ORDERLY_POWER_DOWN: the wear is written back (R235, R239). -/
def execOrderlyPowerDown (s : State) : Host.Outcome State Fault Refusal := .next (storeWear s)

/-! ## Droop (R392) -/

/-- DROOP: a detector of die `die` reads `reading` mV, below the effective voltage of the die's point by more than
DROOP_MARGIN: its clock halves; an onset before the clock has returned is merged (R330, R392, R395). -/
def execDroop (die : Fin 4) (reading : BitVec 12) (s : State) : Host.Outcome State Fault Refusal :=
  let d := die.val
  let k := soc s d
  if effVolt s d k.cur ≤ reading.toNat + rf s .steward 0 Off.stewardDroopMargin 0 8 then .next s
  else if k.droop then .next (updSoc s d (fun k => { k with droopOn := s.time }))
  else
    let n := k.drooped + 1
    let s1 := watchCount (incReg s .steward 0 Off.stewardDroopCount) 5 1
    if k.droopAt = 0 ∨ k.droopAt - 1 + 2 ^ 14 ≤ s.time.toNat then
      .next (powerRecord (updSoc s1 d (fun k => { k with
        droop := true, droopOn := s.time, drooped := 0, droopAt := s.time.toNat + 1 })) 0x03 d
        (min n (2 ^ 32 - 1)))
    else .next (updSoc s1 d (fun k => { k with droop := true, droopOn := s.time, drooped := n }))

/-- DROOP_END: 64 ticks after the tick at which every detector of the die had recovered, the clock returns (R392). -/
def execDroopEnd (die : Fin 4) (recovered : BitVec 64) (s : State) : Host.Outcome State Fault Refusal :=
  if (soc s die.val).droopOn.toNat ≤ recovered.toNat ∧ recovered.toNat + 64 ≤ s.time.toNat then
    .next (updSoc s die.val (fun k => { k with droop := false }))
  else .next s

/-! ## Curfew (R393) -/

/-- Die `d` goes to point 0 with 15 bubbles, an upward move abandoned, and point 0's voltage is written (R393). -/
def curfewDie (s : State) (d : Nat) : State :=
  setVolt (updSoc s d (fun k => { k with cur := 0, rising := none, settleFrom := none, bubble := 15 })) d 0 false

/-- CURFEW: CURFEW_N falls: the device enters CURFEW, or a fall during the hold cancels the hold (R393, R395, R444). -/
def execCurfew (s : State) : Host.Outcome State Fault Refusal :=
  match s.curfew with
  | .active => .next s
  | .hold _ => .next { s with curfew := .active }
  | .none =>
    let s1 := (List.range 4).foldl curfewDie { s with curfew := .active }
    .next (powerEvent (incReg s1 .steward 0 Off.stewardCurfewCount) 0x01 4 1 0)

/-- CURFEW_RELEASE: CURFEW_N rises and the hold starts (R393). -/
def execCurfewRelease (s : State) : Host.Outcome State Fault Refusal :=
  if s.curfew = .active then .next { s with curfew := .hold s.time } else .next s

/-- CURFEW_HOLD_END: 25,000 ticks after CURFEW_N rose the hold ends, and each die climbs to its target (R393, R395). -/
def execCurfewHoldEnd (s : State) : Host.Outcome State Fault Refusal :=
  match s.curfew with
  | .hold rose =>
    if rose.toNat + 25000 ≤ s.time.toNat then .next (steerAll (powerRecord { s with curfew := .none } 0x01 4 0)) else .next s
  | _ => .next s

end Sys2Proof.Machine
end

