-- ==== Sys2Proof/Machine/Sideband.lean ====
section
/-!
DEFINITION. The slow wires: I3C with MCTP and PLDM (R412, R413), SPDM (R375), JTAG (R416), TEST_MODE (R485) and what drives
HEALTH_N (R451).
-/
namespace Sys2Proof.Machine

/-- Whether HEALTH_N is driven low: HEALTH is not 0, or no firmware runs (R415, R451, R485). -/
def healthLow (s : State) : Bool := health s != 0 || !s.firmware

/-! ## I3C (R412) -/

/-- The dynamic address, 0 when none. -/
def i3cAddr (s : State) : Nat := rf s .sideband 0 Off.sidebandI3cDa 0 7

/-- ENTDAA: in the arbitration the target, while it has no address, presents its provisioned ID, BCR 0x26 and DCR 0x00, and takes
one (R412). -/
def execEntdaa (addr : BitVec 7) (s : State) : Host.Outcome State Fault Refusal :=
  if s.firmware ∧ i3cAddr s = 0 then
    .next (setRf (emit s (.daaId Config.provisionedId 0x26 0x00)) .sideband 0 Off.sidebandI3cDa 0 7 addr.toNat)
  else .next s

/-- RSTDAA: the dynamic address is cleared (R412). -/
def execRstdaa (s : State) : Host.Outcome State Fault Refusal := .next (setRf s .sideband 0 Off.sidebandI3cDa 0 7 0)

/-- A reply waits to be read: the IBI of DSP0233, then the reply (R412, R413). -/
def i3cReply (s : State) (o : Output) : State := emit (emit s (.ibi 0xAE)) o

/-- Whether messages reach the target over I3C: it has an address and its firmware runs. -/
def i3cServes (s : State) : Bool := s.firmware && i3cAddr s != 0

/-- A message over I3C, answered by a target that has an address and whose firmware runs. -/
def overI3c (s : State) (f : State → State) : Host.Outcome State Fault Refusal :=
  if i3cServes s then .next (f s) else .next s

/-- A message cut into transmission units of 64 B (R413). -/
def units (l : List Byte) : List (List Byte) := chunks 64 ((l.length + 63) / 64) l

/-! ## MCTP control (R413) -/

/-- The Endpoint ID. -/
def mctpEid (s : State) : Nat := rf s .sideband 0 Off.sidebandMctpEid 0 8

/-- SET_ENDPOINT_ID: the ID is set; 0 and 0xFF are no IDs (R413, R418). -/
def execSetEndpointId (eid : BitVec 8) (s : State) : Host.Outcome State Fault Refusal :=
  overI3c s (fun s =>
    if eid = 0 ∨ eid = 0xFF then i3cReply s (.mctp 0x01 0x02 [])
    else i3cReply (setRf s .sideband 0 Off.sidebandMctpEid 0 8 eid.toNat) (.mctp 0x01 0 [eid.toNat]))

/-- GET_ENDPOINT_ID (R413). -/
def execGetEndpointId (s : State) : Host.Outcome State Fault Refusal :=
  overI3c s (fun s => i3cReply s (.mctp 0x02 0 [mctpEid s]))

/-- GET_MCTP_VERSION_SUPPORT (R413). -/
def execGetMctpVersionSupport (s : State) : Host.Outcome State Fault Refusal :=
  overI3c s (fun s => i3cReply s (.mctp 0x04 0 Config.mctpVersions))

/-- GET_MESSAGE_TYPE_SUPPORT: control, PLDM, SPDM and secured messages (R413). -/
def execGetMessageTypeSupport (s : State) : Host.Outcome State Fault Refusal :=
  overI3c s (fun s => i3cReply s (.mctp 0x05 0 [0x00, 0x01, 0x05, 0x06]))

/-! ## PLDM (R413). Sensors, effecters and records are numbered as the PDR table lists them, from 1 (the numbers are the
model's). -/

/-- An estimate in units of 0.25 W (R396). -/
def quarterWatts (w : Word) : Nat := min (2 ^ 16 - 1) (fixed40 w / 2 ^ 38)

/-- `STEWARD.EST_ACTUAL` of dies 0 to 3 and, at 4, of the package (R396). -/
def estActual (s : State) (u : Nat) : Nat :=
  if u < 4 then quarterWatts (soc s u).actual else if u = 4 then quarterWatts s.pkgEst.2 else 0

/-- The reading of numeric sensor `n`: 1 package and 2 to 5 dies in 0.25 W; 6 to 9 compute dies, 10 to 13 link dies and 14 the
hottest stack in 0.25 °C; 15 the Watch level (R413). -/
def sensorValue (s : State) (n : Nat) : Option Nat :=
  if n = 1 then some (estActual s 4)
  else if 2 ≤ n ∧ n ≤ 5 then some (estActual s (n - 2))
  else if 6 ≤ n ∧ n ≤ 9 then some (hottest s (n - 6))
  else if 10 ≤ n ∧ n ≤ 13 then some (soc s (n - 10)).link
  else if n = 14 then some (((List.range 16).map (fun k => rf s .hbm k Off.hbmTemp 0 10)).foldl max 0)
  else if n = 15 then some (rf s .watch 0 Off.watchLevel 0 8)
  else none

/-- The reading of state sensor `n`: 16 health, 17 thermal trip, 18 life cycle (R413). -/
def stateValue (s : State) (n : Nat) : Option Nat :=
  if n = 16 then some (health s)
  else if n = 17 then some (b2n (tripped s))
  else if n = 18 then some (rf s .reeve 0 Off.reeveLc 0 2)
  else none

/-- The register of effecter `n` with its largest value: 1 the package cap, 2 to 5 the die caps (R396, R413). -/
def effecterReg (n : Nat) : Option (Nat × Nat) :=
  if n = 1 then some (Off.stewardPkgCap, 2800)
  else if 2 ≤ n ∧ n ≤ 5 then some (Off.stewardDieCap + 4 * (n - 2), 450)
  else none

/-- How many records the repository holds: 15 numeric and 3 state sensors, 5 effecters (R413). -/
abbrev pdrCount : Nat := 23

/-- GETPDRREPOSITORYINFO (R413). -/
def execGetpdrrepositoryinfo (s : State) : Host.Outcome State Fault Refusal :=
  overI3c s (fun s => i3cReply s (.pldm 0x50 0 [pdrCount]))

/-- The PDR type of a record: 2 a numeric sensor, 4 a state sensor, 9 a numeric effecter (R413; the codes of DSP0248: PRESUMED,
log entry 117). -/
def pdrType (n : Nat) : Nat := if n ≤ 15 then 2 else if n ≤ 18 then 4 else 9

/-- The sensor or effecter that a record describes. -/
def pdrUnit (n : Nat) : Nat := if n ≤ 18 then n else n - 18

/-- The base unit of a record: 7 watts, 2 degrees Celsius, 0 none (R413; the codes of DSP0248: PRESUMED, log entry 117). -/
def pdrBase (n : Nat) : Nat := if n ≤ 5 ∨ 19 ≤ n then 7 else if n ≤ 14 then 2 else 0

/-- The record of a handle: the handle, its PDR type, what it describes, its base unit, and the rest, which the spec leaves open
(R413). -/
def pdrBytes (n : Nat) : List Byte :=
  toBytes 4 n ++ [0x01] ++ toBytes 1 (pdrType n) ++ toBytes 2 (pdrUnit n) ++ toBytes 1 (pdrBase n) ++ Config.pdrRest n

/-- GETPDR: the record in transmission units, or INVALID_RECORD_HANDLE (R413). -/
def execGetpdr (handle : BitVec 32) (s : State) : Host.Outcome State Fault Refusal :=
  overI3c s (fun s =>
    if 1 ≤ handle.toNat ∧ handle.toNat ≤ pdrCount then
      (units (pdrBytes handle.toNat)).foldl (fun s u => i3cReply s (.pldm 0x51 0 (u.map BitVec.toNat))) s
    else i3cReply s (.pldm 0x51 0x82 []))

/-- A PLDM answer that carries a reading, or says that its sensor or effecter does not exist. -/
def pldmReading (s : State) (command : Nat) (v : Option Nat) : State :=
  match v with
  | some x => i3cReply s (.pldm command 0 [x])
  | none => i3cReply s (.pldm command 0x80 [])

/-- GETSENSORREADING (R413). -/
def execGetsensorreading (sensor : BitVec 16) (s : State) : Host.Outcome State Fault Refusal :=
  overI3c s (fun s => pldmReading s 0x11 (sensorValue s sensor.toNat))

/-- GETSTATESENSORREADINGS (R413). -/
def execGetstatesensorreadings (sensor : BitVec 16) (s : State) : Host.Outcome State Fault Refusal :=
  overI3c s (fun s => pldmReading s 0x21 (stateValue s sensor.toNat))

/-- SETNUMERICEFFECTERVALUE: a cap is set by the Reeve's own path; a value that R396 would refuse is answered with
ERROR_INVALID_DATA (R383, R413, R434). -/
def execSetnumericeffectervalue (effecter : BitVec 16) (value : BitVec 32) (s : State) : Host.Outcome State Fault Refusal :=
  overI3c s (fun s =>
    match effecterReg effecter.toNat with
    | none => i3cReply s (.pldm 0x31 0x80 [])
    | some (off, top) =>
      if value = 0 ∨ top < value.toNat then i3cReply s (.pldm 0x31 0x02 [])
      else i3cReply (setReg s .steward 0 off value) (.pldm 0x31 0 []))

/-- GETNUMERICEFFECTERVALUE (R413). -/
def execGetnumericeffectervalue (effecter : BitVec 16) (s : State) : Host.Outcome State Fault Refusal :=
  overI3c s (fun s => pldmReading s 0x32 ((effecterReg effecter.toNat).map (fun e => (reg s .steward 0 e.1).toNat)))

/-! ## SPDM (R375) -/

/-- Life-cycle state, OFFLINE fuses and provisioned ID as raw bytes (R375). -/
def lifeBytes (s : State) : List Byte :=
  toBytes 1 (rf s .reeve 0 Off.reeveLc 0 2)
    ++ (List.range 4).flatMap (fun d => (List.range 8).flatMap (fun j =>
      toBytes 4 (reg s .stack d (Off.stackOfflineCore + 4 * j)).toNat))
    ++ toBytes 6 Config.provisionedId.toNat

/-- The measurement blocks by index (R375). -/
def measurementBlocks (s : State) : List (Nat × List Byte) :=
  let digest := fun k => toBytes 48 (tget 0 k s.measurements).toNat
  [(1, digest 32), (2, digest 33), (3, digest 34), (4, lifeBytes s)]
    ++ ((List.range 32).drop 1).map (fun c => (16 + c, digest c))

/-- Whether a request comes in a secured message (R413). -/
def pathSecured : SpdmPath → Bool
  | .doeSecured | .mctpSecured => true
  | .doe | .mctp => false

/-- Whether a request comes over MCTP on I3C (R413). -/
def pathMctp : SpdmPath → Bool
  | .mctp | .mctpSecured => true
  | .doe | .doeSecured => false

/-- Whether an SPDM message is heard: firmware runs, its transport serves, and a secured message comes within a session (R375,
R413). -/
def spdmHears (s : State) (p : SpdmPath) : Bool :=
  s.firmware && (!pathMctp p || i3cAddr s != 0) && (!pathSecured p || s.spdm == .exchanged || s.spdm == .session)

/-- A message of the responder leaves by the path of its request: over MCTP as transmission units behind the message type, each
announced by its IBI (R412, R413). -/
def spdmSend (s : State) (p : SpdmPath) (l : List Byte) : State :=
  if pathMctp p then
    (units ((if pathSecured p then 0x06 else 0x05) :: l)).foldl (fun s u => i3cReply s (.spdm true (pathSecured p) u)) s
  else emit s (.spdm false (pathSecured p) l)

/-- An ERROR message (R375; the layouts and codes of DSP0274 here and below: PRESUMED, log entry 117). -/
def spdmError (code : Byte) : List Byte := [0x13, 0x7F, code, 0x00]

/-- VERSION: the one version, 1.3 (R375). -/
abbrev spdmVersion : List Byte := [0x10, 0x04, 0x00, 0x00, 0x00, 0x01, 0x00, 0x13]

/-- The flags of CAPABILITIES: certificates, challenges, signed measurements, encryption, MAC and key exchange, no pre-shared
keys; the flags that R375 leaves open are free (R375). -/
def spdmFlags : BitVec 32 := (Config.spdmCaps.1 &&& ~~~(0xEDE : BitVec 32)) ||| 0x2D6

/-- CAPABILITIES (R375). -/
def spdmCapabilities : List Byte :=
  let (_, exponent, transfer, largest) := Config.spdmCaps
  [0x13, 0x61, 0x00, 0x00, 0x00] ++ [exponent] ++ [0x00, 0x00] ++ toBytes 4 spdmFlags.toNat ++ toBytes 4 transfer.toNat
    ++ toBytes 4 largest.toNat

/-- ALGORITHMS: ECDSA over P-384, SHA-384, ECDHE over P-384 and AES-256-GCM (R375). -/
def spdmAlgorithms : List Byte :=
  [0x13, 0x63, 0x04, 0x00] ++ toBytes 2 52 ++ [0x01, 0x00] ++ toBytes 4 0x4 ++ toBytes 4 0x80 ++ toBytes 4 0x2
    ++ List.replicate 12 0x00 ++ List.replicate 4 0x00
    ++ [0x02, 0x20] ++ toBytes 2 0x10 ++ [0x03, 0x20] ++ toBytes 2 0x02 ++ [0x04, 0x20] ++ toBytes 2 0x00
    ++ [0x05, 0x20] ++ toBytes 2 0x01

/-- Whether the part is in RETURN, where it has no certificate (R374). -/
def inReturn (s : State) : Bool := rf s .reeve 0 Off.reeveLc 0 2 == 3

/-- The certificate slot that a request names, none where it names none (R375). -/
def spdmSlot (code : Nat) (r : List Byte) : Option Nat :=
  if code = 0x82 ∨ code = 0x83 then some ((r.getD 2 0).toNat % 16)
  else if code = 0xE4 then some ((r.getD 3 0).toNat % 16)
  else if code = 0xE0 ∧ (r.getD 2 0).toNat % 2 = 1 then some ((r.getD 36 0).toNat % 16)
  else none

/-- A measurement block: its index, the DMTF specification, its length, and its value, a digest or, at index 4, raw bytes
(R375). -/
def measurementRecord (b : Nat × List Byte) : List Byte :=
  let kind := if b.1 = 1 then 0x00 else if b.1 = 3 then 0x03 else if b.1 = 4 then 0x82 else 0x01
  toBytes 1 b.1 ++ [0x01] ++ toBytes 2 (b.2.length + 3) ++ toBytes 1 kind ++ toBytes 2 b.2.length ++ b.2

/-- The head of MEASUREMENTS for an index: how many blocks there are at 0, all of them at 0xFF, else the block of that index, none
where there is none (R375). -/
def measurementHead (s : State) (index : Nat) : Option (List Byte) :=
  let all := measurementBlocks s
  let head := fun (total : Nat) (l : List (Nat × List Byte)) =>
    let m := l.flatMap measurementRecord
    [0x13, 0x60] ++ toBytes 1 total ++ [0x00] ++ toBytes 1 l.length ++ toBytes 3 m.length ++ m
  if index = 0 then some (head all.length [])
  else if index = 0xFF then some (head 0 all)
  else match all.find? (fun b => b.1 == index) with
    | some b => some (head 0 [b])
    | none => none

/-- The response to a request that is in order, or the code of the ERROR it gets: a slot other than 0, or any in RETURN, has no
certificate, and an index has to have a block. What R375 leaves open follows as a free value (R374, R375). -/
def spdmResponse (s : State) (code : Nat) (r : List Byte) : Except Byte (List Byte) :=
  let rest := Config.spdmBody code s.spdmHeard r (measurementBlocks s)
  let mask : Byte := if inReturn s then 0x00 else 0x01
  match spdmSlot code r with
  | some n =>
    if n ≠ 0 ∨ inReturn s then .error 0x01
    else if code = 0xE0 then
      match measurementHead s (r.getD 3 0).toNat with
      | some l => .ok (l ++ rest)
      | none => .error 0x01
    else .ok ([0x13, BitVec.ofNat 8 (code - 0x80)] ++ rest)
  | none =>
    if code = 0xE1 then .ok spdmCapabilities
    else if code = 0xE3 then .ok spdmAlgorithms
    else if code = 0x81 then .ok ([0x13, 0x01, mask, mask] ++ rest)
    else if code = 0xE0 then
      match measurementHead s (r.getD 3 0).toNat with
      | some l => .ok (l ++ rest)
      | none => .error 0x01
    else .ok ([0x13, BitVec.ofNat 8 (code - 0x80)] ++ rest)

/-- An SPDM request that is heard: one of another version, or out of its place, gets an ERROR, and so does one that cannot be
answered; else it is answered, and the session moves on (R375). -/
def spdmStep (s : State) (p : SpdmPath) (code : Nat) (request : List Byte) (before : List SpdmPhase)
    (after : SpdmPhase → SpdmPhase) : Host.Outcome State Fault Refusal :=
  if !spdmHears s p then .next s
  else if request.getD 0 0 ≠ 0x13 then .next (spdmSend s p (spdmError 0x41))
  else if !before.contains s.spdm then .next (spdmSend s p (spdmError 0x04))
  else match spdmResponse s code request with
    | .error e => .next (spdmSend s p (spdmError e))
    | .ok l => .next { (spdmSend s p l) with spdm := after s.spdm, spdmHeard := s.spdmHeard ++ [request] }

/-- The phases in which the algorithms have been agreed. -/
abbrev spdmAgreed : List SpdmPhase := [.ready, .exchanged, .session]

/-- GET_VERSION: the exchange starts afresh; within a session it is out of place (R375). -/
def execGetVersion (path : SpdmPath) (request : List Byte) (s : State) : Host.Outcome State Fault Refusal :=
  if !spdmHears s path then .next s
  else if pathSecured path then .next (spdmSend s path (spdmError 0x04))
  else .next { (spdmSend s path spdmVersion) with spdm := .versioned, spdmHeard := [request] }

/-- GET_CAPABILITIES (R375). -/
def execGetCapabilities (path : SpdmPath) (request : List Byte) (s : State) : Host.Outcome State Fault Refusal :=
  spdmStep s path 0xE1 request [.versioned] (fun _ => .capable)

/-- NEGOTIATE_ALGORITHMS (R375). -/
def execNegotiateAlgorithms (path : SpdmPath) (request : List Byte) (s : State) : Host.Outcome State Fault Refusal :=
  spdmStep s path 0xE3 request [.capable] (fun _ => .ready)

/-- GET_DIGESTS (R375). -/
def execGetDigests (path : SpdmPath) (request : List Byte) (s : State) : Host.Outcome State Fault Refusal :=
  spdmStep s path 0x81 request spdmAgreed id

/-- GET_CERTIFICATE (R375). -/
def execGetCertificate (path : SpdmPath) (request : List Byte) (s : State) : Host.Outcome State Fault Refusal :=
  spdmStep s path 0x82 request spdmAgreed id

/-- CHALLENGE (R375). -/
def execChallenge (path : SpdmPath) (request : List Byte) (s : State) : Host.Outcome State Fault Refusal :=
  spdmStep s path 0x83 request spdmAgreed id

/-- GET_MEASUREMENTS (R375). -/
def execGetMeasurements (path : SpdmPath) (request : List Byte) (s : State) : Host.Outcome State Fault Refusal :=
  spdmStep s path 0xE0 request spdmAgreed id

/-- KEY_EXCHANGE (R375). -/
def execKeyExchange (path : SpdmPath) (request : List Byte) (s : State) : Host.Outcome State Fault Refusal :=
  spdmStep s path 0xE4 request [.ready] (fun _ => .exchanged)

/-- FINISH: the session is established (R375). -/
def execFinish (path : SpdmPath) (request : List Byte) (s : State) : Host.Outcome State Fault Refusal :=
  spdmStep s path 0xE5 request [.exchanged] (fun _ => .session)

/-- END_SESSION: it comes in the session it ends (R375). -/
def execEndSession (path : SpdmPath) (request : List Byte) (s : State) : Host.Outcome State Fault Refusal :=
  if spdmHears s path ∧ !pathSecured path then .next (spdmSend s path (spdmError 0x0B))
  else spdmStep s path 0xEC request [.session] (fun _ => .ready)

/-! ## JTAG (R416) -/

/-- BYPASS: the bypass register, which captures 0, stands between TDI and TDO while `len` bits are shifted (R416). -/
def execBypass (len tdi : Nat) (s : State) : Host.Outcome State Fault Refusal :=
  .next (emit { s with jtag := .bypass, bypass := len != 0 && tdi.testBit (len - 1) } (.tdo (2 * tdi % 2 ^ len)))

/-- IDCODE: 0x1716_A2B7 is shifted out (R416). -/
def execIdcode (s : State) : Host.Outcome State Fault Refusal := .next (emit { s with jtag := .idcode } (.tdo 0x1716A2B7))

/-- SAMPLE/PRELOAD: the lands are sampled and shifted out, and the boundary register is loaded (R416). -/
def execSamplePreload (pins tdi : Nat) (s : State) : Host.Outcome State Fault Refusal :=
  .next (emit { s with jtag := .sample, boundary := tdi } (.tdo pins))

/-- EXTEST: the boundary register drives the lands, which are captured and shifted out while the next value is loaded and then
driven (R416). -/
def execExtest (pins tdi : Nat) (s : State) : Host.Outcome State Fault Refusal :=
  let s1 := emit (emit { s with jtag := .extest } (.pins s.boundary)) (.tdo pins)
  .next (emit { s1 with boundary := tdi } (.pins tdi))

/-! ## TEST_MODE (R485) -/

/-- TEST_MODE_HIGH: ignored in FIELD; in every other life-cycle state the device enters scan test and Reeve firmware stops
(R485). -/
def execTestModeHigh (s : State) : Host.Outcome State Fault Refusal :=
  if inField s then .next s else .next { s with scanTest := true, firmware := false }

end Sys2Proof.Machine
end

