-- ==== Sys2Proof/Machine/Resets.lean ====
section
/-!
DEFINITION. The resets: COLD, WARM, DEVICE, PARTITION and PORT (R80, R351, R365, R372, R405, R420, R421, R428), the
life-cycle change (R374, R453), and what takes a partition DOWN in service (R493, R494).
-/
namespace Sys2Proof.Machine

/-! ## Dawn's registers -/

/-- `GLOBAL.DAWN.STEP`. -/
def dawnStep (s : State) : Nat := rf s .global 0 Off.globalDawn 0 4

/-- `GLOBAL.DAWN.DONE`. -/
def dawnDone (s : State) : Bool := rbit s .global 0 Off.globalDawn 8

/-- Dawn is in step `n`. -/
def setDawnStep (s : State) (n : Nat) : State := setRf s .global 0 Off.globalDawn 0 4 n

/-- A dawn step has failed (R425). -/
def dawnFail (s : State) (n : Nat) : State := setRf s .global 0 Off.globalDawn 12 4 n

/-- Every partition in state `v` (R364). -/
def setPartitions (s : State) (v : Nat) : State := (List.range 4).foldl (fun s n => setPartState s n v) s

/-! ## COLD (R420, R428) -/

/-- The device as VDD_REEVE rises: everything at its reset value but what fuses and storage hold, with a fresh pantry key and
PANTRY_ID; the wipe begins and dawn is in step 1 (R15, R235, R343, R351, R368, R372, R422, R428). -/
def coldReset (s : State) : State :=
  let s1 := { State.reset with
    pending := s.pending, regs := resetRegs (fun _ _ => true) .cold true s.regs, remaps := s.remaps, wear := s.wearStored
    wearStored := s.wearStored, frees := s.frees, draws := s.draws + 1, pantryDraw := s.draws + 1, nextRead := s.nextRead
    outputs := s.outputs, perstLow := s.perstLow }
  let (s2, id) := freshWord s1
  beginWipe (setDawnStep (setPartitions { s2 with pantryId := id } 2) 1) .device

/-- COLD_RESET (R420, R421). -/
def execColdReset (s : State) : Host.Outcome State Fault Refusal := .next (healthStep s (coldReset s))

/-! ## WARM and DEVICE (R420, R428) -/

/-- The pages in the scope of WARM and DEVICE: the Reeve's always-on logic and firmware are outside it, and at DEVICE the
PCIe endpoint keeps its link and configuration (R420). -/
def wideScope (k : ResetKind) : Block → Nat → Bool
  | .bell, _ | .steward, _ | .watch, _ | .sideband, _ | .reeve, _ => false
  | .pcie, _ => k == .warm
  | _, _ => true

/-- A WARM or DEVICE reset: registers, units and tables return to their reset values, keys are destroyed and memory wiped,
and dawn is in step 3. The Reeve keeps its firmware, the Bell, the Steward, the Watch, the device queue and a mailbox
command; at DEVICE the PCIe endpoint keeps its configuration; the drive is held in reset (R351, R370 to R372, R421, R422, R428, R485, R494). -/
def wideReset (s : State) (k : ResetKind) : State :=
  let s1 := resetPages s (wideScope k) k true
  let s2 := { s1 with
    cores := [], tscales := [], switch := ⟨.idle, 0, 0, .context⟩, mem := [], chk := [], pageBits := [], copyPages := []
    touches := [], terrier := [], terrierOld := none, lanemaps := [], groups := [], staleAt := [], ports := []
    routers := [], inbox := [], postedErrors := [], reeveTodo := [], chunks := [], closedChunks := [], transit := []
    tags := [], harvest := none, harvestDue := false, harvestWanted := false, nvme := [], nvmeWait := [], refill := none
    lastRefill := [], validPages := [], landings := [], serve := none, started := 0, coreReturned := 0, saved := [], savedDraw := []
    measuring := none, measured := [], measurements := s1.measurements.filter (fun e => 32 ≤ e.1), wipes := [], tests := []
    hotFp := 0, hotNext := 0, waiting := [], throttles := [], energy := s1.energy.filter (fun e => 256 ≤ e.1)
    hostReads := [], hostDirty := [], evqSent := [], evqWait := [], partDawn := [], partWaiting := [], railOut := 0, powerStep := 0
    dawnOf := if dawnDone s || s.dawnOf != .cold then k else .cold
    msixOpen := if k = .warm then [] else s1.msixOpen, msixPending := if k = .warm then [] else s1.msixPending
    bar4 := if k = .warm then 0 else s1.bar4, aer := if k = .warm then [] else s1.aer
    panPerst := some false }
  let s3 := (List.range 64).foldl drawKey s2
  beginWipe (setDawnStep (setPartitions s3 (if s3.refclkLost then 3 else 2)) 3) .device

/-- PERST_N_LOW: PERST_N falls: a WARM reset, which holds before dawn step 3 while it stays low. Before the firmware runs the
level alone is noted (R405, R420, R421, R485). -/
def execPerstNLow (s : State) : Host.Outcome State Fault Refusal :=
  if s.perstLow then .next s
  else
    let s1 := { s with perstLow := true }
    .next (if s.firmware then healthStep s (wideReset s1 .warm) else s1)

/-- PERST_N_RISE: PERST_N returns high, and dawn goes on from step 3 (R421). -/
def execPerstNRise (s : State) : Host.Outcome State Fault Refusal := .next { s with perstLow := false }

/-- Whether a DEVICE reset is discarded: a wider reset runs its dawn (R421). -/
def deviceDiscarded (s : State) : Bool := !dawnDone s && s.dawnOf != .device

/-- A HOST FLR record (R405, R417). -/
def flrRecord (s : State) (fn : Nat) : State := deviceRecord s .pcie 0 0x0B 0x02 fn 0

/-- PF_FLR: a DEVICE reset, and the record (R405, R420, R421). -/
def execPfFlr (s : State) : Host.Outcome State Fault Refusal :=
  .next (flrRecord (if deviceDiscarded s then s else healthStep s (wideReset s .device)) 0)

/-- VF_FLR: a CONTEXT reset of context n with its doorbell page, and the record; while dawn runs the reset is discarded
(R373, R405, R421). -/
def execVfFlr (vf : Fin 32) (s : State) : Host.Outcome State Fault Refusal :=
  if vf.val = 0 then .next s
  else .next (flrRecord (if dawnDone s then resetDoorbell (contextReset s vf.val) vf.val else s) vf.val)

/-! ## PORT (R267, R420) -/

/-- A PORT reset: the port goes DOWN, its window returns to its reset values, and it is enabled again (R267, R268, R420,
R428, R464). -/
def portReset (s : State) (p : Nat) (k : ResetKind) : State :=
  let s1 := if portState s p = Link.down then s else portDown s p 6
  let s2 := resetPages s1 (fun b i => b == .port && i == p) k false
  updPort s2 p (fun _ => Port.reset)

/-! ## The resident context forced off (R361, R365) -/

/-- A power-state entry that still waits for its context to leave, if `waiting` says so, is given up. -/
def cancelEntry (waiting : Bool) (s : State) : State :=
  if waiting then { setRf (setRf s .global 0 Off.globalPower 4 3 0) .global 0 Off.globalPower 0 2 0 with powerStep := 0 }
  else s

/-- Whether a context that has been forced off still holds the cores: what it has in flight outside the partition that left
SERVICE has to end first (R361, R365). -/
def forcedWaits (s : State) : Bool := s.switch.phase == .draining && s.switch.goal == .lost

/-- The forced context has left: no image of it is kept and it is READY (R357, R365). -/
def forcedGone (s : State) : State :=
  let ctx := resident s
  let s1 := leaveCores (closeContext s ctx)
  endSwitch (dropImage (setCtxState (setRf s1 .global 0 Off.globalRun 0 5 0) ctx Ctx.ready) ctx)

/-- The forced context leaves at once where nothing of it is in flight. -/
def forcedEnd (s : State) : State := if forcedWaits s ∧ drained s then forcedGone s else s

/-- The resident context is forced to switch out, its work on the cores of the dies `ds` abandoned as a CONTEXT reset abandons
it; the switch that runs, if any, now leads to no image (R361, R365). -/
def forceResident (s : State) (ds : List Nat) : State :=
  let ctx := resident s
  let n := (notAtPoint s).length
  let leaving := s.switch.phase == .draining || s.switch.phase == .saving
  let s1 := if leaving then s
    else switchOut (if n = 0 then s else deviceRecord s .context ctx 0x09 0x02 ctx (det n))
  let cs := (s1.cores.map Prod.fst).filter (fun c => ds.contains (c / 128))
  let s2 := cs.foldl (fun s c => updCore s c leftCore) (abandonCores s1 cs)
  let s3 := setRbit { s2 with switch := ⟨.draining, 0, s2.switch.since, .lost⟩ } .global 0 Off.globalRun 17 true
  forcedEnd s3

/-- No context may stay resident once a partition has left SERVICE: the resident one is forced off, its work on the dies `ds`
abandoned and its image lost; one that is being restored is READY again; a power-state entry that waits for a context ends
(R361, R364, R365; log entry 87). -/
def forceOff (s : State) (ds : List Nat) : State :=
  let entry := powerState s == 3 && s.powerStep == 0
  let s1 :=
    if resident s ≠ 0 then dropWanted (forceResident s ds) (resident s)
    else if s.switch.phase = .restoring then endSwitch (setCtxState s s.switch.next Ctx.ready)
    else s
  cancelEntry entry s1

/-- The cores of partition `n` at their reset state, their gates among it (R15, R80). -/
def resetCoresOf (s : State) (n : Nat) : State :=
  { s with cores := tmap (fun _ => Core.reset) (fun c k => if c / 128 = n then Core.reset else k) s.cores }

/-- Beats that wait for the memories of die `n` are gone with them. -/
def dropDieBeats (s : State) (n : Nat) : State :=
  { dropBeats s n with
    waiting := (dropBeats s n).waiting.filter (fun b => match placeOf (16 * b.word) with
      | some p => p.die != n
      | none => true) }

/-! ## PARTITION (R365, R420) -/

/-- Whether a reset of partition `n` reaches a page: the partition's own, and the pages of the link dies, whose entries it
keeps (R15, R25, R302, R428, R432). -/
def partScope (n : Nat) (b : Block) (i : Nat) : Bool :=
  match b with
  | .cellar | .granary | .stack => i == n
  | .hbm => i / 4 == n
  | .core => i / 128 == n
  | .port => i / 8 == n
  | .lanemap | .group => true
  | _ => false

/-- The units of partition `n` at their reset values: its cores, its ports, what lies in its link die (R365, R428). -/
def resetUnits (s : State) (n : Nat) : State :=
  let s1 := (List.range 8).foldl (fun s j => portReset s (8 * n + j) .partition) s
  let s2 := resetPages s1 (partScope n) .partition false
  { s2 with
    routers := tset [] n [] s2.routers, inbox := s2.inbox.filter (fun x => x.1 != n)
    transit := s2.transit.filter (fun t => t.core / 128 != n), chunks := s2.chunks.filter (fun x => x.chunk % 4 != n)
    tests := tset BondTest.none n .none s2.tests, stackHeld := s2.stackHeld.filter (fun e => e.1 != n) }

/-- The work that runs over the whole device and meets a reset of one die's memories ends as it does at a CELLAR reset (R345,
R348, R349). -/
def endMemoryWork (s : State) : State :=
  let s1 := harvestAbort s 2
  serveAbort (if refillState s1 = 2 then refillAbort s1 8 else s1) 8

/-- A PARTITION reset of partition `n` once no context is resident: every saved image is lost, started contexts are
quarantined, the partition's units and the fields that it does not leave return to their reset values and its memories are
wiped; the partition's dawn is in step 4 (R15, R80, R351, R365, R370 to R372, R378, R420, R428). -/
def partitionRest (s : State) (n : Nat) : State :=
  let s2 := (List.range 32).foldl dropImage (resetCoresOf s n)
  let s3 := dropDieBeats (resetUnits (quarantineStarted s2) n) n
  let s4 := wipeDieFar (wipeCellar s3 false n) n
  let s5 := { setRf s4 .global 0 Off.globalRun 8 5 0 with
    wipes := s4.wipes.filter (fun w => w.1 != .partition n), partDawn := tset 0 n 4 s4.partDawn }
  beginWipe s5 (.partition n)

/-- The PARTITION resets that waited for the forced context go on once it has left (R365). -/
def partitionGo (s : State) : State :=
  if forcedWaits s then s else s.partWaiting.foldl partitionRest { s with partWaiting := [] }

/-- A PARTITION reset of partition `n`: the resident context is forced off, the cores of the partition end at once, and the rest
follows when the context has left (R364, R365). -/
def partitionReset (s : State) (n : Nat) : State :=
  let s1 := setPartState (resetCoresOf (forceOff (endMemoryWork s) [n]) n) n 2
  partitionGo (forcedEnd { s1 with partWaiting := s1.partWaiting.filter (fun k => k != n) ++ [n] })

/-- SAVE_START: drains and operations in flight have ended: the save begins, or the context that was forced off leaves and the
PARTITION resets that waited for it go on (R357, R361, R362, R365). -/
def execSaveStart (s : State) : Host.Outcome State Fault Refusal :=
  if forcedWaits s then .next (if drained s then partitionGo (forcedGone s) else s)
  else if s.switch.phase = .draining ∧ drained s then .next (beginSave s)
  else .next (partitionGo s)

/-! ## `GLOBAL.RESET_CMD` (R421, R431) -/

/-- Whether a PARTITION or PORT reset that touches partition `n` is discarded with 0x08: a wider reset runs, or a low-power
state is entered or left (R421, R426). -/
def narrowDiscarded (s : State) : Bool := !dawnDone s || inLowPower s || s.powerStep != 0

/-- A write of `GLOBAL.RESET_CMD` (R14, R420, R421, R426, R431). -/
def writeResetCmd (s : State) (v : Word) : State :=
  let kind := fld v.toNat 0 3
  let target := fld v.toNat 4 6
  let refuse := fun code => refuse s .global 0 code Off.globalResetCmd
  if v &&& ~~~(definedMask .global Off.globalResetCmd) ≠ 0 then refuse 0x01
  else if kind = 1 then if deviceDiscarded s then refuse 0x08 else wideReset s .device
  else if kind = 2 then
    if 4 ≤ target then refuse 0x02
    else if narrowDiscarded s then refuse 0x08
    else partitionReset s target
  else if kind = 3 then
    if 32 ≤ target then refuse 0x02
    else if narrowDiscarded s || partResetting s (target / 8) then refuse 0x08
    else reeveEnable (setRbit (portReset s target .port) .lanemap 0 Off.lanemapLoss target false) .port target
  else refuse 0x02

/-- RESET_DEVICE (R420, R431). -/
def execResetDevice (s : State) : Host.Outcome State Fault Refusal := .next (healthStep s (writeResetCmd s 1))

/-- RESET_PARTITION (R365, R420, R431). -/
def execResetPartition (target : BitVec 6) (s : State) : Host.Outcome State Fault Refusal :=
  .next (healthStep s (writeResetCmd s (det (2 + 16 * target.toNat))))

/-- RESET_PORT (R420, R431). -/
def execResetPort (target : BitVec 6) (s : State) : Host.Outcome State Fault Refusal :=
  .next (healthStep s (writeResetCmd s (det (3 + 16 * target.toNat))))

/-! ## Life cycle (R374, R453) -/

/-- A write of `REEVE.LC_CMD`: refused, or the token in the mailbox is verified: one that fails ends the command FAILED; one
that holds advances the life cycle, and the wipe and the COLD reset run, after which the record is written (R374, R377,
R453). -/
def writeLcCmd (s : State) (v : Word) : State :=
  let lc := rf s .reeve 0 Off.reeveLc 0 2
  let target := fld v.toNat 0 2
  let refuse := fun s code => refuse s .reeve 0 code Off.reeveLcCmd
  if 4 ≤ v.toNat then refuse s 0x01
  else if target ≠ lc + 1 then refuse s 0x07
  else if resident s ≠ 0 ∨ !inService s then refuse s 0x08
  else if mboxBusy s then refuse s 0x42
  else
    let s1 := beginCmd s .lc
    if Config.tokenGood (mboxBytes s 0 256) target then
      let s2 := coldReset (setRf s1 .reeve 0 Off.reeveLc 0 2 target)
      deviceRecord s2 .global 0 0x09 0x03 0xFFFF (det (lc * 2 ^ 16 + target * 2 ^ 8))
    else refuse (endCmd s1 1) 0x40

/-- LC_CMD (R374, R453). -/
def execLcCmd (value : BitVec 32) (s : State) : Host.Outcome State Fault Refusal := .next (healthStep s (writeLcCmd s value))

/-! ## Partitions that go DOWN in service (R493, R494) -/

/-- RAIL_FAULT: VDD_CORE of die d stays below 0.60 V: its clocks are gated, its partition goes DOWN, and its operations end as
a PARTITION reset ends them (R364, R365, R493). -/
def execRailFault (die : Fin 4) (s : State) : Host.Outcome State Fault Refusal :=
  let n := die.val
  if partState s n ≠ 0 ∨ !dawnDone s then .next s
  else
    let s1 := dropDieBeats (forceOff (endMemoryWork s) [n]) n
    .next (healthStep s (setPartState { s1 with railOut := s1.railOut ||| BitVec.ofNat 32 (2 ^ n) } n 3))

/-- REFCLK_LOSS: the Bell goes to HOLDOVER, or stays in FREE, and every partition goes DOWN until a WARM or COLD reset (R35,
R364, R494). -/
def execRefclkLoss (s : State) : Host.Outcome State Fault Refusal :=
  if s.refclkLost then .next s
  else
    let b := bellState s
    let s1 := if b = Bell.free ∨ b = Bell.holdover then s else bellRecord (setBellState s Bell.holdover) 0x04
    .next (healthStep s (setPartitions { forceOff s1 (List.range 4) with refclkLost := true } 3))

end Sys2Proof.Machine
end

