-- ==== Sys2Proof/Machine/Power.lean ====
section
/-!
DEFINITION. The low-power states: requests for RUN, DUSK and NIGHT, and the steps of entering and leaving them (R426,
R427).
-/
namespace Sys2Proof.Machine

/-- `GLOBAL.POWER.REQ`. -/
def powerReq (s : State) : Nat := rf s .global 0 Off.globalPower 0 2

/-- POWER.STATE reads `v`. -/
def setPowerState (s : State) (v : Nat) : State := setRf s .global 0 Off.globalPower 4 3 v

/-- The entry of a low-power state begins: the resident context is switched out first, where there is one (R426). -/
def beginEntry (s : State) (req : Nat) : State :=
  let s1 := setPowerState s 3
  if resident s1 ≠ 0 then beginSwitch s1 0 (if req = 1 then .dusk else .night) else { s1 with powerStep := req }

/-- The exit from DUSK or NIGHT begins (R426, R427). -/
def beginExit (s : State) : State := { setPowerState s 4 with powerStep := if powerState s = 1 then 3 else 5 }

/-- The code that refuses a request, the lowest that applies, 0 when none does (R426, R431). A request for DUSK or NIGHT
during a context switch is refused as a REQ is, with 0x40 (R359, R426; DEDUCED, log entry 107). -/
def powerCheck (s : State) (req : Nat) : Nat :=
  if req = 3 then 0x02
  else if !inService s then 0x03
  else if (s.harvest.isSome ∨ refillState s = 1 ∨ refillState s = 2 ∨ s.serve.isSome) then 0x08
  else if req ≠ 0 ∧ s.switch.phase ≠ .idle ∧ powerState s = 0 then 0x40
  else if powerState s = 3 ∨ powerState s = 4 then 0x41
  else 0

/-- A write of `GLOBAL.POWER` (R14, R426, R427, R431). A request for the state the device is in changes nothing. -/
def writePower (s : State) (v : Word) : State :=
  let req := fld v.toNat 0 2
  let code := powerCheck s req
  if v &&& ~~~(definedMask .global Off.globalPower) ≠ 0 then refuse s .global 0 0x01 Off.globalPower
  else if code ≠ 0 then refuse s .global 0 code Off.globalPower
  else
    let s1 := setRf s .global 0 Off.globalPower 0 2 req
    let st := powerState s
    if req = st then s1
    else if st = 0 ∨ (st = 1 ∧ req = 2) then beginEntry s1 req
    else beginExit s1

/-- POWER_RUN (R426, R427). -/
def execPowerRun (s : State) : Host.Outcome State Fault Refusal := .next (writePower s 0)

/-- POWER_DUSK (R426). -/
def execPowerDusk (s : State) : Host.Outcome State Fault Refusal := .next (writePower s 1)

/-- POWER_NIGHT (R426). -/
def execPowerNight (s : State) : Host.Outcome State Fault Refusal := .next (writePower s 2)

/-! ## The steps -/

/-- POWER.STATE reaches `st`; the interrupt is raised where that was requested (R444). -/
def powerReached (s : State) (st : Nat) : State :=
  let s1 := setPowerState { s with powerStep := 0 } st
  if powerReq s1 = st then raiseInt s1 .global 0 2 else s1

/-- GRANARY.STATE of every die, one in a CELLAR reset apart (R471). -/
def setGranaries (s : State) (v : Nat) : State :=
  (List.range 4).foldl (fun s d => if cellarBusy s d || partState s d == 3 then s else setRf s .granary d Off.granaryState 0 2 v) s

/-- The exit test of R226 begins on every die that no test occupies. -/
def exitTests (s : State) : State :=
  (List.range 4).foldl (fun s d => if bondTesting s d then s else { s with tests := tset BondTest.none d .power s.tests }) s

/-- Whether a bond self-test of some die runs. -/
def anyTest (s : State) : Bool := (List.range 4).any (bondTesting s)

/-- What NIGHT takes: ports DOWN with their keys erased, the CORE and PORT windows returned, the link dies powered off, the
granaries in self-refresh, the voltage at point 0 (R267, R426, R428). -/
def enterNight (s : State) : State :=
  let s1 := (List.range 32).foldl (fun s p => portReset s p .port) s
  let s2 := resetPages s1 (fun b _ => b == .core) .partition false
  let s3 := { s2 with
    cores := tmap (fun _ => Core.reset) (fun _ k => { Core.reset with gates := k.gates, nextOp := k.nextOp }) s2.cores
    routers := [], inbox := [], chunks := [], transit := [] }
  (List.range 4).foldl (fun s d => moveTo s d 0) (setGranaries s3 1)

/-- The dies are in service again: the pages that NIGHT returned are enabled, and every enabled port trains from DETECT
(R427, R464). -/
def wakeUnits (s : State) : State :=
  let s1 := reeveEnableAll (reeveEnableAll s .core (List.range 512)) .port (List.range 32)
  (List.range 32).foldl (fun s p => if enabled s .port p then portEnabled s p else s) s1

/-- The exit from NIGHT ends: the started contexts are quarantined, the dies climb to their targets, and the ports train
(R351, R391, R427). -/
def leaveNight (s : State) : State := steerAll (wakeUnits (quarantineStarted (powerReached s 0)))

/-- Where another low-power state was asked for, its entry follows. -/
def nextEntry (s : State) : State := if powerReq s = 0 then s else beginEntry s (powerReq s)

/-- One step of an entry or exit (R426, R427). -/
def powerStepDone (s : State) : State :=
  match s.powerStep with
  | 1 => powerReached s 1
  | 2 => powerReached (enterNight s) 2
  | 3 => exitTests { s with powerStep := 4 }
  | 4 => if anyTest s then s else nextEntry (resubmit (powerReached s 0))
  | 5 => { s with powerStep := 6 }
  | 6 => exitTests (resubmit (setGranaries { s with powerStep := 7 } 0))
  | 7 => if anyTest s then s else nextEntry (leaveNight s)
  | _ => s

/-- POWER_TRANSITION_DONE: a step of an entry or exit that took time ends; the exit test holds the last step, and a thermal
trip every step (R226, R388, R426, R427). -/
def execPowerTransitionDone (s : State) : Host.Outcome State Fault Refusal :=
  if tripped s then .next s else .next (healthStep s (powerStepDone s))

end Sys2Proof.Machine
end

