-- ==== Sys2Proof/Machine/Dawn.lean ====
section
/-!
DEFINITION. Dawn: its steps after COLD, WARM and DEVICE, those of a PARTITION reset, and configuration requests meanwhile
(R364, R415, R422 to R425, R464, R493).
-/
namespace Sys2Proof.Machine

/-- Whether dawn stands: no clock runs, PERST_N holds it before step 3, no firmware verified, a shared rail was out of
range, or scan test has stopped the firmware (R388, R421, R425, R485, R493). -/
def dawnHeld (s : State) : Bool :=
  let n := dawnStep s
  let failed := rf s .global 0 Off.globalDawn 12 4
  tripped s || s.scanTest || (s.perstLow && decide (3 ≤ n)) || (n == 2 && failed == 2) || (n == 3 && failed == 3)

/-! ## Step 2 (R415, R422) -/

/-- The addresses and pages of the regulators, as the boot flash holds them (R414). -/
def loadAddresses (s : State) (l : List (BitVec 7 × BitVec 8)) : State :=
  (List.range 4).foldl (fun s d =>
    let a := l.getD d (0, 0)
    setReg s .sideband 0 (Off.sidebandPmbAddr + 4 * d) (det (a.1.toNat + a.2.toNat * 2 ^ 8))) s

/-- The Reeve's measurements of boot ROM, firmware image and configuration (R375, R422). -/
def measureBoot (s : State) (l : List (BitVec 384)) : State :=
  { s with measurements := (List.range 3).foldl (fun t k => tset 0 (32 + k) (l.getD k 0) t) s.measurements }

/-- Whether an image slot may boot: valid, and not below the fused lowest version (R415). -/
def slotFits (f : FlashSlot) : Bool := f.valid && decide (Config.minVersion.toNat ≤ f.version.toNat)

/-- The slot that boots, true for the second, and whether it is the fallback: the slot of the highest version that may boot is
preferred, the first of two alike; where its signature fails and the other's verifies, the other (R415). -/
def bootChoice (r : DawnReport) : Option (Bool × Bool) :=
  let second := slotFits r.slot1 && (!slotFits r.slot0 || decide (r.slot0.version.toNat < r.slot1.version.toNat))
  let (pref, other) := if second then (r.slot1, r.slot0) else (r.slot0, r.slot1)
  if slotFits pref && pref.verifies then some (second, false)
  else if slotFits other && other.verifies then some (!second, true)
  else none

/-- Dawn step 2: a slot boots, with a record where it is the fallback, or none verifies and dawn stops; the firmware drives
PAN_PERST_N low (R415, R417, R425, R485). -/
def dawnBoot (s : State) (r : DawnReport) : State :=
  match bootChoice r with
  | none => dawnFail s 2
  | some (slot, fallback) =>
    let s1 := measureBoot (loadAddresses { s with firmware := true, booted := slot, panPerst := some false } r.pmbAddr)
      r.digests
    let s2 := if fallback then deviceRecord s1 .reeve 0 0x0B 0x07 0 (det (b2n slot)) else s1
    setDawnStep s2 3

/-! ## Step 3 (R414, R422, R464, R493) -/

/-- VOUT_MODE of PMBus. -/
abbrev voutMode : Nat := 0x20

/-- A compute die at dawn step 3: VOUT_MODE of its regulator is read; a rail out of range or a regulator that does not serve takes its partition DOWN (R414, R425,
R493). -/
def dawnRail (r : DawnReport) (s : State) (d : Nat) : State :=
  let s1 := pmbusSend (if r.coreRails.toNat.testBit d then setPartState (dawnFail s 3) d 3 else s) d voutMode 0
  if r.regulators.toNat.testBit d then s1 else setPartState (dawnFail (pmbusFault s1 d voutMode) 3) d 3

/-- A die at COLD: its guard band from the wear loaded, and its highest usable point, or point 0 in CURFEW (R235, R390, R391,
R425, R494). -/
def dawnPoint (s : State) (d : Nat) : State :=
  let s1 := updateGuard s d
  let p := if s1.curfew = .none then usable s1 d (vfTarget s1 d) else 0
  setVolt (updSoc s1 d (fun k => { k with cur := p, rising := none, settleFrom := none })) d p false

/-- A WARM or COLD reset finds REFCLK back: the partitions need not stay DOWN for it (R494). -/
def refclkBack (s : State) (r : DawnReport) : State :=
  if s.refclkLost ∧ !r.noRefclk ∧ s.dawnOf ≠ .device then setPartitions { s with refclkLost := false } 2 else s

/-- Dawn step 3: the rails, the fuses and wear, the keys derived, the drive brought up, and the pages that work from then on
(R366, R422, R464, R477, R485, R493, R494). -/
def dawnFuses (s : State) (r : DawnReport) : State :=
  if r.sharedRails then dawnFail (setPartitions s 3) 3
  else
    let s0 := { refclkBack s r with panPerst := some true }
    let s1 := (List.range 4).foldl (dawnRail r) s0
    let s2 := if s.dawnOf = .cold then (List.range 4).foldl dawnPoint s1 else s1
    let s3 := latchDrive (drawKey s2 0) r.drive
    setDawnStep ([Block.pcie, .pantry, .terrier, .lanemap, .group].foldl (fun s b => reeveEnableAfter s.dawnOf s b [0]) s3) 4

/-! ## Steps 4 to 6 (R226, R370, R422, R423, R425, R464) -/

/-- Step 4 ends: the partitions of `ps` that are not DOWN are under test (R364). -/
def dawnTestState (s : State) (ps : List Nat) : State :=
  ps.foldl (fun s n => if partState s n = 3 then s else setPartState s n 1) s

/-- The stacks of partition `n` train; one that fails takes it DOWN (R425, R471). -/
def trainStacks (trained : BitVec 16) (s : State) (n : Nat) : State :=
  let s1 := (List.range 4).foldl (fun s j =>
    let k := 4 * n + j
    let ok := trained.toNat.testBit k
    setRf (setRf s .hbm k Off.hbmTrain 0 2 (if ok then 1 else 2)) .hbm k Off.hbmTrain 8 8 (if ok then 8 else 0)) s
  if (List.range 4).all (fun j => trained.toNat.testBit (4 * n + j)) then s1 else setPartState (dawnFail s1 5) n 3

/-- The bond self-test of dawn begins on the dies of `ps` (R226). -/
def dawnTests (s : State) (ps : List Nat) : State :=
  { s with tests := ps.foldl (fun t n => tset BondTest.none n .dawn t) s.tests }

/-- The fences of die `n`. -/
def fences (s : State) (n : Nat) : List Word := (List.range 8).map (fun j => reg s .stack n (Off.stackOfflineCore + 4 * j))

/-- The bond self-test of die `n` ends: failing lanes are remapped or their units fenced (R228, R425). -/
def dawnTestedDie (fails : List (Fin 4 × LaneFail)) (s : State) (n : Nat) : State :=
  let s1 := testFails { s with tests := tset BondTest.none n .none s.tests } n
    ((fails.filter (fun f => f.1.val == n)).map Prod.snd)
  if fences s1 n = fences s n then s1 else dawnFail s1 6

/-- The tests of the dies of `ps` end. -/
def dawnTested (s : State) (ps : List Nat) (fails : List (Fin 4 × LaneFail)) : State := ps.foldl (dawnTestedDie fails) s

/-- The partitions of `ps` that are not DOWN enter SERVICE, and the pages of step 6 that the reset of kind `k` has returned are
enabled (R364, R423, R464). -/
def dawnService (k : ResetKind) (s : State) (ps : List Nat) : State :=
  let s1 := ps.foldl (fun s n => if partState s n = 3 then s else setPartState s n 0) s
  let s2 := [Block.cellar, .granary, .stack].foldl (fun s b => reeveEnableAfter k s b ps) s1
  let s3 := reeveEnableAfter k s2 .hbm (ps.flatMap (fun n => (List.range 4).map (fun j => 4 * n + j)))
  reeveEnableAfter k s3 .core (ps.flatMap (fun n => (List.range 128).map (fun j => 128 * n + j)))

/-- Step 7 for the ports of the link dies of `ps` (R422, R425, R464). -/
def dawnPorts (s : State) (ps : List Nat) : State :=
  let l := ps.flatMap (fun n => (List.range 8).map (fun j => 8 * n + j))
  l.foldl (fun s p => if portState s p = Link.detect then updPort s p (fun k => { k with dawn := true }) else s)
    (reeveEnableAll s .port l)

/-- Step 6 of the device's dawn ends: DONE is set, and steps 7 to 9 follow (R422, R423, R444). -/
def dawnServed (s : State) (r : DawnReport) : State :=
  let ps := List.range 4
  let s1 := dawnService s.dawnOf (dawnTested s ps r.fails) ps
  let s2 := raiseInt (setRbit (setDawnStep s1 9) .global 0 Off.globalDawn 8 true) .global 0 1
  resubmit (dawnPorts s2 ps)

/-- One step of the device's dawn (R422, R425). -/
def dawnNext (s : State) (r : DawnReport) : State :=
  let ps := List.range 4
  match dawnStep s with
  | 1 => setDawnStep s 2
  | 2 => dawnBoot s r
  | 3 => dawnFuses s r
  | 4 => setDawnStep (dawnTestState s ps) 5
  | 5 =>
    if s.wipes.any (fun w => w.1 == .device) then s
    else
      let s1 := if s.dawnOf = .cold then ps.foldl (trainStacks r.trained) s else s
      setDawnStep (dawnTests s1 ps) 6
  | 6 => dawnServed s r
  | _ => s

/-! ## A partition's dawn (R364, R420) -/

/-- The partition whose dawn goes on next, and its step. -/
def partDawning (s : State) : Option (Nat × Nat) :=
  ((List.range 4).map (fun n => (n, tget 0 n s.partDawn))).find? (fun x => x.2 != 0)

/-- A partition's dawn has reached step `k`, 0 when it is over. -/
def setPartDawn (s : State) (n k : Nat) : State := { s with partDawn := tset 0 n k s.partDawn }

/-- Step 6 of partition `n` ends: it enters SERVICE, or stays DOWN where a stack failed, REFCLK is lost or its rail is still out
of range, and its pages and ports, and those of the link dies, are enabled (R364, R420, R464, R493, R494). -/
def partServed (s : State) (r : DawnReport) (n : Nat) : State :=
  let out := railGated s n && r.coreRails.toNat.testBit n
  let s0 := { s with railOut := if out then s.railOut else s.railOut &&& ~~~(BitVec.ofNat 32 (2 ^ n)) }
  let s1 := dawnTested (if s.refclkLost || out then setPartState s0 n 3 else s0) [n] r.fails
  let s2 := dawnService .partition (setPartDawn s1 n 0) [n]
  let s3 := reeveEnableAfter .partition (reeveEnableAfter .partition s2 .lanemap [0]) .group [0]
  resubmit (dawnPorts s3 [n])

/-- One step of partition `n`'s dawn (R365, R420, R422). -/
def partDawnNext (s : State) (r : DawnReport) (n k : Nat) : State :=
  if k = 4 then setPartDawn (dawnTestState s [n]) n 5
  else if k = 5 then
    if s.wipes.any (fun w => w.1 == .partition n) then s
    else setPartDawn (dawnTests (trainStacks r.trained s n) [n]) n 6
  else partServed s r n

/-! ## Meanings -/

/-- DAWN_STEP_DONE: a dawn step ends, the device's or a partition's, with what it found; the next begins, or dawn stops
(R420, R422 to R425). -/
def execDawnStepDone (report : DawnReport) (s : State) : Host.Outcome State Fault Refusal :=
  if !dawnDone s then if dawnHeld s then .next s else .next (healthStep s (dawnNext s report))
  else if tripped s || s.scanTest then .next s
  else match partDawning s with
    | some (n, k) => .next (healthStep s (partDawnNext s report n k))
    | none => .next s

/-- CONFIGURATION_REQUEST: answered with Request Retry Status until dawn step 3 ends, served afterwards; in PERST_N the link
is down (R398, R403, R405, R424). -/
def execConfigurationRequest (access : ConfigAccess) (s : State) : Host.Outcome State Fault Refusal :=
  if s.perstLow then .next s
  else if !dawnDone s && decide (dawnStep s ≤ 3) then .next (emit s (.config true))
  else .next (configAccess (emit s (.config false)) access)

end Sys2Proof.Machine
end

