-- ==== Sys2Proof/Machine/Views.lean ====
section
/-!
DEFINITION. Reading a register: the fields that show the state of a unit, and the latched HI halves of 64-bit values (R12,
R32, R400, R435, R436, R445, R452, R456, R468, R475, R476).
-/
namespace Sys2Proof.Machine

/-! ## Cores (R66, R86, R138, R162, R183, R211, R328, R468) -/

/-- `ALM_STATUS.STATE` (R468). -/
def CoreState.code : CoreState → Nat
  | .idle => 0 | .running => 1 | .starved => 2 | .halted => 3 | .fault => 4

/-- `ALM_STATUS.IDLE_BANK` (R468). -/
def BankStatus.code : BankStatus → Nat
  | .empty => 0 | .loading => 1 | .ready => 2 | .invalid => 3

/-- `CORE.ALM_STATUS` (R468). Until bank 0 has been activated it shows as the idle bank. -/
def almStatus (a : Almanac) : Nat :=
  let act := a.active == some true
  let idle := if a.active = some false then a.bank1 else a.bank0
  a.state.code + a.slot % 1024 * 2 ^ 4 + b2n act * 2 ^ 14 + idle.status.code * 2 ^ 16
    + (if a.state = .fault then a.faultReason % 256 * 2 ^ 24 else 0)

/-- `GATE_CFG` of a gate, as last written (R66, R67). -/
def gateCfg (g : Gate) : Nat := g.count.toNat + b2n g.phase0 * 2 ^ 15 + g.owner.toNat * 2 ^ 16 + b2n g.arm * 2 ^ 31

/-- `GATE_STATE` of a gate (R66). -/
def gateState (g : Gate) : Nat :=
  g.arrived.toNat + b2n g.phase * 2 ^ 15 + (match g.state with | .idle => 0 | .armed => 1 | .lost => 2) * 2 ^ 16

/-- `MX_STATUS` (R138). -/
def mxStatus (k : Core) : Nat :=
  let st := if k.mxRuns.any (fun r => r.pushWait) then 3
    else if k.mxPend.any (fun p => p.waited) then 2
    else b2n (!k.mxRuns.isEmpty)
  st + b2n k.mxPend.isSome * 2 ^ 2 + ((k.mxRuns.head?.map MatrixRun.desc).getD 0) % 2 ^ 16 * 2 ^ 16

/-- `TALLY_STATE` (R138). -/
def tallyState (k : Core) : Nat :=
  ((List.range 16).map (fun s =>
    (match tget .clear s k.slots with | .clear => 0 | .held => 1 | .emitted => 2) * 2 ^ (2 * s))).sum

/-- `VX_STATUS` (R162). -/
def vxStatus (k : Core) : Nat :=
  let st := if k.vxRuns.isEmpty then 0 else if k.vxRuns.any VecRun.needTile && k.tiles.isEmpty then 2 else 1
  st + b2n k.vxPend.isSome * 2 ^ 2 + ((k.vxRuns.head?.map VecRun.desc).getD 0) % 2 ^ 16 * 2 ^ 16

/-- `TQ_STATUS` (R162). -/
def tqStatus (k : Core) : Nat :=
  k.tiles.length % 16 + b2n (k.vxRuns.any (fun r => r.held)) * 2 ^ 4 + ((k.tiles.head?.map TileEntry.slot).getD 0) % 16 * 2 ^ 8

/-- The fields of the CORE window that show a core. -/
def coreView (s : State) (c off : Nat) : Option Nat :=
  let k := core s c
  let gate := gateOf k (rf s .core c Off.coreGateSel 0 6)
  if off = Off.coreAlmStatus then some (almStatus k.alm)
  else if off = Off.coreGateCfg then some (gateCfg gate)
  else if off = Off.coreGateTimeout then some gate.ticks.toNat
  else if off = Off.coreGateState then some (gateState gate)
  else if off = Off.coreFlagValue then some (tget 0 (rf s .core c Off.coreFlagSel 0 8) k.flags).toNat
  else if off = Off.coreInflight then some k.ops.length
  else if Off.coreFlagPoison ≤ off ∧ off < Off.coreFlagPoison + 32 then
    some (fld k.flagPoison.toNat (8 * (off - Off.coreFlagPoison)) 32)
  else if off = Off.coreRtagValue then some (tget 0 (rf s .core c Off.coreRtagSel 0 8) k.rtags).toNat
  else if Off.coreRtagPoison ≤ off ∧ off < Off.coreRtagPoison + 32 then
    some (fld k.rtagPoison.toNat (8 * (off - Off.coreRtagPoison)) 32)
  else if off = Off.coreDropListCount then some k.drops.length
  else if off = Off.coreMxStatus then some (mxStatus k)
  else if off = Off.coreTallyState then some (tallyState k)
  else if off = Off.coreVxStatus then some (vxStatus k)
  else if off = Off.coreTqStatus then some (tqStatus k)
  else if off = Off.coreHistValue then
    some (tget 0 (histKey (rf s .core c Off.coreHistSel 0 3) (rf s .core c Off.coreHistSel 8 7)) k.hist).toNat
  else none

/-! ## Contexts (R57, R183, R396) -/

/-- Energy in µJ of a context's class, or of ENERGY_BASE at 256 (R394, R396). -/
def microjoules (s : State) (key : Nat) : DWord := BitVec.ofNat 64 (tget 0 key s.energy / (2 ^ 40 * 10 ^ 6))

/-- The scale slot that TSCALE_SEL shows. -/
def shownScale (s : State) (c : Nat) : TScale := tscale s c (rf s .context c Off.contextTscaleSel 0 5)

/-- `BUCKET_DONE[b]` of a context: of the resident one as its cores have it (R57). -/
def contextBucket (s : State) (c b : Nat) : Nat := if resident s = c ∧ c ≠ 0 then bucketDone s b else 0

/-- The fields of the CONTEXT window that show a context. -/
def contextView (s : State) (c off : Nat) : Option Nat :=
  let t := shownScale s c
  let e := microjoules s (8 * c + rf s .context c Off.contextEnergySel 0 3)
  if off = Off.contextTscaleCfg then some (b2n t.e5m2 + t.margin.toNat * 2 ^ 4 + b2n t.en * 2 ^ 31)
  else if off = Off.contextTscaleSigma then some t.sigma.toNat
  else if off = Off.contextTscaleHist then some (t.history.getD (rf s .context c Off.contextTscaleSel 8 4) 0).toNat
  else if off = Off.contextEnergyLo then some (e.setWidth 32 : Word).toNat
  else if off = Off.contextEnergyHi then some ((e >>> 32).setWidth 32 : Word).toNat
  else if Off.contextBucketDone ≤ off ∧ off < Off.contextBucketDone + 64 then
    some (contextBucket s c ((off - Off.contextBucketDone) / 4))
  else none

/-! ## The Steward, the stacks, the tables (R239, R302, R328, R396, R456) -/

/-- `VF_STATE` of die `d` (R396). -/
def vfState (s : State) (d : Nat) : Nat :=
  let k := soc s d
  k.cur % 16 + usable s d 15 % 16 * 2 ^ 4 + k.guard % 256 * 2 ^ 8 + b2n (k.volt.isSome || k.rising.isSome) * 2 ^ 16

/-- `CAP_EFF` of unit `u`: C_d, rounded up to a watt, or PKG_CAP for the package (R396, R456). -/
def capEff (s : State) (u : Nat) : Nat := if u < 4 then ceilDiv (capSixteenths s u) 16 else rf s .steward 0 Off.stewardPkgCap 0 12

/-- `TEMP` of unit `u`, for the package the hottest die (R396, R456). -/
def unitTemp (s : State) (u : Nat) : Nat :=
  if u < 4 then hottest s u else ((List.range 4).map (hottest s)).foldl max 0

/-- The demand estimate of unit `u` in 0.25 W (R396). -/
def estDemand (s : State) (u : Nat) : Nat := if u < 4 then quarterWatts (soc s u).demand else quarterWatts s.pkgEst.1

/-- The fields of the STEWARD page that show its state. -/
def stewardView (s : State) (off : Nat) : Option Nat :=
  let d := rf s .steward 0 Off.stewardVfSel 0 2
  let p := rf s .steward 0 Off.stewardVfSel 4 4
  let u := rf s .steward 0 Off.stewardEstSel 0 3
  if off = Off.stewardVfPoint then some ((Config.vfFreq d p).toNat + (Config.vfVolt d p).toNat * 2 ^ 12)
  else if off = Off.stewardVfState then some (vfState s d)
  else if off = Off.stewardGbSlope then some Config.gbSlope.toNat
  else if off = Off.stewardEstDemand then some (estDemand s u)
  else if off = Off.stewardEstActual then some (estActual s u)
  else if off = Off.stewardTemp then some (unitTemp s u)
  else if off = Off.stewardCapEff then some (capEff s u)
  else if off = Off.stewardBubble then some (((List.range 4).map (fun d => (soc s d).bubble % 16 * 2 ^ (4 * d))).sum)
  else if off = Off.stewardCurfew then
    some (match s.curfew with | .none => 0 | .active => 1 | .hold _ => 2)
  else if off = Off.stewardEnergyBaseLo then some ((microjoules s 256).setWidth 32 : Word).toNat
  else if off = Off.stewardEnergyBaseHi then some ((microjoules s 256 >>> 32).setWidth 32 : Word).toNat
  else none

/-- The quadrant's tracker that WEAR_SEL of die `d` shows. -/
def shownWear (s : State) (d : Nat) : Option Wear := tget none (4 * d + rf s .stack d Off.stackWearSel 0 2) s.wear

/-- The fields of a STACK page that show wear (R239). -/
def stackView (s : State) (d off : Nat) : Option Nat :=
  if off = Off.stackWearTref then some (Config.wearTref d).toNat
  else if off = Off.stackWearNref then some (Config.wearNref d).toNat
  else if off = Off.stackWearHalf then some ((shownWear s d).map (fun w => w.half.toNat) |>.getD 0)
  else if off = Off.stackWearLife then some ((shownWear s d).map (fun w => w.life.toNat) |>.getD 0)
  else none

/-- The fields of the LANEMAP page that show a table or the open chunks of the link die in SEL.DIE (R328, R475). -/
def lanemapView (s : State) (off : Nat) : Option Nat :=
  let d := rf s .lanemap 0 Off.sel 16 2
  if off = Off.lanemapEntry then some (tget 0 (16384 * d + rf s .lanemap 0 Off.sel 0 14) s.lanemaps).toNat
  else if off = Off.lanemapReduceOpen then some (s.chunks.filter (fun x => x.chunk % 4 == d)).length
  else none

/-- The fields of BELL that show BELLTIME (R32). -/
def bellView (s : State) (off : Nat) : Option Nat :=
  if off = Off.bellTimeLo then some (s.time.setWidth 32 : Word).toNat
  else if off = Off.bellTimeHi then some ((s.time >>> 32).setWidth 32 : Word).toNat
  else none

/-! ## The header (R435, R437, R451) -/

/-- `ID` of page instance `i`: ID.INSTANCE is the die or stack of a repeated page, 0 elsewhere (R1, R435, R436). -/
def idWord (b : Block) (i : Nat) : Nat :=
  let inst := match b with
    | .cellar | .granary | .stack | .hbm => i
    | _ => 0
  b.type * 2 ^ 16 + inst * 2 ^ 8 + 1

/-- `STATUS` of a page: ENABLED reads 1 on an always-active page, KEYS apart, and GLOBAL shows HEALTH (R437, R451). -/
def statusWord (s : State) (b : Block) (i : Nat) : Nat :=
  let v := (reg s b i Off.status).toNat
  if b = .global then setFld (setFld v 0 1 1) 4 2 (health s)
  else if b.alwaysActive ∧ b ≠ .keys then setFld v 0 1 1
  else v

/-! ## Reading -/

/-- The bits of a register that read as they are kept: a WO field reads 0 (R12). -/
def readMask (b : Block) (off : Nat) : Word :=
  (regFields b off).foldl (fun a f => if f.access = .wo then a else a ||| BitVec.ofNat 32 f.mask) 0

/-- The instance of the register file that holds the register at `off`, where the page's instance is `i`: SEL belongs to the
window; a slot of KEYS, a counter of a link die and an accumulator of the Watch are the ones their page's selector names (R354,
R378, R433, R475). -/
def regInstance (s : State) (b : Block) (i off : Nat) : Nat :=
  if b.windowed ∧ off = Off.sel then 0
  else if b = .keys ∧ off = Off.keysSlotState then rf s .keys 0 Off.keysSel 0 6
  else if b = .lanemap ∧ Off.lanemapDropCount ≤ off ∧ off ≤ Off.lanemapOrphanCount then rf s .lanemap 0 Off.sel 16 2
  else if b = .watch ∧ off = Off.watchAccValue then rf s .watch 0 Off.watchAccSel 0 3
  else i

/-- What the register at `off` shows of the state, none where it is kept as a register. -/
def regView (s : State) (b : Block) (i off : Nat) : Option Nat :=
  if off = 0 ∧ b ≠ .doorbell then some (idWord b i)
  else if off = 4 ∧ b ≠ .doorbell then some b.count
  else if off = Off.status ∧ b ≠ .doorbell then some (statusWord s b i)
  else match b with
    | .core => coreView s i off
    | .context => contextView s i off
    | .steward => stewardView s off
    | .stack => stackView s i off
    | .lanemap => lanemapView s off
    | .bell => bellView s off
    | .doorbell =>
      if Off.doorbellBucketDone ≤ off ∧ off < Off.doorbellBucketDone + 64 then
        some (contextBucket s i ((off - Off.doorbellBucketDone) / 4))
      else none
    | _ => none

/-- What a read of the register at `off` returns, latches apart; an offset that no register takes reads 0, and so does the doorbell
page of context 0 (R12, R14, R399, R400). -/
def readReg (s : State) (b : Block) (i off : Nat) : Word :=
  if !regExists b off || (b == .doorbell && i == 0) then 0
  else match regView s b i off with
    | some v => det v
    | none => reg s b (regInstance s b i off) off &&& readMask b off

/-- The LO registers of the values of 64 bits that are read as a LO and HI pair (R445). -/
def loRegisters : Block → List Nat
  | .bell => [Off.bellTimeLo, Off.bellInCaptureLo, Off.bellSetLo]
  | .steward => [Off.stewardEnergyBaseLo]
  | .harvest => [Off.harvestAtStepLo, Off.harvestLastTickLo, Off.harvestRefillStepLo]
  | .context => [Off.contextAlmEpoch0Lo, Off.contextAlmShiftLo, Off.contextSrSeedLo, Off.contextStepLo, Off.contextStepDigestLo,
      Off.contextEnergyLo]
  | .core => [Off.coreAlmLaunchLo, Off.coreMxActiveLo, Off.coreVxIssueLo]
  | .port => [Off.portFlitTxLo]
  | .pantry => [Off.pantryCapLo]
  | _ => []

/-- The latch of a path set. -/
def setLatch (s : State) (host : Bool) (b : Block) (i off : Nat) (v : Word) : State :=
  { s with latches := tset 0 (latchKey host b i off) v s.latches }

/-- The latch of a path. -/
def latched (s : State) (host : Bool) (b : Block) (i off : Nat) : Word := tget 0 (latchKey host b i off) s.latches

/-- A read of DEVQ_REC0: it returns the low word of the record at HEAD, 0 when the queue is empty, and latches the rest, which
then is a free value (R445, R449, R452). -/
def readRecord (s : State) (host : Bool) : State × Word :=
  let latch := fun (s : State) (k : Nat) (v : Word) => setLatch s host .reeve 0 (Off.reeveDevqRec0 + 4 * k) v
  let head := reg s .reeve 0 Off.reeveDevqHead
  if head = reg s .reeve 0 Off.reeveDevqTail then
    let (s1, a) := freshWord s
    let (s2, b) := freshWord s1
    let (s3, c) := freshWord s2
    (latch (latch (latch s3 1 a) 2 b) 3 c, 0)
  else
    let (r, t) := tget (0, 0) (head.toNat % 4096) s.devq
    (latch (latch (latch s 1 ((r >>> 32).setWidth 32)) 2 (t.setWidth 32)) 3 ((t >>> 32).setWidth 32), r.setWidth 32)

/-- A read on a path of the register at `off`: a LO half latches HI, and HI returns what is latched (R445, R452). -/
def pathRead (s : State) (host : Bool) (b : Block) (i off : Nat) : State × Word :=
  if b = .reeve ∧ off = Off.reeveDevqRec0 then readRecord s host
  else if b = .reeve ∧ Off.reeveDevqRec0 < off ∧ off ≤ Off.reeveDevqRec3 then (s, latched s host b i off)
  else if (loRegisters b).contains off then (setLatch s host b i off (readReg s b i (off + 4)), readReg s b i off)
  else if 4 ≤ off ∧ (loRegisters b).contains (off - 4) then (s, latched s host b i (off - 4))
  else (s, readReg s b i off)

/-- The instance of a page that a path reaches: the host's is the one that SEL names; the Reeve's own path does not read SEL, and
its reads of a window are of instance 0 here (R433, R434). -/
def pathInstance (s : State) (host : Bool) (b : Block) (rep : Nat) : Nat :=
  if b.instanced then (if host then shownInstance s b else 0) else rep

/-- A read of BAR0 on a path: an aligned dword, 0 where no page lies; any other access is an Unsupported Request (R400). -/
def bar0Read (s : State) (host : Bool) (off len : Nat) : State :=
  if off % 4 ≠ 0 ∨ len ≠ 4 then unsupported s 0
  else match pageOf (off / 4096) with
    | none => emit s (.regRead 0)
    | some (b, rep) =>
      let (s1, v) := pathRead s host b (pathInstance s host b rep) (off % 4096)
      emit s1 (.regRead v)

/-- A read of a doorbell page: of an aligned dword, inside an IDE stream where one is required of the host (R400, R404, R406). -/
def doorbellRead (s : State) (host : Bool) (ctx off len : Nat) (ide : Bool) : State :=
  if off % 4 ≠ 0 ∨ len ≠ 4 ∨ (host && ideBlocked s ide) then unsupported s ctx
  else emit s (.regRead (readReg s .doorbell ctx off))

/-! ## Meanings -/

/-- READ_LO_LATCH: a read of `len` bytes at `offset` of BAR0, or of the doorbell page of a context, on the host's path or the
Reeve's; a LO half latches its HI half on that path (R399, R400, R404, R406, R434, R445). -/
def execReadLoLatch (host : Bool) (space : RegSpace) (offset : BitVec 26) (len : Nat) (ide : Bool) (s : State) :
    Host.Outcome State Fault Refusal :=
  match space with
  | .bar0 => .next (bar0Read s host offset.toNat len)
  | .doorbell ctx => .next (doorbellRead s host ctx.val offset.toNat len ide)

/-- DEVQ_REC0_READ: the record at HEAD is read (R445, R449, R452). -/
def execDevqRec0Read (host : Bool) (s : State) : Host.Outcome State Fault Refusal :=
  .next (bar0Read s host (0x1000 + Off.reeveDevqRec0) 4)

end Sys2Proof.Machine
end

