-- ==== Sys2Proof/Machine/Registers.lean ====
section
/-!
DEFINITION. Writes of registers: the access codes, reserved bits, the checks of each register, CTRL with its ENABLE check,
QUIESCE and disabling, and every command that is a host write of a register (R12 to R14, R400, R424, R434 to R440, R459 to R465
and the register tables).
-/
namespace Sys2Proof.Machine

/-! ## Storing (R12, R13, R440, R443) -/

/-- A register word after a write of `v`, by the access code of each field; RWL fields keep their value while `locked` (R12,
R13). -/
def storeFields (b : Block) (off : Nat) (locked : Bool) (old v : Word) : Word :=
  (regFields b off).foldl (fun w f =>
    let m := BitVec.ofNat 32 f.mask
    match f.access with
    | .rw => (w &&& ~~~m) ||| (v &&& m)
    | .rwl => if locked then w else (w &&& ~~~m) ||| (v &&& m)
    | .w1c => w &&& ~~~(v &&& m)
    | .w1s => w ||| (v &&& m)
    | .ro | .wo => w) old

/-- Whether the RWL fields of a page are locked (R12, R406). -/
def locked (s : State) (b : Block) (i : Nat) : Bool := if b = .doorbell then evqEnabled s i else enabled s b i

/-- A write with no other effect than on the fields of its register. -/
def storeReg (s : State) (b : Block) (i off : Nat) (v : Word) : State :=
  let j := regInstance s b i off
  setReg s b j off (storeFields b off (locked s b i) (reg s b j off) v)

/-- A write stored when `ok` holds, refused with `code` otherwise. -/
def storeIf (s : State) (b : Block) (i off : Nat) (v : Word) (ok : Bool) (code : Nat) : State :=
  if ok then storeReg s b i off v else refuse s b i code off

/-- Writing 1 to REFUSED clears it with its code and its offset (R440). -/
def clearRefused (s : State) (b : Block) (i : Nat) (v : Word) : State :=
  if bitAt v.toNat 2 then setRf (setRf (setRbit s b i Off.status 2 false) b i Off.status 8 8 0) b i Off.status 16 16 0 else s

/-- A write of a header register: the error summary follows, and an interrupt that it uncovers is sent (R435, R440, R443). -/
def writeHeader (s : State) (b : Block) (i off : Nat) (v : Word) : State :=
  if off = Off.status then clearRefused s b i v
  else msixOnRise (errSummary (storeReg s b i off v) b i) b i (intLive s b i)

/-! ## CTRL (R437 to R439, R462, R465) -/

/-- The pages whose ENABLE and QUIESCE the host may not change (R465). -/
def Block.hostFixed : Block → Bool
  | .cellar | .granary | .hbm | .terrier | .lanemap | .group => true
  | _ => false

/-- The code that refuses to disable a page, 0 when none does (R438, R462, R465). -/
def disableCheck (s : State) (b : Block) (i : Nat) (v : Word) : Nat :=
  if fld v.toNat 24 8 ≠ 0xA5 then 0x04
  else match b with
    | .core => if contextRuns s (resident s) then 0x08 else 0
    | .context => if ctxState s i ≠ Ctx.ready ∨ ctxSaved s i then 0x08 else 0
    | .pantry => if rbit s .harvest 0 Off.ctrl 0 then 0x08 else 0
    | _ => 0

/-- What goes with a page that is disabled: a harvest aborts with status 6, a context is FREE, a port goes DOWN, and a stack's
throttle and wear counting run on (R345, R354, R462, R465). -/
def disablePage (s : State) (b : Block) (i : Nat) : State :=
  let held := (reg s .stack i Off.stackHotCtrl, reg s .stack i Off.stackWearSwing, reg s .stack i Off.stackWearExp)
  let s1 := setRbit s b i Off.status 0 false
  match b with
  | .harvest => { harvestAbort s1 6 with harvestWanted := false }
  | .context => setCtxState s1 i Ctx.free
  | .port => portDisabled s1 i
  | .stack => { s1 with stackHeld := (i, held) :: s1.stackHeld.filter (fun e => e.1 != i) }
  | _ => s1

/-- Whether a page's block has work in flight (R438). -/
def inFlight (s : State) (b : Block) (i : Nat) : Bool :=
  match b with
  | .core =>
    let k := core s i
    !(k.ops.isEmpty && k.mxRuns.isEmpty && k.mxPend.isNone && k.vxRuns.isEmpty && k.vxPend.isNone && k.alm.refill.isNone)
  | .port => !((portOf s i).buffer.isEmpty && (portOf s i).tx.all (fun e => e.2.isEmpty))
  | .pcie => !s.hostReads.isEmpty
  | .pantry => !s.nvme.isEmpty
  | _ => false

/-- QUIESCE has risen: BUSY reads 1 until the work in flight is done; or it has fallen, and new work is accepted (R438). -/
def quiesceChanged (s : State) (b : Block) (i : Nat) (was : Bool) : State :=
  if quiescing s b i = was then s
  else
    let s1 := setRbit s b i Off.status 1 (!was)
    if was ∧ b = .pantry then s1.nvmeWait.foldl (fun s c => nvmeNext s c.queue) s1 else s1

/-- The ENABLE check of a page begins: BUSY reads 1 (R439). -/
def beginCheck (s : State) (b : Block) (i : Nat) (old : Word) : State :=
  setRbit { s with checks := s.checks ++ [(b, i, old)] } b i Off.status 1 true

/-- A write of CTRL of a page that has ENABLE: refused, or stored, with the check that setting ENABLE starts or what clearing it
does (R437 to R439, R462, R465). -/
def writeEnable (s : State) (b : Block) (i k : Nat) (v : Word) : State :=
  let was := enabled s b i
  let want := bitAt v.toNat k
  let old := reg s b i Off.ctrl
  let code := if was ∧ !want then disableCheck s b i v else 0
  if b.hostFixed ∧ fld v.toNat 0 2 ≠ fld old.toNat 0 2 then refuse s b i 0x04 Off.ctrl
  else if code ≠ 0 then refuse s b i code Off.ctrl
  else
    let s1 := quiesceChanged (storeReg s b i Off.ctrl v) b i (quiescing s b i)
    if was ∧ !want then disablePage s1 b i
    else if want ∧ !was then beginCheck s1 b i old
    else s1

/-- A write of BELL.CTRL: refused with 0x08 where it changes the role, the source or the parent of a Bell that a resident context
relies on (R35, R454, R455). -/
def writeBellCtrl (s : State) (v : Word) : State :=
  if resident s ≠ 0 ∧ (v ^^^ reg s .bell 0 Off.ctrl) &&& 0x3F3 ≠ 0 then refuse s .bell 0 0x08 Off.ctrl
  else bellControl (storeReg s .bell 0 Off.ctrl v)

/-- A write of CTRL (R396, R437, R354). -/
def writeCtrl (s : State) (b : Block) (i : Nat) (v : Word) : State :=
  match b.enableBit with
  | some k => writeEnable s b i k v
  | none =>
    match b with
    | .bell => writeBellCtrl s v
    | .steward => storeIf s .steward 0 Off.ctrl v (fld v.toNat 0 6 != 0) 0x02
    | .watch => storeIf s .watch 0 Off.ctrl v (fld v.toNat 0 4 != 0) 0x02
    | _ => s

/-- The ENABLE check of a page ends: it is enabled, or the write is discarded whole and the refusal shown (R439, R440). -/
def endCheck (s : State) (b : Block) (i : Nat) : State :=
  match s.checks.find? (fun x => x.1 == b && x.2.1 == i) with
  | none => s
  | some (_, _, old) =>
    let s1 := setRbit { s with checks := s.checks.filter (fun x => !(x.1 == b && x.2.1 == i)) } b i Off.status 1
      (quiescing s b i && inFlight s b i)
    match enableCheck s1 b i with
    | none => enablePage s1 b i
    | some (code, off) => refuse (setReg s1 b i Off.ctrl old) b i code off

/-! ## GLOBAL, REEVE and the pages beside them -/

/-- A write to a GLOBAL register (R299, R378, R431). -/
def writeGlobal (s : State) (off : Nat) (v : Word) : State :=
  if off = Off.globalNode then writeNode s v
  else if off = Off.globalRun then writeRun s v
  else if off = Off.globalResetCmd then writeResetCmd s v
  else if off = Off.globalPower then writePower s v
  else storeReg s .global 0 off v

/-- A write of FW_CMD (R452, R453). -/
def writeFwCmd (s : State) (v : Word) : State :=
  if fld v.toNat 0 2 = 0 then refuse s .reeve 0 0x02 Off.reeveFwCmd
  else firmware s (fld v.toNat 0 2) (bitAt v.toNat 4)

/-- A write to a REEVE register (R449, R452, R453). -/
def writeReeve (s : State) (off : Nat) (v : Word) : State :=
  if off = Off.reeveLcCmd then writeLcCmd s v
  else if off = Off.reeveFwCmd then writeFwCmd s v
  else if off = Off.reeveMgmtCmd then writeMgmtCmd s v
  else if off = Off.reeveFwOffset then storeIf s .reeve 0 off v (v.toNat % 256 == 0) 0x0A
  else if off = Off.reeveMgmtDst then storeIf s .reeve 0 off v (decide (fld v.toNat 20 4 ≤ 12)) 0x02
  else if off = Off.reeveDevqHead then
    storeIf s .reeve 0 off v (decide ((reg s .reeve 0 Off.reeveDevqTail - v).toNat < 2 ^ 31)) 0x02
  else storeReg s .reeve 0 off v

/-- A write to a STEWARD register (R396). -/
def writeSteward (s : State) (off : Nat) (v : Word) : State :=
  let x := v.toNat
  let range := fun lo hi => storeIf s .steward 0 off v (decide (lo ≤ x ∧ x ≤ hi)) 0x02
  if off = Off.stewardPkgCap then range 1 2800
  else if Off.stewardDieCap ≤ off ∧ off < Off.stewardDieCap + 16 then range 1 450
  else if off = Off.stewardTLimit then range 0 420
  else if off = Off.stewardDroopMargin ∨ off = Off.stewardVfSettle then range 1 (2 ^ 16)
  else if off = Off.stewardVfTarget then writeVfTarget s v
  else if off = Off.stewardEstSel then storeReg s .steward 0 off (if 5 ≤ x then 0 else v)
  else storeReg s .steward 0 off v

/-- A write to a HARVEST register; bit 0 of QUARANTINE stays 0 (R354, R457). -/
def writeHarvest (s : State) (off : Nat) (v : Word) : State :=
  if off = Off.harvestRefillCmd then writeRefillCmd s v
  else if off = Off.harvestRefillTimeout then storeIf s .harvest 0 off v (v != 0) 0x02
  else if off = Off.harvestQuarantineSet then
    setReg s .harvest 0 Off.harvestQuarantine (reg s .harvest 0 Off.harvestQuarantine ||| (v &&& 0xFFFFFFFE))
  else storeReg s .harvest 0 off v

/-! ## CONTEXT (R183, R328, R378, R396, R459, R460) -/

/-- Whether an FP32 word is a positive power of two (R183). -/
def powerOfTwo (w : Word) : Bool :=
  match f32 w with
  | .fin false m _ => m != 0 && m == 2 ^ Nat.log2 m
  | _ => false

/-- A write to a register of the CONTEXT window. -/
def writeContext (s : State) (c off : Nat) (v : Word) : State :=
  let slot := rf s .context c Off.contextTscaleSel 0 5
  let t := tscale s c slot
  let idle := fun (x : State) => if contextRuns s c then refuse s .context c 0x08 off else x
  if off = Off.contextAlmGo then writeAlmGo s c v
  else if off = Off.contextCtxCmd then writeCtxCmd s c v
  else if off = Off.contextStepCmd then writeStepCmd s c v
  else if (Off.contextAlmRootLo ≤ off ∧ off ≤ Off.contextAlmShiftHi) ∨ off = Off.contextStepLo ∨ off = Off.contextStepHi then
    idle (storeReg s .context c off v)
  else if off = Off.contextTscaleCfg then
    idle (setTscale s c slot { t with e5m2 := bitAt v.toNat 0, margin := BitVec.ofNat 4 (fld v.toNat 4 4), en := bitAt v.toNat 31 })
  else if off = Off.contextTscaleSigma then
    if !powerOfTwo v then refuse s .context c 0x02 off else idle (setTscale s c slot { t with sigma := v })
  else if off = Off.contextEnergySel then storeReg s .context c off (if 5 ≤ v.toNat then 0 else v)
  else storeReg s .context c off v

/-! ## CORE (R66, R85, R86, R138, R183, R211) -/

/-- Bits of a poison word cleared: word `j` of 256 bits (R86, R211). -/
def clearPoison (p : BitVec 256) (j : Nat) (v : Word) : BitVec 256 := p &&& ~~~(BitVec.ofNat 256 (v.toNat * 2 ^ (32 * j)))

/-- A write to a register of the CORE window. -/
def writeCore (s : State) (c off : Nat) (v : Word) : State :=
  let idle := fun (x : State) => if contextRuns s (resident s) then refuse s .core c 0x08 off else x
  if off = Off.coreGateSel then storeReg s .core c off (if 48 ≤ v.toNat then 0 else v)
  else if off = Off.coreGateCfg then writeGateCfg s c v
  else if off = Off.coreGateTimeout then writeGateTimeout s c v
  else if off = Off.coreFlagValue then
    idle (updCore s c (fun k => { k with flags := tset 0 (rf s .core c Off.coreFlagSel 0 8) (v.setWidth 16) k.flags }))
  else if Off.coreFlagPoison ≤ off ∧ off < Off.coreFlagPoison + 32 then
    updCore s c (fun k => { k with flagPoison := clearPoison k.flagPoison ((off - Off.coreFlagPoison) / 4) v })
  else if off = Off.coreRtagValue then
    idle (updCore s c (fun k => { k with rtags := tset 0 (rf s .core c Off.coreRtagSel 0 8) (v.setWidth 16) k.rtags }))
  else if Off.coreRtagPoison ≤ off ∧ off < Off.coreRtagPoison + 32 then
    updCore s c (fun k => { k with rtagPoison := clearPoison k.rtagPoison ((off - Off.coreRtagPoison) / 4) v })
  else if off = Off.coreTallyClear then writeTallyClear s c v
  else if off = Off.coreHistSel then storeReg s .core c off (if 68 ≤ fld v.toNat 8 7 then v &&& 0x7 else v)
  else if off = Off.coreHistValue then
    let key := histKey (rf s .core c Off.coreHistSel 0 3) (rf s .core c Off.coreHistSel 8 7)
    idle (updCore s c (fun k => { k with hist := tset 0 key v k.hist }))
  else storeReg s .core c off v

/-! ## PORT, LANEMAP, PANTRY (R262, R269, R474, R477) -/

/-- A write of PORT_CMD; while the link dies are powered off a port stays DOWN (R249, R265, R269, R426, R474). -/
def writePortCmd (s : State) (p : Nat) (v : Word) : State :=
  if v = 0 ∨ (enabled s .port p ∧ linkOff s) then s
  else if !enabled s .port p then refuse s .port p 0x03 Off.portCmd
  else
    let s1 := if bitAt v.toNat 0 then portRetrain s p else s
    if bitAt v.toNat 1 then portRekey s1 p else s1

/-- A write to a register of the PORT window; ENC_REQ ignores writes in FIELD (R262, R269). -/
def writePort (s : State) (p off : Nat) (v : Word) : State :=
  if off = Off.portCmd then writePortCmd s p v
  else if off = Off.portCfg ∧ inField s then
    storeReg s .port p off ((v &&& ~~~(4 : Word)) ||| (reg s .port p off &&& 4))
  else storeReg s .port p off v

/-- A write of PANTRY.CMD that asks for a bring-up; what the drive answers then is a free value (R477). -/
def writePantryCmd (s : State) (v : Word) : State :=
  if v = 0 then s
  else if enabled s .pantry 0 then refuse s .pantry 0 0x08 Off.pantryCmd
  else
    let (s1, a) := freshWord s
    let (s2, b) := freshWord s1
    let (s3, c) := freshWord s2
    latchDrive s3 ⟨a.setWidth 8, a.toNat.testBit 8, a.toNat.testBit 9, (a >>> 16).setWidth 8, b.append c⟩

/-! ## Every register -/

/-- A write to a register below the header. -/
def writePage (s : State) (b : Block) (i off : Nat) (v : Word) : State :=
  match b with
  | .global => writeGlobal s off v
  | .reeve => writeReeve s off v
  | .bell => if off = Off.bellSetHi then writeSetHi s v else storeReg s .bell 0 off v
  | .steward => writeSteward s off v
  | .watch => if off = Off.watchAccSel then storeIf s .watch 0 off v (v != 7) 0x02 else storeReg s .watch 0 off v
  | .harvest => writeHarvest s off v
  | .keys => if off = Off.keysSlotCmd then writeSlotCmd s v else storeReg s .keys 0 off v
  | .context => writeContext s i off v
  | .cellar => if off = Off.cellarReset then writeCellarReset s i v else storeReg s .cellar i off v
  | .core => writeCore s i off v
  | .port => writePort s i off v
  | .terrier => if off = Off.terrierEntry + 12 then writeTerrier3 s v else storeReg s .terrier 0 off v
  | .group => if off = Off.groupEntry + 12 then writeGroup3 s v else storeReg s .group 0 off v
  | .lanemap => if off = Off.lanemapEntry then writeLaneEntry s v else storeReg s .lanemap 0 off v
  | .pantry => if off = Off.pantryCmd then writePantryCmd s v else storeReg s .pantry 0 off v
  | _ => storeReg s b i off v

/-- A write of `v` to the register at `off` of page instance `i`: discarded where no register lies, refused with 0x01 where it sets
a reserved bit, and in the window of context 0 with 0x06 (R14, R400, R434, R459). -/
def writeReg (s : State) (b : Block) (i off : Nat) (v : Word) : State :=
  if !regExists b off then s
  else if b.windowed ∧ off = Off.sel then writeSel s b v
  else if v &&& ~~~(definedMask b off) ≠ 0 then refuse s b i 0x01 off
  else if b = .context ∧ i = 0 then refuse s .context 0 0x06 off
  else if off = Off.ctrl then writeCtrl s b i v
  else if off < 0x100 then writeHeader s b i off v
  else writePage s b i off v

/-- A host write of `v` to the register at `off` of a page: it waits for an ENABLE check of the page to end, SEL apart; a write that sets a
reserved bit is refused whenever it arrives; before dawn is done only GLOBAL and REEVE may be written; and HEALTH follows ("When accesses meet", R424, R434, R451). -/
def hostStore (s : State) (b : Block) (i off : Nat) (v : Word) : State :=
  let s1 := if b.windowed ∧ off = Off.sel then s else endCheck s b i
  healthStep s (hostWrite s1 b i off v (fun s => writeReg s b i off v))

/-- A host write of `v` to the register at `off` of a window or of a page of which there is one. -/
def shownStore (s : State) (b : Block) (off : Nat) (v : Word) : State := hostStore s b (shownInstance s b) off v

/-- A host write of BAR0: of an aligned dword; any other is an Unsupported Request, and where no page lies it is discarded
(R400). -/
def bar0Write (s : State) (off len : Nat) (v : Word) : State :=
  if off % 4 ≠ 0 ∨ len ≠ 4 then unsupported s 0
  else match pageOf (off / 4096) with
    | none => s
    | some (b, rep) => hostStore s b (if b.instanced then shownInstance s b else rep) (off % 4096) v

/-- A write of a register of a doorbell page (R12 to R14, R406, R407). -/
def writeDoorbell (s : State) (ctx off : Nat) (v : Word) : State :=
  if !regExists .doorbell off then s
  else if off < 0x200 then writeRing s ctx (off / 0x20) (off % 0x20 / 4) v
  else if off = Off.doorbellEvqCfg then writeEvqCfg s ctx v
  else if off = Off.doorbellEvqHead then writeEvqHead s ctx v
  else doorbellWrite s ctx off v fun s => storeReg s .doorbell ctx off v

/-- A host write of a doorbell page: of an aligned dword, inside an IDE stream where one is required (R400, R404). -/
def doorbellStore (s : State) (ctx off len : Nat) (v : Word) (ide : Bool) : State :=
  if off % 4 ≠ 0 ∨ len ≠ 4 ∨ ideBlocked s ide then unsupported s ctx else writeDoorbell s ctx off v

/-! ## Meanings: any register -/

/-- REGISTER_WRITE: a host write of `len` bytes at an offset of BAR0, or of the doorbell page of a context (R12 to R14, R400, R404,
R440). -/
def execRegisterWrite (space : RegSpace) (offset : BitVec 26) (len : Nat) (value : BitVec 32) (ide : Bool) (s : State) :
    Host.Outcome State Fault Refusal :=
  match space with
  | .bar0 => .next (bar0Write s offset.toNat len value)
  | .doorbell ctx => .next (doorbellStore s ctx.val offset.toNat len value ide)

/-- A host write of CTRL of the page at page number `n` with its bit `f` at `on`; a page without that bit has no such command. -/
def ctrlWrite (s : State) (n : Nat) (f : Block → Option Nat) (on : Bool) (v : Word) : State :=
  match pageOf n with
  | none => s
  | some (b, rep) =>
    match f b with
    | none => s
    | some k => hostStore s b (if b.instanced then shownInstance s b else rep) Off.ctrl (det (setFld v.toNat k 1 (b2n on)))

/-- ENABLE: a write that sets CTRL.ENABLE of a page (R437, R439, R465). -/
def execEnable (page : BitVec 14) (value : BitVec 32) (s : State) : Host.Outcome State Fault Refusal :=
  .next (ctrlWrite s page.toNat Block.enableBit true value)

/-- DISABLE: a write that clears CTRL.ENABLE of a page (R438, R462, R465). -/
def execDisable (page : BitVec 14) (value : BitVec 32) (s : State) : Host.Outcome State Fault Refusal :=
  .next (ctrlWrite s page.toNat Block.enableBit false value)

/-- QUIESCE: a write that sets CTRL.QUIESCE of a page (R438, R465). -/
def execQuiesce (page : BitVec 14) (value : BitVec 32) (s : State) : Host.Outcome State Fault Refusal :=
  .next (ctrlWrite s page.toNat Block.quiesceBit true value)

/-- The instance of a page that a command which is no access names: `index` in a window. -/
def namedInstance (b : Block) (rep index : Nat) : Nat := if b.instanced then index else rep

/-- ENABLE_CHECK_END (R439, R440). -/
def execEnableCheckEnd (page : BitVec 14) (index : Fin 512) (s : State) : Host.Outcome State Fault Refusal :=
  match pageOf page.toNat with
  | none => .next s
  | some (b, rep) => .next (endCheck s b (namedInstance b rep index.val))

/-- QUIESCE_DONE: the work in flight of a quiescing block is done, and BUSY falls (R438). -/
def execQuiesceDone (page : BitVec 14) (index : Fin 512) (s : State) : Host.Outcome State Fault Refusal :=
  match pageOf page.toNat with
  | none => .next s
  | some (b, rep) =>
    let i := namedInstance b rep index.val
    if quiescing s b i ∧ !inFlight s b i ∧ !s.checks.any (fun x => x.1 == b && x.2.1 == i) then
      .next (setRbit s b i Off.status 1 false)
    else .next s

/-! ## Meanings: registers with a row of their own -/

/-- CONTEXT_SWITCH_REQ: a write of GLOBAL.RUN with NEXT and REQ (R359, R378). -/
def execContextSwitchReq (next : BitVec 5) (s : State) : Host.Outcome State Fault Refusal :=
  .next (shownStore s .global Off.globalRun (det (next.toNat * 2 ^ 8 + 2 ^ 16)))

/-- CONTEXT_RESET: a write of CTX_CMD.RESET through the CONTEXT window (R373). -/
def execContextReset (s : State) : Host.Outcome State Fault Refusal := .next (shownStore s .context Off.contextCtxCmd 1)

/-- ALM_GO: a write of ALM_GO through the CONTEXT window (R45, R461). -/
def execAlmGo (s : State) : Host.Outcome State Fault Refusal := .next (shownStore s .context Off.contextAlmGo 1)

/-- STEP_GO: a write of STEP_CMD.GO through the CONTEXT window (R317, R318). -/
def execStepGo (s : State) : Host.Outcome State Fault Refusal := .next (shownStore s .context Off.contextStepCmd 1)

/-- STEP_DROP: a write of STEP_CMD.DROP through the CONTEXT window (R317, R319). -/
def execStepDrop (s : State) : Host.Outcome State Fault Refusal := .next (shownStore s .context Off.contextStepCmd 2)

/-- GATE_ARM: a write of GATE_CFG with ARM 1 through the CORE window, bits [30:0] given (R67). -/
def execGateArm (value : BitVec 31) (s : State) : Host.Outcome State Fault Refusal :=
  .next (shownStore s .core Off.coreGateCfg (det (value.toNat + 2 ^ 31)))

/-- GATE_DISARM: a write of GATE_CFG with ARM 0 through the CORE window, bits [30:0] given (R67). -/
def execGateDisarm (value : BitVec 31) (s : State) : Host.Outcome State Fault Refusal :=
  .next (shownStore s .core Off.coreGateCfg (det value.toNat))

/-- TALLY_CLEAR through the CORE window (R138). -/
def execTallyClear (value : BitVec 32) (s : State) : Host.Outcome State Fault Refusal :=
  .next (shownStore s .core Off.coreTallyClear value)

/-- PORT_RETRAIN: a write of PORT_CMD.RETRAIN through the PORT window (R249, R474). -/
def execPortRetrain (s : State) : Host.Outcome State Fault Refusal := .next (shownStore s .port Off.portCmd 1)

/-- PORT_REKEY: a write of PORT_CMD.REKEY through the PORT window (R265, R474). -/
def execPortRekey (s : State) : Host.Outcome State Fault Refusal := .next (shownStore s .port Off.portCmd 2)

/-- STEP_ALLOW: a write of BELL.CTRL with STEP_ALLOW 1 and the other fields as they are; made while ADRIFT it moves the Bell to
ACQUIRING (R35, R454). -/
def execStepAllow (s : State) : Host.Outcome State Fault Refusal :=
  .next (shownStore s .bell Off.ctrl (reg s .bell 0 Off.ctrl ||| 8))

/-- SET_HI: a write of BELL.SET_HI (R38, R455). -/
def execSetHi (value : BitVec 32) (s : State) : Host.Outcome State Fault Refusal := .next (shownStore s .bell Off.bellSetHi value)

/-- A write of `HARVEST.REFILL_CMD`. -/
def refillCommand (s : State) (op kind ctx : Nat) : State :=
  shownStore s .harvest Off.harvestRefillCmd (det (op + kind * 2 ^ 4 + ctx * 2 ^ 8))

/-- PREPARE (R346). -/
def execPrepare (kind : BitVec 2) (ctx : BitVec 5) (s : State) : Host.Outcome State Fault Refusal :=
  .next (refillCommand s 1 kind.toNat ctx.toNat)

/-- START (R347). -/
def execStart (s : State) : Host.Outcome State Fault Refusal := .next (refillCommand s 2 0 0)

/-- ABORT (R348). -/
def execAbort (s : State) : Host.Outcome State Fault Refusal := .next (refillCommand s 3 0 0)

/-- SERVE (R347). -/
def execServe (ctx : BitVec 5) (s : State) : Host.Outcome State Fault Refusal := .next (refillCommand s 4 0 ctx.toNat)

/-- ACK (R346). -/
def execAck (s : State) : Host.Outcome State Fault Refusal := .next (refillCommand s 5 0 0)

/-- RESCAN: a write of PANTRY.CMD.RESCAN repeats the drive bring-up, which finds what `drive` reports, unless PANTRY is enabled
(R477). -/
def execRescan (drive : DriveReport) (s : State) : Host.Outcome State Fault Refusal :=
  .next (hostWrite (endCheck s .pantry 0) .pantry 0 Off.pantryCmd 1 (fun s =>
    if enabled s .pantry 0 then refuse s .pantry 0 0x08 Off.pantryCmd else latchDrive s drive))

end Sys2Proof.Machine
end

