-- ==== Sys2Proof/Machine/Dispatch.lean ====
section
/-!
DEFINITION. The dispatch: one arm for each command of the opcode table, each a direct call of its meaning.
-/
namespace Sys2Proof.Machine

/-- The effect of a command on the block, the queue of waiting commands apart. -/
def exec (i : Instr) (s : State) : Host.Outcome State Fault Refusal :=
  match i with
  | .coldReset => Sys2Proof.Machine.execColdReset s
  | .perstNLow => Sys2Proof.Machine.execPerstNLow s
  | .resetDevice => Sys2Proof.Machine.execResetDevice s
  | .resetPartition target => Sys2Proof.Machine.execResetPartition target s
  | .resetPort target => Sys2Proof.Machine.execResetPort target s
  | .pfFlr => Sys2Proof.Machine.execPfFlr s
  | .vfFlr vf => Sys2Proof.Machine.execVfFlr vf s
  | .dawnStepDone report => Sys2Proof.Machine.execDawnStepDone report s
  | .railFault die => Sys2Proof.Machine.execRailFault die s
  | .refclkLoss => Sys2Proof.Machine.execRefclkLoss s
  | .testModeHigh => Sys2Proof.Machine.execTestModeHigh s
  | .almGo => Sys2Proof.Machine.execAlmGo s
  | .measureDone => Sys2Proof.Machine.execMeasureDone s
  | .refillComplete core => Sys2Proof.Machine.execRefillComplete core s
  | .halt core => Sys2Proof.Machine.execHalt core s
  | .matrix core => Sys2Proof.Machine.execMatrix core s
  | .vector core => Sys2Proof.Machine.execVector core s
  | .move core => Sys2Proof.Machine.execMove core s
  | .fetch core => Sys2Proof.Machine.execFetch core s
  | .put core => Sys2Proof.Machine.execPut core s
  | .reduce core => Sys2Proof.Machine.execReduce core s
  | .atomic core => Sys2Proof.Machine.execAtomic core s
  | .arrive core => Sys2Proof.Machine.execArrive core s
  | .signal core => Sys2Proof.Machine.execSignal core s
  | .seed core => Sys2Proof.Machine.execSeed core s
  | .hist core => Sys2Proof.Machine.execHist core s
  | .segment core => Sys2Proof.Machine.execSegment core s
  | .almanacStarved core loaded => Sys2Proof.Machine.execAlmanacStarved core loaded s
  | .loop core => Sys2Proof.Machine.execLoop core s
  | .variant core => Sys2Proof.Machine.execVariant core s
  | .switch core => Sys2Proof.Machine.execSwitch core s
  | .commit core => Sys2Proof.Machine.execCommit core s
  | .harvest core => Sys2Proof.Machine.execHarvest core s
  | .entrySkip core => Sys2Proof.Machine.execEntrySkip core s
  | .halted core => Sys2Proof.Machine.execHalted core s
  | .slipRange core => Sys2Proof.Machine.execSlipRange core s
  | .gateArm value => Sys2Proof.Machine.execGateArm value s
  | .gateDisarm value => Sys2Proof.Machine.execGateDisarm value s
  | .arriveReceived index => Sys2Proof.Machine.execArriveReceived index s
  | .arrivalApply core => Sys2Proof.Machine.execArrivalApply core s
  | .gateTimeout core => Sys2Proof.Machine.execGateTimeout core s
  | .signalReceived index => Sys2Proof.Machine.execSignalReceived index s
  | .matrixStart core => Sys2Proof.Machine.execMatrixStart core s
  | .promotionDrain core => Sys2Proof.Machine.execPromotionDrain core s
  | .tileQueuePush core => Sys2Proof.Machine.execTileQueuePush core s
  | .matrixComplete core => Sys2Proof.Machine.execMatrixComplete core s
  | .matrixRefusedComplete core => Sys2Proof.Machine.execMatrixRefusedComplete core s
  | .tallyClear value => Sys2Proof.Machine.execTallyClear value s
  | .vectorStart core => Sys2Proof.Machine.execVectorStart core s
  | .vectorRefusedComplete core => Sys2Proof.Machine.execVectorRefusedComplete core s
  | .tileTake core => Sys2Proof.Machine.execTileTake core s
  | .tileRelease core => Sys2Proof.Machine.execTileRelease core s
  | .vectorComplete core => Sys2Proof.Machine.execVectorComplete core s
  | .nop core => Sys2Proof.Machine.execNop core s
  | .add core => Sys2Proof.Machine.execAdd core s
  | .sub core => Sys2Proof.Machine.execSub core s
  | .mul core => Sys2Proof.Machine.execMul core s
  | .fma core => Sys2Proof.Machine.execFma core s
  | .fms core => Sys2Proof.Machine.execFms core s
  | .min core => Sys2Proof.Machine.execMin core s
  | .max core => Sys2Proof.Machine.execMax core s
  | .cmp core => Sys2Proof.Machine.execCmp core s
  | .sel core => Sys2Proof.Machine.execSel core s
  | .exp2 core => Sys2Proof.Machine.execExp2 core s
  | .log2 core => Sys2Proof.Machine.execLog2 core s
  | .rcp core => Sys2Proof.Machine.execRcp core s
  | .rsq core => Sys2Proof.Machine.execRsq core s
  | .cvt core => Sys2Proof.Machine.execCvt core s
  | .cvtf core => Sys2Proof.Machine.execCvtf core s
  | .perm core => Sys2Proof.Machine.execPerm core s
  | .bfly core => Sys2Proof.Machine.execBfly core s
  | .rot core => Sys2Proof.Machine.execRot core s
  | .ilv core => Sys2Proof.Machine.execIlv core s
  | .dlv core => Sys2Proof.Machine.execDlv core s
  | .pack core => Sys2Proof.Machine.execPack core s
  | .unpack core => Sys2Proof.Machine.execUnpack core s
  | .red core => Sys2Proof.Machine.execRed core s
  | .iadd core => Sys2Proof.Machine.execIadd core s
  | .and core => Sys2Proof.Machine.execAnd core s
  | .or core => Sys2Proof.Machine.execOr core s
  | .xor core => Sys2Proof.Machine.execXor core s
  | .shl core => Sys2Proof.Machine.execShl core s
  | .shr core => Sys2Proof.Machine.execShr core s
  | .sra core => Sys2Proof.Machine.execSra core s
  | .imin core => Sys2Proof.Machine.execImin core s
  | .imax core => Sys2Proof.Machine.execImax core s
  | .icmp core => Sys2Proof.Machine.execIcmp core s
  | .iota core => Sys2Proof.Machine.execIota core s
  | .mand core => Sys2Proof.Machine.execMand core s
  | .mor core => Sys2Proof.Machine.execMor core s
  | .mxor core => Sys2Proof.Machine.execMxor core s
  | .mnot core => Sys2Proof.Machine.execMnot core s
  | .ld core => Sys2Proof.Machine.execLd core s
  | .st core => Sys2Proof.Machine.execSt core s
  | .stb core => Sys2Proof.Machine.execStb core s
  | .aadd core => Sys2Proof.Machine.execAadd core s
  | .trel core => Sys2Proof.Machine.execTrel core s
  | .vectorLoop core => Sys2Proof.Machine.execVectorLoop core s
  | .endProgram core => Sys2Proof.Machine.execEndProgram core s
  | .moveComplete core op => Sys2Proof.Machine.execMoveComplete core op s
  | .memoryRead addr key flip => Sys2Proof.Machine.execMemoryRead addr key flip s
  | .memoryWrite addr key data mask => Sys2Proof.Machine.execMemoryWrite addr key data mask s
  | .accumulateWrite core slot addr key fmt scale addends mask flags block => Sys2Proof.Machine.execAccumulateWrite core slot addr key fmt scale addends mask flags block s
  | .refreshWindow footprint => Sys2Proof.Machine.execRefreshWindow footprint s
  | .refreshWindowEnd footprint => Sys2Proof.Machine.execRefreshWindowEnd footprint s
  | .hbmRfm stack => Sys2Proof.Machine.execHbmRfm stack s
  | .throttleAdmit die footprint => Sys2Proof.Machine.execThrottleAdmit die footprint s
  | .bondSelfTest die => Sys2Proof.Machine.execBondSelfTest die s
  | .selfTestComplete die fails => Sys2Proof.Machine.execSelfTestComplete die fails s
  | .wearWriteback => Sys2Proof.Machine.execWearWriteback s
  | .cellarReset die => Sys2Proof.Machine.execCellarReset die s
  | .cellarQuiesced die => Sys2Proof.Machine.execCellarQuiesced die s
  | .cellarWipeDone die => Sys2Proof.Machine.execCellarWipeDone die s
  | .laneSignalDetect port => Sys2Proof.Machine.execLaneSignalDetect port s
  | .laneReport port mask minWidth => Sys2Proof.Machine.execLaneReport port mask minWidth s
  | .fecLock port => Sys2Proof.Machine.execFecLock port s
  | .negotiate port => Sys2Proof.Machine.execNegotiate port s
  | .secure port => Sys2Proof.Machine.execSecure port s
  | .phaseTimeout port => Sys2Proof.Machine.execPhaseTimeout port s
  | .flitTransmit port frac => Sys2Proof.Machine.execFlitTransmit port frac s
  | .flitReceived port bits ended pair frac => Sys2Proof.Machine.execFlitReceived port bits ended pair frac s
  | .replayTimeout port => Sys2Proof.Machine.execReplayTimeout port s
  | .laneFail port lane => Sys2Proof.Machine.execLaneFail port lane s
  | .retrainDone port => Sys2Proof.Machine.execRetrainDone port s
  | .peerSilent port => Sys2Proof.Machine.execPeerSilent port s
  | .portRetrain => Sys2Proof.Machine.execPortRetrain s
  | .portRekey => Sys2Proof.Machine.execPortRekey s
  | .rekeyLimit port => Sys2Proof.Machine.execRekeyLimit port s
  | .bellFrameTimer => Sys2Proof.Machine.execBellFrameTimer s
  | .bellSync port => Sys2Proof.Machine.execBellSync port s
  | .bellHoldover => Sys2Proof.Machine.execBellHoldover s
  | .delayReqTimer => Sys2Proof.Machine.execDelayReqTimer s
  | .delayReq port => Sys2Proof.Machine.execDelayReq port s
  | .delayResp port => Sys2Proof.Machine.execDelayResp port s
  | .bellOutPulse => Sys2Proof.Machine.execBellOutPulse s
  | .bellOutPulseEnd => Sys2Proof.Machine.execBellOutPulseEnd s
  | .bellInEdge => Sys2Proof.Machine.execBellInEdge s
  | .stepAllow => Sys2Proof.Machine.execStepAllow s
  | .setHi value => Sys2Proof.Machine.execSetHi value s
  | .txnIssue issuer => Sys2Proof.Machine.execTxnIssue issuer s
  | .packetForward die vc => Sys2Proof.Machine.execPacketForward die vc s
  | .readReq index => Sys2Proof.Machine.execReadReq index s
  | .writeReq index => Sys2Proof.Machine.execWriteReq index s
  | .writePosted index => Sys2Proof.Machine.execWritePosted index s
  | .atomicReq index => Sys2Proof.Machine.execAtomicReq index s
  | .readRsp index => Sys2Proof.Machine.execReadRsp index s
  | .statusRsp index => Sys2Proof.Machine.execStatusRsp index s
  | .atomicRsp index => Sys2Proof.Machine.execAtomicRsp index s
  | .tagTimeout sunit tag => Sys2Proof.Machine.execTagTimeout sunit tag s
  | .tagRetireEnd sunit tag => Sys2Proof.Machine.execTagRetireEnd sunit tag s
  | .terrierCommit value => Sys2Proof.Machine.execTerrierCommit value s
  | .terrierUpdateDone => Sys2Proof.Machine.execTerrierUpdateDone s
  | .groupCommit value => Sys2Proof.Machine.execGroupCommit value s
  | .lanemapEntryWrite value => Sys2Proof.Machine.execLanemapEntryWrite value s
  | .selWrite page value => Sys2Proof.Machine.execSelWrite page value s
  | .nodeWrite value => Sys2Proof.Machine.execNodeWrite value s
  | .mgmtSrRelay index => Sys2Proof.Machine.execMgmtSrRelay index s
  | .identify index => Sys2Proof.Machine.execIdentify index s
  | .assign index => Sys2Proof.Machine.execAssign index s
  | .lanemapWrite index => Sys2Proof.Machine.execLanemapWrite index s
  | .groupWrite index => Sys2Proof.Machine.execGroupWrite index s
  | .mgmtResponse index => Sys2Proof.Machine.execMgmtResponse index s
  | .mgmtSend => Sys2Proof.Machine.execMgmtSend s
  | .mgmtSrSend => Sys2Proof.Machine.execMgmtSrSend s
  | .mgmtTimeout => Sys2Proof.Machine.execMgmtTimeout s
  | .lcCmd value => Sys2Proof.Machine.execLcCmd value s
  | .fwErase slot => Sys2Proof.Machine.execFwErase slot s
  | .fwWrite slot => Sys2Proof.Machine.execFwWrite slot s
  | .fwVerify slot => Sys2Proof.Machine.execFwVerify slot s
  | .fwCmdDone result => Sys2Proof.Machine.execFwCmdDone result s
  | .reduceAdd index => Sys2Proof.Machine.execReduceAdd index s
  | .chunkCombine index => Sys2Proof.Machine.execChunkCombine index s
  | .chunkTotalWritten index => Sys2Proof.Machine.execChunkTotalWritten index s
  | .chunkTimeout index => Sys2Proof.Machine.execChunkTimeout index s
  | .reduceComplete core op => Sys2Proof.Machine.execReduceComplete core op s
  | .stepReady => Sys2Proof.Machine.execStepReady s
  | .stepGo => Sys2Proof.Machine.execStepGo s
  | .stepDrop => Sys2Proof.Machine.execStepDrop s
  | .stepDropDone => Sys2Proof.Machine.execStepDropDone s
  | .watchPeriod => Sys2Proof.Machine.execWatchPeriod s
  | .harvestArm => Sys2Proof.Machine.execHarvestArm s
  | .pageCopyDone die => Sys2Proof.Machine.execPageCopyDone die s
  | .harvestStallLimit page => Sys2Proof.Machine.execHarvestStallLimit page s
  | .pantryCompletion index status log => Sys2Proof.Machine.execPantryCompletion index status log s
  | .pantryCmdTimeout index => Sys2Proof.Machine.execPantryCmdTimeout index s
  | .prepare kind ctx => Sys2Proof.Machine.execPrepare kind ctx s
  | .start => Sys2Proof.Machine.execStart s
  | .abort => Sys2Proof.Machine.execAbort s
  | .serve ctx => Sys2Proof.Machine.execServe ctx s
  | .ack => Sys2Proof.Machine.execAck s
  | .sourceSilent => Sys2Proof.Machine.execSourceSilent s
  | .contextSwitchReq next => Sys2Proof.Machine.execContextSwitchReq next s
  | .switchOut => Sys2Proof.Machine.execSwitchOut s
  | .forcedOff => Sys2Proof.Machine.execForcedOff s
  | .saveStart => Sys2Proof.Machine.execSaveStart s
  | .saveDone => Sys2Proof.Machine.execSaveDone s
  | .restoreDone => Sys2Proof.Machine.execRestoreDone s
  | .contextReset => Sys2Proof.Machine.execContextReset s
  | .wipeDone index => Sys2Proof.Machine.execWipeDone index s
  | .assignSlot owner => Sys2Proof.Machine.execAssignSlot owner s
  | .releaseSlot => Sys2Proof.Machine.execReleaseSlot s
  | .entropyFail => Sys2Proof.Machine.execEntropyFail s
  | .stewardPeriod report => Sys2Proof.Machine.execStewardPeriod report s
  | .estimateComplete => Sys2Proof.Machine.execEstimateComplete s
  | .thermtrip die temp => Sys2Proof.Machine.execThermtrip die temp s
  | .vfTargetWrite value => Sys2Proof.Machine.execVfTargetWrite value s
  | .vfSettle die => Sys2Proof.Machine.execVfSettle die s
  | .droop die reading => Sys2Proof.Machine.execDroop die reading s
  | .droopEnd die recovered => Sys2Proof.Machine.execDroopEnd die recovered s
  | .curfew => Sys2Proof.Machine.execCurfew s
  | .curfewRelease => Sys2Proof.Machine.execCurfewRelease s
  | .curfewHoldEnd => Sys2Proof.Machine.execCurfewHoldEnd s
  | .pmbusTransactionDone die ok => Sys2Proof.Machine.execPmbusTransactionDone die ok s
  | .pmbusRetry die => Sys2Proof.Machine.execPmbusRetry die s
  | .powerRun => Sys2Proof.Machine.execPowerRun s
  | .powerDusk => Sys2Proof.Machine.execPowerDusk s
  | .powerNight => Sys2Proof.Machine.execPowerNight s
  | .powerTransitionDone => Sys2Proof.Machine.execPowerTransitionDone s
  | .doorbell ctx slot word value ide => Sys2Proof.Machine.execDoorbell ctx slot word value ide s
  | .evqEnable ctx value ide => Sys2Proof.Machine.execEvqEnable ctx value ide s
  | .evqHeadWrite ctx value ide => Sys2Proof.Machine.execEvqHeadWrite ctx value ide s
  | .evqMessage ctx => Sys2Proof.Machine.execEvqMessage ctx s
  | .windowRead fn dw len ide => Sys2Proof.Machine.execWindowRead fn dw len ide s
  | .windowWrite fn dw data ide => Sys2Proof.Machine.execWindowWrite fn dw data ide s
  | .pcieLink speed width flit => Sys2Proof.Machine.execPcieLink speed width flit s
  | .ideFail stream => Sys2Proof.Machine.execIdeFail stream s
  | .rescan drive => Sys2Proof.Machine.execRescan drive s
  | .smartRefresh => Sys2Proof.Machine.execSmartRefresh s
  | .entdaa addr => Sys2Proof.Machine.execEntdaa addr s
  | .rstdaa => Sys2Proof.Machine.execRstdaa s
  | .setEndpointId eid => Sys2Proof.Machine.execSetEndpointId eid s
  | .getEndpointId => Sys2Proof.Machine.execGetEndpointId s
  | .getMctpVersionSupport => Sys2Proof.Machine.execGetMctpVersionSupport s
  | .getMessageTypeSupport => Sys2Proof.Machine.execGetMessageTypeSupport s
  | .getpdrrepositoryinfo => Sys2Proof.Machine.execGetpdrrepositoryinfo s
  | .getpdr handle => Sys2Proof.Machine.execGetpdr handle s
  | .getsensorreading sensor => Sys2Proof.Machine.execGetsensorreading sensor s
  | .getstatesensorreadings sensor => Sys2Proof.Machine.execGetstatesensorreadings sensor s
  | .setnumericeffectervalue effecter value => Sys2Proof.Machine.execSetnumericeffectervalue effecter value s
  | .getnumericeffectervalue effecter => Sys2Proof.Machine.execGetnumericeffectervalue effecter s
  | .getVersion path request => Sys2Proof.Machine.execGetVersion path request s
  | .getCapabilities path request => Sys2Proof.Machine.execGetCapabilities path request s
  | .negotiateAlgorithms path request => Sys2Proof.Machine.execNegotiateAlgorithms path request s
  | .getDigests path request => Sys2Proof.Machine.execGetDigests path request s
  | .getCertificate path request => Sys2Proof.Machine.execGetCertificate path request s
  | .challenge path request => Sys2Proof.Machine.execChallenge path request s
  | .getMeasurements path request => Sys2Proof.Machine.execGetMeasurements path request s
  | .keyExchange path request => Sys2Proof.Machine.execKeyExchange path request s
  | .finish path request => Sys2Proof.Machine.execFinish path request s
  | .endSession path request => Sys2Proof.Machine.execEndSession path request s
  | .bypass len tdi => Sys2Proof.Machine.execBypass len tdi s
  | .idcode => Sys2Proof.Machine.execIdcode s
  | .samplePreload pins tdi => Sys2Proof.Machine.execSamplePreload pins tdi s
  | .extest pins tdi => Sys2Proof.Machine.execExtest pins tdi s
  | .enable page value => Sys2Proof.Machine.execEnable page value s
  | .enableCheckEnd page index => Sys2Proof.Machine.execEnableCheckEnd page index s
  | .disable page value => Sys2Proof.Machine.execDisable page value s
  | .quiesce page value => Sys2Proof.Machine.execQuiesce page value s
  | .quiesceDone page index => Sys2Proof.Machine.execQuiesceDone page index s
  | .readLoLatch host space offset len ide => Sys2Proof.Machine.execReadLoLatch host space offset len ide s
  | .devqRec0Read host => Sys2Proof.Machine.execDevqRec0Read host s
  | .registerWrite space offset len value ide => Sys2Proof.Machine.execRegisterWrite space offset len value ide s
  | .perstNRise => Sys2Proof.Machine.execPerstNRise s
  | .atomicComplete core op => Sys2Proof.Machine.execAtomicComplete core op s
  | .loadComplete core => Sys2Proof.Machine.execLoadComplete core s
  | .trainComplete port good => Sys2Proof.Machine.execTrainComplete port good s
  | .orderlyPowerDown => Sys2Proof.Machine.execOrderlyPowerDown s
  | .hbmRefresh stack => Sys2Proof.Machine.execHbmRefresh stack s
  | .belltimeHoldEnd => Sys2Proof.Machine.execBelltimeHoldEnd s
  | .ideKm stream => Sys2Proof.Machine.execIdeKm stream s
  | .configurationRequest access => Sys2Proof.Machine.execConfigurationRequest access s
  | .driveMemoryRequest req => Sys2Proof.Machine.execDriveMemoryRequest req s

end Sys2Proof.Machine
end

