-- ==== Sys2Proof/Safety.lean ====
section
/-!
DEFINITION. What a safe run is, in the terms the claims use: no step stops, and memory stays in its canonical form; and the
words the claims are made of: what a command answers, and what it leaves as it was.
-/
namespace Sys2Proof.Machine

/-- A state whose memory and check symbols are in canonical form, so that equal memories are equal data. -/
abbrev State.Inv (s : State) : Prop := Memory.wf s

/-- The step from a state answers a next state: it neither faults nor is refused. -/
def State.runs (s : State) : Prop := ∃ t, step s = Host.Outcome.next t

/-- A command answers a next state of which `P` holds. -/
def Answers (i : Instr) (s : State) (P : State → Prop) : Prop := ∃ t, exec i s = Host.Outcome.next t ∧ P t

/-! ## What is left as it was -/

/-- `t` differs from `s` in registers, outputs and the pending bits of masked interrupt vectors alone. -/
def onlyRegs (s t : State) : Prop := ∃ r o m, t = { s with regs := r, outputs := o, msixPending := m }

/-- `t` differs from `s` in registers, outputs, the pending bits of masked interrupt vectors and the device queue alone. -/
def onlyDevice (s t : State) : Prop := ∃ r o m q, t = { s with regs := r, outputs := o, msixPending := m, devq := q }

/-- Every byte of memory and every check symbol reads as before. -/
def sameMemory (s t : State) : Prop := ∀ a, cellAt a t.mem = cellAt a s.mem ∧ cellAt a t.chk = cellAt a s.chk

/-- Every byte outside the last 256 KiB of each die's commons, where the Harvest keeps its bitmaps and landing counts, is as
before (R338). -/
def outsideRegions (s t : State) : Prop :=
  ∀ a, (∀ d, d < 4 → a < harvestBase d ∨ harvestBase d + 2 ^ 18 ≤ a) → cellAt a t.mem = cellAt a s.mem

/-- Every core but `c` is as before. -/
def otherCores (c : Nat) (s t : State) : Prop := ∀ d, d ≠ c → core t d = core s d

/-- Every port but `p` is as before. -/
def otherPorts (p : Nat) (s t : State) : Prop := ∀ q, q ≠ p → portOf t q = portOf s q

/-- Every register whose key is not among `keys` reads as before. -/
def otherRegs (keys : List Nat) (s t : State) : Prop :=
  ∀ b i off, regKey b i off ∉ keys → reg t b i off = reg s b i off

/-! ## When an almanac entry launches (R49, R50) -/

/-- The entry at the head of core `c` launches now: it is of operation `op`, its core may launch it, its tick has come and
its wait holds. -/
def launches (s : State) (c : Nat) (op : Op6) (e : QWord) : Prop :=
  readyEntry s c op = some e ∧ waitForeign (core s c) (resident s) e = false ∧ waitHolds (core s c) e = true

/-- The entry is not late: its slip is within SLACK, or SLACK is 0xFFFF (R50). -/
def onTime (s : State) (c : Nat) (e : QWord) : Prop :=
  entSlack e = 0xFFFF ∨ (slipNow s (core s c).alm e).toNat ≤ entSlack e

/-- The head of core `c` has moved past its entry at the present tick. -/
def movedOn (c : Nat) (s t : State) : Prop :=
  (core t c).alm.head = ((core s c).alm.advance s.time).head
    ∧ (core t c).alm.frames = ((core s c).alm.advance s.time).frames ∧ (core t c).alm.headSince = s.time

/-! ## When the vector engine issues (R142, R160) -/

/-- Core `c` issues instruction word `w` of its run `r`, and the instruction after it is in the program store. -/
def issues (s : State) (c : Nat) (r : VecRun) (w : Nat) : Prop :=
  issuing (core s c) = some r ∧ coreIssues s c = true ∧ (core s c).vec.inst r.pc = w
    ∧ (vecAdvance r.loops (r.pc + 1)).2 < 2048

/-- The run of core `c` has moved past its instruction, which was counted, and nothing but the core, its issue count and the
activity counters has changed. -/
def issuedOne (c : Nat) (r : VecRun) (s t : State) : Prop :=
  issuing (core t c) = some { r with loops := (vecAdvance r.loops (r.pc + 1)).1, pc := (vecAdvance r.loops (r.pc + 1)).2 }
    ∧ reg64 t .core c Off.coreVxIssueLo = reg64 s .core c Off.coreVxIssueLo + 1
    ∧ otherRegs [regKey .core c Off.coreVxIssueLo, regKey .core c (Off.coreVxIssueLo + 4)] s t
    ∧ otherCores c s t ∧ ∃ k r a, t = { s with cores := k, regs := r, activity := a }

/-- The enabled lanes of register `d` of core `c` hold `f`; every other lane, mask and address register of its engine is as
before (R148). -/
def lanesHold (c d en : Nat) (f : Nat → Word) (s t : State) : Prop :=
  (∀ i, i < 64 → (core t c).vec.lane d i = if en.testBit i then f i else (core s c).vec.lane d i)
    ∧ (∀ q i, q ≠ d → (core t c).vec.lane q i = (core s c).vec.lane q i)
    ∧ (core t c).vec.m = (core s c).vec.m ∧ (core t c).vec.a = (core s c).vec.a

/-- The enabled bits of mask register `d` of core `c` hold `f`; every other mask, lane and address register of its engine is
as before (R148). -/
def maskHolds (c d en : Nat) (f : Nat → Bool) (s t : State) : Prop :=
  (∀ i, i < 64 → ((core t c).vec.mask d).testBit i = if en.testBit i then f i else ((core s c).vec.mask d).testBit i)
    ∧ (∀ q, q ≠ d → (core t c).vec.mask q = (core s c).vec.mask q)
    ∧ (core t c).vec.v = (core s c).vec.v ∧ (core t c).vec.a = (core s c).vec.a

/-! ## What the vector engine's memory instructions reach (R154, R155) -/

/-- The addresses of LD and ST are in order: every lane's lies in the space of the base register, which is no reserved one, fits
it, and is a multiple of the element's `e` bytes; and the Tally is reached with 32-bit elements alone (`any`). -/
def lanesReach (s : State) (c w e : Nat) (any : Bool) : Prop :=
  (core s c).vec.addr (Vi.an w) / 2 ^ 30 ≠ 3 ∧ ((core s c).vec.addr (Vi.an w) / 2 ^ 30 = 1 → any = true)
    ∧ ∀ i, i < 64 → 0 ≤ laneAddr ((core s c).vec.addr (Vi.an w)) w e i
      ∧ (laneAddr ((core s c).vec.addr (Vi.an w)) w e i).toNat / 2 ^ 30 = (core s c).vec.addr (Vi.an w) / 2 ^ 30
      ∧ (cellarRange s c (laneAddr ((core s c).vec.addr (Vi.an w)) w e i).toNat e).isSome = true
      ∧ (laneAddr ((core s c).vec.addr (Vi.an w)) w e i).toNat % e = 0

/-- The memory byte at which lane `i` of LD or ST begins. -/
def lanePlace (s : State) (c w e i : Nat) : Nat :=
  (cellarRange s c (laneAddr ((core s c).vec.addr (Vi.an w)) w e i).toNat e).getD 0

/-- Lane `i` takes part in instruction `w` (R148). -/
def laneOn (s : State) (c w i : Nat) : Prop := i < 64 ∧ ((core s c).vec.mask (Vi.mk w)).testBit i = true

/-- Whether the codeword that holds byte `a` can be read (R206, R208). -/
def readable (s : State) (a : Nat) : Bool := (readWord s 0 (a / 16)).2.2

/-- The `n` bytes at `a`, which lie in one codeword. -/
def wordBytes (s : State) (a n : Nat) : Nat := fld (readWord s 0 (a / 16)).2.1 (8 * (a % 16)) (8 * n)

/-- The code ST stores of a lane's word: narrowed to its format, with draw `d` where RND is 1, or its low bits (R155). -/
def laneCode (f : VFmt) (w d : Nat) (x : Word) : Nat :=
  match f with
  | .elem t => narrow t (if Vi.rnd w then some (Vi.sr w + 1, d) else none) (f32 x)
  | _ => x.toNat % 2 ^ f.width

/-- The draws of a stochastic ST or STB for lanes `l`, in their order; none where RND is 0 (R113, R155). -/
def laneDraws (s : State) (c w : Nat) (l : List Nat) : List Nat :=
  if Vi.rnd w then (drawLanes (core s c).vec.gens (Vi.sr w + 1) l).2 else []

/-- Every byte that `stored` does not name reads as before, under every key slot. -/
def otherBytes (stored : Nat → Prop) (s t : State) : Prop :=
  ∀ key a, ¬ stored a → (readMem t key a 1).2 = (readMem s key a 1).2

/-- The run of core `c` has moved past its instruction, poisoned if `bad`. -/
def ranOn (c : Nat) (r : VecRun) (bad : Bool) (t : State) : Prop :=
  issuing (core t c) = some { r with
    loops := (vecAdvance r.loops (r.pc + 1)).1, pc := (vecAdvance r.loops (r.pc + 1)).2, poisoned := r.poisoned || bad }

end Sys2Proof.Machine
end

