-- ==== Sys2Proof/WellFormed.lean ====
section
/-!
DEFINITION. Which commands are well formed: the operands are something the world outside the block can send. Every other
bound is in the types of the operands.
-/
namespace Sys2Proof

/-- A lane of the part: 240 groups of 33 lanes for a core, 6 of 66 for a footprint (R224). -/
def LaneFail.wf (f : LaneFail) : Bool :=
  if f.footprint then decide (f.group.val < 6) else decide (f.lane.val < 33)

/-- A dawn report has three digests and the regulators of the four dies, and names lanes of the part (R375, R384, R415). -/
def DawnReport.wf (r : DawnReport) : Bool :=
  decide (r.digests.length = 3) && decide (r.pmbAddr.length = 4) && r.fails.all (fun f => f.2.wf)

/-- A period's report has the sensors of 16 quadrants, 4 link dies and 16 stacks (R379, R386). -/
def PeriodReport.wf (r : PeriodReport) : Bool :=
  decide (r.quads.length = 16) && decide (r.links.length = 4) && decide (r.stackTemps.length = 16)

/-- Dwords of the window of a function: at most 256 GiB on the physical function, 4 GiB on a virtual one (R399). -/
def windowDwords (fn : Fin 32) : Nat := if fn.val = 0 then 2 ^ 36 else 2 ^ 30

/-- The commands that the world outside the block can send. -/
def Instr.wf : Instr → Bool
  | .dawnStepDone report => report.wf
  | .selfTestComplete _ fails => fails.all LaneFail.wf
  | .stewardPeriod report => report.wf
  | .windowRead fn dw len _ => decide (dw + len ≤ windowDwords fn)
  | .windowWrite fn dw data _ => decide (data.length % 4 = 0) && decide (dw + data.length / 4 ≤ windowDwords fn)
  | .bypass len tdi => decide (tdi < 2 ^ len)
  | .readLoLatch _ .bar0 offset len _ => decide (offset.toNat + len ≤ 2 ^ 26)
  | .readLoLatch _ (.doorbell _) offset len _ => decide (offset.toNat + len ≤ 2 ^ 16)
  | .registerWrite .bar0 offset len _ _ => decide (offset.toNat + len ≤ 2 ^ 26)
  | .registerWrite (.doorbell _) offset len _ _ => decide (offset.toNat + len ≤ 2 ^ 16)
  | .driveMemoryRequest (.read addr len) => decide (addr + len ≤ 2 ^ 64)
  | .driveMemoryRequest (.write addr data) => decide (addr + data.length ≤ 2 ^ 64)
  | _ => true

end Sys2Proof
end

