-- ==== Sys2Proof/Certificates/Slice0/Obligations.lean ====
section
/-!
DEFINITION. What is claimed of the model: one proposition for each obligation. Each names the commands it speaks of, and says
of each of them that it answers a next state and what that state holds.
-/
open Sys2Proof Sys2Proof.Machine

/-! ## The block as a whole -/

/-- A step takes the command at the front of the queue: it is `exec` of that command on the state with the queue's rest. -/
def Obligations.StepTakesFront : Prop :=
  ∀ (i : Instr) (rest : List Instr) (s : State), s.pending = i :: rest → step s = exec i { s with pending := rest }

/-- On an empty queue the Bell ticks: BELLTIME rises by one, modulo 2⁶⁴, unless it is held; a hold counts down. What is left to
slew shrinks by what the tick slews, at most 256 of the 5,120,000 units of its nominal length, which is 50 ppm, and the tick lasts
that much less or more. Nothing else changes, with no die's wipe due to begin (R30, R31, R34, R35; that an empty queue is a tick is
the model's choice, log entry 3). -/
def Obligations.EmptyQueueTicks : Prop :=
  ∀ s : State, s.pending = [] → (∀ d, d < 4 → rf s .cellar d Off.cellarResetStep 0 3 ≠ 3) →
    (s.timeHeld = false → ∃ d : Int, -256 ≤ d ∧ d ≤ 256
        ∧ (0 ≤ s.bellSlew → 0 ≤ d ∧ d ≤ s.bellSlew) ∧ (s.bellSlew ≤ 0 → s.bellSlew ≤ d ∧ d ≤ 0)
        ∧ (s.bellSlew ≠ 0 → d ≠ 0)
        ∧ step s = .next { s with time := s.time + 1, bellSlew := s.bellSlew - d, refTime := s.refTime + (5120000 - d).toNat })
      ∧ (s.timeHeld = true → step s = .next { s with holdLeft := s.holdLeft - 1, refTime := s.refTime + 5120000 })

/-- No command stops the block: every step answers a next state. That a command whose event cannot happen answers a next state is the model's
choice (log entry 2), and so is the tick of an empty queue (log entry 3). -/
def Obligations.StepNeverStops : Prop := ∀ s : State, s.runs

/-- The canonical form of memory is kept by every step: addresses rise and no listed byte is what an unlisted one reads as. -/
def Obligations.StepKeepsMemoryForm : Prop := ∀ s t : State, s.Inv → step s = .next t → t.Inv

/-- Reset has memory in its canonical form, lists no command, and holds the registers' reset values: BELLTIME 0 and not held,
the step state IDLE, no context resident, every core idle with its gates IDLE, every port DOWN, the Bell FREE. -/
def Obligations.ResetState : Prop :=
  State.reset.Inv ∧ State.reset.pending = [] ∧ State.reset.time = 0 ∧ State.reset.timeHeld = false
    ∧ (∀ b i off, reg State.reset b i off = regDefault (regKey b i off))
    ∧ resident State.reset = 0 ∧ bellState State.reset = Bell.free
    ∧ (∀ c, (core State.reset c).alm.state = .idle ∧ ∀ g, (gateOf (core State.reset c) g).state = .idle)
    ∧ (∀ p, p < 32 → portState State.reset p = Link.down)

/-! ## The almanac (R45 to R60) -/

/-- MATRIX and VECTOR that are on time hand their descriptor to the unit: with the unit's pending place free and the die's
cellar not in reset, the pending descriptor names DESC, FLAG and the resident context, and the head moves on. SEED behind a pending
descriptor waits for it; HIST selects the slot for later writers and clears it when CLEAR is 1 (R41, R49, R117, R123, R141, R178). -/
def Obligations.UnitEntriesLaunch : Prop :=
  (∀ (c : Fin 512) (s : State) (e : QWord), launches s c .matrix e → onTime s c e → (core s c).mxPend = none →
    cellarBusy s (c.val / 128) = false →
    Answers (.matrix c) s (fun t => (∃ p, (core t c).mxPend = some p ∧ p.desc = entArg e 0 16 ∧ p.flag = entArg e 16 8
      ∧ p.ctx = resident s) ∧ movedOn c s t))
  ∧ (∀ (c : Fin 512) (s : State) (e : QWord), launches s c .vector e → onTime s c e → (core s c).vxPend = none →
    cellarBusy s (c.val / 128) = false →
    Answers (.vector c) s (fun t => (∃ p, (core t c).vxPend = some p ∧ p.desc = entArg e 0 16 ∧ p.flag = entArg e 16 8
      ∧ p.ctx = resident s ∧ p.hist = (core s c).histSel) ∧ movedOn c s t))
  ∧ (∀ (c : Fin 512) (s : State) (e : QWord) (p : VecPend), launches s c .seed e → onTime s c e →
    (core s c).vxPend = some p →
    Answers (.seed c) s (fun t => (core t c).seedAfter = some (entArg e 0 48)
      ∧ (core t c).vec = (core s c).vec ∧ movedOn c s t))
  ∧ (∀ (c : Fin 512) (s : State) (e : QWord), launches s c .hist e → onTime s c e →
    Answers (.hist c) s (fun t => (core t c).histSel = entArg e 0 3
      ∧ (∀ k b, b < 128 → tget 0 (128 * k + b) (core t c).hist
          = if entArg e 3 1 = 1 ∧ k = entArg e 0 3 then 0 else tget 0 (128 * k + b) (core s c).hist)
      ∧ movedOn c s t))

/-- The banks of a core: REFILL_COMPLETE of a start, with a segment that passes every check, makes its bank active with the head
at its first entry, and the core runs. SEGMENT with the other bank READY swaps: the epoch advances by ADVANCE, the other bank becomes
active with the head at its first entry and no loop open. With the other bank LOADING, ALMANAC_STARVED makes the core STARVED; with
it EMPTY the core faults with reason 0x09 (R45, R46, R48, R60, R61). -/
def Obligations.BanksTurn : Prop :=
  (∀ (c : Fin 512) (s s1 : State) (r : Refill) (bank : Bank), (core s c).alm.refill = some r →
      (core s c).alm.active = none → coreClocked s c = true → cellarBusy s (c.val / 128) = false →
      loadBank s (resident s) c r.addr = (s1, bank) → bank.status = .ready →
      Answers (.refillComplete c) s (fun t => (core t c).alm.state = .running ∧ (core t c).alm.active = some r.bank
        ∧ (core t c).alm.head = 0 ∧ (core t c).alm.headSince = s.time
        ∧ ((core t c).alm.bank r.bank).entries = bank.entries))
  ∧ (∀ (c : Fin 512) (s : State) (e : QWord), launches s c .segment e → onTime s c e → boundaryHeld s = false →
    ((core s c).alm.bank (!((core s c).alm.active == some true))).status = .ready →
    Answers (.segment c) s (fun t =>
      (core t c).alm.epoch = (core s c).alm.epoch + BitVec.ofNat 64 (entArg e 0 48)
      ∧ (core t c).alm.active = some (!((core s c).alm.active == some true))
      ∧ (core t c).alm.head = 0 ∧ (core t c).alm.frames = [] ∧ (core t c).alm.state = .running
      ∧ otherCores c s t ∧ sameMemory s t))
  ∧ (∀ (c : Fin 512) (s : State) (e : QWord) (n : BitVec 9), launches s c .segment e → (core s c).alm.state = .running →
    ((core s c).alm.bank (!((core s c).alm.active == some true))).status = .loading →
    Answers (.almanacStarved c n) s (fun t => (core t c).alm.state = .starved
      ∧ (core t c).alm.head = (core s c).alm.head ∧ otherCores c s t))
  ∧ (∀ (c : Fin 512) (s : State) (e : QWord), launches s c .segment e → boundaryHeld s = false →
    ((core s c).alm.bank (!((core s c).alm.active == some true))).status = .empty →
    Answers (.segment c) s (fun t => (core t c).alm.state = .fault ∧ (core t c).alm.faultReason = 0x09))

/-- VARIANT whose ring holds the next bucket and whose table word is VALID counts the bucket consumed, starts a refill of the
other bank from the word's address and moves on; a ring word overwritten faults with 0x08 (R55 to R57, R60). -/
def Obligations.VariantChooses : Prop :=
  (∀ (c : Fin 512) (s s3 : State) (e : QWord) (w : Nat) (t0 : Target),
    let b := entArg e 0 4
    let n := (tget 0 b (core s c).alm.consumed).toNat
    let ring := (ringWord s (resident s) b n).toNat
    let s1 := noteLaunch s c e
    let s2 := noteBuckets s1 (updCore s1 c (fun k => { k with alm := { k.alm with
      consumed := tset 0 b (BitVec.ofNat 16 (n + 1)) k.alm.consumed } }))
    launches s c .variant e → onTime s c e → (fld ring 16 16 + 2 ^ 17 - n - 1) % 2 ^ 16 = 0 →
    cellarBusy s (c.val / 128) = false →
    tablePlace s2 (resident s) (c.val / 128) ((core s c).heldVtab + 128 * entArg e 4 16 + 8 * fld ring 0 4) 8 = some t0 →
    addrReset s t0.addr = false → readMem s2 t0.key t0.addr 8 = (s3, w, true) → w.testBit 63 = true →
    Answers (.variant c) s (fun t => (tget 0 b (core t c).alm.consumed).toNat = (n + 1) % 2 ^ 16
      ∧ (core t c).alm.choice = some (fld w 0 48)
      ∧ (core t c).alm.refill = some ⟨!((core s c).alm.active == some true), fld w 0 48⟩
      ∧ ((core t c).alm.bank (!((core s c).alm.active == some true))).status = .loading ∧ movedOn c s t))
  ∧ (∀ (c : Fin 512) (s : State) (e : QWord),
    let b := entArg e 0 4
    let n := (tget 0 b (core s c).alm.consumed).toNat
    let ahead := (fld (ringWord s (resident s) b n).toNat 16 16 + 2 ^ 17 - n - 1) % 2 ^ 16
    launches s c .variant e → 1 ≤ ahead → ahead ≤ 0x7FFF →
    Answers (.variant c) s (fun t => (core t c).alm.state = .fault ∧ (core t c).alm.faultReason = 0x08))

/-- HALT, LOOP and SWITCH that are on time: HALT stops further launches; LOOP opens a level over the BODY entries that follow
it; SWITCH with no switch pending moves on. Each counts one launch, and no other core changes. HALTED once nothing of the core is in
flight: STATE reads HALTED; SLIP_RANGE with a slip of 2³¹ ticks or more faults with reason 0x0A; and a launch with slip above SLACK
counts LATE, shown of LOOP after the activation's first (R49 to R53, R60, R61). -/
def Obligations.HaltLoopSwitchLaunch : Prop :=
  (∀ (c : Fin 512) (s : State) (e : QWord), launches s c .halt e → onTime s c e → boundaryHeld s = false →
    Answers (.halt c) s (fun t => (core t c).alm.halting = true ∧ (core t c).alm.head = (core s c).alm.head
      ∧ reg64 t .core c Off.coreAlmLaunchLo = reg64 s .core c Off.coreAlmLaunchLo + 1
      ∧ otherCores c s t ∧ sameMemory s t))
  ∧ (∀ (c : Fin 512) (s : State) (e : QWord), launches s c .loop e → onTime s c e →
    Answers (.loop c) s (fun t =>
      (core t c).alm.frames = ⟨(core s c).alm.head + 1, entArg e 16 9, entArg e 0 16, 0, entArg e 25 23, entValue e,
        entId e % 2 == 1⟩ :: (core s c).alm.frames
      ∧ (core t c).alm.head = (core s c).alm.head + 1
      ∧ reg64 t .core c Off.coreAlmLaunchLo = reg64 s .core c Off.coreAlmLaunchLo + 1
      ∧ otherCores c s t ∧ sameMemory s t))
  ∧ (∀ (c : Fin 512) (s : State) (e : QWord), launches s c .switch e → onTime s c e → s.switch.phase = .idle →
    dirtyGates (core s c) (resident s) = [] →
    Answers (.switch c) s (fun t => movedOn c s t
      ∧ reg64 t .core c Off.coreAlmLaunchLo = reg64 s .core c Off.coreAlmLaunchLo + 1
      ∧ otherCores c s t ∧ sameMemory s t))
  ∧ (∀ (c : Fin 512) (s : State), (core s c).alm.halting = true →
    (core s c).alm.state = .running ∨ (core s c).alm.state = .starved →
    (core s c).ops = [] → (core s c).mxRuns = [] → (core s c).mxPend = none → (core s c).vxRuns = [] →
    (core s c).vxPend = none →
    Answers (.halted c) s (fun t => (core t c).alm.state = .halted ∧ otherCores c s t))
  ∧ (∀ (c : Fin 512) (s : State) (e : QWord), (core s c).alm.headEntry = some e → (core s c).alm.halting = false →
    (core s c).alm.state = .running ∨ (core s c).alm.state = .starved →
    2 ^ 31 ≤ (slipNow s (core s c).alm e).toNat → (slipNow s (core s c).alm e).toNat < 2 ^ 63 →
    Answers (.slipRange c) s (fun t => (core t c).alm.state = .fault ∧ (core t c).alm.faultReason = 0x0A
      ∧ otherCores c s t))
  ∧ (∀ (c : Fin 512) (s : State) (e : QWord), launches s c .loop e → ¬ onTime s c e → (core s c).alm.lateWritten = true →
      Answers (.loop c) s (fun t =>
        reg t .core c Off.coreAlmLateCount = satInc (reg s .core c Off.coreAlmLateCount)
        ∧ reg64 t .core c Off.coreAlmLaunchLo = reg64 s .core c Off.coreAlmLaunchLo + 1
        ∧ (core t c).alm.head = (core s c).alm.head + 1
        ∧ onlyRegs { s with cores := t.cores, activity := t.activity } t))

/-! ## Operations that a core launches (R41, R49, R87, R127) -/

/-- The state in which a launched entry's descriptor has been read as `d`. -/
def readsDesc (c : Fin 512) (s s1 : State) (e : QWord) (d : BitVec 512) : Prop :=
  cellarBusy s (c.val / 128) = false ∧ readDesc (noteLaunch s c e) c (entArg e 0 16) = (s1, some d, false)

/-- An operation of a kind has taken the next in-flight place of core `c` with the entry's DESC and FLAG, and the head has
moved on. -/
def opTaken (c : Fin 512) (kind : OpKind) (e : QWord) (d : BitVec 512) (s t : State) : Prop :=
  (∃ o, (core t c).ops = (core s c).ops ++ [o] ∧ o.id = (core s c).nextOp ∧ o.kind = kind ∧ o.desc = entArg e 0 16
    ∧ o.flag = entArg e 16 8 ∧ o.image = d ∧ o.poisoned = false) ∧ movedOn c s t

/-- MOVE, FETCH, PUT and ATOMIC that are on time, whose descriptor passes its checks and whose rows translate, take an
in-flight place and the head moves on (R193 to R197, R277 to R281). -/
def Obligations.TransferEntriesLaunch : Prop :=
  (∀ (c : Fin 512) (s s1 : State) (e : QWord) (d : BitVec 512), launches s c .move e → onTime s c e →
    hasRoom (core s c) = true → readsDesc c s s1 e d → mvCheck d = 0 →
    firstFault ((mvOperands d).map (fun o => operandRows s1 c o (Mv.rows d))).flatten = none →
    rowsReset s1 ((mvOperands d).map (fun o => operandRows s1 c o (Mv.rows d))).flatten = false →
    Answers (.move c) s (opTaken c .move e d s))
  ∧ (∀ (c : Fin 512) (s s1 : State) (e : QWord) (d : BitVec 512), launches s c .fetch e → onTime s c e →
    hasRoom (core s c) = true → readsDesc c s s1 e d → xfCheck true d = 0 →
    firstFault ((List.range (Mv.rows d)).map (farRow s1 c (xfOperands true d).1)
      ++ operandRows s1 c (xfOperands true d).2 (Mv.rows d)) = none →
    rowsReset s1 (operandRows s1 c (xfOperands true d).2 (Mv.rows d)) = false →
    Answers (.fetch c) s (opTaken c .fetch e d s))
  ∧ (∀ (c : Fin 512) (s s1 : State) (e : QWord) (d : BitVec 512), launches s c .put e → onTime s c e →
    hasRoom (core s c) = true → readsDesc c s s1 e d → xfCheck false d = 0 →
    firstFault (operandRows s1 c (xfOperands false d).1 (Mv.rows d)
      ++ (List.range (Mv.rows d)).map (farRow s1 c (xfOperands false d).2)) = none →
    rowsReset s1 (operandRows s1 c (xfOperands false d).1 (Mv.rows d)) = false →
    Answers (.put c) s (opTaken c .put e d s))
  ∧ (∀ (c : Fin 512) (s s1 : State) (e : QWord) (d : BitVec 512) (p : RowPlace), launches s c .atomic e → onTime s c e →
    hasRoom (core s c) = true → readsDesc c s s1 e d → atCheck d = 0 →
    (At.ret d = true → (cellarRange s1 c (At.result d) (At.bytes d)).isSome = true) →
    rowPlace s1 c (At.target d) 0 0 (At.bytes d) (some .a) = .ok p → addrReset s1 p.addr = false →
    Answers (.atomic c) s (opTaken c .atomic e d s))

/-- A MOVE descriptor that a check refuses completes at once: its flag counts one more and is poisoned, no place is taken, and
the head moves on. REDUCE that is on time, whose descriptor and group pass their checks and whose rows translate, takes an in-flight
place; a SUM enters the drop list, a DIGEST does not (R127, R197, R306 to R308, R315). -/
def Obligations.DescriptorsLaunch : Prop :=
  (∀ (c : Fin 512) (s s1 : State) (e : QWord) (d : BitVec 512), launches s c .move e → onTime s c e →
      hasRoom (core s c) = true → readsDesc c s s1 e d → mvCheck d ≠ 0 →
      Answers (.move c) s (fun t => tget 0 (entArg e 16 8) (core t c).flags = tget 0 (entArg e 16 8) (core s c).flags + 1
        ∧ (core t c).flagPoison.getLsbD (entArg e 16 8) = true ∧ (core t c).ops = (core s c).ops ∧ movedOn c s t))
  ∧ (∀ (c : Fin 512) (s s1 : State) (e : QWord) (d : BitVec 512), launches s c .reduce e → onTime s c e →
      hasRoom (core s c) = true → readsDesc c s s1 e d → rdCheck d (groupEntry s1 (Rd.group d)) = 0 →
      firstFault ((List.range (Rd.chunks d)).map (fun i => chunkRows s1 c d (groupEntry s1 (Rd.group d)) i)).flatten = none →
      rdGroupCheck (core s1 c) d (groupEntry s1 (Rd.group d)) = 0 →
      rowsReset s1 ((List.range (Rd.chunks d)).map (fun i => chunkRows s1 c d (groupEntry s1 (Rd.group d)) i)).flatten = false →
      Answers (.reduce c) s (fun t => (∃ o, o ∈ (core t c).ops ∧ o.id = (core s c).nextOp ∧ o.kind = .reduce
          ∧ o.desc = entArg e 0 16 ∧ o.flag = entArg e 16 8 ∧ o.image = d)
        ∧ (core t c).drops = (core s c).drops ++ (if Rd.digest d then [] else [⟨entArg e 0 16, d, Rd.group d⟩])
        ∧ movedOn c s t))

/-! ## Gates, arrivals, flags (R65 to R86) -/

/-- ARRIVE_RECEIVED accepted: the arrival enters its core's queue and leaves those under way; ARRIVAL_APPLY takes the oldest and
its gate counts it, starting the next phase at COUNT. SIGNAL_RECEIVED for a resident, running context increments the flag; for any
other context the flag stays. GATE_TIMEOUT of a GATE wait unmet for TICKS ticks fires once and is counted, and the core keeps waiting
(R68, R69, R71, R74, R75, R84). -/
def Obligations.CountersAdvance : Prop :=
  (∀ (index : Nat) (s : State) (x : Transit), linkOff s = false → s.transit[index]? = some x → x.signal = false →
    arriveStatus s x.core x.index x.ctx = 0 → (core s x.core).arrivals.length < 64 →
    Answers (.arriveReceived index) s (fun t => (core t x.core).arrivals = (core s x.core).arrivals ++ [x.index]
      ∧ t.transit = s.transit.take index ++ s.transit.drop (index + 1)))
  ∧ (∀ (c : Fin 512) (s : State) (g : Nat) (rest : List Nat), (core s c).arrivals = g :: rest →
    Answers (.arrivalApply c) s (fun t => (core t c).arrivals = rest
      ∧ gateOf (core t c) g = (if (gateOf (core s c) g).arrived.toNat + 1 = (gateOf (core s c) g).count.toNat
          then { gateOf (core s c) g with arrived := 0, phase := !(gateOf (core s c) g).phase }
          else { gateOf (core s c) g with arrived := (gateOf (core s c) g).arrived + 1 })
      ∧ (∀ h, h ≠ g → gateOf (core t c) h = gateOf (core s c) h)
      ∧ (core t c).flags = (core s c).flags ∧ otherCores c s t ∧ ∃ k, t = { s with cores := k }))
  ∧ (∀ (index : Nat) (s : State) (x : Transit), linkOff s = false → s.transit[index]? = some x → x.signal = true →
    contextRuns s x.ctx = true → residentStaying s x.ctx = true →
    Answers (.signalReceived index) s (fun t => tget 0 x.index (core t x.core).flags = tget 0 x.index (core s x.core).flags + 1
      ∧ (∀ f, f ≠ x.index → tget 0 f (core t x.core).flags = tget 0 f (core s x.core).flags)
      ∧ t.transit = s.transit.take index ++ s.transit.drop (index + 1)))
  ∧ (∀ (index : Nat) (s : State) (x : Transit), linkOff s = false → s.transit[index]? = some x → x.signal = true →
    contextRuns s x.ctx = false →
    Answers (.signalReceived index) s (fun t => (∀ c, (core t c).flags = (core s c).flags)
      ∧ t.transit = s.transit.take index ++ s.transit.drop (index + 1)))
  ∧ (∀ (c : Fin 512) (s : State) (e : QWord), (core s c).alm.headEntry = some e →
      (core s c).alm.state = .running ∨ (core s c).alm.state = .starved → (core s c).alm.halting = false →
      (core s c).alm.timeoutFired = false → coreClocked s c = true → contextStays s = true →
      entRemoteSignal e = false → entOp e ≠ 0x11 → entKind e = 1 → waitForeign (core s c) (resident s) e = false →
      waitHolds (core s c) e = false → (gateOf (core s c) (entId e)).ticks ≠ 0 →
      timeoutStart (core s c).alm e + (gateOf (core s c) (entId e)).ticks.toNat ≤ s.time.toNat →
      Answers (.gateTimeout c) s (fun t => (core t c).alm.timeoutFired = true
        ∧ reg t .core c Off.coreGateTimeoutCount = satInc (reg s .core c Off.coreGateTimeoutCount)
        ∧ (core t c).alm.state = (core s c).alm.state ∧ (core t c).alm.head = (core s c).alm.head
        ∧ (core t c).gates = (core s c).gates ∧ otherCores c s t ∧ sameMemory s t))

/-! ## Completions (R82, R83, R87) -/

/-- What a core's flag shows when an operation of it completes: its place is free, its flag has counted one more. -/
def opEnded (c : Fin 512) (id : Nat) (o : Op) (s t : State) : Prop :=
  (core t c).op id = none ∧ tget 0 o.flag (core t c).flags = tget 0 o.flag (core s c).flags + 1
    ∧ (∀ f, f ≠ o.flag → tget 0 f (core t c).flags = tget 0 f (core s c).flags)

/-- ARRIVE and SIGNAL that are on time take an in-flight place; one for this device is under way to its core at once, with its
gate or flag and the resident context. MOVE_COMPLETE, ATOMIC_COMPLETE and REDUCE_COMPLETE of an operation that may end: its place
frees and its flag is incremented; a MOVE has written its rows (R69, R82, R84, R87, R194, R281, R311). -/
def Obligations.ArrivalsLaunchAndOperationsComplete : Prop :=
  (∀ (c : Fin 512) (s : State) (e : QWord), launches s c .arrive e → onTime s c e → hasRoom (core s c) = true →
    Answers (.arrive c) s (fun t => (∃ o, (core t c).ops = (core s c).ops ++ [o] ∧ o.kind = .arrive
        ∧ o.id = (core s c).nextOp ∧ (entArg e 18 1 = 0 → o.todo.length = 1))
      ∧ t.transit = s.transit ++ (if entArg e 18 1 = 1 then
          [⟨false, entArg e 25 9, entArg e 19 6, resident s, none, none, c, (core s c).nextOp⟩] else [])
      ∧ movedOn c s t ∧ otherCores c s t))
  ∧ (∀ (c : Fin 512) (s : State) (e : QWord), launches s c .signal e → onTime s c e → hasRoom (core s c) = true →
    Answers (.signal c) s (fun t => (∃ o, (core t c).ops = (core s c).ops ++ [o] ∧ o.kind = .signal
        ∧ o.id = (core s c).nextOp ∧ (entArg e 17 1 = 0 → o.todo.length = 1))
      ∧ t.transit = s.transit ++ (if entArg e 17 1 = 1 then
          [⟨true, entArg e 26 9, entArg e 18 8, resident s, none, none, c, (core s c).nextOp⟩] else [])
      ∧ movedOn c s t ∧ otherCores c s t))
  ∧ (∀ (c : Fin 512) (s : State) (id : Nat) (o : Op), (core s c).op id = some o → o.kind = .move → coreClocked s c = true →
    moveServed (core s c) o = true → opTesting s o = false → heldPages s (opPages o) = [] →
    Answers (.moveComplete c id) s (fun t => opEnded c id o s t
      ∧ t.mem = (moveRows (throttleAll s (opRanges o)) c o (Mv.rows o.image)).1.mem
      ∧ t.chk = (moveRows (throttleAll s (opRanges o)) c o (Mv.rows o.image)).1.chk))
  ∧ (∀ (c : Fin 512) (s : State) (id : Nat) (o : Op) (x : Txn) (rest : List Txn), (core s c).op id = some o →
    o.kind = .atomic → o.started = true → o.todo = x :: rest → addrWaits s x.addr = false →
    (At.ret o.image = true → addrWaits s x.place = false) →
    heldPages s (pagesOf x.addr x.len ++ (if At.ret o.image then pagesOf x.place x.len else [])) = [] →
    Answers (.atomicComplete c id) s (opEnded c id o s))
  ∧ (∀ (c : Fin 512) (s : State) (id : Nat) (o : Op), (core s c).op id = some o → o.kind = .reduce →
    Rd.chunks o.image ≤ o.red.turn → o.red.left = 0 → opTesting s o = false →
    heldPages s (flaggedPages o (flaggedChunks s o)) = [] →
    Answers (.reduceComplete c id) s (opEnded c id o s))

/-! ## The matrix array (R120 to R139) -/

/-- MATRIX_START with the array idle and the slot not EMITTED: the descriptor feeds and nothing of it is drained; its pending
place is free. PROMOTION_DRAIN: the interval's k-blocks are done, at most P of them and never past KB, and a CLEAR slot becomes HELD.
TILE_QUEUE_PUSH of a drained ACCUMULATE_AND_EMIT with room in the queue: the entry is last in the queue and its slot EMITTED;
MATRIX_COMPLETE then increments the flag; MATRIX_REFUSED_COMPLETE increments and poisons that of a refused one (R127, R132 to R134,
R136). -/
def Obligations.MatrixRuns : Prop :=
  (∀ (c : Fin 512) (s : State) (p : MatrixPend), (core s c).mxPend = some p → p.refused = 0 → (core s c).mxRuns = [] →
      coreIssues s c = true → slotState (core s c) (Mx.slot p.image) ≠ .emitted →
      Answers (.matrixStart c) s (fun t => (core t c).mxPend = none
        ∧ (∃ r, (core t c).mxRuns = [r] ∧ r.desc = p.desc ∧ r.image = p.image ∧ r.flag = p.flag ∧ r.ctx = p.ctx
          ∧ r.promote = 2 ^ (core s c).heldPromote ∧ r.kdone = 0 ∧ r.cycles = 0 ∧ r.pushed = false)
        ∧ otherCores c s t ∧ ∃ k, t = { s with cores := k }))
  ∧ (∀ (c : Fin 512) (s : State) (r : MatrixRun), (core s c).mxRuns = [r] → r.kdone < Mx.kb r.image → coreClocked s c = true →
      Answers (.promotionDrain c) s (fun t => (∃ r', (core t c).mxRuns = [r']
          ∧ r'.kdone = r.kdone + min r.promote (Mx.kb r.image - r.kdone) ∧ r'.kdone ≤ Mx.kb r.image
          ∧ r'.desc = r.desc ∧ r'.image = r.image ∧ r'.flag = r.flag)
        ∧ slotState (core t c) (Mx.slot r.image) = (if slotState (core s c) (Mx.slot r.image) = .clear then .held
            else slotState (core s c) (Mx.slot r.image))
        ∧ (core t c).flags = (core s c).flags ∧ otherCores c s t))
  ∧ (∀ (c : Fin 512) (s : State) (r : MatrixRun) (rest : List MatrixRun), (core s c).mxRuns = r :: rest →
    Mx.mode r.image = 2 → Mx.kb r.image ≤ r.kdone → r.pushed = false → coreClocked s c = true →
    (core s c).tiles.length < 8 →
    Answers (.tileQueuePush c) s (fun t => (core t c).tiles = (core s c).tiles ++ [⟨Mx.slot r.image, r.desc⟩]
      ∧ slotState (core t c) (Mx.slot r.image) = .emitted ∧ (core t c).mxRuns = { r with pushed := true } :: rest
      ∧ otherCores c s t ∧ ∃ k, t = { s with cores := k }))
  ∧ (∀ (c : Fin 512) (s : State) (r : MatrixRun) (rest : List MatrixRun), (core s c).mxRuns = r :: rest →
    Mx.kb r.image ≤ r.kdone → (Mx.mode r.image = 2 → r.pushed = true) → coreClocked s c = true →
    Answers (.matrixComplete c) s (fun t => (core t c).mxRuns = rest
      ∧ tget 0 r.flag (core t c).flags = tget 0 r.flag (core s c).flags + 1
      ∧ (∀ f, f ≠ r.flag → tget 0 f (core t c).flags = tget 0 f (core s c).flags)
      ∧ (r.poisoned = false → (core t c).flagPoison = (core s c).flagPoison)
      ∧ otherCores c s t ∧ ∃ k, t = { s with cores := k }))
  ∧ (∀ (c : Fin 512) (s : State) (p : MatrixPend), (core s c).mxPend = some p → p.refused ≠ 0 → (core s c).mxRuns = [] →
    coreClocked s c = true ∨ coreOffline s c = true →
    Answers (.matrixRefusedComplete c) s (fun t => (core t c).mxPend = none
      ∧ tget 0 p.flag (core t c).flags = tget 0 p.flag (core s c).flags + 1
      ∧ (p.flag < 256 → (core t c).flagPoison.getLsbD p.flag = true)
      ∧ otherCores c s t ∧ ∃ k, t = { s with cores := k }))

/-! ## The vector engine (R140 to R163) -/

/-- VECTOR_START of a pending descriptor behind an ended run: it is the last run, at START, with A0 to A7 loaded for a RUN;
LOAD_COMPLETE of a LOAD counts its flag; VECTOR_REFUSED_COMPLETE counts and poisons that of a refused one (R127, R142, R143). -/
def Obligations.VectorStartsAndLoads : Prop :=
  (∀ (c : Fin 512) (s : State) (p : VecPend), (core s c).vxPend = some p → p.refused = 0 →
    ((core s c).vxRuns = [] ∨ ∃ r, (core s c).vxRuns = [r] ∧ r.ended = true) → coreIssues s c = true →
    Answers (.vectorStart c) s (fun t => (core t c).vxPend = none
      ∧ (∃ r, (core t c).vxRuns = (core s c).vxRuns ++ [r] ∧ r.desc = p.desc ∧ r.flag = p.flag ∧ r.pc = Vx.start p.image
        ∧ r.loops = (core s c).vec.loops ∧ r.load = (Vx.kind p.image == 1) ∧ r.needTile = Vx.tile p.image ∧ r.ended = false)
      ∧ (Vx.kind p.image ≠ 1 → ∀ n, n < 8 → (core t c).vec.addr n = df p.image (64 + 32 * n) 32)
      ∧ (core t c).vec.v = (core s c).vec.v ∧ otherCores c s t ∧ ∃ k, t = { s with cores := k }))
  ∧ (∀ (c : Fin 512) (s s1 : State) (r : VecRun) (rest : List VecRun) (v : Nat), (core s c).vxRuns = r :: rest →
    r.load = true → coreClocked s c = true → (core s c).seedBefore = none →
    readMem s 0 (larderAddr c + Vx.src r.image) (8 * Vx.count r.image) = (s1, v, true) →
    Answers (.loadComplete c) s (fun t => (core t c).vxRuns = rest
      ∧ (∀ i, i < Vx.count r.image → (core t c).vec.inst (Vx.start r.image + i) = fld v (64 * i) 64)
      ∧ tget 0 r.flag (core t c).flags = tget 0 r.flag (core s c).flags + 1))
  ∧ (∀ (c : Fin 512) (s : State) (p : VecPend), (core s c).vxPend = some p → p.refused ≠ 0 → (core s c).vxRuns = [] →
    (core s c).seedAfter = none → coreClocked s c = true →
    Answers (.vectorRefusedComplete c) s (fun t => (core t c).vxPend = none
      ∧ tget 0 p.flag (core t c).flags = tget 0 p.flag (core s c).flags + 1
      ∧ (p.flag < 256 → (core t c).flagPoison.getLsbD p.flag = true) ∧ otherCores c s t))

/-- TILE_TAKE: a run that waits takes the head of the tile queue, and A15 shows its slot; TILE_RELEASE after TREL clears the slot
and frees the queue's place; VECTOR_COMPLETE of an ended run increments its flag (R134, R142, R144, R145, R159). -/
def Obligations.TilesAndVectorEnd : Prop :=
  (∀ (c : Fin 512) (s : State) (r : VecRun) (x : TileEntry) (rest : List TileEntry),
    (core s c).vxRuns.getLast? = some r → r.needTile = true → holder (core s c) = none → (core s c).tiles = x :: rest →
    coreIssues s c = true →
    Answers (.tileTake c) s (fun t => (core t c).vxRuns = (core s c).vxRuns.dropLast ++ [{ r with needTile := false, held := true }]
      ∧ (core t c).vec.addr 15 = (0x40000000 + 256 * x.slot) % 2 ^ 32 ∧ (core t c).tiles = (core s c).tiles
      ∧ otherCores c s t ∧ ∃ k, t = { s with cores := k }))
  ∧ (∀ (c : Fin 512) (s : State) (r : VecRun) (x : TileEntry) (rest : List TileEntry), holder (core s c) = some r →
    r.trel = true → (core s c).tiles = x :: rest → coreClocked s c = true →
    Answers (.tileRelease c) s (fun t => (core t c).tiles = rest ∧ slotState (core t c) x.slot = .clear
      ∧ holder (core t c) = none ∧ (core t c).flags = (core s c).flags
      ∧ otherCores c s t ∧ ∃ k, t = { s with cores := k }))
  ∧ (∀ (c : Fin 512) (s : State) (r : VecRun) (rest : List VecRun), (core s c).vxRuns = r :: rest → r.load = false →
    r.ended = true → r.held = false → coreClocked s c = true →
    Answers (.vectorComplete c) s (fun t => (core t c).vxRuns = rest
      ∧ tget 0 r.flag (core t c).flags = tget 0 r.flag (core s c).flags + 1
      ∧ (∀ f, f ≠ r.flag → tget 0 f (core t c).flags = tget 0 f (core s c).flags)
      ∧ otherCores c s t ∧ ∃ k, t = { s with cores := k }))

/-- An ALU command with result lanes: whenever the engine issues a word with its opcode whose fields are in order, the enabled
lanes of VD hold the result that `f` gives from the engine's registers before, and the run moves on. -/
def lanesResult (i : Fin 512 → Instr) (opc : Nat) (ok : Nat → Bool) (f : VecState → Nat → Nat → Word) : Prop :=
  ∀ (c : Fin 512) (s : State) (r : VecRun) (w : Nat), issues s c r w → Vi.opc w = opc → ok w = true →
    Answers (i c) s (fun t => lanesHold c (Vi.vd w) ((core s c).vec.mask (Vi.mk w)) (f (core s c).vec w) s t
      ∧ issuedOne c r s t)

/-- The fields of an instruction with two source registers, with three, and with one and `n` immediate bits. -/
def twoSources (w : Nat) : Bool := Vi.vc w == 0 && Vi.imm w == 0
/-- See `twoSources`. -/
def threeSources (w : Nat) : Bool := Vi.imm w == 0
/-- See `twoSources`. -/
def oneSource (n : Nat) (w : Nat) : Bool := Vi.vb w == 0 && Vi.vc w == 0 && decide (Vi.imm w < 2 ^ n)

/-- The floating-point lane instructions: ADD, SUB, MUL, FMA and FMS round the exact result of their FP32 operands once, MIN and
MAX choose, EXP2, LOG2, RCP and RSQ round the exact function's value as R150 says, CVT with RND 0 narrows to nearest even and CVTF
widens (R147 to R152). -/
def Obligations.VectorFloatLanes : Prop :=
  lanesResult .add 0x01 twoSources (fun v w i => toF32 ((f32 (v.lane (Vi.va w) i)).add (f32 (v.lane (Vi.vb w) i))))
  ∧ lanesResult .sub 0x02 twoSources (fun v w i => toF32 ((f32 (v.lane (Vi.va w) i)).add (f32 (v.lane (Vi.vb w) i)).neg))
  ∧ lanesResult .mul 0x03 twoSources (fun v w i => toF32 ((f32 (v.lane (Vi.va w) i)).mul (f32 (v.lane (Vi.vb w) i))))
  ∧ lanesResult .fma 0x04 threeSources (fun v w i =>
      toF32 (((f32 (v.lane (Vi.va w) i)).mul (f32 (v.lane (Vi.vb w) i))).add (f32 (v.lane (Vi.vc w) i))))
  ∧ lanesResult .fms 0x05 threeSources (fun v w i =>
      toF32 (((f32 (v.lane (Vi.va w) i)).mul (f32 (v.lane (Vi.vb w) i))).add (f32 (v.lane (Vi.vc w) i)).neg))
  ∧ lanesResult .min 0x06 twoSources (fun v w i => fmin (v.lane (Vi.va w) i) (v.lane (Vi.vb w) i))
  ∧ lanesResult .max 0x07 twoSources (fun v w i => fmax (v.lane (Vi.va w) i) (v.lane (Vi.vb w) i))
  ∧ lanesResult .exp2 0x0A (oneSource 0) (fun v w i => toF32 (exp2Num (f32 (v.lane (Vi.va w) i))))
  ∧ lanesResult .log2 0x0B (oneSource 0) (fun v w i => toF32 (log2Num (f32 (v.lane (Vi.va w) i))))
  ∧ lanesResult .rcp 0x0C (oneSource 0) (fun v w i => toF32 (rcpNum (f32 (v.lane (Vi.va w) i))))
  ∧ lanesResult .rsq 0x0D (oneSource 0) (fun v w i => toF32 (rsqNum (f32 (v.lane (Vi.va w) i))))
  ∧ lanesResult .cvt 0x0E (fun w => oneSource 4 w && (cvtElem (Vi.imm w)).isSome) (fun v w i =>
      BitVec.ofNat 32 (narrow ((cvtElem (Vi.imm w)).getD .bf16) none (f32 (v.lane (Vi.va w) i))))
  ∧ lanesResult .cvtf 0x0F (fun w => oneSource 4 w && ((cvtElem (Vi.imm w)).isSome || Vi.imm w == 0xE)) (fun v w i =>
      ((vfmtOf (Vi.imm w)).getD .e8m0).widen (v.lane (Vi.va w) i).toNat)

/-- The integer lane instructions, and SEL, BFLY, ROT and RED (R147, R151). -/
def Obligations.VectorIntegerLanes : Prop :=
  lanesResult .iadd 0x18 twoSources (fun v w i => v.lane (Vi.va w) i + v.lane (Vi.vb w) i)
  ∧ lanesResult .and 0x19 twoSources (fun v w i => v.lane (Vi.va w) i &&& v.lane (Vi.vb w) i)
  ∧ lanesResult .or 0x1A twoSources (fun v w i => v.lane (Vi.va w) i ||| v.lane (Vi.vb w) i)
  ∧ lanesResult .xor 0x1B twoSources (fun v w i => v.lane (Vi.va w) i ^^^ v.lane (Vi.vb w) i)
  ∧ lanesResult .shl 0x1C (oneSource 5) (fun v w i => v.lane (Vi.va w) i <<< Vi.imm w)
  ∧ lanesResult .shr 0x1D (oneSource 5) (fun v w i => v.lane (Vi.va w) i >>> Vi.imm w)
  ∧ lanesResult .sra 0x1E (oneSource 5) (fun v w i => (v.lane (Vi.va w) i).sshiftRight (Vi.imm w))
  ∧ lanesResult .imin 0x1F twoSources (fun v w i =>
      if (v.lane (Vi.va w) i).toInt ≤ (v.lane (Vi.vb w) i).toInt then v.lane (Vi.va w) i else v.lane (Vi.vb w) i)
  ∧ lanesResult .imax 0x20 twoSources (fun v w i =>
      if (v.lane (Vi.vb w) i).toInt ≤ (v.lane (Vi.va w) i).toInt then v.lane (Vi.va w) i else v.lane (Vi.vb w) i)
  ∧ lanesResult .iota 0x22 (fun w => Vi.va w == 0 && oneSource 31 w) (fun _ w i => BitVec.ofNat 32 (i + Vi.imm w))
  ∧ lanesResult .sel 0x09 (fun w => Vi.vc w == 0 && decide (Vi.imm w < 8)) (fun v w i =>
      if (v.mask (Vi.imm w)).testBit i then v.lane (Vi.va w) i else v.lane (Vi.vb w) i)
  ∧ lanesResult .bfly 0x11 (oneSource 6) (fun v w i => v.lane (Vi.va w) (i ^^^ Vi.imm w))
  ∧ lanesResult .rot 0x12 (oneSource 6) (fun v w i => v.lane (Vi.va w) ((i + Vi.imm w) % 64))
  ∧ lanesResult .red 0x17 (fun w => oneSource 2 w && Vi.imm w != 3) (fun v w _ =>
      redTree (redOp (Vi.imm w)).1 ((List.range 64).map (fun i =>
        if (v.mask (Vi.mk w)).testBit i then v.lane (Vi.va w) i else (redOp (Vi.imm w)).2)))

/-- R153, the lane moves: PERM takes lane VB[i][5:0] of VC or VA as bit 6 of VB[i] says; ILV and DLV interleave and part halves; PACK
packs the low bits of every lane of VA into one stream, and UNPACK reads such a stream. -/
def Obligations.LaneMoves : Prop :=
  lanesResult .perm 0x10 threeSources (fun v w i =>
      v.lane (if (v.lane (Vi.vb w) i).toNat.testBit 6 then Vi.vc w else Vi.va w) ((v.lane (Vi.vb w) i).toNat % 64))
  ∧ lanesResult .ilv 0x13 (fun w => Vi.vc w == 0 && decide (Vi.imm w < 2)) (fun v w i =>
      v.lane (if i % 2 = 0 then Vi.va w else Vi.vb w) (i / 2 + 32 * Vi.imm w))
  ∧ lanesResult .dlv 0x14 (fun w => Vi.vc w == 0 && decide (Vi.imm w < 2)) (fun v w i =>
      if i < 32 then v.lane (Vi.va w) (2 * i + Vi.imm w) else v.lane (Vi.vb w) (2 * (i - 32) + Vi.imm w))
  ∧ lanesResult .pack 0x15 (fun w => oneSource 5 w && packWidth (Vi.imm w)) (fun v w i =>
      BitVec.ofNat 32 (fld (packCodes (Vi.imm w) ((List.range 64).map (fun j => (v.lane (Vi.va w) j).toNat))) (32 * i) 32))
  ∧ lanesResult .unpack 0x16 (fun w => oneSource 5 w && packWidth (Vi.imm w)) (fun v w i =>
      BitVec.ofNat 32 (fld (packCodes 32 ((List.range 64).map (fun j => (v.lane (Vi.va w) j).toNat)))
        (Vi.imm w * i) (Vi.imm w)))

/-- A command with a mask result, as `lanesResult` says of lanes; VD names one of M1 to M7. -/
def maskResult (i : Fin 512 → Instr) (opc : Nat) (ok : Nat → Bool) (f : VecState → Nat → Nat → Bool) : Prop :=
  ∀ (c : Fin 512) (s : State) (r : VecRun) (w : Nat), issues s c r w → Vi.opc w = opc → ok w = true →
    1 ≤ Vi.vd w → Vi.vd w ≤ 7 →
    Answers (i c) s (fun t => maskHolds c (Vi.vd w) ((core s c).vec.mask (Vi.mk w)) (f (core s c).vec w) s t
      ∧ issuedOne c r s t)

/-- The instructions that set a mask: CMP and ICMP compare, MAND, MOR, MXOR and MNOT combine masks (R147, R149). -/
def Obligations.VectorMasks : Prop :=
  maskResult .cmp 0x08 (fun w => Vi.vc w == 0 && decide (Vi.imm w ≤ 5)) (fun v w i =>
      fcond (Vi.imm w) (v.lane (Vi.va w) i) (v.lane (Vi.vb w) i))
  ∧ maskResult .icmp 0x21 (fun w => Vi.vc w == 0 && decide (Vi.imm w ≤ 5)) (fun v w i =>
      icond (Vi.imm w) (v.lane (Vi.va w) i) (v.lane (Vi.vb w) i))
  ∧ maskResult .mand 0x23 (fun w => twoSources w && decide (Vi.va w < 8) && decide (Vi.vb w < 8)) (fun v w i =>
      (v.mask (Vi.va w)).testBit i && (v.mask (Vi.vb w)).testBit i)
  ∧ maskResult .mor 0x24 (fun w => twoSources w && decide (Vi.va w < 8) && decide (Vi.vb w < 8)) (fun v w i =>
      (v.mask (Vi.va w)).testBit i || (v.mask (Vi.vb w)).testBit i)
  ∧ maskResult .mxor 0x25 (fun w => twoSources w && decide (Vi.va w < 8) && decide (Vi.vb w < 8)) (fun v w i =>
      (v.mask (Vi.va w)).testBit i ^^ (v.mask (Vi.vb w)).testBit i)
  ∧ maskResult .mnot 0x26 (fun w => twoSources w && decide (Vi.va w < 8) && Vi.vb w == 0) (fun v w i =>
      !(v.mask (Vi.va w)).testBit i)

/-- The instructions that steer the program: NOP moves on; AADD adds a signed immediate to bits [24:0] of an address register and
keeps bits [31:25]; TREL asks for the release of a held tile and issue waits for it; LOOP opens a level; END ends the run, and the
levels it leaves open stay with the engine. And an ADD whose fields break the
layout faults with BAD_INST: VX_FAULT shows 0x20 and the instruction's index, the run ends poisoned, and no lane changes (R140, R145 to
R147, R157, R159, R160). -/
def Obligations.VectorControl : Prop :=
  (∀ (c : Fin 512) (s : State) (r : VecRun), issues s c r 0 →
    Answers (.nop c) s (fun t => (core t c).vec = (core s c).vec ∧ issuedOne c r s t))
  ∧ (∀ (c : Fin 512) (s : State) (r : VecRun) (w : Nat), issues s c r w → Vi.opc w = 0x33 → Vi.mk w = 0 → Vi.vd w < 16 →
    Vi.va w = 0 → Vi.vb w = 0 → Vi.vc w = 0 → Vi.imm w < 2 ^ 24 →
    Answers (.aadd c) s (fun t => (core t c).vec.addr (Vi.vd w) / 2 ^ 25 = (core s c).vec.addr (Vi.vd w) / 2 ^ 25
      ∧ (((core t c).vec.addr (Vi.vd w) % 2 ^ 25 : Nat) : Int)
          = (((core s c).vec.addr (Vi.vd w) % 2 ^ 25 : Nat) + sgn 24 (Vi.imm w)) % 2 ^ 25
      ∧ (∀ q, q ≠ Vi.vd w → (core t c).vec.addr q = (core s c).vec.addr q)
      ∧ (core t c).vec.v = (core s c).vec.v ∧ (core t c).vec.m = (core s c).vec.m ∧ issuedOne c r s t))
  ∧ (∀ (c : Fin 512) (s : State) (r : VecRun) (w : Nat), issues s c r w → Vi.opc w = 0x34 → fld w 0 58 = 0 →
    Answers (.trel c) s (fun t => (core t c).vec = (core s c).vec ∧ (core t c).vxRuns.getLast? = some { r with
        trel := r.held, loops := (vecAdvance r.loops (r.pc + 1)).1, pc := (vecAdvance r.loops (r.pc + 1)).2 }
      ∧ (r.held = true → issuing (core t c) = none) ∧ otherCores c s t))
  ∧ (∀ (c : Fin 512) (s : State) (r : VecRun) (w : Nat), issuing (core s c) = some r → coreIssues s c = true →
    (core s c).vec.inst r.pc = w → Vi.opc w = 0x35 → Vi.mk w = 0 → Vi.vd w = 0 → Vi.va w = 0 → Vi.vb w = 0 → Vi.vc w = 0 →
    Vi.imm w < 2 ^ 27 → fld w 0 16 ≠ 0 → fld w 16 11 ≠ 0 → fld w 16 11 ≤ 2046 → r.loops.length < 2 →
    r.pc + fld w 16 11 ≤ 2047 → (∀ l ∈ r.loops, r.pc + fld w 16 11 < l.start + l.body) →
    (∀ k, k < fld w 16 11 → Vi.opc ((core s c).vec.inst (r.pc + 1 + k)) ≠ 0x3F) →
    Answers (.vectorLoop c) s (fun t => (core t c).vec = (core s c).vec ∧ issuing (core t c) = some { r with
      loops := ⟨r.pc + 1, fld w 16 11, fld w 0 16, 0⟩ :: r.loops, pc := r.pc + 1 } ∧ ∃ k, t = { s with cores := k }))
  ∧ (∀ (c : Fin 512) (s : State) (r : VecRun) (w : Nat), issuing (core s c) = some r → coreIssues s c = true →
    (core s c).vec.inst r.pc = w → Vi.opc w = 0x3F → fld w 0 58 = 0 → (core s c).seedBefore = none →
    Answers (.endProgram c) s (fun t => issuing (core t c) = none ∧ (core t c).vec = { (core s c).vec with loops := r.loops }
      ∧ (core t c).vxRuns = (core s c).vxRuns.dropLast ++ [{ r with ended := true }]))
  ∧ (∀ (c : Fin 512) (s : State) (r : VecRun) (w : Nat), issues s c r w → Vi.opc w = 0x01 → twoSources w = false →
      (core s c).seedBefore = none → r.pc < 2048 →
      Answers (.add c) s (fun t => rf t .core c Off.coreVxFault 16 8 = 0x20 ∧ rf t .core c Off.coreVxFault 0 11 = r.pc
        ∧ issuing (core t c) = none ∧ (core t c).vec = { (core s c).vec with loops := r.loops }
        ∧ (core t c).vxRuns = (core s c).vxRuns.dropLast ++ [{ r with ended := true, poisoned := true }]))

/-- The blocks STB stores: the lanes of VD, and of VD + 1 where 128 are stored, in blocks of 16 × 2^BLK, each with its measured
scale and its codes (R155, R156). -/
def stbBlocks (s : State) (c w : Nat) (t : Elem) (n b : Nat) : List (Nat × List Nat) :=
  let xs := (List.range n).map (fun i => f32 ((core s c).vec.lane (Vi.vd w + i / 64) (i % 64)))
  let ds := laneDraws s c w ((List.range n).map (· % 64))
  ((chunks b (n / b) xs).zip (chunks b (n / b) ds)).map (fun p =>
    (measureScale t p.1, blockCodes t (measureScale t p.1) (if Vi.rnd w then some (Vi.sr w + 1, p.2) else none) p.1))

/-- LD, ST and STB whose fields and addresses are in order complete. LD: each enabled lane of VD holds the widened element at its
address, or the NaN of an unreadable codeword, which poisons the run; the other lanes and registers stay; no byte changes outside the
codewords read. ST: the enabled lanes' narrowed codes stand at their addresses, the highest lane's where two meet; every other byte
reads as before. STB: the measured scales and the codes of the blocks stand at AS and AE; every other byte reads as before. Each moves
the run on, and no other core changes (R147, R154 to R156, R206, R208). -/
def Obligations.VectorMemory : Prop :=
  (∀ (c : Fin 512) (s : State) (r : VecRun) (w : Nat) (f : VFmt), issues s c r w → Vi.opc w = 0x30 → vfmtOf (Vi.fmt w) = some f →
    Vi.fmt w ≤ 4 ∨ (8 ≤ Vi.fmt w ∧ Vi.fmt w ≤ 10) ∨ Vi.fmt w = 0xE → Vi.as' w = 0 → Vi.rnd w = false → Vi.sr w = 0 → Vi.blk w = 0 →
    lanesReach s c w (f.width / 8) (f == .elem .fp32 || f == .raw 32) →
    Answers (.ld c) s (fun t =>
      (∀ i, i < 64 → (core t c).vec.lane (Vi.vd w) i =
        if ((core s c).vec.mask (Vi.mk w)).testBit i then
          (if readable s (lanePlace s c w (f.width / 8) i)
            then f.widen (wordBytes s (lanePlace s c w (f.width / 8) i) (f.width / 8)) else nan32)
        else (core s c).vec.lane (Vi.vd w) i)
      ∧ (∀ q i, q ≠ Vi.vd w → (core t c).vec.lane q i = (core s c).vec.lane q i)
      ∧ (core t c).vec.m = (core s c).vec.m ∧ (core t c).vec.a = (core s c).vec.a
      ∧ (∀ a, (∀ i, laneOn s c w i → a / 16 ≠ lanePlace s c w (f.width / 8) i / 16) → cellAt a t.mem = cellAt a s.mem)
      ∧ ranOn c r ((bitsOf 64 ((core s c).vec.mask (Vi.mk w))).any (fun i => !readable s (lanePlace s c w (f.width / 8) i))) t
      ∧ otherCores c s t))
  ∧ (∀ (c : Fin 512) (s : State) (r : VecRun) (w : Nat) (f : VFmt), issues s c r w → Vi.opc w = 0x31 → vfmtOf (Vi.fmt w) = some f →
    Vi.fmt w ≤ 4 ∨ (8 ≤ Vi.fmt w ∧ Vi.fmt w ≤ 10) → (Vi.rnd w = true → 1 ≤ Vi.fmt w ∧ Vi.fmt w ≤ 4) →
    (Vi.rnd w = false → Vi.sr w = 0) → Vi.as' w = 0 → Vi.blk w = 0 →
    lanesReach s c w (f.width / 8) (f == .elem .fp32 || f == .raw 32) →
    (∀ i, laneOn s c w i → readable s (lanePlace s c w (f.width / 8) i) = true) →
    Answers (.st c) s (fun t =>
      (∀ j i, (bitsOf 64 ((core s c).vec.mask (Vi.mk w)))[j]? = some i →
        (∀ k, i < k → laneOn s c w k → lanePlace s c w (f.width / 8) k ≠ lanePlace s c w (f.width / 8) i) →
        readable t (lanePlace s c w (f.width / 8) i) = true
          ∧ wordBytes t (lanePlace s c w (f.width / 8) i) (f.width / 8)
            = laneCode f w ((laneDraws s c w (bitsOf 64 ((core s c).vec.mask (Vi.mk w)))).getD j 0) ((core s c).vec.lane (Vi.vd w) i))
      ∧ otherBytes (fun a => ∃ i, laneOn s c w i ∧ lanePlace s c w (f.width / 8) i ≤ a
          ∧ a < lanePlace s c w (f.width / 8) i + f.width / 8) s t
      ∧ (core t c).vec.v = (core s c).vec.v ∧ (core t c).vec.m = (core s c).vec.m ∧ (core t c).vec.a = (core s c).vec.a
      ∧ ranOn c r false t ∧ otherCores c s t))
  ∧ (∀ (c : Fin 512) (s : State) (r : VecRun) (w n b pe ps : Nat) (x : Elem), issues s c r w → Vi.opc w = 0x32 →
    vfmtOf (Vi.fmt w) = some (.elem x) → x.isBlock = true → Vi.mk w = 0 → Vi.off w = 0 → Vi.stride w = 0 →
    (Vi.rnd w = false → Vi.sr w = 0) → b = 16 * 2 ^ Vi.blk w → n = (if Vi.blk w = 3 then 128 else 64) →
    (Vi.blk w = 3 → Vi.vd w ≠ 63) →
    cellarRange s c ((core s c).vec.addr (Vi.an w)) (n * x.width / 8) = some pe →
    cellarRange s c ((core s c).vec.addr (Vi.as' w)) (n / b) = some ps →
    (core s c).vec.addr (Vi.an w) / 2 ^ 30 ≠ 1 → (core s c).vec.addr (Vi.as' w) / 2 ^ 30 ≠ 1 →
    (∀ a, (pe ≤ a ∧ a < pe + n * x.width / 8) ∨ (ps ≤ a ∧ a < ps + n / b) → readable s a = true) →
    Answers (.stb c) s (fun t =>
      (readMem t 0 ps (n / b)).2 = (packCodes 8 ((stbBlocks s c w x n b).map Prod.fst), true)
      ∧ (ps + n / b ≤ pe ∨ pe + n * x.width / 8 ≤ ps →
          (readMem t 0 pe (n * x.width / 8)).2 = (packCodes x.width ((stbBlocks s c w x n b).flatMap Prod.snd), true))
      ∧ otherBytes (fun a => (pe ≤ a ∧ a < pe + n * x.width / 8) ∨ (ps ≤ a ∧ a < ps + n / b)) s t
      ∧ (core t c).vec.v = (core s c).vec.v ∧ (core t c).vec.m = (core s c).vec.m ∧ (core t c).vec.a = (core s c).vec.a
      ∧ ranOn c r false t ∧ otherCores c s t))

/-! ## Resets, dawn and power states (R420 to R431) -/

/-- What COLD, WARM and DEVICE leave: dawn at step `n` and not done, the memories and the tables empty, the cores reset, no
context resident, every partition at `v`, and the commands that wait as they were. -/
def wideDone (n v : Nat) (s t : State) : Prop :=
  dawnStep t = n ∧ dawnDone t = false ∧ t.mem = [] ∧ t.chk = [] ∧ t.cores = [] ∧ t.terrier = [] ∧ t.groups = []
    ∧ t.lanemaps = [] ∧ t.tags = [] ∧ resident t = 0 ∧ (∀ q, q < 4 → partState t q = v) ∧ t.pending = s.pending

/-- COLD_RESET starts dawn at step 1 with BELLTIME 0 and an empty device queue; PERST_N_LOW, RESET_DEVICE and PF_FLR at step 3,
with BELLTIME and the device queue's ring kept; PERST_N_RISE only notes the level. RESET_PARTITION takes its partition to RESET and resets
its cores; where no context is resident and none is switching, its dawn is in step 4 and its ports are reset; RESET_PORT leaves its port without keys or buffered flits and
DOWN or in DETECT, and no other port changes; VF_FLR leaves its context RESETTING (R365, R373, R405, R420 to R422, R428). -/
def Obligations.ResetsBegin : Prop :=
  (∀ s : State, Answers .coldReset s (fun t => wideDone 1 2 s t ∧ t.time = 0 ∧ t.devq = [] ∧ t.wipes = [(.device, 0)]
    ∧ t.dawnOf = .cold ∧ t.perstLow = s.perstLow))
  ∧ (∀ s : State, s.perstLow = false → s.firmware = true →
    Answers .perstNLow s (fun t => wideDone 3 (if s.refclkLost then 3 else 2) s t ∧ t.perstLow = true ∧ t.time = s.time
      ∧ t.devq = s.devq ∧ t.wipes = [(.device, s.time)] ∧ t.refclkLost = s.refclkLost ∧ t.panPerst = some false))
  ∧ (∀ s : State, Answers .perstNRise s (fun t => t = { s with perstLow := false }))
  ∧ (∀ s : State, deviceDiscarded s = false →
    Answers .resetDevice s (fun t => wideDone 3 (if s.refclkLost then 3 else 2) s t ∧ t.dawnOf = .device ∧ t.time = s.time
      ∧ t.devq = s.devq))
  ∧ (∀ s : State, deviceDiscarded s = false →
    Answers .pfFlr s (fun t => wideDone 3 (if s.refclkLost then 3 else 2) s t ∧ t.dawnOf = .device ∧ t.time = s.time))
  ∧ (∀ (n : Nat) (s : State), n < 4 → narrowDiscarded s = false →
    Answers (.resetPartition (BitVec.ofNat 6 n)) s (fun t => partState t n = 2 ∧ partResetting t n = true
      ∧ (∀ c, c / 128 = n → core t c = Core.reset)
      ∧ (resident s = 0 → s.switch.phase = .idle → tget 0 n t.partDawn = 4 ∧ resident t = 0
          ∧ ∀ p, p / 8 = n → portOf t p = Port.reset ∧ portState t p = Link.down)
      ∧ (∀ q, q < 4 → q ≠ n → partState t q = partState s q) ∧ t.time = s.time))
  ∧ (∀ (p : Nat) (s : State), p < 32 → narrowDiscarded s = false → partResetting s (p / 8) = false →
    Answers (.resetPort (BitVec.ofNat 6 p)) s (fun t => (portOf t p).keys = none ∧ (portOf t p).buffer = []
      ∧ (portState t p = Link.down ∨ portState t p = Link.detect) ∧ otherPorts p s t ∧ sameMemory s t
      ∧ (∀ c, core t c = core s c)))
  ∧ (∀ (vf : Fin 32) (s : State), vf.val ≠ 0 → dawnDone s = true →
    Answers (.vfFlr vf) s (fun t => ctxState t vf.val = Ctx.resetting ∧ t.time = s.time))

/-- A flash slot's image that may boot: its version is no lower than the fused minimum, and its signature verifies (R415). -/
def bootable (x : FlashSlot) : Prop := slotFits x = true ∧ x.verifies = true

/-- The slot `x` goes before `y`: of two that fit, the higher security version, slot 0 of two equal ones (R415). -/
def preferred (r : DawnReport) (slot : Bool) : Prop :=
  if slot then r.slot0.version.toNat < r.slot1.version.toNat else r.slot1.version.toNat ≤ r.slot0.version.toNat

/-- The steps of dawn, one at a time: of the bootable slots the preferred one boots, and with none bootable dawn stops in step 2 with
FAIL_STEP 2; step 3 runs unless a shared rail is
out of range; in step 4 every partition that is not DOWN goes to TEST; step 5 lasts as long as the device's wipe and starts the
bond self-tests; at the end of step 6 DONE is set and every partition that is not DOWN is in SERVICE. CONFIGURATION_REQUEST is answered
with Request Retry Status until step 3 ends and served afterwards: the size of BAR4, and the AER status, which a write of ones clears
(R364, R398, R415, R422, R424, R425, R493). -/
def Obligations.DawnSteps : Prop :=
  (∀ (r : DawnReport) (s : State), dawnDone s = false → dawnHeld s = false → dawnStep s = 1 →
    Answers (.dawnStepDone r) s (fun t => dawnStep t = 2 ∧ dawnDone t = false))
  ∧ (∀ (r : DawnReport) (s : State), dawnDone s = false → dawnHeld s = false → dawnStep s = 2 → ¬ bootable r.slot0 →
    ¬ bootable r.slot1 → Answers (.dawnStepDone r) s (fun t => dawnStep t = 2 ∧ rf t .global 0 Off.globalDawn 12 4 = 2 ∧ t.firmware = s.firmware))
  ∧ (∀ (r : DawnReport) (s : State) (slot : Bool), dawnDone s = false → dawnHeld s = false → dawnStep s = 2 →
    bootable (if slot then r.slot1 else r.slot0) → (bootable (if slot then r.slot0 else r.slot1) → preferred r slot) →
    Answers (.dawnStepDone r) s (fun t => dawnStep t = 3 ∧ t.firmware = true ∧ t.booted = slot
      ∧ (∀ k, k < 3 → tget 0 (32 + k) t.measurements = r.digests.getD k 0)))
  ∧ (∀ (r : DawnReport) (s : State), dawnDone s = false → dawnHeld s = false → dawnStep s = 3 → r.sharedRails = false →
    Answers (.dawnStepDone r) s (fun t => dawnStep t = 4))
  ∧ (∀ (r : DawnReport) (s : State), dawnDone s = false → dawnHeld s = false → dawnStep s = 3 → r.sharedRails = true →
    Answers (.dawnStepDone r) s (fun t => dawnStep t = 3 ∧ rf t .global 0 Off.globalDawn 12 4 = 3
      ∧ ∀ q, q < 4 → partState t q = 3))
  ∧ (∀ (r : DawnReport) (s : State), dawnDone s = false → dawnHeld s = false → dawnStep s = 4 →
    Answers (.dawnStepDone r) s (fun t => dawnStep t = 5
      ∧ ∀ q, q < 4 → partState t q = if partState s q = 3 then 3 else 1))
  ∧ (∀ (r : DawnReport) (s : State), dawnDone s = false → dawnHeld s = false → dawnStep s = 5 →
    s.wipes.any (fun w => w.1 == .device) = false →
    Answers (.dawnStepDone r) s (fun t => dawnStep t = 6 ∧ ∀ q, q < 4 → tget BondTest.none q t.tests = .dawn))
  ∧ (∀ (r : DawnReport) (s : State), dawnDone s = false → dawnHeld s = false → dawnStep s = 6 →
    Answers (.dawnStepDone r) s (fun t => dawnStep t = 9 ∧ dawnDone t = true
      ∧ ∀ q, q < 4 → partState t q = if partState s q = 3 then 3 else 0))
  ∧ (∀ (x : ConfigAccess) (s : State), s.perstLow = false → dawnDone s = false → dawnStep s ≤ 3 →
      Answers (.configurationRequest x) s (fun t => t = { s with outputs := s.outputs ++ [.config true] }))
  ∧ (∀ s : State, s.perstLow = false → dawnDone s = true ∨ 3 < dawnStep s →
      Answers (.configurationRequest .other) s (fun t => t = { s with outputs := s.outputs ++ [.config false] })
      ∧ (∀ n, Answers (.configurationRequest (.bar4Size n)) s (fun t =>
          t = { s with outputs := s.outputs ++ [.config false], bar4 := n.val }))
      ∧ (∀ fn, Answers (.configurationRequest (.aerRead fn)) s (fun t =>
          t = { s with outputs := s.outputs ++ [.config false, .aer (tget 0 fn.val s.aer)] }))
      ∧ (∀ fn bits, Answers (.configurationRequest (.aerClear fn bits)) s (fun t =>
          tget 0 fn.val t.aer = tget 0 fn.val s.aer &&& ~~~bits
          ∧ t = { s with outputs := s.outputs ++ [.config false], aer := t.aer })))

/-- RAIL_FAULT takes its partition DOWN with its memories gone, and the resident context is off or on its way off, the other partitions staying as they are; REFCLK_LOSS takes
every partition DOWN and the Bell to HOLDOVER; TEST_MODE_HIGH outside FIELD starts scan test and stops the firmware. A power request
that passes its checks: from RUN with no context resident the entry of DUSK or NIGHT begins, with one resident it is first switched
out; from DUSK or NIGHT a request for RUN begins the exit. POWER_TRANSITION_DONE ends an entry, and the exit from DUSK once no bond
self-test runs (R35, R364, R426, R427, R485, R493, R494). -/
def Obligations.PowerAndService : Prop :=
  (∀ (die : Fin 4) (s : State), partState s die.val = 0 → dawnDone s = true →
    Answers (.railFault die) s (fun t => partState t die.val = 3 ∧ (resident t = 0 ∨ forcedWaits t = true)
      ∧ railGated t die.val = true
      ∧ (∀ q, q < 4 → q ≠ die.val → partState t q = partState s q) ∧ t.time = s.time))
  ∧ (∀ s : State, s.refclkLost = false →
    Answers .refclkLoss s (fun t => t.refclkLost = true ∧ (∀ q, q < 4 → partState t q = 3)
      ∧ (resident t = 0 ∨ forcedWaits t = true)
      ∧ bellState t = (if bellState s = Bell.free then Bell.free else Bell.holdover)))
  ∧ (∀ s : State, inField s = false →
    Answers .testModeHigh s (fun t => t = { s with scanTest := true, firmware := false }))
  ∧ (∀ s : State, powerCheck s 1 = 0 → powerState s = 0 → resident s = 0 →
    Answers .powerDusk s (fun t => powerState t = 3 ∧ t.powerStep = 1 ∧ powerReq t = 1 ∧ onlyRegs { s with powerStep := 1 } t))
  ∧ (∀ s : State, powerCheck s 1 = 0 → powerState s = 0 → resident s ≠ 0 →
    Answers .powerDusk s (fun t => powerState t = 3 ∧ t.switch = ⟨.requested, 0, s.time, .dusk⟩ ∧ powerReq t = 1
      ∧ resident t = resident s))
  ∧ (∀ s : State, powerCheck s 2 = 0 → powerState s = 0 ∨ powerState s = 1 → resident s = 0 →
    Answers .powerNight s (fun t => powerState t = 3 ∧ t.powerStep = 2 ∧ powerReq t = 2 ∧ onlyRegs { s with powerStep := 2 } t))
  ∧ (∀ s : State, powerState s = 1 ∨ powerState s = 2 → powerCheck s 0 = 0 →
    Answers .powerRun s (fun t => powerState t = 4 ∧ t.powerStep = (if powerState s = 1 then 3 else 5) ∧ powerReq t = 0
      ∧ sameMemory s t))
  ∧ (∀ s : State, tripped s = false → s.powerStep = 1 →
    Answers .powerTransitionDone s (fun t => powerState t = 1 ∧ t.powerStep = 0 ∧ onlyRegs { s with powerStep := 0 } t))
  ∧ (∀ s : State, tripped s = false → s.powerStep = 2 →
    Answers .powerTransitionDone s (fun t => powerState t = 2 ∧ t.powerStep = 0 ∧ sameMemory s t
      ∧ (∀ c, (core t c).gates = (core s c).gates) ∧ ∀ p, p < 32 → portOf t p = Port.reset ∧ portState t p = Link.down))
  ∧ (∀ s : State, tripped s = false → s.powerStep = 4 → anyTest s = false → powerReq s = 0 →
    Answers .powerTransitionDone s (fun t => powerState t = 0 ∧ t.powerStep = 0))

/-! ## The Steward (R379 to R396) -/

/-- The demand estimate of die `d`: its power with each MATRIX count a as a × 16 ÷ (16 − n) for n bubbles (R381, R382). -/
def demandNow (s : State) (acts : List Activity) (d : Nat) : Word := dieWatts s d (demandCount s acts d)

/-- The actual estimate of die `d` (R381). -/
def actualNow (s : State) (acts : List Activity) (d : Nat) : Word := dieWatts s d (actualCount acts d)

/-- STEWARD_PERIOD at a multiple of 512 ticks samples every quadrant and link die; reads and clears the activity counters; forms the
demand and the actual estimate of each die and of the package from their counts; and HOT in the next period are the footprints whose
core fed in at least THRESH sixteenths of its cycles; ESTIMATE_COMPLETE 64 ticks later puts the estimates, the bubble counts and the HOT states
in force. A sensor at 115 °C or more trips: THERMTRIP_N falls, TRIPPED is set and HEALTH is FAILED (R232, R379 to R388, R393, R451). -/
def Obligations.StewardPeriods : Prop :=
  (∀ (r : PeriodReport) (s s0 : State), s.time.toNat % 512 = 0 → fireOnce s 5 = some s0 →
    Answers (.stewardPeriod r) s (fun t =>
      t.estNext = (List.range 4).map (fun d => (demandNow t (periodActivity s r.activity) d, actualNow t (periodActivity s r.activity) d))
        ++ [(packageWatts t (periodActivity s r.activity) (demandNow t (periodActivity s r.activity)),
            packageWatts t (periodActivity s r.activity) (actualNow t (periodActivity s r.activity)))]
      ∧ (∀ f : Fin 512, t.hotNext.toNat.testBit f.val = true
          ↔ ∃ n : Fin 17, (f, n) ∈ r.feed ∧ (stackActing s (f.val / 128)).1.toNat % 16 ≤ n.val)
      ∧ t.activity = []
      ∧ (∀ d, d < 4 → (soc t d).quads = (List.range 4).map (fun j => (r.quads.getD (4 * d + j) 0).toNat)
        ∧ (soc t d).link = (r.links.getD d 0).toNat ∧ (soc t d).cur = (soc s d).cur ∧ (soc t d).bubble = (soc s d).bubble)
      ∧ (∀ k, k < 16 → rf t .hbm k Off.hbmTemp 0 10 = (r.stackTemps.getD k 0).toNat)
      ∧ t.hotFp = s.hotFp ∧ t.cores = s.cores ∧ sameMemory s t))
  ∧ (∀ s : State, s.time.toNat % 512 = 64 → s.estNext.isEmpty = false →
    Answers .estimateComplete s (fun t => t.estNext = [] ∧ t.hotFp = s.hotNext ∧ t.pkgEst = s.estNext.getD 4 (0, 0)
      ∧ (∀ d, d < 4 → ((soc t d).demand, (soc t d).actual) = s.estNext.getD d (0, 0)
        ∧ (soc t d).bubble = (if s.curfew = .none then bubbleCount t d else 15))))
  ∧ (∀ (die : Fin 4) (temp : BitVec 10) (s : State), 460 ≤ temp.toNat → tripped s = false →
      Answers (.thermtrip die temp) s (fun t => tripped t = true ∧ health t = 3 ∧ Output.thermtrip ∈ t.outputs
        ∧ onlyDevice s t))

/-- VF_TARGET_WRITE of points that no die has retired: a die that is to rise writes its voltage first and keeps its point, any
other takes the point at once; a retired point is refused with 0x40 and no die moves; VF_SETTLE gives a rising die its point
once VF_SETTLE ticks have passed. DROOP with the reading more than DROOP_MARGIN below the effective voltage halves the die's clock and is counted;
64 ticks after it has recovered DROOP_END returns it. CURFEW sends every die to point 0
with 15 bubbles; CURFEW_RELEASE starts the hold, and CURFEW_HOLD_END ends it 25,000 ticks later (R391 to R393, R396). -/
def Obligations.PointsAndCurfew : Prop :=
  (∀ (v : Word) (s : State), hostOpen s .steward = true → v.toNat < 2 ^ 16 → s.curfew = .none → linkOff s = false →
    (∀ d, d < 4 → retired s d (fld v.toNat (4 * d) 4) = false) →
    Answers (.vfTargetWrite v) s (fun t => reg t .steward 0 Off.stewardVfTarget = v
      ∧ (∀ d, d < 4 → if (soc s d).cur < fld v.toNat (4 * d) 4
          then (soc t d).rising = some (fld v.toNat (4 * d) 4) ∧ (soc t d).cur = (soc s d).cur
          else (soc t d).cur = fld v.toNat (4 * d) 4 ∧ (soc t d).rising = none)
      ∧ sameMemory s t))
  ∧ (∀ (v : Word) (s : State) (d : Nat), hostOpen s .steward = true → v.toNat < 2 ^ 16 → d < 4 →
    retired s d (fld v.toNat (4 * d) 4) = true →
    Answers (.vfTargetWrite v) s (fun t => t.socs = s.socs ∧ rf t .steward 0 Off.status 8 8 = 0x40
      ∧ reg t .steward 0 Off.stewardVfTarget = reg s .steward 0 Off.stewardVfTarget ∧ onlyRegs s t))
  ∧ (∀ (die : Fin 4) (s : State) (p : Nat) (start : DWord), (soc s die.val).rising = some p →
    (soc s die.val).settleFrom = some start → start.toNat + rf s .steward 0 Off.stewardVfSettle 0 16 ≤ s.time.toNat →
    Answers (.vfSettle die) s (fun t => (soc t die.val).cur = p ∧ (soc t die.val).rising = none
      ∧ (∀ d, d ≠ die.val → soc t d = soc s d) ∧ t = { s with socs := t.socs }))
  ∧ (∀ (die : Fin 4) (mv : BitVec 12) (s : State), (soc s die.val).droop = false →
    mv.toNat + rf s .steward 0 Off.stewardDroopMargin 0 8 < effVolt s die.val (soc s die.val).cur →
    Answers (.droop die mv) s (fun t => (soc t die.val).droop = true ∧ (∀ d, d ≠ die.val → soc t d = soc s d)
      ∧ reg t .steward 0 Off.stewardDroopCount = satInc (reg s .steward 0 Off.stewardDroopCount)))
  ∧ (∀ (die : Fin 4) (mv : BitVec 12) (s : State),
    effVolt s die.val (soc s die.val).cur ≤ mv.toNat + rf s .steward 0 Off.stewardDroopMargin 0 8 →
    Answers (.droop die mv) s (fun t => t = s))
  ∧ (∀ (die : Fin 4) (x : BitVec 64) (s : State), (soc s die.val).droopOn.toNat ≤ x.toNat → x.toNat + 64 ≤ s.time.toNat →
    Answers (.droopEnd die x) s (fun t => (soc t die.val).droop = false
      ∧ (∀ d, d ≠ die.val → soc t d = soc s d) ∧ t = { s with socs := t.socs }))
  ∧ (∀ s : State, s.curfew = .none →
    Answers .curfew s (fun t => t.curfew = .active
      ∧ (∀ d, d < 4 → (soc t d).cur = 0 ∧ (soc t d).bubble = 15 ∧ (soc t d).rising = none)
      ∧ reg t .steward 0 Off.stewardCurfewCount = satInc (reg s .steward 0 Off.stewardCurfewCount)))
  ∧ (∀ s : State, s.curfew = .active → Answers .curfewRelease s (fun t => t = { s with curfew := .hold s.time }))
  ∧ (∀ (s : State) (rose : DWord), s.curfew = .hold rose → rose.toNat + 25000 ≤ s.time.toNat →
    Answers .curfewHoldEnd s (fun t => t.curfew = .none ∧ sameMemory s t))

/-- What a voltage write sends on PMBus: PAGE and VOUT_COMMAND to the die's regulator, at the address and with the page that
PMB_ADDR holds (R414). -/
def voltSent (s : State) (d : Nat) (w : VoltWrite) : List Output :=
  [.pmbus d (rf s .sideband 0 (Off.sidebandPmbAddr + 4 * d) 0 7) 0x00 (rf s .sideband 0 (Off.sidebandPmbAddr + 4 * d) 8 8),
    .pmbus d (rf s .sideband 0 (Off.sidebandPmbAddr + 4 * d) 0 7) 0x21 (effVolt s d w.point)]

/-- PMBUS_TRANSACTION_DONE: a voltage that was written is settled; a failure is retried twice, and the third abandons an upward
move and parks a downward one, which PMBUS_RETRY sends again 2¹⁴ ticks later. WEAR_WRITEBACK at a multiple of 2²⁸ ticks and
ORDERLY_POWER_DOWN write the wear of every quadrant to storage (R235, R239, R391, R414). -/
def Obligations.VoltageAndWear : Prop :=
  (∀ (die : Fin 4) (s : State) (w : VoltWrite), (soc s die.val).volt = some w → w.parked = false →
    Answers (.pmbusTransactionDone die true) s (fun t => (soc t die.val).volt = none
      ∧ (soc t die.val).settleFrom = (if w.upward then some s.time else none) ∧ t = { s with socs := t.socs }))
  ∧ (∀ (die : Fin 4) (s : State) (w : VoltWrite), (soc s die.val).volt = some w → w.parked = false → w.failures < 2 →
    Answers (.pmbusTransactionDone die false) s (fun t => (soc t die.val).volt = some { w with failures := w.failures + 1 }
      ∧ t.outputs = s.outputs ++ voltSent s die.val w))
  ∧ (∀ (die : Fin 4) (s : State) (w : VoltWrite), (soc s die.val).volt = some w → w.parked = false → 2 ≤ w.failures →
    Answers (.pmbusTransactionDone die false) s (fun t =>
      (soc t die.val).volt = (if w.upward then none else some { w with failures := 0, parked := true, since := s.time })
      ∧ (soc t die.val).cur = (soc s die.val).cur ∧ (w.upward = true → (soc t die.val).rising = none)))
  ∧ (∀ (die : Fin 4) (s : State) (w : VoltWrite), (soc s die.val).volt = some w → w.parked = true →
    w.since.toNat + 2 ^ 14 ≤ s.time.toNat →
    Answers (.pmbusRetry die) s (fun t => (soc t die.val).volt = some { w with parked := false }
      ∧ t.outputs = s.outputs ++ voltSent s die.val w))
  ∧ ((∀ s s1 : State, s.time.toNat % 2 ^ 28 = 0 → fireOnce s 4 = some s1 →
      Answers .wearWriteback s (fun t => t.wearStored = s.wear ∧ t.wear = s.wear ∧ sameMemory s t))
    ∧ (∀ s : State, Answers .orderlyPowerDown s (fun t => t.wearStored = s.wear ∧ t.wear = s.wear ∧ sameMemory s t)))

/-! ## The memories and the stack (R184 to R212, R224 to R239) -/

/-- R206: a read accepts a codeword whose syndrome is 0; where s0 is not 0, the quadric test holds and the quotients are the pair of a
position, it corrects the symbol there by s0; any other codeword is uncorrectable. So every single-symbol error is corrected and every
double-symbol error found uncorrectable; and the rule's worked example. -/
def Obligations.MemoryCodeCorrects : Prop :=
  (∀ w, codeSum w 36 = (0, 0, 0, 0) → decodeWord w = .clean)
  ∧ (∀ w s0 s1 s2 s3 k, codeSum w 36 = (s0, s1, s2, s3) → s0 ≠ 0 →
    gfMul s0 s1 = gfMul s2 s2 ^^^ gfMul s2 s3 ^^^ gfMul 8 (gfMul s3 s3) → k < 36 →
    codePair k = (gfMul s2 (gfInv s0), gfMul s3 (gfInv s0)) → decodeWord w = .corrected (w ^^^ s0 * 2 ^ (4 * k)))
  ∧ (∀ w s0 s1 s2 s3, codeSum w 36 = (s0, s1, s2, s3) → (s0, s1, s2, s3) ≠ (0, 0, 0, 0) →
    s0 = 0 ∨ gfMul s0 s1 ≠ gfMul s2 s2 ^^^ gfMul s2 s3 ^^^ gfMul 8 (gfMul s3 s3)
      ∨ (∀ k, k < 36 → codePair k ≠ (gfMul s2 (gfInv s0), gfMul s3 (gfInv s0))) →
    decodeWord w = .uncorrectable)
  ∧ (∀ data, decodeWord (encodeWord data) = .clean)
  ∧ (∀ data k e, k < 36 → 0 < e → e < 16 →
    decodeWord (encodeWord data ^^^ e * 2 ^ (4 * k)) = .corrected (encodeWord data))
  ∧ (∀ data j k e f, j < k → k < 36 → 0 < e → e < 16 → 0 < f → f < 16 →
    decodeWord (encodeWord data ^^^ e * 2 ^ (4 * j) ^^^ f * 2 ^ (4 * k)) = .uncorrectable)
  ∧ codeSum (encodeWord (2 ^ 80) ^^^ 6 * 2 ^ 80) 36 = (6, 6, 0xB, 0xA) ∧ checkSymbols (2 ^ 80) = 0xEDA8

/-- A place whose beats go straight to its controller: not in a CELLAR reset, waiting for nothing, and not in a HOT footprint. -/
def openPlace (s : State) (p : Place) : Prop :=
  inCellarReset s p = false ∧ placeWaits s p = false ∧ ∀ f, p.footprint = some f → isHot s f = false

/-- MEMORY_WRITE of whole words to the cellars: the sixteen bytes of its codeword read as written and every other byte as before.
MEMORY_READ of a clean word changes nothing; of a word with one symbol upset it writes the corrected word back and counts it.
ACCUMULATE_WRITE touches no byte outside its codeword and its flag row's codeword (R199, R200, R206 to R208). -/
def Obligations.MemoryRequests : Prop :=
  (∀ (a : BitVec 51) (key : Fin 64) (data : BitVec 128) (s : State) (p : Place), placeOf (16 * (a.toNat / 16)) = some p →
    p.encrypted = false → openPlace s p → s.copyPages.contains (16 * (a.toNat / 16) / 2 ^ 21) = false →
    Answers (.memoryWrite a key data 0xFFFF) s (fun t => cellsNat t.mem (16 * (a.toNat / 16)) 16 = data.toNat
      ∧ (∀ b, b / 16 ≠ a.toNat / 16 → cellAt b t.mem = cellAt b s.mem) ∧ t.regs = s.regs ∧ t.cores = s.cores))
  ∧ (∀ (a : BitVec 51) (key : Fin 64) (s : State) (p : Place), placeOf (16 * (a.toNat / 16)) = some p → openPlace s p →
    p.offline s = false → rawWord s (a.toNat / 16) = encodeWord (rawWord s (a.toNat / 16)) →
    Answers (.memoryRead a key 0) s (fun t => sameMemory s t ∧ t.regs = s.regs ∧ t.cores = s.cores))
  ∧ (∀ (a : BitVec 51) (key : Fin 64) (s : State) (p : Place) (k e : Nat), placeOf (16 * (a.toNat / 16)) = some p →
    openPlace s p → p.offline s = false → rawWord s (a.toNat / 16) = encodeWord (rawWord s (a.toNat / 16)) →
    k < 36 → 0 < e → e < 16 →
    Answers (.memoryRead a key (BitVec.ofNat 144 (e * 2 ^ (4 * k)))) s (fun t => sameMemory s t
      ∧ reg t p.page.1 p.page.2 p.ceOff = satInc (reg s p.page.1 p.page.2 p.ceOff) ∧ t.cores = s.cores))
  ∧ (∀ (c : Fin 512) (slot : Fin 8) (a : BitVec 51) (key : Fin 64) (fmt : Fin 4) (scale : BitVec 8) (addends : BitVec 512)
    (mask : BitVec 16) (flags : BitVec 51) (block : BitVec 12) (s : State) (p : Place),
    placeOf (16 * (a.toNat / 16)) = some p → openPlace s p → s.copyPages.contains (16 * (a.toNat / 16) / 2 ^ 21) = false →
    s.copyPages.contains ((flags.toNat + block.toNat / 4) / 2 ^ 21) = false →
    Answers (.accumulateWrite c slot a key fmt scale addends mask flags block) s (fun t =>
      (∀ b, b / 16 ≠ a.toNat / 16 → b / 16 ≠ (flags.toNat + block.toNat / 4) / 16 → cellAt b t.mem = cellAt b s.mem)
      ∧ t.waiting = s.waiting ∧ otherCores c.val s t))

/-- Refresh windows open and close at their fixed BELLTIME, and a request to a footprint in one waits; the throttle of a HOT
footprint with nothing held frees its beat; an RFM is counted, and a refresh, which is counted as activity, keeps what the banks hold (R185, R192, R233). -/
def Obligations.RefreshAndThrottle : Prop :=
  (∀ (f : Fin 128) (s : State), s.time.toNat % 1024 = 8 * f.val →
    Answers (.refreshWindow f) s (fun t =>
      t = { s with refreshing := s.refreshing ||| BitVec.ofNat 128 (2 ^ f.val), activity := t.activity }))
  ∧ (∀ (f : Fin 128) (s : State), s.refreshing.toNat.testBit f.val = true →
    16 ≤ (s.time.toNat + 1024 - 8 * f.val) % 1024 →
    Answers (.refreshWindowEnd f) s (fun t => t.refreshing.toNat.testBit f.val = false
      ∧ (s.waiting = [] → s.evqWait = [] → t = { s with refreshing := t.refreshing })))
  ∧ (∀ (a : BitVec 51) (key : Fin 64) (flip : BitVec 144) (s : State) (p : Place), placeOf (16 * (a.toNat / 16)) = some p →
    inCellarReset s p = false → placeWaits s p = true →
    Answers (.memoryRead a key flip) s (fun t => t = { s with waiting := s.waiting ++ [.read a key flip] }))
  ∧ (∀ (die : Fin 4) (f : Fin 128) (s : State), isHot s (128 * die.val + f.val) = true →
    admitDue s (128 * die.val + f.val) = true → (throttle s (128 * die.val + f.val)).held = [] →
    Answers (.throttleAdmit die f) s (fun t => (throttle t (128 * die.val + f.val)).spent = false
      ∧ (throttle t (128 * die.val + f.val)).held = [] ∧ t = { s with throttles := t.throttles }))
  ∧ (∀ (die : Fin 4) (f : Fin 128) (s : State) (b : HeldBeat) (rest : List HeldBeat),
    isHot s (128 * die.val + f.val) = true → (throttle s (128 * die.val + f.val)).held = b :: rest →
    admitDue s (128 * die.val + f.val) = true → addrWaits s (16 * b.word) = false → beatHeld s b = false →
    Answers (.throttleAdmit die f) s (fun t => (throttle t (128 * die.val + f.val)).held = rest
      ∧ (throttle t (128 * die.val + f.val)).spent = true))
  ∧ (∀ (k : Fin 16) (s : State), Answers (.hbmRfm k) s (fun t =>
      reg t .hbm k.val Off.hbmRfmCount = satInc (reg s .hbm k.val Off.hbmRfmCount)
      ∧ otherRegs [regKey .hbm k.val Off.hbmRfmCount] s t ∧ onlyRegs s t))
  ∧ (∀ (k : Fin 16) (s : State), Answers (.hbmRefresh k) s (fun t => t = { s with activity := t.activity }
      ∧ tget 0 (256 * resident s + 64 * (k.val / 4) + 56) t.activity
          = min (2 ^ 32 - 1) (tget 0 (256 * resident s + 64 * (k.val / 4) + 56) s.activity + 1)))

/-- A periodic bond self-test begins at its BELLTIME; SELF_TEST_COMPLETE ends it, and a lane found failing takes a free spare of
its group. A CELLAR reset: GO starts it, and it waits in step 2 for the quiesce, its cellar in reset; the quiesce leads to step 3 and
the granary to self-refresh, and the next tick begins the wipe (the model's choice, log entry 113); the end of the wipe leaves every byte of the die's cellar 0 and every Tally slot CLEAR, and starts the exit
self-test, which ends the reset (R224 to R228, R237, R372). -/
def Obligations.BondTestsAndCellars : Prop :=
  (∀ (die : Fin 4) (s s1 : State), s.time.toNat % 2 ^ 28 = die.val * 2 ^ 26 → cellarBusy s die.val = false →
    bondTesting s die.val = false → memoryOff s = false → partState s die.val ≠ 3 → railGated s die.val = false → fireOnce s (8 + die.val) = some s1 →
    Answers (.bondSelfTest die) s (fun t => bondTesting t die.val = true ∧ tget BondTest.none die.val t.tests = .periodic
      ∧ sameMemory s t ∧ t.regs = s.regs ∧ t.cores = s.cores))
  ∧ (∀ (die : Fin 4) (s : State), tget BondTest.none die.val s.tests = .periodic → s.waiting = [] → s.evqWait = [] →
    Answers (.selfTestComplete die []) s (fun t => bondTesting t die.val = false ∧ t.regs = s.regs ∧ t.remaps = s.remaps))
  ∧ (∀ (die : Fin 4) (s : State) (f : LaneFail), tget BondTest.none die.val s.tests = .periodic → Lane.real f = true →
    (tget [] (Lane.key f die.val) s.remaps).contains f.lane.val = false →
    (tget [] (Lane.key f die.val) s.remaps).length < Lane.spares f →
    Answers (.selfTestComplete die [f]) s (fun t => bondTesting t die.val = false
      ∧ tget [] (Lane.key f die.val) t.remaps = tget [] (Lane.key f die.val) s.remaps ++ [f.lane.val]))
  ∧ (∀ (die : Fin 4) (s : State), hostOpen s .cellar = true → cellarBusy s die.val = false → inLowPower s = false →
    partResetting s die.val = false →
    Answers (.cellarReset die) s (fun t => rf t .cellar die.val Off.cellarResetStep 0 3 = 2 ∧ cellarBusy t die.val = true
      ∧ (∀ b ∈ t.waiting, inDie die.val (16 * b.word) = false)))
  ∧ (∀ (die : Fin 4) (s : State), rf s .cellar die.val Off.cellarResetStep 0 3 = 2 →
    Answers (.cellarQuiesced die) s (fun t => rf t .cellar die.val Off.cellarResetStep 0 3 = 3
      ∧ rf t .granary die.val Off.granaryState 0 2 = 1 ∧ sameMemory s t ∧ onlyRegs s t))
  ∧ (∀ (die : Fin 4) (s : State), s.pending = [] → rf s .cellar die.val Off.cellarResetStep 0 3 = 3 →
    ∃ t, step s = .next t ∧ rf t .cellar die.val Off.cellarResetStep 0 3 = 4 ∧ rbit t .cellar die.val Off.status 3 = true
      ∧ sameMemory s t)
  ∧ (∀ (die : Fin 4) (s : State), rf s .cellar die.val Off.cellarResetStep 0 3 = 4 →
    Answers (.cellarWipeDone die) s (fun t => rf t .cellar die.val Off.cellarResetStep 0 3 = 5
      ∧ (∀ a p, placeOf a = some p → p.kind = .larder ∨ p.kind = .tally ∨ p.kind = .commons → p.die = die.val →
          cellAt a t.mem = 0)
      ∧ (∀ c, c / 128 = die.val → (core t c).slots = [] ∧ (core t c).tiles = [])
      ∧ tget BondTest.none die.val t.tests = .cellar))
  ∧ (∀ (die : Fin 4) (s : State), tget BondTest.none die.val s.tests = .cellar →
    Answers (.selfTestComplete die []) s (fun t => cellarBusy t die.val = false ∧ bondTesting t die.val = false))

/-! ## Starts and steps (R45, R314 to R320, R376) -/

/-- A host write of a page goes ahead: the page may be written yet, and no ENABLE check holds it (R424, R434). -/
def hostReady (s : State) (b : Block) : Prop := hostOpen s b = true ∧ s.checks = []

/-- ALM_GO of a context that passes every check and is not measured starts each core whose root word is VALID: it runs with its
first segment loading, the context's epoch and no flag counted; a core whose word is not VALID is IDLE, and the step is IDLE. Of a
measured context it waits; MEASURE_DONE then writes the measurement and clears W, A and D of the schedule's entries. A check that
fails refuses the write with its code (R45, R46, R84, R376, R461). -/
def Obligations.ContextsStart : Prop :=
  (∀ (s s1 : State) (c : Nat) (l : List (Nat × Bool)), hostReady s .context → shownInstance s .context = c → c ≠ 0 →
    almGoCheck s c = 0 → readRoot s c = (s1, some l) → mapsOffline s1 c = false → namesOffline s1 l = false →
    measures s1 c = false →
    Answers .almGo s (fun t => stepState t c = Step.idle ∧ t.started = s.started ||| BitVec.ofNat 32 (2 ^ c)
      ∧ (∀ k w, k < 512 → l.getD k (0, false) = (w, true) → w.testBit 63 = true → fld w 48 15 = 0 →
          (core t k).alm.state = .running ∧ (core t k).alm.refill = some ⟨false, fld w 0 48⟩
          ∧ (core t k).alm.epoch = reg64 s .context c Off.contextAlmEpoch0Lo ∧ (core t k).flags = []
          ∧ (core t k).gates = (core s k).gates)
      ∧ (∀ k w, k < 512 → l.getD k (0, false) = (w, true) → w.testBit 63 = false → (core t k).alm = .reset)))
  ∧ (∀ (s s1 : State) (c : Nat) (l : List (Nat × Bool)), hostReady s .context → shownInstance s .context = c → c ≠ 0 →
    almGoCheck s c = 0 → readRoot s c = (s1, some l) → mapsOffline s1 c = false → namesOffline s1 l = false →
    measures s1 c = true →
    Answers .almGo s (fun t => t.measuring = some c ∧ rbit t .context c Off.status 1 = true ∧ t.cores = s1.cores))
  ∧ (∀ (s : State) (c : Nat), hostReady s .context → shownInstance s .context = c → c ≠ 0 → c < 32 → almGoCheck s c ≠ 0 →
    Answers .almGo s (fun t => rbit t .context c Off.status 2 = true ∧ rf t .context c Off.status 8 8 = almGoCheck s c
      ∧ rf t .context c Off.status 16 16 = Off.contextAlmGo ∧ onlyRegs s t))
  ∧ (∀ (s : State) (c : Nat), s.measuring = some c →
    Answers .measureDone s (fun t => t.measuring = none ∧ rbit t .context c Off.status 1 = false
      ∧ t.measurements = (measureSchedule { s with measuring := none } c).measurements
      ∧ ∀ k, k < 4 → tfld (tget 0 (schedFirst s c + k) t.terrier) 81 3 = 0))

/-- R116: a SEED with step number N gives lane l of core c the generator SR_SEED XOR (N shifted left by 16) XOR (64 × c + l), or 1
where that is 0. Seeding does so in every lane; a SEED entry that is on time, of a core whose vector engine is idle, does so with its
own N; and CONTEXT.ALM_GO does so with N = 0 on every core whose root word is VALID. -/
def Obligations.SeedsSetGenerators : Prop :=
  let seeded := fun (s : State) (n c l : Nat) =>
    let x := reg64 s .context (resident s) Off.contextSrSeedLo ^^^ ((BitVec.ofNat 64 n : DWord) <<< 16) ^^^ BitVec.ofNat 64 (64 * c + l)
    if x = 0 then (1 : DWord) else x
  (∀ (s : State) (c n l : Nat), l < 64 → tget 0 l (core (seedCore s c n) c).vec.gens = seeded s n c l)
  ∧ (∀ (c : Fin 512) (s : State) (e : QWord), launches s c .seed e → onTime s c e → (core s c).vxPend = none →
    (∀ r ∈ (core s c).vxRuns, r.ended = true) →
    Answers (.seed c) s (fun t => (∀ l, l < 64 → tget 0 l (core t c).vec.gens = seeded s (entArg e 0 48) c l)
      ∧ movedOn c s t ∧ otherCores c s t))
  ∧ (∀ (s s1 : State) (c : Nat) (l : List (Nat × Bool)), hostReady s .context → shownInstance s .context = c → c ≠ 0 →
    almGoCheck s c = 0 → readRoot s c = (s1, some l) → mapsOffline s1 c = false → namesOffline s1 l = false →
    measures s1 c = false → resident s = c →
    Answers .almGo s (fun t => ∀ k j w, k < 512 → j < 64 → l.getD k (0, false) = (w, true) → w.testBit 63 = true →
      tget 0 j (core t k).vec.gens = seeded s 0 k j))

/-- COMMIT that is not decided makes an IDLE step COLLECTING; once decided it launches, and after a DROP its core skips. STEP_READY
records the verdict, and the step is decided GO at verdict 0 and WAITS at any other. STEP_GO finishes a WAITING step: STEP rises by
one and LAST reads 0; STEP_DROP takes it to DROPPING, and STEP_DROP_DONE finishes it with LAST 1 and the group out of every drop
list; for a context that is switched out the command is kept. ENTRY_SKIP after a DROP: an entry before the segment's last retires
without launching; its flag counts one more, where it names one, no flag is poisoned and nothing else of the core changes but its head
(R314 to R320). -/
def Obligations.StepsDecide : Prop :=
  (∀ (c : Fin 512) (s : State) (e : QWord), commitHead (core s c) = some e → resident s ≠ 0 →
    stepState s (resident s) = Step.idle → coreOffline s c = false →
    Answers (.commit c) s (fun t => stepState t (resident s) = Step.collecting
      ∧ rf t .context (resident s) Off.contextStepStatus 8 8 = commitGroup e ∧ onlyRegs s t))
  ∧ (∀ (c : Fin 512) (s : State) (e : QWord) (drop : Bool), launches s c .commit e → onTime s c e →
    (core s c).alm.commit = some drop →
    Answers (.commit c) s (fun t => movedOn c s t ∧ (core t c).alm.skip = drop ∧ otherCores c s t))
  ∧ (∀ (s : State) (es : List QWord), commits s = some es → resident s ≠ 0 → stepState s (resident s) < Step.waiting →
    (countedCores s).any (fun e => sumPending e.2 (commitGroup (es.headD 0))) = false → contextStays s = true →
    Answers .stepReady s (fun t => rf t .context (resident s) Off.contextStepStatus 4 2 = verdict s es
      ∧ (verdict s es ≠ 0 → stepState t (resident s) = Step.waiting
          ∧ contextStep t (resident s) = contextStep s (resident s) ∧ t.cores = s.cores)
      ∧ (verdict s es = 0 → stepState t (resident s) = Step.idle
          ∧ contextStep t (resident s) = contextStep s (resident s) + 1)))
  ∧ (∀ (s : State) (c : Nat), hostReady s .context → shownInstance s .context = c → c ≠ 0 → stepState s c = Step.waiting →
    resident s = c →
    Answers .stepGo s (fun t => stepState t c = Step.idle ∧ contextStep t c = contextStep s c + 1
      ∧ rbit t .context c Off.contextStepStatus 3 = false))
  ∧ (∀ (s : State) (c : Nat), hostReady s .context → shownInstance s .context = c → c ≠ 0 → stepState s c = Step.waiting →
    resident s ≠ c →
    Answers .stepGo s (fun t => reg t .context c Off.contextStepCmd = 1 ∧ stepState t c = Step.waiting ∧ onlyRegs s t))
  ∧ (∀ (s : State) (c : Nat), hostReady s .context → shownInstance s .context = c → c ≠ 0 → stepState s c = Step.waiting →
    resident s = c →
    Answers .stepDrop s (fun t => stepState t c = Step.dropping ∧ contextStep t c = contextStep s c ∧ onlyRegs s t))
  ∧ (∀ s : State, resident s ≠ 0 → stepState s (resident s) = Step.dropping →
    heldPages s (dropPages s (rf s .context (resident s) Off.contextStepStatus 8 8)) = [] →
    (∀ p ∈ dropPages s (rf s .context (resident s) Off.contextStepStatus 8 8), addrTesting s (p * 2 ^ 21) = false) →
    Answers .stepDropDone s (fun t => stepState t (resident s) = Step.idle
      ∧ contextStep t (resident s) = contextStep s (resident s) + 1
      ∧ rbit t .context (resident s) Off.contextStepStatus 3 = true
      ∧ ∀ c, ∀ d ∈ (core t c).drops, d.group ≠ rf s .context (resident s) Off.contextStepStatus 8 8))
  ∧ (∀ (c : Fin 512) (s : State) (e : QWord) (b : Bool), (core s c).alm.headEntry = some e → (core s c).alm.active = some b →
      (core s c).alm.skip = true → (core s c).alm.state = .running ∨ (core s c).alm.state = .starved →
      coreMayLaunch s c = true → (core s c).alm.head + 1 ≠ ((core s c).alm.bank b).entries.length →
      opOfCode (entOp e) ≠ some .variant → opOfCode (entOp e) ≠ some .switch → opOfCode (entOp e) ≠ some .loop →
      Answers (.entrySkip c) s (fun t => movedOn c s t
        ∧ (∀ f, skipFlag e = some f → tget 0 f (core t c).flags = tget 0 f (core s c).flags + 1)
        ∧ (∀ f, skipFlag e ≠ some f → tget 0 f (core t c).flags = tget 0 f (core s c).flags)
        ∧ (core t c).flagPoison = (core s c).flagPoison ∧ (core t c).ops = (core s c).ops
        ∧ otherCores c s t ∧ ∃ k, t = { s with cores := k }))

/-- GATE_ARM and GATE_DISARM of a gate whose old and new owners do not run: the gate takes COUNT, PHASE0 and OWNER and is ARMED
with nothing ARRIVED, or IDLE; of a context that runs they are refused with 0x08. TALLY_CLEAR leaves each named slot CLEAR and the
others as they are (R66, R67, R138). -/
def Obligations.GatesAndTallyWritten : Prop :=
  (∀ (v : BitVec 31) (s : State) (c g : Nat), hostReady s .core → shownInstance s .core = c →
    rf s .core c Off.coreGateSel 0 6 = g → g < 48 → fld v.toNat 21 10 = 0 → fld v.toNat 0 15 ≠ 0 →
    contextRuns s (gateOf (core s c) g).owner.toNat = false → contextRuns s (fld v.toNat 16 5) = false →
    coreOffline s c = false →
    Answers (.gateArm v) s (fun t => gateOf (core t c) g = { gateOf (core s c) g with
        count := BitVec.ofNat 15 (fld v.toNat 0 15), phase0 := v.toNat.testBit 15, owner := BitVec.ofNat 5 (fld v.toNat 16 5),
        arm := true, arrived := 0, phase := v.toNat.testBit 15, state := .armed }
      ∧ (∀ h, h ≠ g → gateOf (core t c) h = gateOf (core s c) h) ∧ otherCores c s t ∧ ∃ k, t = { s with cores := k }))
  ∧ (∀ (v : BitVec 31) (s : State) (c g : Nat), hostReady s .core → shownInstance s .core = c →
    rf s .core c Off.coreGateSel 0 6 = g → g < 48 → fld v.toNat 21 10 = 0 →
    contextRuns s (gateOf (core s c) g).owner.toNat = false → contextRuns s (fld v.toNat 16 5) = false →
    Answers (.gateDisarm v) s (fun t => (gateOf (core t c) g).state = .idle
      ∧ (gateOf (core t c) g).arrived = (gateOf (core s c) g).arrived
      ∧ (∀ h, h ≠ g → gateOf (core t c) h = gateOf (core s c) h) ∧ otherCores c s t ∧ ∃ k, t = { s with cores := k }))
  ∧ (∀ (v : BitVec 31) (s : State) (c g : Nat), hostReady s .core → shownInstance s .core = c → c < 512 →
    rf s .core c Off.coreGateSel 0 6 = g → fld v.toNat 21 10 = 0 → fld v.toNat 0 15 ≠ 0 →
    contextRuns s (gateOf (core s c) g).owner.toNat = true →
    Answers (.gateArm v) s (fun t => t.cores = s.cores ∧ rf t .core c Off.status 8 8 = 0x08 ∧ onlyRegs s t))
  ∧ (∀ (v : BitVec 32) (s : State) (c : Nat), hostReady s .core → shownInstance s .core = c → v.toNat < 2 ^ 16 →
    contextRuns s (resident s) = false →
    Answers (.tallyClear v) s (fun t => (∀ k, k < 16 → slotState (core t c) k
        = if v.toNat.testBit k then .clear else slotState (core s c) k)
      ∧ (core t c).tiles = (core s c).tiles ∧ otherCores c s t ∧ ∃ k, t = { s with cores := k }))

/-! ## Contexts, keys and wipes (R357 to R373) -/

/-- CONTEXT_SWITCH_REQ that passes its check: the resident context is asked to switch out, or with none resident the next one begins
to restore; one that fails is refused with its code; and one of the resident context does nothing, a switch in progress or not (the
latter is the model's reading, log entry 121). SWITCH_OUT once every core stands at its switch point, or FORCED_OFF 25,000 ticks
after the request, leaves no arrival queued and starts the drain; SAVE_START follows with nothing in flight, and a context that was
forced off leaves then without an image; SAVE_DONE leaves the context READY with its image and no work of it on any core, its gates
in place; RESTORE_DONE makes the chosen context RESIDENT (R77, R359 to R363). -/
def Obligations.ContextsSwitch : Prop :=
  (∀ (n : BitVec 5) (s : State), s.checks = [] → switchCheck s n.toNat = 0 → n.toNat ≠ resident s → resident s ≠ 0 →
    Answers (.contextSwitchReq n) s (fun t => t.switch = ⟨.requested, n.toNat, s.time, .context⟩ ∧ resident t = resident s
      ∧ rbit t .global 0 Off.globalRun 17 = true ∧ t.cores = s.cores))
  ∧ (∀ (n : BitVec 5) (s : State), s.checks = [] → switchCheck s n.toNat = 0 → resident s = 0 →
    Answers (.contextSwitchReq n) s (fun t => t.switch = ⟨.restoring, n.toNat, s.time, .context⟩
      ∧ ctxState t n.toNat = Ctx.restoring ∧ resident t = 0 ∧ t.cores = s.cores))
  ∧ (∀ (n : BitVec 5) (s : State), s.checks = [] → switchCheck s n.toNat ≠ 0 → n.toNat ≠ resident s →
    Answers (.contextSwitchReq n) s (fun t => rf t .global 0 Off.status 8 8 = switchCheck s n.toNat ∧ resident t = resident s
      ∧ onlyRegs s t))
  ∧ (∀ (n : BitVec 5) (s : State), s.checks = [] → n.toNat ≠ 0 → n.toNat = resident s →
    Answers (.contextSwitchReq n) s (fun t => otherRegs [regKey .global 0 Off.globalRun] s t ∧ resident t = resident s
      ∧ onlyRegs s t))
  ∧ (∀ s : State, s.switch.phase = .requested → notAtPoint s = [] →
    Answers .switchOut s (fun t => t.switch.phase = .draining ∧ (∀ c, (core t c).arrivals = []) ∧ resident t = resident s))
  ∧ (∀ s : State, s.switch.phase = .requested → notAtPoint s ≠ [] → s.switch.since.toNat + 25000 ≤ s.time.toNat →
    Answers .forcedOff s (fun t => t.switch.phase = .draining ∧ (∀ c, (core t c).arrivals = []) ∧ resident t = resident s))
  ∧ (∀ s : State, s.switch.phase = .draining → s.switch.goal ≠ .lost → s.cores.all (fun x => x.2.ops.isEmpty) = true →
    Answers .saveStart s (fun t => t.switch.phase = .saving ∧ ctxState t (resident s) = Ctx.saving
      ∧ ∀ c, (core t c).alm = (core s c).alm ∧ (core t c).gates = (core s c).gates ∧ (core t c).flags = (core s c).flags
        ∧ (core t c).vec = (core s c).vec ∧ (core t c).mxRuns.map MatrixRun.desc = (core s c).mxRuns.map MatrixRun.desc))
  ∧ (∀ s : State, s.switch.phase = .draining → s.switch.goal = .lost → s.cores.all (fun x => x.2.ops.isEmpty) = true →
    s.partWaiting = [] → resident s < 32 →
    Answers .saveStart s (fun t => resident t = 0 ∧ ctxState t (resident s) = Ctx.ready ∧ ctxSaved t (resident s) = false
      ∧ ∀ c, (core t c).alm = .reset ∧ (core t c).ops = [] ∧ (core t c).gates = (core s c).gates))
  ∧ (∀ s : State, s.switch.phase = .saving → (List.range 4).any (bondTesting s) = false → s.switch.next ≠ resident s →
    Answers .saveDone s (fun t => ctxState t (resident s) = Ctx.ready ∧ ctxSaved t (resident s) = true ∧ resident t = 0
      ∧ (∀ c, c < 512 → tget Core.reset (512 * resident s + c) t.saved = savedCore (core s c) (resident s))
      ∧ ∀ c, (core t c).alm = .reset ∧ (core t c).ops = [] ∧ (core t c).gates = (core s c).gates))
  ∧ (∀ s : State, s.switch.phase = .restoring → (List.range 4).any (bondTesting s) = false → powerState s = 0 →
    tripped s = false → s.switch.next < 32 →
    Answers .restoreDone s (fun t => resident t = s.switch.next ∧ ctxState t s.switch.next = Ctx.resident
      ∧ ctxSaved t s.switch.next = false ∧ t.switch.phase = .idle
      ∧ (ctxSaved s s.switch.next = false → ∀ c, (core t c).alm = .reset)))

/-- CONTEXT_RESET leaves its context RESETTING and quarantined, its keys destroyed and, where it was resident, none resident; the
wipe it begins ends with WIPE_DONE, which leaves the context FREE. WIPE_DONE of the device's wipe clears WIPING. ASSIGN_SLOT gives the
slot that SEL names a fresh key and its owner; RELEASE_SLOT destroys the key and frees the slot, unless its owner is RESIDENT, RESTORING
or SAVING; with the entropy source failed no key is drawn (R351, R366 to R369, R372, R373). -/
def Obligations.ContextsAndKeys : Prop :=
  (∀ (s : State) (c : Nat), hostReady s .context → shownInstance s .context = c → c ≠ 0 → c < 32 →
    ctxState s c ≠ Ctx.resetting →
    Answers .contextReset s (fun t => ctxState t c = Ctx.resetting ∧ quarantined t c = true ∧ ctxSaved t c = false
      ∧ (.context c, s.time) ∈ t.wipes ∧ (resident s = c → resident t = 0)
      ∧ (∀ k, 1 ≤ k → k < 64 → slotAssigned s k = true → slotOwner s k = c → slotAssigned t k = false)))
  ∧ (∀ (index : Nat) (s : State) (c : Nat) (since : DWord) (rest : List (WipeScope × DWord)),
    takeAt s.wipes index = some ((.context c, since), rest) → c < 32 →
    Answers (.wipeDone index) s (fun t => t.wipes = rest ∧ ctxState t c = Ctx.free ∧ t.cores = s.cores))
  ∧ (∀ (index : Nat) (s : State) (since : DWord), takeAt s.wipes index = some ((.device, since), []) → 5 ≤ dawnStep s →
    Answers (.wipeDone index) s (fun t => t.wipes = [] ∧ rbit t .global 0 Off.status 3 = false ∧ sameMemory s t
      ∧ t.cores = s.cores))
  ∧ (∀ (owner : BitVec 5) (s : State) (k : Nat), hostOpen s .keys = true → rf s .keys 0 Off.keysSel 0 6 = k → k ≠ 0 → owner ≠ 0 →
    entropyFailed s = false → slotAssigned s k = false →
    Answers (.assignSlot owner) s (fun t => slotAssigned t k = true ∧ slotOwner t k = owner.toNat
      ∧ tget 0 k t.keyDraws = s.draws + 1 ∧ (∀ j, j ≠ k → tget 0 j t.keyDraws = tget 0 j s.keyDraws)
      ∧ t.draws = s.draws + 1 ∧ sameMemory s t))
  ∧ (∀ (owner : BitVec 5) (s : State), hostOpen s .keys = true → rf s .keys 0 Off.keysSel 0 6 ≠ 0 → owner ≠ 0 →
    entropyFailed s = true →
    Answers (.assignSlot owner) s (fun t => rf t .keys 0 Off.status 8 8 = 0x40 ∧ t.keyDraws = s.keyDraws ∧ onlyRegs s t))
  ∧ (∀ (s : State) (k : Nat), hostOpen s .keys = true → rf s .keys 0 Off.keysSel 0 6 = k → k ≠ 0 →
    (slotAssigned s k = true → ctxState s (slotOwner s k) = Ctx.free ∨ ctxState s (slotOwner s k) = Ctx.ready
      ∨ ctxState s (slotOwner s k) = Ctx.resetting) →
    Answers .releaseSlot s (fun t => slotAssigned t k = false ∧ tget 0 k t.keyDraws = s.draws + 1 ∧ sameMemory s t))
  ∧ (∀ s : State, Answers .entropyFail s (fun t => entropyFailed t = true ∧ t.keyDraws = s.keyDraws ∧ onlyDevice s t))

/-! ## The Watch, harvests and refills (R330 to R354) -/

/-- A harvest may start for the resident context at a HARVEST entry: HARVEST is enabled, HARVEST.CTRL.CTX is the context, no harvest is
under way, no refill or source is of that context, and no image refill holds the staging page (R334, R335, R354). -/
def entryStarts (s : State) : Prop :=
  enabled s .harvest 0 = true ∧ rf s .harvest 0 Off.ctrl 8 5 = resident s ∧ s.harvest = none
    ∧ (∀ r, s.refill = some r → r.ctx ≠ resident s) ∧ (∀ r, s.serve = some r → r.ctx ≠ resident s) ∧ stagingTaken s = false

/-- WATCH_PERIOD: the windowed accumulators decay and take their events, link corrections by the 65,536 with the remainder kept,
input 6 is the worst life, and LEVEL is what R331 makes of them (R330, R331). Once every counted core has a HARVEST entry at its head
that may launch and nothing of the context is in flight, the entries of all counted cores launch together, and a harvest starts
exactly when one may (R332, R334, R335). HARVEST_ARM at a step boundary with a harvest wanted starts one: every page to be copied has
its bit, LAST_TICK is BELLTIME (R332, R338). PAGE_COPY_DONE clears its page's bit; a write that has waited STALL_LIMIT ticks aborts
the harvest, which leaves no page to copy (R340, R341, R345). -/
def Obligations.WatchAndHarvest : Prop :=
  (∀ s s0 : State, s.time.toNat % 2 ^ 24 = 0 → fireOnce s 2 = some s0 →
    Answers .watchPeriod s (fun t => rf t .watch 0 Off.watchLevel 0 8 = min 255 (((List.range 7).map (fun i =>
          rf s .watch 0 (Off.watchWeight + 4 * i) 0 16 * min (watchAcc t i) (2 ^ 24 - 1))).sum / 2 ^ 20)
      ∧ (∀ i, i < 6 → watchAcc t i = accStep (rf s .watch 0 Off.ctrl 0 4) (watchAcc s i)
            (tget 0 i s.watchEvents / if i = 1 then 65536 else 1)
          ∧ tget 0 i t.watchEvents = if i = 1 then tget 0 i s.watchEvents % 65536 else 0)
      ∧ watchAcc t 6 = worstLife s / 2 ^ 8 ∧ sameMemory s t ∧ t.cores = s.cores))
  ∧ (∀ (c : Fin 512) (s : State) (e : QWord), readyEntry s c .harvest = some e →
    waitForeign (core s c) (resident s) e = false → (∀ r, s.harvest = some r → r.ctx ≠ resident s) →
    boundaryHeads s true = true → boundaryQuiet s = true →
    Answers (.harvest c) s (fun t =>
      (∀ d, d ∈ (countedCores s).map Prod.fst → movedOn d s t)
      ∧ (∀ d, d ∉ (countedCores s).map Prod.fst → core t d = core s d)
      ∧ (entryStarts s → ∃ r, t.harvest = some r ∧ r.ctx = resident s ∧ r.step = contextStep s (resident s) ∧ r.time = s.time)
      ∧ (¬ entryStarts s → t.harvest = s.harvest)))
  ∧ (∀ s : State, s.harvestWanted = true → boundaryHeld s = true → s.harvest = none → boundaryHeads s false = true →
    boundaryQuiet s = true →
    Answers .harvestArm s (fun t => (∃ r, t.harvest = some r ∧ r.ctx = resident s ∧ r.step = contextStep s (resident s) ∧ r.time = s.time)
      ∧ t.harvestWanted = false ∧ t.harvestDue = false
      ∧ reg64 t .harvest 0 Off.harvestLastTickLo = s.time ∧ t.cores = s.cores
      ∧ (∀ p, p ∈ t.copyPages ↔ p ∈ s.copyPages ∨ p ∈ (harvestRows s (resident s)).map PageRow.page)))
  ∧ (∀ (die : Fin 4) (s : State) (r : HarvestRun) (p k : Nat), s.harvest = some r → nextCopy s die.val = some p →
    freeStage s r die.val = some k → bondTesting s die.val = false → addrWaits s (p * 2 ^ 21) = false →
    Answers (.pageCopyDone die) s (fun t => t.copyPages = s.copyPages.filter (fun q => q != p)))
  ∧ (∀ (page : Nat) (s : State), s.harvest.isSome = true → tget 0 page s.touches ≠ 0 →
    tget 0 page s.touches - 1 + rf s .harvest 0 Off.harvestStallLimit 0 24 ≤ s.time.toNat →
    Answers (.harvestStallLimit page) s (fun t => t.harvest = none ∧ t.copyPages = []))

/-- PREPARE readies a refill of its KIND and context; START runs one from an image; ABORT ends it, and SOURCE_SILENT one that has
heard nothing for REFILL_TIMEOUT ticks: it is ABORTED and its landing counts return to 0; ACK returns to IDLE; SERVE makes this unit a
source with one write of 512 B for each part of each replicated page; a command out of place is refused with 0x40 (R346 to R348). -/
def Obligations.RefillsRun : Prop :=
  (∀ (kind : BitVec 2) (ctx : BitVec 5) (s : State), hostReady s .harvest → kind ≠ 3 → ctx ≠ 0 →
    contextRuns s ctx.toNat = false → refillState s = 0 → s.harvest.any (fun r => r.ctx == ctx.toNat) = false →
    Answers (.prepare kind ctx) s (fun t => refillState t = 1
      ∧ (∃ r, t.refill = some r ∧ r.kind = kind.toNat ∧ r.ctx = ctx.toNat ∧ r.phase = .waiting
        ∧ r.epoch = reg s .harvest 0 Off.harvestRefillEpoch) ∧ sameMemory s t ∧ t.cores = s.cores))
  ∧ (∀ (kind : BitVec 2) (ctx : BitVec 5) (s : State), hostReady s .harvest → kind ≠ 3 → ctx ≠ 0 →
    contextRuns s ctx.toNat = false → refillState s ≠ 0 →
    Answers (.prepare kind ctx) s (fun t => rf t .harvest 0 Off.status 8 8 = 0x40 ∧ onlyRegs s t))
  ∧ (∀ (s : State) (r : RefillRun), hostReady s .harvest → s.refill = some r → refillState s = 1 → r.kind ≠ 0 → stagingBusy s = false →
    Answers .start s (fun t => refillState t = 2 ∧ (∃ q, t.refill = some q ∧ q.phase = .header ∧ q.ctx = r.ctx
      ∧ q.last = s.time) ∧ sameMemory s t ∧ t.cores = s.cores))
  ∧ (∀ s : State, hostReady s .harvest → s.refill.isSome = true →
    Answers .abort s (fun t => refillState t = 4 ∧ t.refill = none ∧ t.landings = [] ∧ t.validPages = s.validPages
      ∧ outsideRegions s t ∧ t.cores = s.cores))
  ∧ (∀ (s : State) (r : RefillRun), s.refill = some r → refillState s = 2 →
    r.last.toNat + rf s .harvest 0 Off.harvestRefillTimeout 0 24 ≤ s.time.toNat →
    Answers .sourceSilent s (fun t => refillState t = 4 ∧ t.refill = none ∧ t.landings = []
      ∧ rf t .harvest 0 Off.harvestRefillState 4 4 = 1 ∧ outsideRegions s t))
  ∧ (∀ s : State, hostReady s .harvest → refillState s = 3 ∨ refillState s = 4 →
    Answers .ack s (fun t => refillState t = 0 ∧ onlyRegs s t))
  ∧ (∀ (ctx : BitVec 5) (s : State), hostReady s .harvest → ctx ≠ 0 → refillState s = 0 → harvesting s ctx.toNat = false →
    Gr.epoch (groupEntry s (rf s .harvest 0 Off.harvestRefillGroup 0 8)) = (reg s .harvest 0 Off.harvestRefillEpoch).toNat →
    contextRuns s (resident s) = false → pagesWhere s ctx.toNat entReplicated ≠ [] →
    Answers (.serve ctx) s (fun t => refillState t = 5
      ∧ t.serve = some ⟨ctx.toNat, 4096 * (pagesWhere s ctx.toNat entReplicated).length⟩ ∧ sameMemory s t))

/-- SMART_REFRESH asks the drive for its SMART log each 2²⁸ ticks; its completion shows the log; a harvest command that fails or
stays unanswered for CMD_TIMEOUT aborts the harvest. RESCAN latches what the bring-up finds, and is refused while PANTRY is enabled. A
drive's read or write of the buffer of a command reaches it; any other completes with Unsupported Request (R410, R411, R477). -/
def Obligations.PantryDrive : Prop :=
  (∀ s s1 : State, s.time.toNat % 2 ^ 28 = 0 → enabled s .pantry 0 = true → fireOnce s 3 = some s1 → pantryTakes s = true →
    (s.nvme.filter (fun x => x.queue == 4)).length < 255 → s.nvmeWait.any (fun x => x.queue == 4) = false →
    Answers .smartRefresh s (fun t => t.nvme = s.nvme ++ [⟨4, .smart, 0, 0, s.time⟩] ∧ t.outputs = s.outputs ++ [.nvme 4 0]
      ∧ t.regs = s.regs ∧ t.cores = s.cores))
  ∧ (∀ (index : Nat) (log : BitVec 16) (s : State) (c : NvmeCmd) (rest : List NvmeCmd),
    takeAt s.nvme index = some (c, rest) → c.op = .smart →
    Answers (.pantryCompletion index 0 log) s (fun t => reg t .pantry 0 Off.pantrySmart = log.setWidth 32
      ∧ (s.nvmeWait = [] → t.nvme = rest) ∧ sameMemory s t ∧ t.cores = s.cores))
  ∧ (∀ (index : Nat) (status log : BitVec 16) (s : State) (c : NvmeCmd) (rest : List NvmeCmd),
    takeAt s.nvme index = some (c, rest) → status ≠ 0 → harvestCmd c = true → c.queue ≠ 3 →
    Answers (.pantryCompletion index status log) s (fun t => t.harvest = none))
  ∧ (∀ (index : Nat) (s : State) (c : NvmeCmd) (rest : List NvmeCmd), takeAt s.nvme index = some (c, rest) →
    harvestCmd c = true → c.queue ≠ 3 →
    c.since.toNat + rf s .pantry 0 Off.pantryCmdTimeout 0 24 ≤ s.time.toNat →
    Answers (.pantryCmdTimeout index) s (fun t => t.harvest = none))
  ∧ (∀ (d : DriveReport) (s : State), hostReady s .pantry → enabled s .pantry 0 = false →
    Answers (.rescan d) s (fun t => reg64 t .pantry 0 Off.pantryCapLo = d.blocks
      ∧ rbit t .pantry 0 Off.pantryDrive 0 = d.present ∧ rbit t .pantry 0 Off.pantryDrive 1 = d.lba4k
      ∧ rf t .pantry 0 Off.pantryDrive 8 8 = d.mdts.toNat ∧ onlyRegs s t))
  ∧ (∀ (d : DriveReport) (s : State), hostReady s .pantry → enabled s .pantry 0 = true →
    Answers (.rescan d) s (fun t => rf t .pantry 0 Off.status 8 8 = 0x08
      ∧ reg64 t .pantry 0 Off.pantryCapLo = reg64 s .pantry 0 Off.pantryCapLo ∧ onlyRegs s t))
  ∧ (∀ (a : Nat) (data : List Byte) (s : State) (c : NvmeCmd), bufferOf s .read a data.length = some c →
    Answers (.driveMemoryRequest (.write a data)) s (fun t =>
      t.mem = (writeMem s 0 a data.length (ofBytes data)).mem ∧ t.cores = s.cores ∧ t.nvme = s.nvme))
  ∧ (∀ (a n : Nat) (s : State) (c : NvmeCmd), bufferOf s .write a n = some c →
    Answers (.driveMemoryRequest (.read a n)) s (fun t => t.outputs.getLast? = some (.driveData (bufferBytes s c a n).2)
      ∧ t.cores = s.cores ∧ t.nvme = s.nvme))
  ∧ (∀ (a n : Nat) (s : State), bufferOf s .write a n = none →
    Answers (.driveMemoryRequest (.read a n)) s (fun t => t = { s with outputs := s.outputs ++ [.driveUnsupported] }))

/-! ## Tilby ports (R241 to R270) -/

/-- What a port that goes DOWN shows: no keys, nothing buffered, its LOSS bit set, and DOWN, or DETECT while its page is enabled. -/
def portLost (p : Nat) (s t : State) : Prop :=
  (portOf t p).keys = none ∧ (portOf t p).buffer = [] ∧ rbit t .lanemap 0 Off.lanemapLoss p = true
    ∧ portState t p = (if enabled s .port p then Link.detect else Link.down) ∧ otherPorts p s t ∧ t.cores = s.cores

/-- Training: LANE_SIGNAL_DETECT takes a port from DETECT to TRAIN; TRAIN_COMPLETE reports its mask; once both masks are known the
first lane set of R247 takes it to ALIGN; FEC_LOCK puts the set in use and enters NEGOTIATE with 4 credits on VC 3; NEGOTIATE
goes on to SECURE where either end requires encryption, or to ACTIVE, and DOWN where they cannot agree; SECURE's last message makes the
port ACTIVE under its keys; a training phase beyond its bound returns to DETECT (R245 to R249, R258, R262, R264). -/
def Obligations.PortsTrain : Prop :=
  (∀ (p : Fin 32) (s : State), linkOff s = false → portState s p = Link.detect →
    Answers (.laneSignalDetect p) s (fun t => portState t p = Link.train ∧ (portOf t p).since = s.time ∧ otherPorts p s t
      ∧ sameMemory s t ∧ t.cores = s.cores))
  ∧ (∀ (p : Fin 32) (good : BitVec 8) (s : State), linkOff s = false → portState s p = Link.train →
    (portOf s p).mask = none → (portOf s p).peerMask = none →
    Answers (.trainComplete p good) s (fun t => portState t p = Link.train ∧ (portOf t p).mask = some good
      ∧ t.outputs = s.outputs ++ [.laneReport p.val 0xFF good (BitVec.ofNat 2 (rf s .port p Off.portCfg 0 2))]
      ∧ otherPorts p s t))
  ∧ (∀ (p : Fin 32) (mask : BitVec 8) (w : BitVec 2) (s : State) (m set : BitVec 8), linkOff s = false →
    portState s p = Link.train → (portOf s p).mask = some m → (portOf s p).chosen = none →
    chooseLanes (m &&& mask) (max (minLanes (rf s .port p Off.portCfg 0 2)) (minLanes w.toNat)) 8 = some set →
    Answers (.laneReport p mask w) s (fun t => portState t p = Link.align ∧ (portOf t p).chosen = some set
      ∧ otherPorts p s t))
  ∧ (∀ (p : Fin 32) (mask : BitVec 8) (w : BitVec 2) (s : State) (m : BitVec 8), linkOff s = false →
    portState s p = Link.train → (portOf s p).mask = some m → (portOf s p).chosen = none →
    chooseLanes (m &&& mask) (max (minLanes (rf s .port p Off.portCfg 0 2)) (minLanes w.toNat)) 8 = none →
    Answers (.laneReport p mask w) s (portLost p s))
  ∧ (∀ (p : Fin 32) (s : State) (m : BitVec 8), linkOff s = false → portState s p = Link.align → (portOf s p).chosen = some m →
    Answers (.fecLock p) s (fun t => portState t p = Link.negotiate ∧ rf t .port p Off.portStatus 16 8 = m.toNat
      ∧ (portOf t p).peerSize = [(3, 4)] ∧ otherPorts p s t))
  ∧ (∀ (p : Fin 32) (s s1 : State) (msg : LocalMsg), linkOff s = false → portState s p = Link.negotiate →
    (portOf s p).negSeen = false → takeLocal s p 0xF4 = some (msg, s1) → negotiateBad (portOf s p) msg.slot.toNat = false →
    rbit s .keys 0 Off.status 0 = false →
    Answers (.negotiate p) s (fun t =>
      (portEncReq s p = true → msg.slot.toNat.testBit 25 = false → portLost p s t)
      ∧ (portEncReq s p = true → msg.slot.toNat.testBit 25 = true → portState t p = Link.secure)
      ∧ (portEncReq s p = false → msg.slot.toNat.testBit 24 = true → portState t p = Link.secure)
      ∧ (portEncReq s p = false → msg.slot.toNat.testBit 24 = false → portState t p = Link.active ∧ (portOf t p).sent = []
          ∧ (portOf t p).freed = [])
      ∧ rf t .port p Off.portPeer 0 14 = fld msg.slot.toNat 32 14 ∧ otherPorts p s t))
  ∧ (∀ (p : Fin 32) (s s1 : State) (msg : LocalMsg), linkOff s = false → portState s p = Link.secure →
    takeLocal s p 0xF3 = some (msg, s1) → msg.slot.toNat.testBit 9 = false →
    Answers (.secure p) s (fun t => portState t p = Link.secure ∧ (portOf t p).spdm = (portOf s p).spdm
      ∧ (portOf t p).fragment = (if msg.slot.toNat.testBit 8 then [] else (portOf s p).fragment)
          ++ toBytes (min (fld msg.slot.toNat 16 16) 12) (msg.slot.toNat / 2 ^ 32) ∧ otherPorts p s t))
  ∧ (∀ (p : Fin 32) (s s1 : State) (msg : LocalMsg) (whole : List Byte), linkOff s = false → portState s p = Link.secure →
    takeLocal s p 0xF3 = some (msg, s1) → msg.slot.toNat.testBit 9 = true →
    whole = (if msg.slot.toNat.testBit 8 then [] else (portOf s p).fragment)
      ++ toBytes (min (fld msg.slot.toNat 16 16) 12) (msg.slot.toNat / 2 ^ 32) →
    Answers (.secure p) s (fun t => (portOf t p).fragment = [] ∧ (portOf t p).spdm = (portOf s p).spdm ++ [whole]
      ∧ otherPorts p s t
      ∧ match Config.spdmSecret ((portOf s p).spdm ++ [whole]) with
        | none => portState t p = Link.secure
        | some (peer, secret) => portState t p = Link.active ∧ rf t .port p Off.portStatus 24 2 = 1
            ∧ (portOf t p).keys = some ⟨decide (Config.provisionedId.toNat < peer.toNat), ⟨0, secret, 0⟩, ⟨0, secret, 0⟩, false⟩))
  ∧ (∀ (p : Fin 32) (s : State) (n : Nat), linkOff s = false → phaseBound (portState s p) = some n →
    portState s p ≠ Link.retrain → (portOf s p).since.toNat + n < s.time.toNat →
    Answers (.phaseTimeout p) s (fun t => portState t p = Link.detect ∧ (portOf t p).mask = none
      ∧ reg t .port p Off.portRetrainCount = satInc (reg s .port p Off.portRetrainCount) ∧ otherPorts p s t))

/-- RETRAIN: a failing lane in use, or the peer's report, takes an ACTIVE port there and counts, and the set chosen is no wider than
the one in use; RETRAIN_DONE returns the port to its state before at the set chosen and replays what is unacknowledged; a RETRAIN beyond its bound, a silent peer, and PORT_RETRAIN of a port that carries
anything take it DOWN, which sets its LOSS bit and discards its buffers and keys. PORT_REKEY and the 2³² flit positions of a
generation move the transmitter to the next (R248, R249, R265, R292). -/
def Obligations.PortsRetrain : Prop :=
  (∀ (p : Fin 32) (lane : Fin 8) (s : State), linkOff s = false → portState s p = Link.active →
    rbit s .port p Off.portStatus (16 + lane.val) = true →
    Answers (.laneFail p lane) s (fun t => portState t p = Link.retrain
      ∧ (∃ m, (portOf t p).mask = some m ∧ m.getLsbD lane = false)
      ∧ reg t .port p Off.portRetrainCount = satInc (reg s .port p Off.portRetrainCount)
      ∧ (portOf t p).buffer = (portOf s p).buffer ∧ otherPorts p s t))
  ∧ (∀ (p : Fin 32) (mask : BitVec 8) (w : BitVec 2) (s : State) (set : BitVec 8), linkOff s = false →
    portState s p = Link.active →
    chooseLanes (BitVec.ofNat 8 (rf s .port p Off.portStatus 8 8) &&& mask)
      (max (minLanes (rf s .port p Off.portCfg 0 2)) (minLanes w.toNat)) (popCount 8 (rf s .port p Off.portStatus 16 8)) = some set →
    Answers (.laneReport p mask w) s (fun t => portState t p = Link.retrain ∧ (portOf t p).chosen = some set
      ∧ reg t .port p Off.portRetrainCount = satInc (reg s .port p Off.portRetrainCount) ∧ otherPorts p s t))
  ∧ (∀ (p : Fin 32) (s : State) (m : BitVec 8), linkOff s = false → portState s p = Link.retrain →
    (portOf s p).chosen = some m →
    Answers (.retrainDone p) s (fun t => portState t p = (portOf s p).resume % 16 ∧ rf t .port p Off.portStatus 16 8 = m.toNat
      ∧ (portOf t p).replayAt = (if (portOf s p).buffer = [] then none else some 0)
      ∧ (portOf t p).buffer = (portOf s p).buffer ∧ (portOf t p).keys = (portOf s p).keys ∧ otherPorts p s t))
  ∧ (∀ (p : Fin 32) (s : State), linkOff s = false → portState s p = Link.retrain →
    (portOf s p).since.toNat + 12500 < s.time.toNat → Answers (.phaseTimeout p) s (portLost p s))
  ∧ (∀ (p : Fin 32) (s : State), linkOff s = false → portState s p = Link.active ∨ portState s p = Link.retrain →
    Answers (.peerSilent p) s (portLost p s))
  ∧ (∀ (s : State) (p : Nat), hostReady s .port → shownInstance s .port = p → p < 32 → enabled s .port p = true →
    linkOff s = false → portState s p ≠ Link.down → portState s p ≠ Link.detect → Answers .portRetrain s (portLost p s))
  ∧ (∀ (s : State) (p : Nat) (ks : PortKeys), hostReady s .port → shownInstance s .port = p → p < 32 →
    enabled s .port p = true → linkOff s = false → portState s p = Link.active → (portOf s p).keys = some ks →
    Answers .portRekey s (fun t => (portOf t p).keys = some { ks with tx := ⟨ks.tx.number + 1, portNext ks.tx.secret, 0⟩ }
      ∧ rf t .port p Off.portStatus 25 1 = (ks.tx.number + 1) % 2 ∧ portState t p = Link.active ∧ otherPorts p s t))
  ∧ (∀ (p : Fin 32) (s : State) (ks : PortKeys), linkOff s = false → (portOf s p).keys = some ks →
    2 ^ 32 ≤ ks.tx.position →
    Answers (.rekeyLimit p) s (fun t =>
      (portOf t p).keys = some { ks with tx := ⟨ks.tx.number + 1, portNext ks.tx.secret, 0⟩ }
      ∧ rf t .port p Off.portStatus 25 1 = (ks.tx.number + 1) % 2 ∧ otherPorts p s t))

/-- FLIT_TRANSMIT of a port that runs flits sends one, and after it the alignment markers and codewords that it completes; a DATA flit
takes the next SEQ and stays buffered until it is acknowledged; a flit with a codeword of more than 15 wrong symbols or a bad CRC is
discarded whole and a NAK becomes due; a good DATA flit with the SEQ expected is accepted and the next is expected;
REPLAY_TIMEOUT replays from the oldest unacknowledged flit (R242 to R244, R250 to R255). -/
def Obligations.FlitsMove : Prop :=
  (∀ (p : Fin 32) (frac : BitVec 8) (s : State), linkOff s = false → flitsRun s p = true →
    Answers (.flitTransmit p frac) s (fun t => (∃ bits blocks, t.outputs = s.outputs ++ .flit p.val bits :: blocks
        ∧ ∀ x ∈ blocks, (∃ lane width, x = .marker p.val lane width) ∨ ∃ lanes, x = .codewords p.val lanes)
      ∧ reg64 t .port p Off.portFlitTxLo = reg64 s .port p Off.portFlitTxLo + 1 ∧ portState t p = portState s p
      ∧ otherPorts p s t ∧ sameMemory s t))
  ∧ (∀ (p : Fin 32) (frac : BitVec 8) (s : State) (k : Port), linkOff s = false → flitsRun s p = true →
    k = queueNegotiate s p (portOf s p) → k.replayAt = none → k.buffer.length < 1024 → (takeSlots k (fillPlan k)).2 ≠ [] →
    Answers (.flitTransmit p frac) s (fun t => (∃ f, (portOf t p).buffer = k.buffer ++ [f] ∧ f.seq = k.nextSeq
        ∧ f.sentAt = s.time ∧ f.slots.length = (takeSlots k (fillPlan k)).2.length)
      ∧ (portOf t p).nextSeq = (k.nextSeq + 1) % 4096))
  ∧ (∀ (p : Fin 32) (bits : BitVec 2048) (ended pair : List (BitVec 10)) (frac : BitVec 8) (s : State),
    linkOff s = false → flitsRun s p = true → loopTaken s p bits = true →
    (∃ n ∈ pair, 15 < n.toNat) ∨ flitCrc (fld bits.toNat 0 2016) ≠ FlitBits.crc bits.toNat →
    Answers (.flitReceived p bits ended pair frac) s (fun t =>
      (portOf t p).expect = (portOf s p).expect ∧ ((portOf s p).nakSent = false → (portOf t p).nakDue = true)
      ∧ (portOf t p).nakSent = true ∧ (portOf t p).locals = (portOf s p).locals ∧ t.routers = s.routers
      ∧ portState t p = portState s p ∧ otherPorts p s t ∧ sameMemory s t))
  ∧ (∀ (p : Fin 32) (bits : BitVec 2048) (ended pair : List (BitVec 10)) (frac : BitVec 8) (s : State),
    linkOff s = false → flitsRun s p = true → loopTaken s p bits = true → (∀ n ∈ pair, n.toNat ≤ 15) →
    flitCrc (fld bits.toNat 0 2016) = FlitBits.crc bits.toNat → flitReserved bits.toNat = false →
    (portOf s p).keys = none → FlitBits.enc bits.toNat = false → FlitBits.kind bits.toNat = 1 →
    FlitBits.seq bits.toNat = (portOf s p).expect →
    (tget 0 (fld (FlitBits.credit bits.toNat) 16 2) (portOf s p).sent + 2 ^ 16 - fld (FlitBits.credit bits.toNat) 0 16) % 2 ^ 16
      < 2 ^ 15 →
    Answers (.flitReceived p bits ended pair frac) s (fun t =>
      (portOf t p).expect = ((portOf s p).expect + 1) % 4096 ∧ (portOf t p).nakSent = false ∧ otherPorts p s t))
  ∧ (∀ (p : Fin 32) (s : State) (f : Flit) (rest : List Flit), linkOff s = false → (portOf s p).buffer = f :: rest →
    carriesFlits (portState s p) = true → (portOf s p).replayAt = none →
    f.sentAt.toNat + rf s .port p Off.portTimer 0 16 ≤ s.time.toNat →
    (portOf s p).replays + 1 < rf s .port p Off.portCfg 16 8 →
    Answers (.replayTimeout p) s (fun t => (portOf t p).replayAt = some 0 ∧ (portOf t p).replays = (portOf s p).replays + 1
      ∧ reg t .port p Off.portReplayCount = satInc (reg s .port p Off.portReplayCount)
      ∧ (portOf t p).buffer = (portOf s p).buffer ∧ portState t p = portState s p ∧ otherPorts p s t))

/-! ## The Bell (R30 to R38, R259 to R261) -/

/-- A link-local slot of value `v` has joined the transmit queue of port `p`, which held `l` on VC 3. -/
def localQueued (t : State) (p v : Nat) (l : List TxSlot) : Prop :=
  tget [] 3 (portOf t p).tx = l ++ [⟨3, true, BitVec.ofNat 128 v⟩]

/-- The offset that a BELL_SYNC gives a follower: the frame's arrival less its departure and the delay (R34). -/
def syncOffset (s : State) (p : Nat) (msg : LocalMsg) : Int :=
  ((msg.time.toNat * 256 + msg.frac.toNat : Nat) : Int)
    - ((fld msg.slot.toNat 64 64 * 256 + fld msg.slot.toNat 8 8 + meanDelay (portOf s p).delays : Nat) : Int)

/-- Port `p` is the parent port of a follower whose delay is the mean of 8 exchanges. -/
def bellParent (s : State) (p : Nat) : Prop :=
  isGrandmaster s = false ∧ parentEn s = true ∧ parentPort s = p ∧ 8 ≤ (portOf s p).delays.length

/-- Frames: a grandmaster or a LOCKED device sends BELL_SYNC on its ACTIVE child ports each 2¹⁴ ticks, and a follower a DELAY_REQ
halfway between; the parent answers it; the answer enters the mean of the last 8. A BELL_SYNC on the parent port moves the Bell: the
fourth in a row within 2 ticks LOCKS it; a LOCKED Bell slews the offset off, and one beyond 256 ticks sends it ADRIFT; on another port it is discarded; four
periods without one send it to HOLDOVER (R33 to R36, R259, R260). -/
def Obligations.BellFollows : Prop :=
  (∀ s s1 : State, s.time.toNat % 2 ^ 14 = 0 → bellServes s = true → fireOnce s 0 = some s1 →
    Answers .bellFrameTimer s (fun t => (∀ p, p < 32 → if rbit s .bell 0 Off.bellChildMask p = true ∧ portState s p = Link.active
        then localQueued t p 0xF0 (tget [] 3 (portOf s p).tx) else portOf t p = portOf s p) ∧ t.time = s.time ∧ t.regs = s.regs))
  ∧ (∀ s s1 : State, s.time.toNat % 2 ^ 14 = 2 ^ 13 → isGrandmaster s = false → parentEn s = true →
    portState s (parentPort s) = Link.active → fireOnce s 1 = some s1 →
    Answers .delayReqTimer s (fun t =>
      localQueued t (parentPort s) (0xF1 + ((portOf s (parentPort s)).xid + 1) % 2 ^ 16 * 2 ^ 16)
        (tget [] 3 (portOf s (parentPort s)).tx)
      ∧ (portOf t (parentPort s)).request = some (((portOf s (parentPort s)).xid + 1) % 2 ^ 16, s.time.toNat * 256)
      ∧ otherPorts (parentPort s) s t))
  ∧ (∀ (p : Fin 32) (s s1 : State) (msg : LocalMsg), takeLocal s p 0xF1 = some (msg, s1) → bellServes s = true →
    rbit s .bell 0 Off.bellChildMask p = true → portState s p = Link.active →
    Answers (.delayReq p) s (fun t => localQueued t p (0xF2 + msg.frac.toNat * 2 ^ 8 + fld msg.slot.toNat 16 16 * 2 ^ 16
      + msg.time.toNat * 2 ^ 64) (tget [] 3 (portOf s p).tx) ∧ otherPorts p s t))
  ∧ (∀ (p : Fin 32) (s s1 : State) (msg : LocalMsg) (xid t1 : Nat), takeLocal s p 0xF2 = some (msg, s1) →
    (portOf s p).request = some (xid, t1) → fld msg.slot.toNat 16 16 = xid →
    Answers (.delayResp p) s (fun t => (portOf t p).request = none
      ∧ (portOf t p).delays = ((msg.time.toNat * 256 + msg.frac.toNat - t1 - fld msg.slot.toNat 32 32)
          :: (portOf s p).delays).take 8
      ∧ reg t .port p Off.portBellDelay = det (meanDelay (portOf t p).delays) ∧ otherPorts p s t))
  ∧ (∀ (p : Fin 32) (s s1 : State) (msg : LocalMsg), takeLocal s p 0xF0 = some (msg, s1) → bellParent s p →
    bellState s = Bell.acquiring → within (syncOffset s p msg) 2 = true →
    Answers (.bellSync p) s (fun t => t.bellRun = s.bellRun + 1 ∧ t.bellOffset = syncOffset s p msg
      ∧ bellState t = (if 3 ≤ s.bellRun then Bell.locked else Bell.acquiring)))
  ∧ (∀ (p : Fin 32) (s s1 : State) (msg : LocalMsg), takeLocal s p 0xF0 = some (msg, s1) → bellParent s p →
    bellState s = Bell.locked →
    Answers (.bellSync p) s (fun t => t.bellOffset = syncOffset s p msg ∧ t.bellFrameAt = s.time ∧ t.time = s.time
      ∧ bellState t = (if within (syncOffset s p msg) 256 then Bell.locked else Bell.adrift)
      ∧ t.bellSlew = (if within (syncOffset s p msg) 256 then -(syncOffset s p msg * 20000) else 0)))
  ∧ (∀ (p : Fin 32) (s s1 : State) (msg : LocalMsg), takeLocal s p 0xF0 = some (msg, s1) → parentPort s ≠ p →
    Answers (.bellSync p) s (fun t => t = s1 ∧ t.bellOffset = s.bellOffset ∧ bellState t = bellState s))
  ∧ (∀ s : State, bellState s = Bell.locked → s.bellFrameAt.toNat + 4 * 2 ^ 14 ≤ s.time.toNat →
    Answers .bellHoldover s (fun t => bellState t = Bell.holdover ∧ t.time = s.time ∧ t.cores = s.cores))

/-- BELLTIME by other means: a hold that has run out ends; BELL_OUT is driven high where BELLTIME[19:0] becomes 0, and low 256 ticks
later; BELL_IN captures BELLTIME, and with SOURCE PIN a grandmaster slews toward BELLTIME[19:0] = 0; STEP_ALLOW takes an ADRIFT follower to ACQUIRING; SET_HI of a grandmaster with no context resident
brings BELLTIME to what is set, forward in one step and backward by a hold, and of a follower is refused with 0x40 (R35, R37, R38,
R454, R455). -/
def Obligations.BellPinsAndSoftware : Prop :=
  (∀ s : State, s.timeHeld = true → s.holdLeft = 0 → Answers .belltimeHoldEnd s (fun t => t = { s with timeHeld := false }))
  ∧ (∀ s : State, s.time.toNat % 2 ^ 20 = 0 → rbit s .bell 0 Off.ctrl 2 = true → bellServes s = true → s.bellPulse = none →
    Answers .bellOutPulse s (fun t => t = { s with bellPulse := some s.time, outputs := s.outputs ++ [.bellOut true] }))
  ∧ (∀ (s : State) (began : DWord), s.bellPulse = some began → began.toNat + 256 ≤ s.time.toNat →
    Answers .bellOutPulseEnd s (fun t => t = { s with bellPulse := none, outputs := s.outputs ++ [.bellOut false] }))
  ∧ (∀ s : State, Answers .bellInEdge s (fun t => reg64 t .bell 0 Off.bellInCaptureLo = s.time
      ∧ onlyRegs { s with bellSlew := t.bellSlew } t
      ∧ (sourcePin s = false → t.bellSlew = s.bellSlew)
      ∧ (sourcePin s = true → t.bellSlew = -(5120000 * (((s.time.toNat % 2 ^ 20 : Nat) : Int)
          - if s.time.toNat % 2 ^ 20 < 2 ^ 19 then 0 else 2 ^ 20)))))
  ∧ (∀ s : State, hostReady s .bell → bellState s = Bell.adrift → isGrandmaster s = false → parentEn s = true →
    reg s .bell 0 Off.ctrl &&& ~~~(definedMask .bell Off.ctrl) = 0 →
    Answers .stepAllow s (fun t => bellState t = Bell.acquiring ∧ rbit t .bell 0 Off.ctrl 3 = false ∧ t.bellRun = 0
      ∧ t.time = s.time))
  ∧ (∀ (v : BitVec 32) (s : State), hostReady s .bell → resident s = 0 → isGrandmaster s = true →
    Answers (.setHi v) s (fun t => if s.time.toNat ≤ v.toNat * 2 ^ 32 + (reg s .bell 0 Off.bellSetLo).toNat
      then t.time.toNat = v.toNat * 2 ^ 32 + (reg s .bell 0 Off.bellSetLo).toNat ∧ t.timeHeld = false
      else t.time = s.time ∧ t.timeHeld = true
        ∧ t.holdLeft = s.time.toNat - (v.toNat * 2 ^ 32 + (reg s .bell 0 Off.bellSetLo).toNat)))
  ∧ (∀ (v : BitVec 32) (s : State), hostReady s .bell → resident s = 0 → isGrandmaster s = false →
    Answers (.setHi v) s (fun t => t.time = s.time ∧ rf t .bell 0 Off.status 8 8 = 0x40 ∧ onlyRegs s t))

/-! ## The fabric (R271 to R289) -/

/-- The packets in link die `d` are those of before and then `p`, from this device. -/
def routed (d : Nat) (p : Packet) (s t : State) : Prop := tget [] d t.routers = tget [] d s.routers ++ [⟨p, none, s.routeSeq⟩]

/-- TXN_ISSUE takes a free tag for the next transaction of an operation, or of the Reeve, and its request enters the link die.
PACKET_FORWARD delivers the oldest packet of a VC here, sends it on by the port its lane map names, or drops and counts it (R278,
R285, R290, R291). -/
def Obligations.PacketsGoOut : Prop :=
  (∀ (c : Fin 512) (id tag : Nat) (s : State) (o : Op) (x : Txn) (rest : List Txn), linkOff s = false →
    (core s c).op id = some o → o.todo = x :: rest → o.kind ≠ .atomic → x.kind = .read →
    freeTag s (c / 128) (64 * (c % 128)) 64 = some tag →
    Answers (.txnIssue (.op c id)) s (fun t => tagState t (c / 128) tag = .held (.op c id) x s.time
      ∧ (core t c).op id = some { o with todo := rest, unanswered := o.unanswered + 1 }
      ∧ routed (c / 128) (txnPacket s x tag (c / 128) o.ctx []) s t ∧ otherCores c s t ∧ sameMemory s t))
  ∧ (∀ (index tag : Nat) (s : State) (x : Txn) (rest : List (TagUser × Txn)), linkOff s = false →
    takeAt s.reeveTodo index = some ((.refill, x), rest) → x.kind = .read → freeTag s 4 0 512 = some tag →
    Answers (.txnIssue (.reeve index)) s (fun t => tagState t 4 tag = .held .refill x s.time ∧ t.reeveTodo = rest
      ∧ t.cores = s.cores ∧ sameMemory s t))
  ∧ (∀ (die vc : Fin 4) (s : State) (r : Routed) (rest : List Routed), linkOff s = false →
    takeVc vc (tget [] die s.routers) = some (r, rest) → overtakes s r = false → typeListed r.packet.type = true → assigned s = true →
    r.packet.dst = thisNode s → r.packet.type ≠ 5 → r.packet.type ≠ 6 → r.packet.type ≠ 0x31 →
    Answers (.packetForward die vc) s (fun t => t.inbox = s.inbox ++ [(die.val, r)] ∧ tget [] die t.routers = rest
      ∧ t.transit = s.transit ∧ sameMemory s t ∧ t.cores = s.cores))
  ∧ (∀ (die vc : Fin 4) (s : State) (r : Routed) (rest : List Routed), linkOff s = false →
    takeVc vc (tget [] die s.routers) = some (r, rest) → overtakes s r = false → r.packet.type = 5 → assigned s = true → r.packet.dst = thisNode s →
    Answers (.packetForward die vc) s (fun t => t.inbox = s.inbox ∧ tget [] die t.routers = rest
      ∧ t.transit = s.transit ++ [⟨false, pf r.packet 70 9, pf r.packet 64 6, r.packet.ctx, some r.packet, r.ingress, 0, 0⟩]))
  ∧ (∀ (die vc : Fin 4) (s : State) (r : Routed) (rest : List Routed) (port : Nat), linkOff s = false →
    takeVc vc (tget [] die s.routers) = some (r, rest) → overtakes s r = false → typeListed r.packet.type = true → assigned s = true →
    r.packet.dst ≠ thisNode s → r.packet.type ≠ 0x31 → egress s die r.packet = some port →
    quiescing s .port port = false →
    Answers (.packetForward die vc) s (fun t => tget [] die t.routers = rest ∧ t.inbox = s.inbox
      ∧ tget [] (vcOfType r.packet.type) (portOf t port).tx = tget [] (vcOfType r.packet.type) (portOf s port).tx
          ++ ⟨vcOfType r.packet.type, true, r.packet.header⟩
          :: (dataSlots r.packet.data).map (fun d => ⟨vcOfType r.packet.type, false, d⟩)))
  ∧ (∀ (die vc : Fin 4) (s : State) (r : Routed) (rest : List Routed), linkOff s = false →
    takeVc vc (tget [] die s.routers) = some (r, rest) → overtakes s r = false → typeListed r.packet.type = false →
    Answers (.packetForward die vc) s (fun t => tget [] die t.routers = rest ∧ t.inbox = s.inbox
      ∧ reg t .lanemap die Off.lanemapDropCount = satInc (reg s .lanemap die Off.lanemapDropCount)))

/-- A request at its home node that passes the checks of R286 is performed on memory and answered with OK, or with UNCORRECTABLE
where its read was; one that fails a check is answered with its STATUS and touches no memory; a posted write is not answered, and its
first error is what the next flush of its stream answers (R280, R281, R286, R289). -/
def Obligations.RequestsServed : Prop :=
  (∀ (index d : Nat) (p : Packet) (s s1 s2 : State) (v : Nat) (ok : Bool), linkOff s = false →
    takeInbox s index 1 = some (d, p, s1) → homeStatus s1 p.addr p.len p.ctx p.key = 0 → addrWaits s p.addr = false →
    readMem s1 p.key p.addr p.len = (s2, v, ok) →
    Answers (.readReq index) s (fun t => routed d (answer s p (if ok then 0 else 5) (toBytes p.len v)) s t
      ∧ t.inbox = s1.inbox ∧ t.mem = s2.mem ∧ t.cores = s.cores))
  ∧ (∀ (index d : Nat) (p : Packet) (s s1 : State), linkOff s = false → takeInbox s index 1 = some (d, p, s1) →
    homeStatus s1 p.addr p.len p.ctx p.key ≠ 0 →
    Answers (.readReq index) s (fun t => routed d (answer s p (homeStatus s p.addr p.len p.ctx p.key) []) s t
      ∧ t.inbox = s1.inbox ∧ sameMemory s t ∧ t.regs = s.regs ∧ t.cores = s.cores))
  ∧ (∀ (index d : Nat) (p : Packet) (s s1 : State), linkOff s = false → takeInbox s index 2 = some (d, p, s1) → p.len ≠ 0 →
    homeStatus s1 p.addr p.len p.ctx p.key = 0 → addrWaits s p.addr = false → homeHeld s p = false → s.refill = none →
    Answers (.writeReq index) s (fun t => t.mem = (homeWrite s1 p).mem ∧ t.chk = (homeWrite s1 p).chk ∧ t.inbox = s1.inbox
      ∧ (∃ q, routed d q s t ∧ q.type = 0x11 ∧ q.status = 0 ∧ q.tag = p.tag ∧ q.sunit = p.sunit ∧ q.dst = p.src)))
  ∧ (∀ (index d : Nat) (p : Packet) (s s1 : State), linkOff s = false → takeInbox s index 2 = some (d, p, s1) → p.len = 0 →
    streamWaits s index p = false →
    Answers (.writeReq index) s (fun t => routed d (answer s p (tget 0 (postedKey p) s.postedErrors) []) s t
      ∧ tget 0 (postedKey p) t.postedErrors = 0
      ∧ (∀ k, k ≠ postedKey p → tget 0 k t.postedErrors = tget 0 k s.postedErrors) ∧ sameMemory s t))
  ∧ (∀ (index d : Nat) (p : Packet) (s s1 : State), linkOff s = false → takeInbox s index 3 = some (d, p, s1) →
    streamWaits s index p = false → homeStatus s1 p.addr p.len p.ctx p.key = 0 → addrWaits s p.addr = false →
    homeHeld s p = false →
    Answers (.writePosted index) s (fun t => t.mem = (homeWrite s1 p).mem ∧ t.inbox = s1.inbox ∧ t.routers = s.routers
      ∧ t.postedErrors = s.postedErrors))
  ∧ (∀ (index d : Nat) (p : Packet) (s s1 : State), linkOff s = false → takeInbox s index 3 = some (d, p, s1) →
    streamWaits s index p = false → homeStatus s1 p.addr p.len p.ctx p.key ≠ 0 →
    Answers (.writePosted index) s (fun t => sameMemory s t ∧ t.routers = s.routers
      ∧ tget 0 (postedKey p) t.postedErrors = (if tget 0 (postedKey p) s.postedErrors = 0
          then homeStatus s p.addr p.len p.ctx p.key else tget 0 (postedKey p) s.postedErrors)))
  ∧ (∀ (index d : Nat) (p : Packet) (s s1 s2 : State) (old : Nat) (ok : Bool), linkOff s = false →
    takeInbox s index 4 = some (d, p, s1) → homeStatus s1 p.addr (atomicLen p) p.ctx p.key = 0 → addrWaits s p.addr = false →
    heldPages s (pagesOf p.addr (atomicLen p)) = [] →
    atomicMem s1 p.key p.addr (atomicLen p) (pf p 114 3) (ofBytes (p.data.take 8)) (ofBytes ((p.data.drop 8).take 8))
      = (s2, old, ok) →
    Answers (.atomicReq index) s (fun t => t.mem = s2.mem ∧ t.inbox = s1.inbox
      ∧ routed d (answer s p (if ok then 0 else 5) (toBytes (atomicLen p) old)) s t))

/-- An answer frees the tag it names: READ_RSP writes its data, and the last STATUS_RSP or ATOMIC_RSP of an operation completes it; one
that matches no held tag is counted and discarded. A tag unanswered for TXN_TIMEOUT ticks is counted and retired, and free again after
twice that time (R278, R285, R287, R288). -/
def Obligations.AnswersReturn : Prop :=
  (∀ (index d : Nat) (p : Packet) (s s1 : State) (c : Fin 512) (id : Nat) (o : Op) (x : Txn) (since : DWord),
    takeInbox s index 0x10 = some (d, p, s1) → tagState s p.sunit p.tag = .held (.op c id) x since →
    (core s c).op id = some o → x.kind = .read → answerWaits s (.op c id) x = false → heldPages s (pagesOf x.place x.len) = [] →
    Answers (.readRsp index) s (fun t => tagState t p.sunit p.tag = .free ∧ t.inbox = s1.inbox
      ∧ t.mem = (writeMem (setTag s1 p.sunit p.tag .free) x.lkey x.place x.len (answerBytes x p.status p.data)).mem
      ∧ t.chk = (writeMem (setTag s1 p.sunit p.tag .free) x.lkey x.place x.len (answerBytes x p.status p.data)).chk))
  ∧ (∀ (index d : Nat) (p : Packet) (s s1 : State) (c : Fin 512) (id : Nat) (o : Op) (x : Txn) (since : DWord),
    takeInbox s index 0x11 = some (d, p, s1) → tagState s p.sunit p.tag = .held (.op c id) x since →
    (core s c).op id = some o → x.kind = .write → o.todo = [] → o.unanswered = 1 →
    Answers (.statusRsp index) s (fun t => opEnded c id o s t ∧ tagState t p.sunit p.tag = .free ∧ sameMemory s t))
  ∧ (∀ (index d : Nat) (p : Packet) (s s1 : State) (c : Fin 512) (id : Nat) (o : Op) (x : Txn) (since : DWord),
    takeInbox s index 0x12 = some (d, p, s1) → tagState s p.sunit p.tag = .held (.op c id) x since →
    (core s c).op id = some o → x.kind = .atomic → o.todo = [] → o.unanswered = 1 →
    answerWaits s (.op c id) x = false → heldPages s (answerPages s (.op c id) x) = [] →
    Answers (.atomicRsp index) s (fun t => opEnded c id o s t ∧ tagState t p.sunit p.tag = .free))
  ∧ (∀ (index d : Nat) (p : Packet) (s s1 : State), takeInbox s index 0x11 = some (d, p, s1) →
    tagState s p.sunit p.tag = .free →
    Answers (.statusRsp index) s (fun t => t.inbox = s1.inbox ∧ t.cores = s.cores ∧ t.tags = s.tags
      ∧ reg t .lanemap d Off.lanemapOrphanCount = satInc (reg s .lanemap d Off.lanemapOrphanCount)))
  ∧ (∀ (sunit : Fin 5) (tag : Fin 8192) (s : State) (u : TagUser) (x : Txn) (since : DWord), linkOff s = false →
    tagState s sunit tag = .held u x since → since.toNat + txnTimeout s ≤ s.time.toNat → answerWaits s u x = false → heldPages s (answerPages s u x) = [] →
    Answers (.tagTimeout sunit tag) s (fun t => tagState t sunit tag = .retired s.time
      ∧ (∀ die, die = (if sunit.val < 4 then sunit.val else dieOf x.addr) →
          reg t .lanemap die Off.lanemapTimeoutCount = satInc (reg s .lanemap die Off.lanemapTimeoutCount))))
  ∧ (∀ (sunit : Fin 5) (tag : Fin 8192) (s : State) (since : DWord), tagState s sunit tag = .retired since →
    since.toNat + 2 * txnTimeout s ≤ s.time.toNat →
    Answers (.tagRetireEnd sunit tag) s (fun t => tagState t sunit tag = .free ∧ t = { s with tags := t.tags }))

/-! ## Reductions (R295, R309 to R313) -/

/-- No local REDUCE has a chunk still to take its turn. -/
def noneWaits (s : State) : Prop := ∀ e ∈ s.cores, ∀ o ∈ e.2.ops, o.kind = .reduce → Rd.chunks o.image ≤ o.red.turn

/-- The parts of a chunk's children added to its own part, in the group's order of its children (R310). -/
def combined (e : QWord) (scales : List Nat) (n : Nat) (own : Part) (parts : List (Nat × Part)) : Part :=
  (Gr.children e).foldl (fun acc p => match parts.find? (fun y => y.1 == p) with
    | some y => combineParts e scales n acc y.2
    | none => acc) own

/-- The first REDUCE_ADD of a chunk opens its context and is held there, and one of a stale epoch is counted and discarded;
CHUNK_COMBINE reads the device's own part at once, and combines once every child's packet is held; CHUNK_TOTAL_WRITTEN at the root writes an FP32 total over the chunk and
closes it; a context open for TXN_TIMEOUT ticks closes, is counted, and will poison its REDUCE's flag (R288, R295, R310 to R313). -/
def Obligations.ChunksReduce : Prop :=
  (∀ (index d : Nat) (s : State) (r : Routed) (rest : List (Nat × Routed)) (g ch port : Nat), linkOff s = false →
    takeAt s.inbox index = some ((d, r), rest) → r.packet.type = 0x20 → g = pf r.packet 64 8 → ch = pf r.packet 88 24 →
    pf r.packet 72 16 = Gr.epoch (groupEntry s g) % 2 ^ 16 → r.ingress = some port → pf r.packet 120 1 = 0 →
    phaseFits (groupEntry s g) 0 r.ingress = true → findChunk s g ch = none →
    s.closedChunks.any (fun x => x.2 == (g, ch)) = false → openChunks s (ch % 4) < 2048 →
    Answers (.reduceAdd index) s (fun t => (∃ x, findChunk t g ch = some x ∧ x.opened = s.time ∧ x.owner = none
        ∧ x.parts = [(port, packetPart s r.packet)] ∧ x.parent = none ∧ x.own = none ∧ x.acc = none) ∧ t.inbox = rest ∧ sameMemory s t))
  ∧ (∀ (index d : Nat) (s : State) (r : Routed) (rest : List (Nat × Routed)), linkOff s = false →
    takeAt s.inbox index = some ((d, r), rest) → r.packet.type = 0x20 →
    pf r.packet 72 16 ≠ Gr.epoch (groupEntry s (pf r.packet 64 8)) % 2 ^ 16 →
    Answers (.reduceAdd index) s (fun t => t.chunks = s.chunks ∧ t.inbox = rest ∧ sameMemory s t
      ∧ reg t .group 0 Off.groupEpochStaleCount = satInc (reg s .group 0 Off.groupEpochStaleCount)))
  ∧ (∀ (index : Nat) (s : State) (x : Chunk) (c id i : Nat) (o : Op), linkOff s = false → s.chunks[index]? = some x →
    findChunk s x.group x.chunk = some x → x.owner = some (c, id, i) → (core s c).op id = some o → x.acc = none →
    opTesting s o = false → Rd.digest o.image = false →
    (Gr.children o.red.entry).all (fun p => x.parts.any (fun y => y.1 == p)) = true →
    Answers (.chunkCombine index) s (fun t => ∃ y, findChunk t x.group x.chunk = some y ∧ y.acc.isSome = true
      ∧ y.parts = x.parts ∧ ∀ own, x.own = some own →
          y.acc = some (combined o.red.entry x.scales (chunkCount o.image o.red.entry i) own x.parts)))
  ∧ (∀ (index : Nat) (s : State) (x : Chunk) (c id i : Nat) (o : Op), linkOff s = false → s.chunks[index]? = some x →
    findChunk s x.group x.chunk = some x → x.owner = some (c, id, i) → (core s c).op id = some o → x.acc = none →
    x.own = none → opTesting s o = false → Rd.digest o.image = false →
    (Gr.children o.red.entry).all (fun p => x.parts.any (fun y => y.1 == p)) = false →
    Answers (.chunkCombine index) s (fun t => ∃ y, findChunk t x.group x.chunk = some y ∧ y.own.isSome = true
      ∧ y.acc = none ∧ y.parts = x.parts))
  ∧ (∀ (index : Nat) (s : State) (x : Chunk) (c id i a key : Nat) (o : Op) (total : Part), linkOff s = false →
    noneWaits s → s.chunks[index]? = some x → x.owner = some (c, id, i) → x.acc = some total → (core s c).op id = some o →
    opTesting s o = false → Gr.root o.red.entry = true → Gr.fmt o.red.entry = 0 → Rd.digest o.image = false →
    (o.places.getD i []).getD 0 (0, 0) = (a, key) →
    heldPages s (pagesOf a (chunkCount o.image o.red.entry i * Gr.bytes o.red.entry)) = [] →
    Answers (.chunkTotalWritten index) s (fun t => findChunk t x.group x.chunk = none
      ∧ (x.ctx, x.group, x.chunk) ∈ t.closedChunks
      ∧ t.mem = (writeMem s key a (chunkCount o.image o.red.entry i * Gr.bytes o.red.entry) total.bytes).mem))
  ∧ (∀ (index : Nat) (s : State) (x : Chunk), linkOff s = false → noneWaits s → s.chunks[index]? = some x →
    x.opened.toNat + (reg s .lanemap 0 Off.lanemapTxnTimeout).toNat ≤ s.time.toNat →
    Answers (.chunkTimeout index) s (fun t => findChunk t x.group x.chunk = none ∧ sameMemory s t
      ∧ reg t .lanemap (x.chunk % 4) Off.lanemapTimeoutCount = satInc (reg s .lanemap (x.chunk % 4) Off.lanemapTimeoutCount)
      ∧ (∀ c id i o, x.owner = some (c, id, i) → (core s c).op id = some o →
          ∃ q, (core t c).op id = some q ∧ q.poisoned = true ∧ q.red.left = o.red.left - 1)))

/-! ## Tables and management (R273 to R275, R290, R294, R296 to R299, R374, R433, R434, R453, R476) -/

/-- TERRIER_COMMIT and GROUP_COMMIT put the staged 128 bits at the index that SEL names, or refuse them with the code that applies and
change no entry; TERRIER_UPDATE_DONE ends BUSY. LANEMAP_ENTRY_WRITE and SEL_WRITE set what they name, an entry with a
reserved bit set is refused with 0x01 whenever the write arrives, SEL beyond the last core is
refused with 0x02; NODE_WRITE before roll call numbers the device and afterwards is refused with 0x04 (R275, R290, R294, R299, R433,
R434, R476). -/
def Obligations.TablesWritten : Prop :=
  (∀ (v : BitVec 32) (s : State) (i : Nat) (e : QWord), hostOpen s .terrier = true → rf s .terrier 0 Off.sel 0 16 = i →
    staged (setReg s .terrier 0 0x10C v) .terrier = e → terrierCheck (setReg s .terrier 0 0x10C v) i e = 0 →
    Answers (.terrierCommit v) s (fun t => tget 0 i t.terrier = e ∧ (∀ j, j ≠ i → tget 0 j t.terrier = tget 0 j s.terrier)
      ∧ rbit t .terrier 0 Off.status 1 = true ∧ sameMemory s t ∧ t.cores = s.cores))
  ∧ (∀ (v : BitVec 32) (s : State) (i : Nat) (e : QWord), hostOpen s .terrier = true → rf s .terrier 0 Off.sel 0 16 = i →
    staged (setReg s .terrier 0 0x10C v) .terrier = e → terrierCheck (setReg s .terrier 0 0x10C v) i e ≠ 0 →
    Answers (.terrierCommit v) s (fun t =>
      rf t .terrier 0 Off.status 8 8 = terrierCheck (setReg s .terrier 0 0x10C v) i e ∧ onlyRegs s t))
  ∧ (∀ (s : State) (x : Nat × QWord × Word), s.terrierOld = some x →
    Answers .terrierUpdateDone s (fun t => t.terrierOld = none ∧ rbit t .terrier 0 Off.status 1 = false
      ∧ t.terrier = s.terrier ∧ sameMemory s t))
  ∧ (∀ (v : BitVec 32) (s : State) (g : Nat) (e : QWord), hostOpen s .group = true → rf s .group 0 Off.sel 0 8 = g →
    staged (setReg s .group 0 0x10C v) .group = e → groupCheck (setReg s .group 0 0x10C v) g e = 0 →
    Answers (.groupCommit v) s (fun t => tget 0 g t.groups = e ∧ (∀ j, j ≠ g → tget 0 j t.groups = tget 0 j s.groups)
      ∧ sameMemory s t ∧ t.cores = s.cores))
  ∧ (∀ (v : BitVec 32) (s : State), fld v.toNat 20 10 ≠ 0 →
    Answers (.lanemapEntryWrite v) s (fun t => rf t .lanemap 0 Off.status 8 8 = 0x01 ∧ onlyRegs s t))
  ∧ (∀ (v : BitVec 32) (s : State), hostOpen s .lanemap = true → fld v.toNat 20 10 = 0 →
    Answers (.lanemapEntryWrite v) s (fun t =>
      tget 0 (16384 * rf s .lanemap 0 Off.sel 16 2 + rf s .lanemap 0 Off.sel 0 14) t.lanemaps = v
      ∧ t = { s with lanemaps := t.lanemaps }))
  ∧ (∀ (v : BitVec 32) (s : State), hostOpen s .core = true → v.toNat < 512 →
    Answers (.selWrite 0x30 v) s (fun t => reg t .core 0 Off.sel = v ∧ shownInstance t .core = v.toNat
      ∧ otherRegs [regKey .core 0 Off.sel] s t ∧ onlyRegs s t))
  ∧ (∀ (v : BitVec 32) (s : State), hostOpen s .core = true → 512 ≤ v.toNat →
    Answers (.selWrite 0x30 v) s (fun t => reg t .core 0 Off.sel = reg s .core 0 Off.sel
      ∧ rf t .core (shownInstance s .core) Off.status 8 8 = 0x02 ∧ onlyRegs s t))
  ∧ (∀ (v : BitVec 32) (s : State), v.toNat < 2 ^ 14 → rbit s .global 0 Off.globalNode 16 = false →
    Answers (.nodeWrite v) s (fun t => thisNode t = v.toNat ∧ assigned t = true
      ∧ otherRegs [regKey .global 0 Off.globalNode] s t ∧ onlyRegs s t))
  ∧ (∀ (v : BitVec 32) (s : State), v.toNat < 2 ^ 14 → rbit s .global 0 Off.globalNode 16 = true →
    Answers (.nodeWrite v) s (fun t => thisNode t = thisNode s ∧ rf t .global 0 Off.status 8 8 = 0x04 ∧ onlyRegs s t))

/-- The management request `p`, a MGMT, has been answered with STATUS `st` through the lowest link die in service. -/
def mgmtAnswered (p : Packet) (st : Nat) (s t : State) : Prop :=
  ∀ d, lowestDie s = some d → ∃ q, routed d q s t ∧ q.type = 0x30 ∧ Mg.rsp q = true ∧ Mg.xid q = Mg.xid p ∧ Mg.status q = st

/-- Requests: IDENTIFY is answered with what R297 lists; ASSIGN of a MGMT_SR that names this device takes its node number; LANEMAP_WRITE
and GROUP_WRITE from a trusted originator write their entries, and are DENIED otherwise; a MGMT_SR that is not at its destination goes
on by its route (R296 to R298, R301). -/
def Obligations.ManagementServed : Prop :=
  (∀ (index : Nat) (s s1 : State) (p : Packet), takeMgmt s index false = some (p, s1) → p.type = 0x30 → Mg.mop p = 0x01 →
    Answers (.identify index) s (fun t => mgmtAnswered p 0 s t ∧ t.inbox = s1.inbox ∧ t.regs = s.regs ∧ sameMemory s t))
  ∧ (∀ (index : Nat) (s s1 : State) (p : Packet), takeMgmt s index false = some (p, s1) → Mg.mop p = 0x02 →
    Answers (.assign index) s (fun t => t.inbox = s1.inbox ∧ (if assignStatus s p = 0
      then thisNode t = ofBytes ((Mg.payload p).take 8) % 2 ^ 14 ∧ assigned t = true
        ∧ reg t .global 0 Off.globalFmNode = det (p.src + 2 ^ 15)
      else thisNode t = thisNode s ∧ assigned t = assigned s
        ∧ reg t .global 0 Off.globalFmNode = reg s .global 0 Off.globalFmNode)))
  ∧ (∀ (index : Nat) (s s1 : State) (p : Packet) (v : Nat), takeMgmt s index false = some (p, s1) → Mg.mop p = 0x03 →
    v = ofBytes (Mg.payload p) → mgmtTrusted s p = true → laneWriteGood v = true →
    Answers (.lanemapWrite index) s (fun t => (∀ d k, d < 4 → (fld v 0 4).testBit d = true → k < fld v 18 4 →
        tget 0 (16384 * d + fld v 4 14 + k) t.lanemaps = det (laneWriteEntry v k)) ∧ t.inbox = s1.inbox
      ∧ t.groups = s.groups ∧ sameMemory s t))
  ∧ (∀ (index : Nat) (s s1 : State) (p : Packet), takeMgmt s index false = some (p, s1) → p.type = 0x30 → Mg.mop p = 0x03 →
    mgmtTrusted s p = false →
    Answers (.lanemapWrite index) s (fun t => t.lanemaps = s.lanemaps ∧ mgmtAnswered p 0xB s t))
  ∧ (∀ (index : Nat) (s s1 : State) (p : Packet) (g : Nat) (e : QWord), takeMgmt s index false = some (p, s1) →
    Mg.mop p = 0x04 → g = ofBytes ((Mg.payload p).take 1) → e = BitVec.ofNat 128 (ofBytes (((Mg.payload p).drop 16).take 16)) →
    mgmtTrusted s p = true → groupCheck s g e = 0 →
    Answers (.groupWrite index) s (fun t => tget 0 g t.groups = e ∧ (∀ j, j ≠ g → tget 0 j t.groups = tget 0 j s.groups)
      ∧ t.inbox = s1.inbox ∧ t.lanemaps = s.lanemaps ∧ sameMemory s t))
  ∧ (∀ (index d port : Nat) (s : State) (r : Routed) (rest : List (Nat × Routed)) (q : Packet) (out : Nat),
    takeAt s.inbox index = some ((d, r), rest) → r.packet.type = 0x31 → r.ingress = some port → q = srArrived r.packet port →
    Mg.index q ≠ Mg.hops q → out = Mg.hop (Mg.route q) (Mg.index q) → portState s out = Link.active →
    Answers (.mgmtSrRelay index) s (fun t => t.inbox = rest ∧ otherPorts out s t
      ∧ ∃ l, tget [] 3 (portOf t out).tx = tget [] 3 (portOf s out).tx ++ ⟨3, true, q.header⟩ :: l))

/-- Mailbox commands: a MGMT or MGMT_SR leaves and CMD_STATUS runs, until the response of its XID ends it DONE or FAILED, or TXN_TIMEOUT
ticks pass; FW_ERASE, FW_WRITE and FW_VERIFY of the slot that did not boot run until FW_CMD_DONE, and a command while one runs is
refused with 0x42; LC_CMD advances the life cycle on a good token, with the COLD reset, and fails on any other (R374, R415, R452,
R453). -/
def Obligations.MailboxCommands : Prop :=
  (∀ s : State, mboxBusy s = false →
    Answers .mgmtSend s (fun t => mboxBusy t = true ∧ (∃ r, t.mgmt = some r ∧ r.since = s.time)
      ∧ rf t .reeve 0 Off.reeveCmdStatus 8 8 = 3 ∧ sameMemory s t ∧ t.cores = s.cores))
  ∧ (∀ s : State, mboxBusy s = true →
    Answers .mgmtSend s (fun t => rf t .reeve 0 Off.status 8 8 = 0x42 ∧ onlyRegs s t))
  ∧ (∀ s : State, mboxBusy s = false → rf s .reeve 0 Off.reeveMgmtDst 16 4 ≠ 0 →
    Answers .mgmtSrSend s (fun t => mboxBusy t = true ∧ (∃ r, t.mgmt = some r ∧ r.since = s.time) ∧ t.cores = s.cores))
  ∧ (∀ (index : Nat) (s s1 : State) (p : Packet) (r : MgmtRun), takeMgmt s index true = some (p, s1) → s.mgmt = some r →
    r.xid = Mg.xid p →
    Answers (.mgmtResponse index) s (fun t => t.mgmt = none ∧ t.inbox = s1.inbox
      ∧ rf t .reeve 0 Off.reeveCmdStatus 0 2 = (if Mg.status p = 0 then 2 else 3)
      ∧ rf t .reeve 0 Off.reeveCmdStatus 4 4 = Mg.status p))
  ∧ (∀ (s : State) (r : MgmtRun), s.mgmt = some r → r.since.toNat + txnTimeout s ≤ s.time.toNat →
    Answers .mgmtTimeout s (fun t => t.mgmt = none ∧ rf t .reeve 0 Off.reeveCmdStatus 0 2 = 3
      ∧ rf t .reeve 0 Off.reeveCmdStatus 4 4 = 0xF))
  ∧ (∀ (slot : Bool) (s : State), slot ≠ s.booted → mboxBusy s = false →
    Answers (.fwErase slot) s (fun t => mboxBusy t = true ∧ (∃ r, t.fw = some r)
        ∧ t.outputs = s.outputs ++ [.flash slot 0 []])
      ∧ Answers (.fwWrite slot) s (fun t => mboxBusy t = true ∧ (∃ r, t.fw = some r)
        ∧ t.outputs = s.outputs ++ [.flash slot (rf s .reeve 0 Off.reeveFwOffset 0 24) (mboxBytes s 0 256)])
      ∧ Answers (.fwVerify slot) s (fun t => mboxBusy t = true ∧ (∃ r, t.fw = some r) ∧ t.outputs = s.outputs))
  ∧ (∀ s : State, Answers (.fwErase s.booted) s (fun t => rf t .reeve 0 Off.status 8 8 = 0x41 ∧ onlyRegs s t))
  ∧ (∀ (result : BitVec 4) (s : State) (r : FwRun), s.fw = some r →
    Answers (.fwCmdDone result) s (fun t => t.fw = none
      ∧ rf t .reeve 0 Off.reeveCmdStatus 0 2 = (if result = 0 then 2 else 3)
      ∧ rf t .reeve 0 Off.reeveCmdStatus 4 4 = result.toNat ∧ sameMemory s t))
  ∧ (∀ (v : BitVec 32) (s : State), v.toNat < 4 → v.toNat = rf s .reeve 0 Off.reeveLc 0 2 + 1 → resident s = 0 →
    inService s = true → mboxBusy s = false →
    Answers (.lcCmd v) s (fun t => if Config.tokenGood (mboxBytes s 0 256) v.toNat
      then rf t .reeve 0 Off.reeveLc 0 2 = v.toNat ∧ dawnStep t = 1 ∧ dawnDone t = false
      else rf t .reeve 0 Off.reeveLc 0 2 = rf s .reeve 0 Off.reeveLc 0 2 ∧ rf t .reeve 0 Off.status 8 8 = 0x40
        ∧ rf t .reeve 0 Off.reeveCmdStatus 0 2 = 3))
  ∧ (∀ (v : BitVec 32) (s : State), v.toNat < 4 → v.toNat ≠ rf s .reeve 0 Off.reeveLc 0 2 + 1 →
    Answers (.lcCmd v) s (fun t => rf t .reeve 0 Off.status 8 8 = 0x07 ∧ onlyRegs s t))

/-! ## The host (R398 to R408) -/

/-- The access by function `fn` has completed as an Unsupported Request, which AER latches, and changed nothing else (R398, R400). -/
def notServed (fn : Nat) (s t : State) : Prop :=
  t = { s with aer := t.aer, outputs := s.outputs ++ [.unsupported fn] }
    ∧ (tget 0 fn t.aer).toNat.testBit 20 = true ∧ ∀ f, f ≠ fn → tget 0 f t.aer = tget 0 f s.aer

/-- A doorbell page: DOORBELL sets its ring word; EVQ_ENABLE enables a queue that passes the check of R407, and is refused with the
check's code otherwise, or with 0x01 where a reserved bit is set, whenever the write arrives; EVQ_HEAD_WRITE within the ring moves HEAD;
EVQ_MESSAGE sends VF vector 0 HOLDOFF ticks after the last, or leaves it pending where the vector is masked. Outside
an IDE stream, where one is required, each access is an Unsupported Request (R56, R399, R403, R404, R406 to R408). -/
def Obligations.DoorbellsAndQueues : Prop :=
  (∀ (ctx : Fin 32) (slot : Fin 16) (word : Fin 8) (v : BitVec 32) (ide : Bool) (s : State), ideBlocked s ide = false →
    ctx.val ≠ 0 → dawnDone s = true →
    Answers (.doorbell ctx slot word v ide) s (fun t => reg t .doorbell ctx (0x20 * slot + 4 * word) = v
      ∧ otherRegs [regKey .doorbell ctx (0x20 * slot + 4 * word)] s t ∧ t = { s with regs := t.regs }))
  ∧ (∀ (ctx : Fin 32) (slot : Fin 16) (word : Fin 8) (v : BitVec 32) (s : State), ideBlocked s false = true →
    Answers (.doorbell ctx slot word v false) s (notServed ctx s))
  ∧ (∀ (ctx : Fin 32) (v : BitVec 32) (ide : Bool) (s : State), ideBlocked s ide = false → ctx.val ≠ 0 → dawnDone s = true →
    fld v.toNat 5 3 = 0 → fld v.toNat 9 7 = 0 → evqEnableCheck s ctx (fld v.toNat 0 5) = 0 →
    Answers (.evqEnable ctx v ide) s (fun t => evqEnabled t ctx = true
      ∧ rf t .doorbell ctx Off.doorbellEvqCfg 0 5
          = (if evqEnabled s ctx then rf s .doorbell ctx Off.doorbellEvqCfg 0 5 else fld v.toNat 0 5)
      ∧ rf t .doorbell ctx Off.doorbellEvqCfg 16 16 = fld v.toNat 16 16 ∧ onlyRegs s t))
  ∧ (∀ (ctx : Fin 32) (v : BitVec 32) (ide : Bool) (s : State), ideBlocked s ide = false → ctx.val ≠ 0 → dawnDone s = true →
    fld v.toNat 5 3 = 0 → fld v.toNat 9 7 = 0 → evqEnableCheck s ctx (fld v.toNat 0 5) ≠ 0 →
    Answers (.evqEnable ctx v ide) s (fun t => evqEnabled t ctx = evqEnabled s ctx
      ∧ reg t .doorbell ctx Off.doorbellEvqCfg = reg s .doorbell ctx Off.doorbellEvqCfg
      ∧ rf t .doorbell ctx Off.doorbellEvqStatus 8 8 = evqEnableCheck s ctx (fld v.toNat 0 5) ∧ onlyRegs s t))
  ∧ (∀ (ctx : Fin 32) (v : BitVec 32) (ide : Bool) (s : State), ideBlocked s ide = false → ctx.val ≠ 0 →
    fld v.toNat 5 3 ≠ 0 ∨ fld v.toNat 9 7 ≠ 0 →
    Answers (.evqEnable ctx v ide) s (fun t => reg t .doorbell ctx Off.doorbellEvqCfg = reg s .doorbell ctx Off.doorbellEvqCfg
      ∧ rf t .doorbell ctx Off.doorbellEvqStatus 8 8 = 0x01 ∧ onlyRegs s t))
  ∧ (∀ (ctx : Fin 32) (v : BitVec 32) (ide : Bool) (s : State), ideBlocked s ide = false → ctx.val ≠ 0 → dawnDone s = true →
    Answers (.evqHeadWrite ctx v ide) s (fun t =>
      reg t .doorbell ctx Off.doorbellEvqHead
          = (if (reg s .doorbell ctx Off.doorbellEvqTail - v).toNat ≤ 2 ^ rf s .doorbell ctx Off.doorbellEvqCfg 0 5 then v
            else reg s .doorbell ctx Off.doorbellEvqHead)
      ∧ reg t .doorbell ctx Off.doorbellEvqTail = reg s .doorbell ctx Off.doorbellEvqTail ∧ onlyRegs s t))
  ∧ (∀ (ctx : Fin 32) (s : State) (last : Word) (sent : DWord), ctx.val ≠ 0 → tget (0, 0) ctx.val s.evqSent = (last, sent) →
    reg s .doorbell ctx Off.doorbellEvqTail ≠ last →
    sent.toNat + rf s .doorbell ctx Off.doorbellEvqCfg 16 16 ≤ s.time.toNat →
    Answers (.evqMessage ctx) s (fun t => (if tget false (64 * ctx) s.msixOpen
        then t.outputs = s.outputs ++ [.msix ctx 0] ∧ t.msixPending = s.msixPending
        else t.outputs = s.outputs ∧ tget false (64 * ctx) t.msixPending = true)
      ∧ tget (0, 0) ctx.val t.evqSent = (reg s .doorbell ctx Off.doorbellEvqTail, s.time) ∧ t.regs = s.regs))

/-- WINDOW_READ carries the read to the node its window names, or completes it with NaN words where it does not translate;
WINDOW_WRITE marks that node as written, or discards the write and counts the fault; an access beyond BAR4, or outside a required IDE
stream, is an Unsupported Request. The PCIe link's state is latched, an IDE failure is recorded and its stream loses its keys, and an
IDE stream is keyed within an SPDM session (R398, R401, R402, R404, R405, R417, R477). -/
def Obligations.HostWindows : Prop :=
  (∀ (fn : Fin 32) (dw len : Nat) (ide : Bool) (s : State) (w : Target), ideBlocked s ide = false → len ≠ 0 →
    windowOutside s fn (4 * dw) (4 * len) = false → quiescing s .pcie 0 = false → windowTarget s fn (windowAddr s fn (4 * dw)) (4 * len) .r = .ok w →
    Answers (.windowRead fn dw len ide) s (fun t => (∃ r, r ∈ t.hostReads ∧ r.id = s.nextRead ∧ r.fn = fn
        ∧ r.addr = windowAddr s fn (4 * dw) ∧ r.len = 4 * len ∧ ∀ node ∈ s.hostDirty, node ∈ r.flushes) ∧ t.nextRead = s.nextRead + 1 ∧ t.hostDirty = []
      ∧ sameMemory s t ∧ t.regs = s.regs ∧ t.cores = s.cores))
  ∧ (∀ (fn : Fin 32) (dw len : Nat) (ide : Bool) (s s1 : State) (r : Nat), ideBlocked s ide = false → len ≠ 0 →
    windowOutside s fn (4 * dw) (4 * len) = false → quiescing s .pcie 0 = false → windowTarget s fn (windowAddr s fn (4 * dw)) (4 * len) .r = .error (s1, r) →
    Answers (.windowRead fn dw len ide) s (fun t =>
      t.outputs.getLast? = some (.hostData fn (windowAddr s fn (4 * dw)) (nanWords len))
      ∧ reg t .pcie 0 Off.pcieWinFaultCount = satInc (reg s .pcie 0 Off.pcieWinFaultCount)
      ∧ t.hostReads = s.hostReads ∧ onlyDevice s t))
  ∧ (∀ (fn : Fin 32) (dw : Nat) (data : List Byte) (ide : Bool) (s : State) (w : Target), ideBlocked s ide = false →
    data.length / 4 ≠ 0 → windowOutside s fn (4 * dw) (data.length / 4 * 4) = false → quiescing s .pcie 0 = false →
    windowTarget s fn (windowAddr s fn (4 * dw)) (data.length / 4 * 4) .w = .ok w →
    Answers (.windowWrite fn dw data ide) s (fun t => w.node ∈ t.hostDirty ∧ (∀ n ∈ s.hostDirty, n ∈ t.hostDirty)
      ∧ sameMemory s t ∧ t.regs = s.regs ∧ t.cores = s.cores))
  ∧ (∀ (fn : Fin 32) (dw : Nat) (data : List Byte) (ide : Bool) (s s1 : State) (r : Nat), ideBlocked s ide = false →
    data.length / 4 ≠ 0 → windowOutside s fn (4 * dw) (data.length / 4 * 4) = false → quiescing s .pcie 0 = false →
    windowTarget s fn (windowAddr s fn (4 * dw)) (data.length / 4 * 4) .w = .error (s1, r) →
    Answers (.windowWrite fn dw data ide) s (fun t => t.hostDirty = s.hostDirty ∧ onlyDevice s t
      ∧ reg t .pcie 0 Off.pcieWinFaultCount = satInc (reg s .pcie 0 Off.pcieWinFaultCount)))
  ∧ (∀ (fn : Fin 32) (dw len : Nat) (data : List Byte) (ide : Bool) (s : State),
    (ideBlocked s ide = true ∨ windowOutside s fn (4 * dw) (4 * len) = true →
      Answers (.windowRead fn dw len ide) s (notServed fn s))
    ∧ (ideBlocked s ide = true ∨ windowOutside s fn (4 * dw) (data.length / 4 * 4) = true →
      Answers (.windowWrite fn dw data ide) s (notServed fn s)))
  ∧ (∀ (speed : BitVec 3) (width : BitVec 5) (flit : Bool) (s : State),
    Answers (.pcieLink speed width flit) s (fun t => rf t .pcie 0 Off.pcieLink 0 3 = speed.toNat
      ∧ rf t .pcie 0 Off.pcieLink 4 5 = (if speed = 0 then 0 else width.toNat) ∧ onlyDevice s t))
  ∧ (∀ (stream : BitVec 2) (s : State), Answers (.ideFail stream) s (fun t =>
      reg t .pcie 0 Off.eventCount = satInc (reg s .pcie 0 Off.eventCount) ∧ rbit t .pcie 0 Off.err 3 = true
      ∧ rbit t .pcie 0 Off.pcieIdeState stream.toNat = false
      ∧ (∀ k, k ≠ stream.toNat → rbit t .pcie 0 Off.pcieIdeState k = rbit s .pcie 0 Off.pcieIdeState k) ∧ onlyDevice s t))
  ∧ (∀ (stream : BitVec 2) (s : State), s.spdm ≠ .session → Answers (.ideKm stream) s (fun t => t = s))
  ∧ (∀ (stream : BitVec 2) (s : State), s.spdm = .session → Answers (.ideKm stream) s (fun t =>
      rbit t .pcie 0 Off.pcieIdeState stream.toNat = true
      ∧ (∀ k, k ≠ stream.toNat → rbit t .pcie 0 Off.pcieIdeState k = rbit s .pcie 0 Off.pcieIdeState k) ∧ onlyRegs s t))

/-! ## The slow wires (R375, R412, R413, R416) -/

/-- The target has answered on I3C with `o`, which an IBI announces, and nothing else has changed. -/
def i3cAnswered (o : Output) (s t : State) : Prop := t = { s with outputs := s.outputs ++ [.ibi 0xAE, o] }

/-- What the target puts on its path for an SPDM message: over DOE the message, over MCTP its transmission units behind the message
type, each announced by an IBI (R412, R413). -/
def spoken (path : SpdmPath) (l : List Byte) : List Output :=
  match path with
  | .doe => [.spdm false false l]
  | .doeSecured => [.spdm false true l]
  | .mctp => (units (0x05 :: l)).flatMap (fun u => [.ibi 0xAE, .spdm true false u])
  | .mctpSecured => (units (0x06 :: l)).flatMap (fun u => [.ibi 0xAE, .spdm true true u])

/-- The target has answered the SPDM error `e`, and nothing else has changed. -/
def spdmRefused (path : SpdmPath) (e : Byte) (s t : State) : Prop :=
  t = { s with outputs := s.outputs ++ spoken path [0x13, 0x7F, e, 0x00] }

/-- The SPDM request `i` with code `code` that is heard: of version 1.3 and in a phase where it belongs, it is answered with its
response and heard, and the responder's phase is `after`; where it has none it gets that error; of another version, or in any other
phase, it gets an error; and with an error nothing else changes. -/
def spdmMoves (i : SpdmPath → List Byte → Instr) (code : Nat) (before : List SpdmPhase) (after : SpdmPhase → SpdmPhase) : Prop :=
  ∀ (path : SpdmPath) (request : List Byte) (s : State), spdmHears s path = true → (code = 0xEC → pathSecured path = true) →
    (∀ l, request.getD 0 0 = 0x13 → before.contains s.spdm = true → spdmResponse s code request = .ok l →
      Answers (i path request) s (fun t => t = { s with
        outputs := s.outputs ++ spoken path l, spdm := after s.spdm, spdmHeard := s.spdmHeard ++ [request] }))
    ∧ (∀ e, request.getD 0 0 = 0x13 → before.contains s.spdm = true → spdmResponse s code request = .error e →
      Answers (i path request) s (spdmRefused path e s))
    ∧ (request.getD 0 0 = 0x13 → before.contains s.spdm = false → Answers (i path request) s (spdmRefused path 0x04 s))
    ∧ (request.getD 0 0 ≠ 0x13 → Answers (i path request) s (spdmRefused path 0x41 s))

/-- I3C: ENTDAA gives an address to a target that has none, RSTDAA clears it, and a target with an address answers: MCTP control, with
its endpoint ID, its versions and its four message types; PLDM, with its 23 records, each sensor's reading, and each effecter's value;
SETNUMERICEFFECTERVALUE within its range sets the cap and outside it answers ERROR_INVALID_DATA; a message leaves in transmission units of
64 B. SPDM: GET_VERSION starts the exchange afresh, and each request moves the responder from the phase in which it belongs. JTAG: BYPASS, IDCODE, SAMPLE/PRELOAD and EXTEST shift
out what R416 names (R375, R412, R413, R416; the codes are PRESUMED, the numbering of sensors and the phases the model's). -/
def Obligations.SidebandAnswers : Prop :=
  (∀ (addr : BitVec 7) (s : State), s.firmware = true → i3cAddr s = 0 →
    Answers (.entdaa addr) s (fun t => i3cAddr t = addr.toNat ∧ onlyRegs s t
      ∧ t.outputs = s.outputs ++ [.daaId Config.provisionedId 0x26 0x00]))
  ∧ (∀ s : State, Answers .rstdaa s (fun t => i3cAddr t = 0 ∧ onlyRegs s t))
  ∧ (∀ (eid : BitVec 8) (s : State), s.firmware = true → i3cAddr s ≠ 0 → eid ≠ 0 → eid ≠ 0xFF →
    Answers (.setEndpointId eid) s (fun t => mctpEid t = eid.toNat ∧ i3cAddr t = i3cAddr s ∧ onlyRegs s t
      ∧ t.outputs = s.outputs ++ [.ibi 0xAE, .mctp 0x01 0 [eid.toNat]]))
  ∧ (∀ s : State, s.firmware = true → i3cAddr s ≠ 0 →
    Answers .getEndpointId s (i3cAnswered (.mctp 0x02 0 [mctpEid s]) s)
      ∧ Answers .getMctpVersionSupport s (i3cAnswered (.mctp 0x04 0 Config.mctpVersions) s)
      ∧ Answers .getMessageTypeSupport s (i3cAnswered (.mctp 0x05 0 [0x00, 0x01, 0x05, 0x06]) s)
      ∧ Answers .getpdrrepositoryinfo s (i3cAnswered (.pldm 0x50 0 [23]) s))
  ∧ (∀ (handle : BitVec 32) (s : State), s.firmware = true → i3cAddr s ≠ 0 →
    Answers (.getpdr handle) s (fun t => t = { s with outputs := s.outputs ++ (if 1 ≤ handle.toNat ∧ handle.toNat ≤ 23
      then (units (pdrBytes handle.toNat)).flatMap (fun u => [.ibi 0xAE, .pldm 0x51 0 (u.map BitVec.toNat)])
      else [.ibi 0xAE, .pldm 0x51 0x82 []]) }))
  ∧ (∀ l : List Byte, (units l).flatten = l ∧ ∀ u ∈ units l, 1 ≤ u.length ∧ u.length ≤ 64)
  ∧ (∀ (n : BitVec 16) (s : State), s.firmware = true → i3cAddr s ≠ 0 →
    Answers (.getsensorreading n) s (i3cAnswered (match sensorValue s n.toNat with
        | some x => .pldm 0x11 0 [x]
        | none => .pldm 0x11 0x80 []) s)
      ∧ Answers (.getstatesensorreadings n) s (i3cAnswered (match stateValue s n.toNat with
        | some x => .pldm 0x21 0 [x]
        | none => .pldm 0x21 0x80 []) s)
      ∧ Answers (.getnumericeffectervalue n) s (i3cAnswered (match effecterReg n.toNat with
        | some e => .pldm 0x32 0 [(reg s .steward 0 e.1).toNat]
        | none => .pldm 0x32 0x80 []) s))
  ∧ (∀ (n : BitVec 16) (v : BitVec 32) (s : State) (off top : Nat), s.firmware = true → i3cAddr s ≠ 0 →
    effecterReg n.toNat = some (off, top) → 1 ≤ v.toNat → v.toNat ≤ top →
    Answers (.setnumericeffectervalue n v) s (fun t => reg t .steward 0 off = v
      ∧ otherRegs [regKey .steward 0 off] s t ∧ t = { s with
        regs := t.regs, outputs := s.outputs ++ [.ibi 0xAE, .pldm 0x31 0 []] }))
  ∧ (∀ (n : BitVec 16) (v : BitVec 32) (s : State) (off top : Nat), s.firmware = true → i3cAddr s ≠ 0 →
    effecterReg n.toNat = some (off, top) → v.toNat = 0 ∨ top < v.toNat →
    Answers (.setnumericeffectervalue n v) s (i3cAnswered (.pldm 0x31 0x02 []) s))
  ∧ (∀ (path : SpdmPath) (request : List Byte) (s : State), spdmHears s path = true →
    Answers (.getVersion path request) s (fun t => if pathSecured path then spdmRefused path 0x04 s t
      else t = { s with
        outputs := s.outputs ++ spoken path [0x10, 0x04, 0x00, 0x00, 0x00, 0x01, 0x00, 0x13]
        spdm := .versioned, spdmHeard := [request] }))
  ∧ spdmMoves .getCapabilities 0xE1 [.versioned] (fun _ => .capable)
  ∧ spdmMoves .negotiateAlgorithms 0xE3 [.capable] (fun _ => .ready)
  ∧ spdmMoves .getDigests 0x81 spdmAgreed id ∧ spdmMoves .getCertificate 0x82 spdmAgreed id
  ∧ spdmMoves .challenge 0x83 spdmAgreed id ∧ spdmMoves .getMeasurements 0xE0 spdmAgreed id
  ∧ spdmMoves .keyExchange 0xE4 [.ready] (fun _ => .exchanged) ∧ spdmMoves .finish 0xE5 [.exchanged] (fun _ => .session)
  ∧ spdmMoves .endSession 0xEC [.session] (fun _ => .ready)
  ∧ (∀ (path : SpdmPath) (request : List Byte) (s : State), spdmHears s path = true → pathSecured path = false →
    Answers (.endSession path request) s (spdmRefused path 0x0B s))
  ∧ (∀ (path : SpdmPath) (s : State), s.firmware = true → (pathMctp path = true → i3cAddr s ≠ 0) →
    (pathSecured path = true → s.spdm = .exchanged ∨ s.spdm = .session) → spdmHears s path = true)
  ∧ (∀ (len tdi : Nat) (s : State), len ≠ 0 → Answers (.bypass len tdi) s (fun t => t.jtag = .bypass
      ∧ t.bypass = tdi.testBit (len - 1) ∧ t.boundary = s.boundary
      ∧ ∃ out, t.outputs = s.outputs ++ [.tdo out] ∧ out.testBit 0 = false
        ∧ ∀ k, k + 1 < len → out.testBit (k + 1) = tdi.testBit k))
  ∧ (∀ s : State, Answers .idcode s (fun t => t = { s with jtag := .idcode, outputs := s.outputs ++ [.tdo 0x1716A2B7] }))
  ∧ (∀ (pins tdi : Nat) (s : State),
    Answers (.samplePreload pins tdi) s (fun t =>
      t = { s with jtag := .sample, boundary := tdi, outputs := s.outputs ++ [.tdo pins] })
    ∧ Answers (.extest pins tdi) s (fun t => t = { s with
        jtag := .extest, boundary := tdi, outputs := s.outputs ++ [.pins s.boundary, .tdo pins, .pins tdi] }))

/-! ## Registers (R12 to R14, R400, R424, R434 to R445) -/

/-- The word that ENABLE, DISABLE or QUIESCE writes to CTRL. -/
def ctrlWord (v : Word) (k : Nat) (on : Bool) : Word := det (setFld v.toNat k 1 (b2n on))

/-- The page at page number `n` is of block `b`, and the host's access reaches its instance `i`. -/
def reaches (s : State) (n : Nat) (b : Block) (i : Nat) : Prop :=
  ∃ rep, pageOf n = some (b, rep) ∧ i = (if b.instanced then shownInstance s b else rep)

/-- ENABLE of a page that is not enabled starts its check, with BUSY 1, and ENABLE_CHECK_END enables the page, or puts CTRL back and
shows the code and the register of the first check that fails; DISABLE of an enabled page clears ENABLED, or is refused; QUIESCE reads
BUSY 1 until QUIESCE_DONE (R437 to R440, R462, R465). -/
def Obligations.PagesEnable : Prop :=
  (∀ (n : BitVec 14) (v : BitVec 32) (s : State) (b : Block) (i k : Nat), hostReady s b → reaches s n.toNat b i →
    b.enableBit = some k → b.hostFixed = false → enabled s b i = false →
    ctrlWord v k true &&& ~~~(definedMask b Off.ctrl) = 0 →
    Answers (.enable n v) s (fun t => t.checks = [(b, i, reg s b i Off.ctrl)] ∧ rbit t b i Off.status 1 = true
      ∧ enabled t b i = false ∧ sameMemory s t ∧ t.cores = s.cores))
  ∧ (∀ (n : BitVec 14) (index : Fin 512) (s s1 : State) (b : Block) (rep i k : Nat) (old : Word),
    pageOf n.toNat = some (b, rep) → i = namedInstance b rep index → s.checks = [(b, i, old)] → b.enableBit = some k →
    s1 = setRbit { s with checks := [] } b i Off.status 1 (quiescing s b i && inFlight s b i) →
    Answers (.enableCheckEnd n index) s (fun t => t.checks = [] ∧ match enableCheck s1 b i with
      | none => enabled t b i = true
      | some (code, off) => enabled t b i = enabled s b i ∧ reg t b i Off.ctrl = old
          ∧ rf t b i Off.status 8 8 = code % 256 ∧ rf t b i Off.status 16 16 = off % 65536))
  ∧ (∀ (n : BitVec 14) (v : BitVec 32) (s : State) (b : Block) (i k : Nat), hostReady s b → reaches s n.toNat b i →
    b.enableBit = some k → b.hostFixed = false → enabled s b i = true →
    ctrlWord v k false &&& ~~~(definedMask b Off.ctrl) = 0 → disableCheck s b i (ctrlWord v k false) = 0 →
    Answers (.disable n v) s (fun t => enabled t b i = false))
  ∧ (∀ (n : BitVec 14) (v : BitVec 32) (s : State) (b : Block) (i k : Nat), hostReady s b → reaches s n.toNat b i →
    b.enableBit = some k → b.hostFixed = false → enabled s b i = true →
    ctrlWord v k false &&& ~~~(definedMask b Off.ctrl) = 0 → disableCheck s b i (ctrlWord v k false) ≠ 0 →
    Answers (.disable n v) s (fun t => enabled t b i = true
      ∧ rf t b i Off.status 8 8 = disableCheck s b i (ctrlWord v k false) ∧ onlyRegs s t))
  ∧ (∀ (n : BitVec 14) (v : BitVec 32) (s : State) (b : Block) (i k j : Nat), hostReady s b → reaches s n.toNat b i →
    b.quiesceBit = some k → b.enableBit = some j → b.hostFixed = false → enabled s b i = true → quiescing s b i = false →
    ctrlWord v k true &&& ~~~(definedMask b Off.ctrl) = 0 → (ctrlWord v k true).toNat.testBit j = true →
    Answers (.quiesce n v) s (fun t => quiescing t b i = true ∧ rbit t b i Off.status 1 = true ∧ enabled t b i = true
      ∧ onlyRegs s t))
  ∧ (∀ (n : BitVec 14) (index : Fin 512) (s : State) (b : Block) (rep i : Nat), pageOf n.toNat = some (b, rep) →
    i = namedInstance b rep index → quiescing s b i = true → inFlight s b i = false → s.checks = [] →
    Answers (.quiesceDone n index) s (fun t => rbit t b i Off.status 1 = false ∧ onlyRegs s t))

/-- R32: a read of BELL.TIME_LO answers the low half of BELLTIME and latches the upper 32 bits; a read of TIME_HI answers what was
latched, however much later; and at reset, with no read of TIME_LO before it, it answers 0, as R445 fixes. -/
def Obligations.BellTimeLatches : Prop :=
  (∀ (host ide : Bool) (s : State), Answers (.readLoLatch host .bar0 (BitVec.ofNat 26 (0x2000 + Off.bellTimeLo)) 4 ide) s (fun t =>
      t.outputs = s.outputs ++ [.regRead (s.time.setWidth 32)]
      ∧ latched t host .bell 0 Off.bellTimeLo = (s.time >>> 32).setWidth 32
      ∧ latched t (!host) .bell 0 Off.bellTimeLo = latched s (!host) .bell 0 Off.bellTimeLo
      ∧ t = { s with latches := t.latches, outputs := t.outputs }))
  ∧ (∀ (host ide : Bool) (s : State), Answers (.readLoLatch host .bar0 (BitVec.ofNat 26 (0x2000 + Off.bellTimeHi)) 4 ide) s (fun t =>
      t = { s with outputs := s.outputs ++ [.regRead (latched s host .bell 0 Off.bellTimeLo)] }))
  ∧ (∀ (host ide : Bool) (s t : State) (o : List Output) (x : DWord),
    exec (.readLoLatch host .bar0 (BitVec.ofNat 26 (0x2000 + Off.bellTimeLo)) 4 ide) s = .next t →
    Answers (.readLoLatch host .bar0 (BitVec.ofNat 26 (0x2000 + Off.bellTimeHi)) 4 ide) { t with time := x, outputs := o } (fun u =>
      u.outputs = o ++ [.regRead ((s.time >>> 32).setWidth 32)]))
  ∧ (∀ host ide : Bool, Answers (.readLoLatch host .bar0 (BitVec.ofNat 26 (0x2000 + Off.bellTimeHi)) 4 ide) State.reset (fun t =>
      t.outputs = [.regRead 0]))

/-- R443: a record with code k sets ERR[k − 1] and adds 1 to EVENT_COUNT; if ERR was 0, ERR_FIRST and ERR_INFO take its code and its
detail; INT_STATUS[31] is set while ERR AND ERR_EN is not 0; and when bits of INT_STATUS AND INT_EN rise, one message is sent on vector
INT_VECTOR, or left pending where that vector is masked. Shown of a record, of a raised bit of INT_STATUS, and of a write of a header register. -/
def Obligations.RecordsCounted : Prop :=
  let sent := fun (s t : State) (b : Block) (i : Nat) => let v := rf t b i Off.intVector 0 6
    if intLive t b i &&& ~~~intLive s b i = 0 then t.outputs = s.outputs ∧ t.msixPending = s.msixPending
    else if tget false v s.msixOpen then t.outputs = s.outputs ++ [.msix 0 v] ∧ t.msixPending = s.msixPending
    else t.outputs = s.outputs ∧ t.msixPending = tset false v true s.msixPending
  let summary := fun (t : State) (b : Block) (i : Nat) =>
    rbit t b i Off.intStatus 31 = decide (reg t b i Off.err &&& reg t b i Off.errEn ≠ 0)
  (∀ (s t : State) (b : Block) (i code : Nat) (detail : Word), 1 ≤ code → code ≤ 32 → pageRecord s b i code detail = t →
    (∀ k, k < 32 → rbit t b i Off.err k = (rbit s b i Off.err k || k == code - 1))
    ∧ reg t b i Off.eventCount = satInc (reg s b i Off.eventCount)
    ∧ (if reg s b i Off.err = 0 then rf t b i Off.errFirst 0 8 = code ∧ reg t b i Off.errInfo = detail
      else reg t b i Off.errFirst = reg s b i Off.errFirst ∧ reg t b i Off.errInfo = reg s b i Off.errInfo)
    ∧ summary t b i ∧ (∀ k, k < 31 → rbit t b i Off.intStatus k = rbit s b i Off.intStatus k) ∧ sent s t b i
    ∧ otherRegs [regKey b i Off.err, regKey b i Off.eventCount, regKey b i Off.errFirst, regKey b i Off.errInfo,
        regKey b i Off.intStatus] s t ∧ onlyRegs s t)
  ∧ (∀ (s t : State) (b : Block) (i k : Nat), k < 32 → raiseInt s b i k = t →
    (∀ j, j < 32 → rbit t b i Off.intStatus j = (rbit s b i Off.intStatus j || j == k)) ∧ sent s t b i
      ∧ otherRegs [regKey b i Off.intStatus] s t ∧ onlyRegs s t)
  ∧ (∀ (s t : State) (b : Block) (i off : Nat) (v : Word), off ≠ Off.status → writeHeader s b i off v = t →
    summary t b i ∧ onlyRegs s t)

/-- REGISTER_WRITE of an aligned dword: one that sets a reserved bit is refused with 0x01 and the register's offset, whenever it
arrives, and any other before dawn is done with 0x03 by every page but GLOBAL and REEVE; STEWARD.PKG_CAP takes 1 to 2,800 and refuses any other value with 0x02;
any other access is an Unsupported Request, and where no page lies it is discarded; a doorbell page is read and written within a required
IDE stream alone, and a read answers its register. DEVQ_REC0_READ answers the first word of the record
at HEAD and latches the rest (R14, R396, R400, R424, R434, R440, R449, R452). -/
def Obligations.RegistersAccessed : Prop :=
  (∀ (a : BitVec 26) (v : BitVec 32) (ide : Bool) (s : State) (b : Block) (rep : Nat), a.toNat % 4 = 0 →
    pageOf (a.toNat / 4096) = some (b, rep) → b.instanced = false → a.toNat % 4096 ≠ Off.sel → hostOpen s b = false →
    s.checks = [] → reservedSet b (a.toNat % 4096) v = false →
    Answers (.registerWrite .bar0 a 4 v ide) s (fun t => rbit t b rep Off.status 2 = true ∧ rf t b rep Off.status 8 8 = 0x03
      ∧ rf t b rep Off.status 16 16 = a.toNat % 4096
      ∧ otherRegs [regKey b rep Off.status] s t ∧ onlyRegs s t))
  ∧ (∀ (a : BitVec 26) (v : BitVec 32) (ide : Bool) (s : State) (b : Block) (rep : Nat), a.toNat % 4 = 0 →
    pageOf (a.toNat / 4096) = some (b, rep) → b.instanced = false → a.toNat % 4096 ≠ Off.sel → s.checks = [] →
    regExists b (a.toNat % 4096) = true → v &&& ~~~(definedMask b (a.toNat % 4096)) ≠ 0 →
    Answers (.registerWrite .bar0 a 4 v ide) s (fun t => rf t b rep Off.status 8 8 = 0x01
      ∧ rf t b rep Off.status 16 16 = a.toNat % 4096 ∧ otherRegs [regKey b rep Off.status] s t ∧ onlyRegs s t))
  ∧ (∀ (v : BitVec 32) (ide : Bool) (s : State), hostReady s .steward → v.toNat < 2 ^ 12 →
    Answers (.registerWrite .bar0 (BitVec.ofNat 26 (0x3000 + Off.stewardPkgCap)) 4 v ide) s (fun t =>
      if 1 ≤ v.toNat ∧ v.toNat ≤ 2800
      then rf t .steward 0 Off.stewardPkgCap 0 12 = v.toNat ∧ otherRegs [regKey .steward 0 Off.stewardPkgCap] s t ∧ onlyRegs s t
      else reg t .steward 0 Off.stewardPkgCap = reg s .steward 0 Off.stewardPkgCap
        ∧ rf t .steward 0 Off.status 8 8 = 0x02 ∧ onlyRegs s t))
  ∧ (∀ (a : BitVec 26) (len : Nat) (v : BitVec 32) (ide : Bool) (s : State), a.toNat % 4 ≠ 0 ∨ len ≠ 4 →
    Answers (.registerWrite .bar0 a len v ide) s (notServed 0 s) ∧ Answers (.readLoLatch true .bar0 a len ide) s (notServed 0 s))
  ∧ (∀ (ctx : Fin 32) (a : BitVec 26) (len : Nat) (v : BitVec 32) (ide : Bool) (s : State),
    a.toNat % 4 ≠ 0 ∨ len ≠ 4 ∨ ideBlocked s ide = true →
    Answers (.registerWrite (.doorbell ctx) a len v ide) s (notServed ctx s)
      ∧ Answers (.readLoLatch true (.doorbell ctx) a len ide) s (notServed ctx s))
  ∧ (∀ (host ide : Bool) (ctx : Fin 32) (a : BitVec 26) (s : State), a.toNat % 4 = 0 → (host = true → ideBlocked s ide = false) →
    Answers (.readLoLatch host (.doorbell ctx) a 4 ide) s (fun t =>
      t = { s with outputs := s.outputs ++ [.regRead (readReg s .doorbell ctx a.toNat)] }))
  ∧ (∀ (a : BitVec 26) (v : BitVec 32) (ide : Bool) (s : State), a.toNat % 4 = 0 → pageOf (a.toNat / 4096) = none →
    Answers (.registerWrite .bar0 a 4 v ide) s (fun t => t = s))
  ∧ (∀ (host : Bool) (s : State) (r time : DWord), reg s .reeve 0 Off.reeveDevqHead ≠ reg s .reeve 0 Off.reeveDevqTail →
    tget (0, 0) ((reg s .reeve 0 Off.reeveDevqHead).toNat % 4096) s.devq = (r, time) →
    Answers (.devqRec0Read host) s (fun t => t.outputs = s.outputs ++ [.regRead (r.setWidth 32)]
      ∧ latched t host .reeve 0 (Off.reeveDevqRec0 + 4) = (r >>> 32).setWidth 32
      ∧ latched t host .reeve 0 (Off.reeveDevqRec0 + 8) = time.setWidth 32
      ∧ latched t host .reeve 0 (Off.reeveDevqRec0 + 12) = (time >>> 32).setWidth 32
      ∧ t.regs = s.regs ∧ t.devq = s.devq ∧ sameMemory s t))
  ∧ (∀ (host : Bool) (s : State), reg s .reeve 0 Off.reeveDevqHead = reg s .reeve 0 Off.reeveDevqTail →
    Answers (.devqRec0Read host) s (fun t => t.outputs = s.outputs ++ [.regRead 0] ∧ t.regs = s.regs ∧ sameMemory s t))
end

