-- ==== Sys2Proof/Laws/Bits.lean ====
section
/-!
SUPPORT. Fields of numbers: reading one after writing it, or after writing another that does not overlap it.
-/
namespace Sys2Proof.Machine

theorem testBit_fld (n lo w i : Nat) : (fld n lo w).testBit i = (decide (i < w) && n.testBit (lo + i)) := by
  simp [fld, Nat.testBit_mod_two_pow, Nat.testBit_shiftRight]

theorem fld_lt (n lo w : Nat) : fld n lo w < 2 ^ w := Nat.mod_lt _ (Nat.two_pow_pos w)

theorem setFld_eq (n lo w x : Nat) :
    setFld n lo w x = (n >>> (lo + w)) * 2 ^ (lo + w) + (x % 2 ^ w) * 2 ^ lo + n % 2 ^ lo := by
  have h1 := Nat.div_add_mod n (2 ^ lo)
  have h2 := Nat.div_add_mod (n / 2 ^ lo) (2 ^ w)
  simp only [setFld, fld, Nat.shiftRight_eq_div_pow, pow_add]
  rw [← Nat.div_div_eq_div_mul]
  have e : n - n / 2 ^ lo % 2 ^ w * 2 ^ lo = n / 2 ^ lo / 2 ^ w * (2 ^ lo * 2 ^ w) + n % 2 ^ lo := by
    have : n = (n / 2 ^ lo / 2 ^ w * (2 ^ lo * 2 ^ w) + n % 2 ^ lo) + n / 2 ^ lo % 2 ^ w * 2 ^ lo := by
      calc n = 2 ^ lo * (n / 2 ^ lo) + n % 2 ^ lo := h1.symm
        _ = 2 ^ lo * (2 ^ w * (n / 2 ^ lo / 2 ^ w) + n / 2 ^ lo % 2 ^ w) + n % 2 ^ lo := by rw [h2]
        _ = _ := by ring
    omega
  rw [e]; ring

theorem testBit_setFld (n lo w x i : Nat) :
    (setFld n lo w x).testBit i = if lo ≤ i ∧ i < lo + w then x.testBit (i - lo) else n.testBit i := by
  have e : setFld n lo w x
      = 2 ^ lo * (2 ^ w * (n >>> (lo + w)) + x % 2 ^ w) + n % 2 ^ lo := by
    rw [setFld_eq, pow_add]; ring
  rw [e, Nat.testBit_two_pow_mul_add _ (Nat.mod_lt _ (Nat.two_pow_pos lo)), Nat.testBit_mod_two_pow]
  by_cases h1 : i < lo
  · simp [h1, show ¬ lo ≤ i by omega]
  · rw [if_neg h1, Nat.testBit_two_pow_mul_add _ (Nat.mod_lt _ (Nat.two_pow_pos w)), Nat.testBit_mod_two_pow]
    by_cases h2 : i < lo + w
    · have h3 : i - lo < w := by omega
      simp [h2, h3, show lo ≤ i by omega]
    · have h3 : ¬ i - lo < w := by omega
      simp only [h3, h2, and_false, if_false, Nat.testBit_shiftRight]
      congr 1; omega

/-- A field read after it was written. -/
@[simp] theorem fld_setFld_same (n lo w x : Nat) : fld (setFld n lo w x) lo w = x % 2 ^ w := by
  apply Nat.eq_of_testBit_eq; intro i
  rw [testBit_fld, testBit_setFld, Nat.testBit_mod_two_pow]
  by_cases h : i < w
  · simp [h, show lo ≤ lo + i by omega]
  · simp [h]

/-- A field read after one that does not overlap it was written. -/
theorem fld_setFld_ne (n x : Nat) {lo w lo' w' : Nat} (h : lo' + w' ≤ lo ∨ lo + w ≤ lo') :
    fld (setFld n lo w x) lo' w' = fld n lo' w' := by
  apply Nat.eq_of_testBit_eq; intro i
  rw [testBit_fld, testBit_fld, testBit_setFld]
  by_cases hi : i < w'
  · have : ¬ (lo ≤ lo' + i ∧ lo' + i < lo + w) := by omega
    simp [this]
  · simp [hi]

theorem setFld_lt (n lo w x : Nat) {m : Nat} (hn : n < 2 ^ m) (hw : lo + w ≤ m) : setFld n lo w x < 2 ^ m := by
  apply Nat.lt_pow_two_of_testBit; intro i hi
  rw [testBit_setFld]
  have : ¬ (lo ≤ i ∧ i < lo + w) := by omega
  rw [if_neg this]
  exact Nat.testBit_lt_two_pow (lt_of_lt_of_le hn (Nat.pow_le_pow_right (by decide) hi))

@[simp] theorem b2n_testBit_zero (b : Bool) : (b2n b).testBit 0 = b := by cases b <;> rfl

@[simp] theorem b2n_mod_two (b : Bool) : b2n b % 2 = b2n b := by cases b <;> rfl

end Sys2Proof.Machine
end

