-- ==== Sys2Proof/Laws/State.lean ====
section
/-!
SUPPORT. What each update of the state leaves alone: one lemma for each update and each field it does not write.
-/
namespace Sys2Proof.Machine

variable (s : State)

/-! ## setReg -/

@[simp] theorem setReg_pending (b : Block) (i off : Nat) (v : Word) : (setReg s b i off v).pending = s.pending := rfl
@[simp] theorem setReg_latches (b : Block) (i off : Nat) (v : Word) : (setReg s b i off v).latches = s.latches := rfl
@[simp] theorem setReg_time (b : Block) (i off : Nat) (v : Word) : (setReg s b i off v).time = s.time := rfl
@[simp] theorem setReg_timeHeld (b : Block) (i off : Nat) (v : Word) : (setReg s b i off v).timeHeld = s.timeHeld := rfl
@[simp] theorem setReg_holdLeft (b : Block) (i off : Nat) (v : Word) : (setReg s b i off v).holdLeft = s.holdLeft := rfl
@[simp] theorem setReg_bellOffset (b : Block) (i off : Nat) (v : Word) : (setReg s b i off v).bellOffset = s.bellOffset := rfl
@[simp] theorem setReg_bellSlew (b : Block) (i off : Nat) (v : Word) : (setReg s b i off v).bellSlew = s.bellSlew := rfl
@[simp] theorem setReg_refTime (b : Block) (i off : Nat) (v : Word) : (setReg s b i off v).refTime = s.refTime := rfl
@[simp] theorem setReg_bellRun (b : Block) (i off : Nat) (v : Word) : (setReg s b i off v).bellRun = s.bellRun := rfl
@[simp] theorem setReg_bellFrameAt (b : Block) (i off : Nat) (v : Word) : (setReg s b i off v).bellFrameAt = s.bellFrameAt := rfl
@[simp] theorem setReg_bellPulse (b : Block) (i off : Nat) (v : Word) : (setReg s b i off v).bellPulse = s.bellPulse := rfl
@[simp] theorem setReg_cores (b : Block) (i off : Nat) (v : Word) : (setReg s b i off v).cores = s.cores := rfl
@[simp] theorem setReg_tscales (b : Block) (i off : Nat) (v : Word) : (setReg s b i off v).tscales = s.tscales := rfl
@[simp] theorem setReg_switch (b : Block) (i off : Nat) (v : Word) : (setReg s b i off v).switch = s.switch := rfl
@[simp] theorem setReg_mem (b : Block) (i off : Nat) (v : Word) : (setReg s b i off v).mem = s.mem := rfl
@[simp] theorem setReg_chk (b : Block) (i off : Nat) (v : Word) : (setReg s b i off v).chk = s.chk := rfl
@[simp] theorem setReg_correctedAt (b : Block) (i off : Nat) (v : Word) : (setReg s b i off v).correctedAt = s.correctedAt := rfl
@[simp] theorem setReg_pageBits (b : Block) (i off : Nat) (v : Word) : (setReg s b i off v).pageBits = s.pageBits := rfl
@[simp] theorem setReg_copyPages (b : Block) (i off : Nat) (v : Word) : (setReg s b i off v).copyPages = s.copyPages := rfl
@[simp] theorem setReg_touches (b : Block) (i off : Nat) (v : Word) : (setReg s b i off v).touches = s.touches := rfl
@[simp] theorem setReg_fired (b : Block) (i off : Nat) (v : Word) : (setReg s b i off v).fired = s.fired := rfl
@[simp] theorem setReg_frees (b : Block) (i off : Nat) (v : Word) : (setReg s b i off v).frees = s.frees := rfl
@[simp] theorem setReg_terrier (b : Block) (i off : Nat) (v : Word) : (setReg s b i off v).terrier = s.terrier := rfl
@[simp] theorem setReg_terrierOld (b : Block) (i off : Nat) (v : Word) : (setReg s b i off v).terrierOld = s.terrierOld := rfl
@[simp] theorem setReg_lanemaps (b : Block) (i off : Nat) (v : Word) : (setReg s b i off v).lanemaps = s.lanemaps := rfl
@[simp] theorem setReg_groups (b : Block) (i off : Nat) (v : Word) : (setReg s b i off v).groups = s.groups := rfl
@[simp] theorem setReg_staleAt (b : Block) (i off : Nat) (v : Word) : (setReg s b i off v).staleAt = s.staleAt := rfl
@[simp] theorem setReg_ports (b : Block) (i off : Nat) (v : Word) : (setReg s b i off v).ports = s.ports := rfl
@[simp] theorem setReg_routers (b : Block) (i off : Nat) (v : Word) : (setReg s b i off v).routers = s.routers := rfl
@[simp] theorem setReg_routeSeq (b : Block) (i off : Nat) (v : Word) : (setReg s b i off v).routeSeq = s.routeSeq := rfl
@[simp] theorem setReg_inbox (b : Block) (i off : Nat) (v : Word) : (setReg s b i off v).inbox = s.inbox := rfl
@[simp] theorem setReg_postedErrors (b : Block) (i off : Nat) (v : Word) : (setReg s b i off v).postedErrors = s.postedErrors := rfl
@[simp] theorem setReg_reeveTodo (b : Block) (i off : Nat) (v : Word) : (setReg s b i off v).reeveTodo = s.reeveTodo := rfl
@[simp] theorem setReg_chunks (b : Block) (i off : Nat) (v : Word) : (setReg s b i off v).chunks = s.chunks := rfl
@[simp] theorem setReg_closedChunks (b : Block) (i off : Nat) (v : Word) : (setReg s b i off v).closedChunks = s.closedChunks := rfl
@[simp] theorem setReg_transit (b : Block) (i off : Nat) (v : Word) : (setReg s b i off v).transit = s.transit := rfl
@[simp] theorem setReg_tags (b : Block) (i off : Nat) (v : Word) : (setReg s b i off v).tags = s.tags := rfl
@[simp] theorem setReg_keyDraws (b : Block) (i off : Nat) (v : Word) : (setReg s b i off v).keyDraws = s.keyDraws := rfl
@[simp] theorem setReg_devq (b : Block) (i off : Nat) (v : Word) : (setReg s b i off v).devq = s.devq := rfl
@[simp] theorem setReg_watchEvents (b : Block) (i off : Nat) (v : Word) : (setReg s b i off v).watchEvents = s.watchEvents := rfl
@[simp] theorem setReg_draws (b : Block) (i off : Nat) (v : Word) : (setReg s b i off v).draws = s.draws := rfl
@[simp] theorem setReg_pantryDraw (b : Block) (i off : Nat) (v : Word) : (setReg s b i off v).pantryDraw = s.pantryDraw := rfl
@[simp] theorem setReg_pantryId (b : Block) (i off : Nat) (v : Word) : (setReg s b i off v).pantryId = s.pantryId := rfl
@[simp] theorem setReg_harvest (b : Block) (i off : Nat) (v : Word) : (setReg s b i off v).harvest = s.harvest := rfl
@[simp] theorem setReg_harvestDue (b : Block) (i off : Nat) (v : Word) : (setReg s b i off v).harvestDue = s.harvestDue := rfl
@[simp] theorem setReg_harvestWanted (b : Block) (i off : Nat) (v : Word) : (setReg s b i off v).harvestWanted = s.harvestWanted := rfl
@[simp] theorem setReg_nvme (b : Block) (i off : Nat) (v : Word) : (setReg s b i off v).nvme = s.nvme := rfl
@[simp] theorem setReg_nvmeWait (b : Block) (i off : Nat) (v : Word) : (setReg s b i off v).nvmeWait = s.nvmeWait := rfl
@[simp] theorem setReg_pantryImage (b : Block) (i off : Nat) (v : Word) : (setReg s b i off v).pantryImage = s.pantryImage := rfl
@[simp] theorem setReg_storeImage (b : Block) (i off : Nat) (v : Word) : (setReg s b i off v).storeImage = s.storeImage := rfl
@[simp] theorem setReg_refill (b : Block) (i off : Nat) (v : Word) : (setReg s b i off v).refill = s.refill := rfl
@[simp] theorem setReg_lastRefill (b : Block) (i off : Nat) (v : Word) : (setReg s b i off v).lastRefill = s.lastRefill := rfl
@[simp] theorem setReg_validPages (b : Block) (i off : Nat) (v : Word) : (setReg s b i off v).validPages = s.validPages := rfl
@[simp] theorem setReg_landings (b : Block) (i off : Nat) (v : Word) : (setReg s b i off v).landings = s.landings := rfl
@[simp] theorem setReg_serve (b : Block) (i off : Nat) (v : Word) : (setReg s b i off v).serve = s.serve := rfl
@[simp] theorem setReg_started (b : Block) (i off : Nat) (v : Word) : (setReg s b i off v).started = s.started := rfl
@[simp] theorem setReg_coreReturned (b : Block) (i off : Nat) (v : Word) : (setReg s b i off v).coreReturned = s.coreReturned := rfl
@[simp] theorem setReg_saved (b : Block) (i off : Nat) (v : Word) : (setReg s b i off v).saved = s.saved := rfl
@[simp] theorem setReg_savedDraw (b : Block) (i off : Nat) (v : Word) : (setReg s b i off v).savedDraw = s.savedDraw := rfl
@[simp] theorem setReg_measuring (b : Block) (i off : Nat) (v : Word) : (setReg s b i off v).measuring = s.measuring := rfl
@[simp] theorem setReg_measured (b : Block) (i off : Nat) (v : Word) : (setReg s b i off v).measured = s.measured := rfl
@[simp] theorem setReg_measurements (b : Block) (i off : Nat) (v : Word) : (setReg s b i off v).measurements = s.measurements := rfl
@[simp] theorem setReg_wipes (b : Block) (i off : Nat) (v : Word) : (setReg s b i off v).wipes = s.wipes := rfl
@[simp] theorem setReg_tests (b : Block) (i off : Nat) (v : Word) : (setReg s b i off v).tests = s.tests := rfl
@[simp] theorem setReg_remaps (b : Block) (i off : Nat) (v : Word) : (setReg s b i off v).remaps = s.remaps := rfl
@[simp] theorem setReg_refreshing (b : Block) (i off : Nat) (v : Word) : (setReg s b i off v).refreshing = s.refreshing := rfl
@[simp] theorem setReg_hotFp (b : Block) (i off : Nat) (v : Word) : (setReg s b i off v).hotFp = s.hotFp := rfl
@[simp] theorem setReg_hotNext (b : Block) (i off : Nat) (v : Word) : (setReg s b i off v).hotNext = s.hotNext := rfl
@[simp] theorem setReg_waiting (b : Block) (i off : Nat) (v : Word) : (setReg s b i off v).waiting = s.waiting := rfl
@[simp] theorem setReg_throttles (b : Block) (i off : Nat) (v : Word) : (setReg s b i off v).throttles = s.throttles := rfl
@[simp] theorem setReg_wear (b : Block) (i off : Nat) (v : Word) : (setReg s b i off v).wear = s.wear := rfl
@[simp] theorem setReg_wearStored (b : Block) (i off : Nat) (v : Word) : (setReg s b i off v).wearStored = s.wearStored := rfl
@[simp] theorem setReg_socs (b : Block) (i off : Nat) (v : Word) : (setReg s b i off v).socs = s.socs := rfl
@[simp] theorem setReg_pkgEst (b : Block) (i off : Nat) (v : Word) : (setReg s b i off v).pkgEst = s.pkgEst := rfl
@[simp] theorem setReg_estNext (b : Block) (i off : Nat) (v : Word) : (setReg s b i off v).estNext = s.estNext := rfl
@[simp] theorem setReg_activity (b : Block) (i off : Nat) (v : Word) : (setReg s b i off v).activity = s.activity := rfl
@[simp] theorem setReg_energy (b : Block) (i off : Nat) (v : Word) : (setReg s b i off v).energy = s.energy := rfl
@[simp] theorem setReg_curfew (b : Block) (i off : Nat) (v : Word) : (setReg s b i off v).curfew = s.curfew := rfl
@[simp] theorem setReg_msixOpen (b : Block) (i off : Nat) (v : Word) : (setReg s b i off v).msixOpen = s.msixOpen := rfl
@[simp] theorem setReg_msixPending (b : Block) (i off : Nat) (v : Word) : (setReg s b i off v).msixPending = s.msixPending := rfl
@[simp] theorem setReg_bar4 (b : Block) (i off : Nat) (v : Word) : (setReg s b i off v).bar4 = s.bar4 := rfl
@[simp] theorem setReg_aer (b : Block) (i off : Nat) (v : Word) : (setReg s b i off v).aer = s.aer := rfl
@[simp] theorem setReg_hostReads (b : Block) (i off : Nat) (v : Word) : (setReg s b i off v).hostReads = s.hostReads := rfl
@[simp] theorem setReg_nextRead (b : Block) (i off : Nat) (v : Word) : (setReg s b i off v).nextRead = s.nextRead := rfl
@[simp] theorem setReg_hostDirty (b : Block) (i off : Nat) (v : Word) : (setReg s b i off v).hostDirty = s.hostDirty := rfl
@[simp] theorem setReg_mgmt (b : Block) (i off : Nat) (v : Word) : (setReg s b i off v).mgmt = s.mgmt := rfl
@[simp] theorem setReg_fw (b : Block) (i off : Nat) (v : Word) : (setReg s b i off v).fw = s.fw := rfl
@[simp] theorem setReg_firmware (b : Block) (i off : Nat) (v : Word) : (setReg s b i off v).firmware = s.firmware := rfl
@[simp] theorem setReg_booted (b : Block) (i off : Nat) (v : Word) : (setReg s b i off v).booted = s.booted := rfl
@[simp] theorem setReg_spdm (b : Block) (i off : Nat) (v : Word) : (setReg s b i off v).spdm = s.spdm := rfl
@[simp] theorem setReg_spdmHeard (b : Block) (i off : Nat) (v : Word) : (setReg s b i off v).spdmHeard = s.spdmHeard := rfl
@[simp] theorem setReg_evqSent (b : Block) (i off : Nat) (v : Word) : (setReg s b i off v).evqSent = s.evqSent := rfl
@[simp] theorem setReg_evqWait (b : Block) (i off : Nat) (v : Word) : (setReg s b i off v).evqWait = s.evqWait := rfl
@[simp] theorem setReg_jtag (b : Block) (i off : Nat) (v : Word) : (setReg s b i off v).jtag = s.jtag := rfl
@[simp] theorem setReg_boundary (b : Block) (i off : Nat) (v : Word) : (setReg s b i off v).boundary = s.boundary := rfl
@[simp] theorem setReg_bypass (b : Block) (i off : Nat) (v : Word) : (setReg s b i off v).bypass = s.bypass := rfl
@[simp] theorem setReg_scanTest (b : Block) (i off : Nat) (v : Word) : (setReg s b i off v).scanTest = s.scanTest := rfl
@[simp] theorem setReg_checks (b : Block) (i off : Nat) (v : Word) : (setReg s b i off v).checks = s.checks := rfl
@[simp] theorem setReg_stackHeld (b : Block) (i off : Nat) (v : Word) : (setReg s b i off v).stackHeld = s.stackHeld := rfl
@[simp] theorem setReg_dawnOf (b : Block) (i off : Nat) (v : Word) : (setReg s b i off v).dawnOf = s.dawnOf := rfl
@[simp] theorem setReg_partDawn (b : Block) (i off : Nat) (v : Word) : (setReg s b i off v).partDawn = s.partDawn := rfl
@[simp] theorem setReg_partWaiting (b : Block) (i off : Nat) (v : Word) : (setReg s b i off v).partWaiting = s.partWaiting := rfl
@[simp] theorem setReg_railOut (b : Block) (i off : Nat) (v : Word) : (setReg s b i off v).railOut = s.railOut := rfl
@[simp] theorem setReg_panPerst (b : Block) (i off : Nat) (v : Word) : (setReg s b i off v).panPerst = s.panPerst := rfl
@[simp] theorem setReg_refclkLost (b : Block) (i off : Nat) (v : Word) : (setReg s b i off v).refclkLost = s.refclkLost := rfl
@[simp] theorem setReg_perstLow (b : Block) (i off : Nat) (v : Word) : (setReg s b i off v).perstLow = s.perstLow := rfl
@[simp] theorem setReg_powerStep (b : Block) (i off : Nat) (v : Word) : (setReg s b i off v).powerStep = s.powerStep := rfl
@[simp] theorem setReg_outputs (b : Block) (i off : Nat) (v : Word) : (setReg s b i off v).outputs = s.outputs := rfl

/-! ## setRf -/

@[simp] theorem setRf_pending (b : Block) (i off lo w x : Nat) : (setRf s b i off lo w x).pending = s.pending :=
  setReg_pending s b i off _
@[simp] theorem setRf_latches (b : Block) (i off lo w x : Nat) : (setRf s b i off lo w x).latches = s.latches :=
  setReg_latches s b i off _
@[simp] theorem setRf_time (b : Block) (i off lo w x : Nat) : (setRf s b i off lo w x).time = s.time :=
  setReg_time s b i off _
@[simp] theorem setRf_timeHeld (b : Block) (i off lo w x : Nat) : (setRf s b i off lo w x).timeHeld = s.timeHeld :=
  setReg_timeHeld s b i off _
@[simp] theorem setRf_holdLeft (b : Block) (i off lo w x : Nat) : (setRf s b i off lo w x).holdLeft = s.holdLeft :=
  setReg_holdLeft s b i off _
@[simp] theorem setRf_bellOffset (b : Block) (i off lo w x : Nat) : (setRf s b i off lo w x).bellOffset = s.bellOffset :=
  setReg_bellOffset s b i off _
@[simp] theorem setRf_bellSlew (b : Block) (i off lo w x : Nat) : (setRf s b i off lo w x).bellSlew = s.bellSlew :=
  setReg_bellSlew s b i off _
@[simp] theorem setRf_refTime (b : Block) (i off lo w x : Nat) : (setRf s b i off lo w x).refTime = s.refTime :=
  setReg_refTime s b i off _
@[simp] theorem setRf_bellRun (b : Block) (i off lo w x : Nat) : (setRf s b i off lo w x).bellRun = s.bellRun :=
  setReg_bellRun s b i off _
@[simp] theorem setRf_bellFrameAt (b : Block) (i off lo w x : Nat) : (setRf s b i off lo w x).bellFrameAt = s.bellFrameAt :=
  setReg_bellFrameAt s b i off _
@[simp] theorem setRf_bellPulse (b : Block) (i off lo w x : Nat) : (setRf s b i off lo w x).bellPulse = s.bellPulse :=
  setReg_bellPulse s b i off _
@[simp] theorem setRf_cores (b : Block) (i off lo w x : Nat) : (setRf s b i off lo w x).cores = s.cores :=
  setReg_cores s b i off _
@[simp] theorem setRf_tscales (b : Block) (i off lo w x : Nat) : (setRf s b i off lo w x).tscales = s.tscales :=
  setReg_tscales s b i off _
@[simp] theorem setRf_switch (b : Block) (i off lo w x : Nat) : (setRf s b i off lo w x).switch = s.switch :=
  setReg_switch s b i off _
@[simp] theorem setRf_mem (b : Block) (i off lo w x : Nat) : (setRf s b i off lo w x).mem = s.mem :=
  setReg_mem s b i off _
@[simp] theorem setRf_chk (b : Block) (i off lo w x : Nat) : (setRf s b i off lo w x).chk = s.chk :=
  setReg_chk s b i off _
@[simp] theorem setRf_correctedAt (b : Block) (i off lo w x : Nat) : (setRf s b i off lo w x).correctedAt = s.correctedAt :=
  setReg_correctedAt s b i off _
@[simp] theorem setRf_pageBits (b : Block) (i off lo w x : Nat) : (setRf s b i off lo w x).pageBits = s.pageBits :=
  setReg_pageBits s b i off _
@[simp] theorem setRf_copyPages (b : Block) (i off lo w x : Nat) : (setRf s b i off lo w x).copyPages = s.copyPages :=
  setReg_copyPages s b i off _
@[simp] theorem setRf_touches (b : Block) (i off lo w x : Nat) : (setRf s b i off lo w x).touches = s.touches :=
  setReg_touches s b i off _
@[simp] theorem setRf_fired (b : Block) (i off lo w x : Nat) : (setRf s b i off lo w x).fired = s.fired :=
  setReg_fired s b i off _
@[simp] theorem setRf_frees (b : Block) (i off lo w x : Nat) : (setRf s b i off lo w x).frees = s.frees :=
  setReg_frees s b i off _
@[simp] theorem setRf_terrier (b : Block) (i off lo w x : Nat) : (setRf s b i off lo w x).terrier = s.terrier :=
  setReg_terrier s b i off _
@[simp] theorem setRf_terrierOld (b : Block) (i off lo w x : Nat) : (setRf s b i off lo w x).terrierOld = s.terrierOld :=
  setReg_terrierOld s b i off _
@[simp] theorem setRf_lanemaps (b : Block) (i off lo w x : Nat) : (setRf s b i off lo w x).lanemaps = s.lanemaps :=
  setReg_lanemaps s b i off _
@[simp] theorem setRf_groups (b : Block) (i off lo w x : Nat) : (setRf s b i off lo w x).groups = s.groups :=
  setReg_groups s b i off _
@[simp] theorem setRf_staleAt (b : Block) (i off lo w x : Nat) : (setRf s b i off lo w x).staleAt = s.staleAt :=
  setReg_staleAt s b i off _
@[simp] theorem setRf_ports (b : Block) (i off lo w x : Nat) : (setRf s b i off lo w x).ports = s.ports :=
  setReg_ports s b i off _
@[simp] theorem setRf_routers (b : Block) (i off lo w x : Nat) : (setRf s b i off lo w x).routers = s.routers :=
  setReg_routers s b i off _
@[simp] theorem setRf_routeSeq (b : Block) (i off lo w x : Nat) : (setRf s b i off lo w x).routeSeq = s.routeSeq :=
  setReg_routeSeq s b i off _
@[simp] theorem setRf_inbox (b : Block) (i off lo w x : Nat) : (setRf s b i off lo w x).inbox = s.inbox :=
  setReg_inbox s b i off _
@[simp] theorem setRf_postedErrors (b : Block) (i off lo w x : Nat) : (setRf s b i off lo w x).postedErrors = s.postedErrors :=
  setReg_postedErrors s b i off _
@[simp] theorem setRf_reeveTodo (b : Block) (i off lo w x : Nat) : (setRf s b i off lo w x).reeveTodo = s.reeveTodo :=
  setReg_reeveTodo s b i off _
@[simp] theorem setRf_chunks (b : Block) (i off lo w x : Nat) : (setRf s b i off lo w x).chunks = s.chunks :=
  setReg_chunks s b i off _
@[simp] theorem setRf_closedChunks (b : Block) (i off lo w x : Nat) : (setRf s b i off lo w x).closedChunks = s.closedChunks :=
  setReg_closedChunks s b i off _
@[simp] theorem setRf_transit (b : Block) (i off lo w x : Nat) : (setRf s b i off lo w x).transit = s.transit :=
  setReg_transit s b i off _
@[simp] theorem setRf_tags (b : Block) (i off lo w x : Nat) : (setRf s b i off lo w x).tags = s.tags :=
  setReg_tags s b i off _
@[simp] theorem setRf_keyDraws (b : Block) (i off lo w x : Nat) : (setRf s b i off lo w x).keyDraws = s.keyDraws :=
  setReg_keyDraws s b i off _
@[simp] theorem setRf_devq (b : Block) (i off lo w x : Nat) : (setRf s b i off lo w x).devq = s.devq :=
  setReg_devq s b i off _
@[simp] theorem setRf_watchEvents (b : Block) (i off lo w x : Nat) : (setRf s b i off lo w x).watchEvents = s.watchEvents :=
  setReg_watchEvents s b i off _
@[simp] theorem setRf_draws (b : Block) (i off lo w x : Nat) : (setRf s b i off lo w x).draws = s.draws :=
  setReg_draws s b i off _
@[simp] theorem setRf_pantryDraw (b : Block) (i off lo w x : Nat) : (setRf s b i off lo w x).pantryDraw = s.pantryDraw :=
  setReg_pantryDraw s b i off _
@[simp] theorem setRf_pantryId (b : Block) (i off lo w x : Nat) : (setRf s b i off lo w x).pantryId = s.pantryId :=
  setReg_pantryId s b i off _
@[simp] theorem setRf_harvest (b : Block) (i off lo w x : Nat) : (setRf s b i off lo w x).harvest = s.harvest :=
  setReg_harvest s b i off _
@[simp] theorem setRf_harvestDue (b : Block) (i off lo w x : Nat) : (setRf s b i off lo w x).harvestDue = s.harvestDue :=
  setReg_harvestDue s b i off _
@[simp] theorem setRf_harvestWanted (b : Block) (i off lo w x : Nat) : (setRf s b i off lo w x).harvestWanted = s.harvestWanted :=
  setReg_harvestWanted s b i off _
@[simp] theorem setRf_nvme (b : Block) (i off lo w x : Nat) : (setRf s b i off lo w x).nvme = s.nvme :=
  setReg_nvme s b i off _
@[simp] theorem setRf_nvmeWait (b : Block) (i off lo w x : Nat) : (setRf s b i off lo w x).nvmeWait = s.nvmeWait :=
  setReg_nvmeWait s b i off _
@[simp] theorem setRf_pantryImage (b : Block) (i off lo w x : Nat) : (setRf s b i off lo w x).pantryImage = s.pantryImage :=
  setReg_pantryImage s b i off _
@[simp] theorem setRf_storeImage (b : Block) (i off lo w x : Nat) : (setRf s b i off lo w x).storeImage = s.storeImage :=
  setReg_storeImage s b i off _
@[simp] theorem setRf_refill (b : Block) (i off lo w x : Nat) : (setRf s b i off lo w x).refill = s.refill :=
  setReg_refill s b i off _
@[simp] theorem setRf_lastRefill (b : Block) (i off lo w x : Nat) : (setRf s b i off lo w x).lastRefill = s.lastRefill :=
  setReg_lastRefill s b i off _
@[simp] theorem setRf_validPages (b : Block) (i off lo w x : Nat) : (setRf s b i off lo w x).validPages = s.validPages :=
  setReg_validPages s b i off _
@[simp] theorem setRf_landings (b : Block) (i off lo w x : Nat) : (setRf s b i off lo w x).landings = s.landings :=
  setReg_landings s b i off _
@[simp] theorem setRf_serve (b : Block) (i off lo w x : Nat) : (setRf s b i off lo w x).serve = s.serve :=
  setReg_serve s b i off _
@[simp] theorem setRf_started (b : Block) (i off lo w x : Nat) : (setRf s b i off lo w x).started = s.started :=
  setReg_started s b i off _
@[simp] theorem setRf_coreReturned (b : Block) (i off lo w x : Nat) : (setRf s b i off lo w x).coreReturned = s.coreReturned :=
  setReg_coreReturned s b i off _
@[simp] theorem setRf_saved (b : Block) (i off lo w x : Nat) : (setRf s b i off lo w x).saved = s.saved :=
  setReg_saved s b i off _
@[simp] theorem setRf_savedDraw (b : Block) (i off lo w x : Nat) : (setRf s b i off lo w x).savedDraw = s.savedDraw :=
  setReg_savedDraw s b i off _
@[simp] theorem setRf_measuring (b : Block) (i off lo w x : Nat) : (setRf s b i off lo w x).measuring = s.measuring :=
  setReg_measuring s b i off _
@[simp] theorem setRf_measured (b : Block) (i off lo w x : Nat) : (setRf s b i off lo w x).measured = s.measured :=
  setReg_measured s b i off _
@[simp] theorem setRf_measurements (b : Block) (i off lo w x : Nat) : (setRf s b i off lo w x).measurements = s.measurements :=
  setReg_measurements s b i off _
@[simp] theorem setRf_wipes (b : Block) (i off lo w x : Nat) : (setRf s b i off lo w x).wipes = s.wipes :=
  setReg_wipes s b i off _
@[simp] theorem setRf_tests (b : Block) (i off lo w x : Nat) : (setRf s b i off lo w x).tests = s.tests :=
  setReg_tests s b i off _
@[simp] theorem setRf_remaps (b : Block) (i off lo w x : Nat) : (setRf s b i off lo w x).remaps = s.remaps :=
  setReg_remaps s b i off _
@[simp] theorem setRf_refreshing (b : Block) (i off lo w x : Nat) : (setRf s b i off lo w x).refreshing = s.refreshing :=
  setReg_refreshing s b i off _
@[simp] theorem setRf_hotFp (b : Block) (i off lo w x : Nat) : (setRf s b i off lo w x).hotFp = s.hotFp :=
  setReg_hotFp s b i off _
@[simp] theorem setRf_hotNext (b : Block) (i off lo w x : Nat) : (setRf s b i off lo w x).hotNext = s.hotNext :=
  setReg_hotNext s b i off _
@[simp] theorem setRf_waiting (b : Block) (i off lo w x : Nat) : (setRf s b i off lo w x).waiting = s.waiting :=
  setReg_waiting s b i off _
@[simp] theorem setRf_throttles (b : Block) (i off lo w x : Nat) : (setRf s b i off lo w x).throttles = s.throttles :=
  setReg_throttles s b i off _
@[simp] theorem setRf_wear (b : Block) (i off lo w x : Nat) : (setRf s b i off lo w x).wear = s.wear :=
  setReg_wear s b i off _
@[simp] theorem setRf_wearStored (b : Block) (i off lo w x : Nat) : (setRf s b i off lo w x).wearStored = s.wearStored :=
  setReg_wearStored s b i off _
@[simp] theorem setRf_socs (b : Block) (i off lo w x : Nat) : (setRf s b i off lo w x).socs = s.socs :=
  setReg_socs s b i off _
@[simp] theorem setRf_pkgEst (b : Block) (i off lo w x : Nat) : (setRf s b i off lo w x).pkgEst = s.pkgEst :=
  setReg_pkgEst s b i off _
@[simp] theorem setRf_estNext (b : Block) (i off lo w x : Nat) : (setRf s b i off lo w x).estNext = s.estNext :=
  setReg_estNext s b i off _
@[simp] theorem setRf_activity (b : Block) (i off lo w x : Nat) : (setRf s b i off lo w x).activity = s.activity :=
  setReg_activity s b i off _
@[simp] theorem setRf_energy (b : Block) (i off lo w x : Nat) : (setRf s b i off lo w x).energy = s.energy :=
  setReg_energy s b i off _
@[simp] theorem setRf_curfew (b : Block) (i off lo w x : Nat) : (setRf s b i off lo w x).curfew = s.curfew :=
  setReg_curfew s b i off _
@[simp] theorem setRf_msixOpen (b : Block) (i off lo w x : Nat) : (setRf s b i off lo w x).msixOpen = s.msixOpen :=
  setReg_msixOpen s b i off _
@[simp] theorem setRf_msixPending (b : Block) (i off lo w x : Nat) : (setRf s b i off lo w x).msixPending = s.msixPending :=
  setReg_msixPending s b i off _
@[simp] theorem setRf_bar4 (b : Block) (i off lo w x : Nat) : (setRf s b i off lo w x).bar4 = s.bar4 :=
  setReg_bar4 s b i off _
@[simp] theorem setRf_aer (b : Block) (i off lo w x : Nat) : (setRf s b i off lo w x).aer = s.aer :=
  setReg_aer s b i off _
@[simp] theorem setRf_hostReads (b : Block) (i off lo w x : Nat) : (setRf s b i off lo w x).hostReads = s.hostReads :=
  setReg_hostReads s b i off _
@[simp] theorem setRf_nextRead (b : Block) (i off lo w x : Nat) : (setRf s b i off lo w x).nextRead = s.nextRead :=
  setReg_nextRead s b i off _
@[simp] theorem setRf_hostDirty (b : Block) (i off lo w x : Nat) : (setRf s b i off lo w x).hostDirty = s.hostDirty :=
  setReg_hostDirty s b i off _
@[simp] theorem setRf_mgmt (b : Block) (i off lo w x : Nat) : (setRf s b i off lo w x).mgmt = s.mgmt :=
  setReg_mgmt s b i off _
@[simp] theorem setRf_fw (b : Block) (i off lo w x : Nat) : (setRf s b i off lo w x).fw = s.fw :=
  setReg_fw s b i off _
@[simp] theorem setRf_firmware (b : Block) (i off lo w x : Nat) : (setRf s b i off lo w x).firmware = s.firmware :=
  setReg_firmware s b i off _
@[simp] theorem setRf_booted (b : Block) (i off lo w x : Nat) : (setRf s b i off lo w x).booted = s.booted :=
  setReg_booted s b i off _
@[simp] theorem setRf_spdm (b : Block) (i off lo w x : Nat) : (setRf s b i off lo w x).spdm = s.spdm :=
  setReg_spdm s b i off _
@[simp] theorem setRf_spdmHeard (b : Block) (i off lo w x : Nat) : (setRf s b i off lo w x).spdmHeard = s.spdmHeard :=
  setReg_spdmHeard s b i off _
@[simp] theorem setRf_evqSent (b : Block) (i off lo w x : Nat) : (setRf s b i off lo w x).evqSent = s.evqSent :=
  setReg_evqSent s b i off _
@[simp] theorem setRf_evqWait (b : Block) (i off lo w x : Nat) : (setRf s b i off lo w x).evqWait = s.evqWait :=
  setReg_evqWait s b i off _
@[simp] theorem setRf_jtag (b : Block) (i off lo w x : Nat) : (setRf s b i off lo w x).jtag = s.jtag :=
  setReg_jtag s b i off _
@[simp] theorem setRf_boundary (b : Block) (i off lo w x : Nat) : (setRf s b i off lo w x).boundary = s.boundary :=
  setReg_boundary s b i off _
@[simp] theorem setRf_bypass (b : Block) (i off lo w x : Nat) : (setRf s b i off lo w x).bypass = s.bypass :=
  setReg_bypass s b i off _
@[simp] theorem setRf_scanTest (b : Block) (i off lo w x : Nat) : (setRf s b i off lo w x).scanTest = s.scanTest :=
  setReg_scanTest s b i off _
@[simp] theorem setRf_checks (b : Block) (i off lo w x : Nat) : (setRf s b i off lo w x).checks = s.checks :=
  setReg_checks s b i off _
@[simp] theorem setRf_stackHeld (b : Block) (i off lo w x : Nat) : (setRf s b i off lo w x).stackHeld = s.stackHeld :=
  setReg_stackHeld s b i off _
@[simp] theorem setRf_dawnOf (b : Block) (i off lo w x : Nat) : (setRf s b i off lo w x).dawnOf = s.dawnOf :=
  setReg_dawnOf s b i off _
@[simp] theorem setRf_partDawn (b : Block) (i off lo w x : Nat) : (setRf s b i off lo w x).partDawn = s.partDawn :=
  setReg_partDawn s b i off _
@[simp] theorem setRf_partWaiting (b : Block) (i off lo w x : Nat) : (setRf s b i off lo w x).partWaiting = s.partWaiting :=
  setReg_partWaiting s b i off _
@[simp] theorem setRf_railOut (b : Block) (i off lo w x : Nat) : (setRf s b i off lo w x).railOut = s.railOut :=
  setReg_railOut s b i off _
@[simp] theorem setRf_panPerst (b : Block) (i off lo w x : Nat) : (setRf s b i off lo w x).panPerst = s.panPerst :=
  setReg_panPerst s b i off _
@[simp] theorem setRf_refclkLost (b : Block) (i off lo w x : Nat) : (setRf s b i off lo w x).refclkLost = s.refclkLost :=
  setReg_refclkLost s b i off _
@[simp] theorem setRf_perstLow (b : Block) (i off lo w x : Nat) : (setRf s b i off lo w x).perstLow = s.perstLow :=
  setReg_perstLow s b i off _
@[simp] theorem setRf_powerStep (b : Block) (i off lo w x : Nat) : (setRf s b i off lo w x).powerStep = s.powerStep :=
  setReg_powerStep s b i off _
@[simp] theorem setRf_outputs (b : Block) (i off lo w x : Nat) : (setRf s b i off lo w x).outputs = s.outputs :=
  setReg_outputs s b i off _

/-! ## setRbit -/

@[simp] theorem setRbit_pending (b : Block) (i off k : Nat) (v : Bool) : (setRbit s b i off k v).pending = s.pending :=
  setRf_pending s b i off k 1 (b2n v)
@[simp] theorem setRbit_latches (b : Block) (i off k : Nat) (v : Bool) : (setRbit s b i off k v).latches = s.latches :=
  setRf_latches s b i off k 1 (b2n v)
@[simp] theorem setRbit_time (b : Block) (i off k : Nat) (v : Bool) : (setRbit s b i off k v).time = s.time :=
  setRf_time s b i off k 1 (b2n v)
@[simp] theorem setRbit_timeHeld (b : Block) (i off k : Nat) (v : Bool) : (setRbit s b i off k v).timeHeld = s.timeHeld :=
  setRf_timeHeld s b i off k 1 (b2n v)
@[simp] theorem setRbit_holdLeft (b : Block) (i off k : Nat) (v : Bool) : (setRbit s b i off k v).holdLeft = s.holdLeft :=
  setRf_holdLeft s b i off k 1 (b2n v)
@[simp] theorem setRbit_bellOffset (b : Block) (i off k : Nat) (v : Bool) : (setRbit s b i off k v).bellOffset = s.bellOffset :=
  setRf_bellOffset s b i off k 1 (b2n v)
@[simp] theorem setRbit_bellSlew (b : Block) (i off k : Nat) (v : Bool) : (setRbit s b i off k v).bellSlew = s.bellSlew :=
  setRf_bellSlew s b i off k 1 (b2n v)
@[simp] theorem setRbit_refTime (b : Block) (i off k : Nat) (v : Bool) : (setRbit s b i off k v).refTime = s.refTime :=
  setRf_refTime s b i off k 1 (b2n v)
@[simp] theorem setRbit_bellRun (b : Block) (i off k : Nat) (v : Bool) : (setRbit s b i off k v).bellRun = s.bellRun :=
  setRf_bellRun s b i off k 1 (b2n v)
@[simp] theorem setRbit_bellFrameAt (b : Block) (i off k : Nat) (v : Bool) : (setRbit s b i off k v).bellFrameAt = s.bellFrameAt :=
  setRf_bellFrameAt s b i off k 1 (b2n v)
@[simp] theorem setRbit_bellPulse (b : Block) (i off k : Nat) (v : Bool) : (setRbit s b i off k v).bellPulse = s.bellPulse :=
  setRf_bellPulse s b i off k 1 (b2n v)
@[simp] theorem setRbit_cores (b : Block) (i off k : Nat) (v : Bool) : (setRbit s b i off k v).cores = s.cores :=
  setRf_cores s b i off k 1 (b2n v)
@[simp] theorem setRbit_tscales (b : Block) (i off k : Nat) (v : Bool) : (setRbit s b i off k v).tscales = s.tscales :=
  setRf_tscales s b i off k 1 (b2n v)
@[simp] theorem setRbit_switch (b : Block) (i off k : Nat) (v : Bool) : (setRbit s b i off k v).switch = s.switch :=
  setRf_switch s b i off k 1 (b2n v)
@[simp] theorem setRbit_mem (b : Block) (i off k : Nat) (v : Bool) : (setRbit s b i off k v).mem = s.mem :=
  setRf_mem s b i off k 1 (b2n v)
@[simp] theorem setRbit_chk (b : Block) (i off k : Nat) (v : Bool) : (setRbit s b i off k v).chk = s.chk :=
  setRf_chk s b i off k 1 (b2n v)
@[simp] theorem setRbit_correctedAt (b : Block) (i off k : Nat) (v : Bool) : (setRbit s b i off k v).correctedAt = s.correctedAt :=
  setRf_correctedAt s b i off k 1 (b2n v)
@[simp] theorem setRbit_pageBits (b : Block) (i off k : Nat) (v : Bool) : (setRbit s b i off k v).pageBits = s.pageBits :=
  setRf_pageBits s b i off k 1 (b2n v)
@[simp] theorem setRbit_copyPages (b : Block) (i off k : Nat) (v : Bool) : (setRbit s b i off k v).copyPages = s.copyPages :=
  setRf_copyPages s b i off k 1 (b2n v)
@[simp] theorem setRbit_touches (b : Block) (i off k : Nat) (v : Bool) : (setRbit s b i off k v).touches = s.touches :=
  setRf_touches s b i off k 1 (b2n v)
@[simp] theorem setRbit_fired (b : Block) (i off k : Nat) (v : Bool) : (setRbit s b i off k v).fired = s.fired :=
  setRf_fired s b i off k 1 (b2n v)
@[simp] theorem setRbit_frees (b : Block) (i off k : Nat) (v : Bool) : (setRbit s b i off k v).frees = s.frees :=
  setRf_frees s b i off k 1 (b2n v)
@[simp] theorem setRbit_terrier (b : Block) (i off k : Nat) (v : Bool) : (setRbit s b i off k v).terrier = s.terrier :=
  setRf_terrier s b i off k 1 (b2n v)
@[simp] theorem setRbit_terrierOld (b : Block) (i off k : Nat) (v : Bool) : (setRbit s b i off k v).terrierOld = s.terrierOld :=
  setRf_terrierOld s b i off k 1 (b2n v)
@[simp] theorem setRbit_lanemaps (b : Block) (i off k : Nat) (v : Bool) : (setRbit s b i off k v).lanemaps = s.lanemaps :=
  setRf_lanemaps s b i off k 1 (b2n v)
@[simp] theorem setRbit_groups (b : Block) (i off k : Nat) (v : Bool) : (setRbit s b i off k v).groups = s.groups :=
  setRf_groups s b i off k 1 (b2n v)
@[simp] theorem setRbit_staleAt (b : Block) (i off k : Nat) (v : Bool) : (setRbit s b i off k v).staleAt = s.staleAt :=
  setRf_staleAt s b i off k 1 (b2n v)
@[simp] theorem setRbit_ports (b : Block) (i off k : Nat) (v : Bool) : (setRbit s b i off k v).ports = s.ports :=
  setRf_ports s b i off k 1 (b2n v)
@[simp] theorem setRbit_routers (b : Block) (i off k : Nat) (v : Bool) : (setRbit s b i off k v).routers = s.routers :=
  setRf_routers s b i off k 1 (b2n v)
@[simp] theorem setRbit_routeSeq (b : Block) (i off k : Nat) (v : Bool) : (setRbit s b i off k v).routeSeq = s.routeSeq :=
  setRf_routeSeq s b i off k 1 (b2n v)
@[simp] theorem setRbit_inbox (b : Block) (i off k : Nat) (v : Bool) : (setRbit s b i off k v).inbox = s.inbox :=
  setRf_inbox s b i off k 1 (b2n v)
@[simp] theorem setRbit_postedErrors (b : Block) (i off k : Nat) (v : Bool) : (setRbit s b i off k v).postedErrors = s.postedErrors :=
  setRf_postedErrors s b i off k 1 (b2n v)
@[simp] theorem setRbit_reeveTodo (b : Block) (i off k : Nat) (v : Bool) : (setRbit s b i off k v).reeveTodo = s.reeveTodo :=
  setRf_reeveTodo s b i off k 1 (b2n v)
@[simp] theorem setRbit_chunks (b : Block) (i off k : Nat) (v : Bool) : (setRbit s b i off k v).chunks = s.chunks :=
  setRf_chunks s b i off k 1 (b2n v)
@[simp] theorem setRbit_closedChunks (b : Block) (i off k : Nat) (v : Bool) : (setRbit s b i off k v).closedChunks = s.closedChunks :=
  setRf_closedChunks s b i off k 1 (b2n v)
@[simp] theorem setRbit_transit (b : Block) (i off k : Nat) (v : Bool) : (setRbit s b i off k v).transit = s.transit :=
  setRf_transit s b i off k 1 (b2n v)
@[simp] theorem setRbit_tags (b : Block) (i off k : Nat) (v : Bool) : (setRbit s b i off k v).tags = s.tags :=
  setRf_tags s b i off k 1 (b2n v)
@[simp] theorem setRbit_keyDraws (b : Block) (i off k : Nat) (v : Bool) : (setRbit s b i off k v).keyDraws = s.keyDraws :=
  setRf_keyDraws s b i off k 1 (b2n v)
@[simp] theorem setRbit_devq (b : Block) (i off k : Nat) (v : Bool) : (setRbit s b i off k v).devq = s.devq :=
  setRf_devq s b i off k 1 (b2n v)
@[simp] theorem setRbit_watchEvents (b : Block) (i off k : Nat) (v : Bool) : (setRbit s b i off k v).watchEvents = s.watchEvents :=
  setRf_watchEvents s b i off k 1 (b2n v)
@[simp] theorem setRbit_draws (b : Block) (i off k : Nat) (v : Bool) : (setRbit s b i off k v).draws = s.draws :=
  setRf_draws s b i off k 1 (b2n v)
@[simp] theorem setRbit_pantryDraw (b : Block) (i off k : Nat) (v : Bool) : (setRbit s b i off k v).pantryDraw = s.pantryDraw :=
  setRf_pantryDraw s b i off k 1 (b2n v)
@[simp] theorem setRbit_pantryId (b : Block) (i off k : Nat) (v : Bool) : (setRbit s b i off k v).pantryId = s.pantryId :=
  setRf_pantryId s b i off k 1 (b2n v)
@[simp] theorem setRbit_harvest (b : Block) (i off k : Nat) (v : Bool) : (setRbit s b i off k v).harvest = s.harvest :=
  setRf_harvest s b i off k 1 (b2n v)
@[simp] theorem setRbit_harvestDue (b : Block) (i off k : Nat) (v : Bool) : (setRbit s b i off k v).harvestDue = s.harvestDue :=
  setRf_harvestDue s b i off k 1 (b2n v)
@[simp] theorem setRbit_harvestWanted (b : Block) (i off k : Nat) (v : Bool) : (setRbit s b i off k v).harvestWanted = s.harvestWanted :=
  setRf_harvestWanted s b i off k 1 (b2n v)
@[simp] theorem setRbit_nvme (b : Block) (i off k : Nat) (v : Bool) : (setRbit s b i off k v).nvme = s.nvme :=
  setRf_nvme s b i off k 1 (b2n v)
@[simp] theorem setRbit_nvmeWait (b : Block) (i off k : Nat) (v : Bool) : (setRbit s b i off k v).nvmeWait = s.nvmeWait :=
  setRf_nvmeWait s b i off k 1 (b2n v)
@[simp] theorem setRbit_pantryImage (b : Block) (i off k : Nat) (v : Bool) : (setRbit s b i off k v).pantryImage = s.pantryImage :=
  setRf_pantryImage s b i off k 1 (b2n v)
@[simp] theorem setRbit_storeImage (b : Block) (i off k : Nat) (v : Bool) : (setRbit s b i off k v).storeImage = s.storeImage :=
  setRf_storeImage s b i off k 1 (b2n v)
@[simp] theorem setRbit_refill (b : Block) (i off k : Nat) (v : Bool) : (setRbit s b i off k v).refill = s.refill :=
  setRf_refill s b i off k 1 (b2n v)
@[simp] theorem setRbit_lastRefill (b : Block) (i off k : Nat) (v : Bool) : (setRbit s b i off k v).lastRefill = s.lastRefill :=
  setRf_lastRefill s b i off k 1 (b2n v)
@[simp] theorem setRbit_validPages (b : Block) (i off k : Nat) (v : Bool) : (setRbit s b i off k v).validPages = s.validPages :=
  setRf_validPages s b i off k 1 (b2n v)
@[simp] theorem setRbit_landings (b : Block) (i off k : Nat) (v : Bool) : (setRbit s b i off k v).landings = s.landings :=
  setRf_landings s b i off k 1 (b2n v)
@[simp] theorem setRbit_serve (b : Block) (i off k : Nat) (v : Bool) : (setRbit s b i off k v).serve = s.serve :=
  setRf_serve s b i off k 1 (b2n v)
@[simp] theorem setRbit_started (b : Block) (i off k : Nat) (v : Bool) : (setRbit s b i off k v).started = s.started :=
  setRf_started s b i off k 1 (b2n v)
@[simp] theorem setRbit_coreReturned (b : Block) (i off k : Nat) (v : Bool) : (setRbit s b i off k v).coreReturned = s.coreReturned :=
  setRf_coreReturned s b i off k 1 (b2n v)
@[simp] theorem setRbit_saved (b : Block) (i off k : Nat) (v : Bool) : (setRbit s b i off k v).saved = s.saved :=
  setRf_saved s b i off k 1 (b2n v)
@[simp] theorem setRbit_savedDraw (b : Block) (i off k : Nat) (v : Bool) : (setRbit s b i off k v).savedDraw = s.savedDraw :=
  setRf_savedDraw s b i off k 1 (b2n v)
@[simp] theorem setRbit_measuring (b : Block) (i off k : Nat) (v : Bool) : (setRbit s b i off k v).measuring = s.measuring :=
  setRf_measuring s b i off k 1 (b2n v)
@[simp] theorem setRbit_measured (b : Block) (i off k : Nat) (v : Bool) : (setRbit s b i off k v).measured = s.measured :=
  setRf_measured s b i off k 1 (b2n v)
@[simp] theorem setRbit_measurements (b : Block) (i off k : Nat) (v : Bool) : (setRbit s b i off k v).measurements = s.measurements :=
  setRf_measurements s b i off k 1 (b2n v)
@[simp] theorem setRbit_wipes (b : Block) (i off k : Nat) (v : Bool) : (setRbit s b i off k v).wipes = s.wipes :=
  setRf_wipes s b i off k 1 (b2n v)
@[simp] theorem setRbit_tests (b : Block) (i off k : Nat) (v : Bool) : (setRbit s b i off k v).tests = s.tests :=
  setRf_tests s b i off k 1 (b2n v)
@[simp] theorem setRbit_remaps (b : Block) (i off k : Nat) (v : Bool) : (setRbit s b i off k v).remaps = s.remaps :=
  setRf_remaps s b i off k 1 (b2n v)
@[simp] theorem setRbit_refreshing (b : Block) (i off k : Nat) (v : Bool) : (setRbit s b i off k v).refreshing = s.refreshing :=
  setRf_refreshing s b i off k 1 (b2n v)
@[simp] theorem setRbit_hotFp (b : Block) (i off k : Nat) (v : Bool) : (setRbit s b i off k v).hotFp = s.hotFp :=
  setRf_hotFp s b i off k 1 (b2n v)
@[simp] theorem setRbit_hotNext (b : Block) (i off k : Nat) (v : Bool) : (setRbit s b i off k v).hotNext = s.hotNext :=
  setRf_hotNext s b i off k 1 (b2n v)
@[simp] theorem setRbit_waiting (b : Block) (i off k : Nat) (v : Bool) : (setRbit s b i off k v).waiting = s.waiting :=
  setRf_waiting s b i off k 1 (b2n v)
@[simp] theorem setRbit_throttles (b : Block) (i off k : Nat) (v : Bool) : (setRbit s b i off k v).throttles = s.throttles :=
  setRf_throttles s b i off k 1 (b2n v)
@[simp] theorem setRbit_wear (b : Block) (i off k : Nat) (v : Bool) : (setRbit s b i off k v).wear = s.wear :=
  setRf_wear s b i off k 1 (b2n v)
@[simp] theorem setRbit_wearStored (b : Block) (i off k : Nat) (v : Bool) : (setRbit s b i off k v).wearStored = s.wearStored :=
  setRf_wearStored s b i off k 1 (b2n v)
@[simp] theorem setRbit_socs (b : Block) (i off k : Nat) (v : Bool) : (setRbit s b i off k v).socs = s.socs :=
  setRf_socs s b i off k 1 (b2n v)
@[simp] theorem setRbit_pkgEst (b : Block) (i off k : Nat) (v : Bool) : (setRbit s b i off k v).pkgEst = s.pkgEst :=
  setRf_pkgEst s b i off k 1 (b2n v)
@[simp] theorem setRbit_estNext (b : Block) (i off k : Nat) (v : Bool) : (setRbit s b i off k v).estNext = s.estNext :=
  setRf_estNext s b i off k 1 (b2n v)
@[simp] theorem setRbit_activity (b : Block) (i off k : Nat) (v : Bool) : (setRbit s b i off k v).activity = s.activity :=
  setRf_activity s b i off k 1 (b2n v)
@[simp] theorem setRbit_energy (b : Block) (i off k : Nat) (v : Bool) : (setRbit s b i off k v).energy = s.energy :=
  setRf_energy s b i off k 1 (b2n v)
@[simp] theorem setRbit_curfew (b : Block) (i off k : Nat) (v : Bool) : (setRbit s b i off k v).curfew = s.curfew :=
  setRf_curfew s b i off k 1 (b2n v)
@[simp] theorem setRbit_msixOpen (b : Block) (i off k : Nat) (v : Bool) : (setRbit s b i off k v).msixOpen = s.msixOpen :=
  setRf_msixOpen s b i off k 1 (b2n v)
@[simp] theorem setRbit_msixPending (b : Block) (i off k : Nat) (v : Bool) : (setRbit s b i off k v).msixPending = s.msixPending :=
  setRf_msixPending s b i off k 1 (b2n v)
@[simp] theorem setRbit_bar4 (b : Block) (i off k : Nat) (v : Bool) : (setRbit s b i off k v).bar4 = s.bar4 :=
  setRf_bar4 s b i off k 1 (b2n v)
@[simp] theorem setRbit_aer (b : Block) (i off k : Nat) (v : Bool) : (setRbit s b i off k v).aer = s.aer :=
  setRf_aer s b i off k 1 (b2n v)
@[simp] theorem setRbit_hostReads (b : Block) (i off k : Nat) (v : Bool) : (setRbit s b i off k v).hostReads = s.hostReads :=
  setRf_hostReads s b i off k 1 (b2n v)
@[simp] theorem setRbit_nextRead (b : Block) (i off k : Nat) (v : Bool) : (setRbit s b i off k v).nextRead = s.nextRead :=
  setRf_nextRead s b i off k 1 (b2n v)
@[simp] theorem setRbit_hostDirty (b : Block) (i off k : Nat) (v : Bool) : (setRbit s b i off k v).hostDirty = s.hostDirty :=
  setRf_hostDirty s b i off k 1 (b2n v)
@[simp] theorem setRbit_mgmt (b : Block) (i off k : Nat) (v : Bool) : (setRbit s b i off k v).mgmt = s.mgmt :=
  setRf_mgmt s b i off k 1 (b2n v)
@[simp] theorem setRbit_fw (b : Block) (i off k : Nat) (v : Bool) : (setRbit s b i off k v).fw = s.fw :=
  setRf_fw s b i off k 1 (b2n v)
@[simp] theorem setRbit_firmware (b : Block) (i off k : Nat) (v : Bool) : (setRbit s b i off k v).firmware = s.firmware :=
  setRf_firmware s b i off k 1 (b2n v)
@[simp] theorem setRbit_booted (b : Block) (i off k : Nat) (v : Bool) : (setRbit s b i off k v).booted = s.booted :=
  setRf_booted s b i off k 1 (b2n v)
@[simp] theorem setRbit_spdm (b : Block) (i off k : Nat) (v : Bool) : (setRbit s b i off k v).spdm = s.spdm :=
  setRf_spdm s b i off k 1 (b2n v)
@[simp] theorem setRbit_spdmHeard (b : Block) (i off k : Nat) (v : Bool) : (setRbit s b i off k v).spdmHeard = s.spdmHeard :=
  setRf_spdmHeard s b i off k 1 (b2n v)
@[simp] theorem setRbit_evqSent (b : Block) (i off k : Nat) (v : Bool) : (setRbit s b i off k v).evqSent = s.evqSent :=
  setRf_evqSent s b i off k 1 (b2n v)
@[simp] theorem setRbit_evqWait (b : Block) (i off k : Nat) (v : Bool) : (setRbit s b i off k v).evqWait = s.evqWait :=
  setRf_evqWait s b i off k 1 (b2n v)
@[simp] theorem setRbit_jtag (b : Block) (i off k : Nat) (v : Bool) : (setRbit s b i off k v).jtag = s.jtag :=
  setRf_jtag s b i off k 1 (b2n v)
@[simp] theorem setRbit_boundary (b : Block) (i off k : Nat) (v : Bool) : (setRbit s b i off k v).boundary = s.boundary :=
  setRf_boundary s b i off k 1 (b2n v)
@[simp] theorem setRbit_bypass (b : Block) (i off k : Nat) (v : Bool) : (setRbit s b i off k v).bypass = s.bypass :=
  setRf_bypass s b i off k 1 (b2n v)
@[simp] theorem setRbit_scanTest (b : Block) (i off k : Nat) (v : Bool) : (setRbit s b i off k v).scanTest = s.scanTest :=
  setRf_scanTest s b i off k 1 (b2n v)
@[simp] theorem setRbit_checks (b : Block) (i off k : Nat) (v : Bool) : (setRbit s b i off k v).checks = s.checks :=
  setRf_checks s b i off k 1 (b2n v)
@[simp] theorem setRbit_stackHeld (b : Block) (i off k : Nat) (v : Bool) : (setRbit s b i off k v).stackHeld = s.stackHeld :=
  setRf_stackHeld s b i off k 1 (b2n v)
@[simp] theorem setRbit_dawnOf (b : Block) (i off k : Nat) (v : Bool) : (setRbit s b i off k v).dawnOf = s.dawnOf :=
  setRf_dawnOf s b i off k 1 (b2n v)
@[simp] theorem setRbit_partDawn (b : Block) (i off k : Nat) (v : Bool) : (setRbit s b i off k v).partDawn = s.partDawn :=
  setRf_partDawn s b i off k 1 (b2n v)
@[simp] theorem setRbit_partWaiting (b : Block) (i off k : Nat) (v : Bool) : (setRbit s b i off k v).partWaiting = s.partWaiting :=
  setRf_partWaiting s b i off k 1 (b2n v)
@[simp] theorem setRbit_railOut (b : Block) (i off k : Nat) (v : Bool) : (setRbit s b i off k v).railOut = s.railOut :=
  setRf_railOut s b i off k 1 (b2n v)
@[simp] theorem setRbit_panPerst (b : Block) (i off k : Nat) (v : Bool) : (setRbit s b i off k v).panPerst = s.panPerst :=
  setRf_panPerst s b i off k 1 (b2n v)
@[simp] theorem setRbit_refclkLost (b : Block) (i off k : Nat) (v : Bool) : (setRbit s b i off k v).refclkLost = s.refclkLost :=
  setRf_refclkLost s b i off k 1 (b2n v)
@[simp] theorem setRbit_perstLow (b : Block) (i off k : Nat) (v : Bool) : (setRbit s b i off k v).perstLow = s.perstLow :=
  setRf_perstLow s b i off k 1 (b2n v)
@[simp] theorem setRbit_powerStep (b : Block) (i off k : Nat) (v : Bool) : (setRbit s b i off k v).powerStep = s.powerStep :=
  setRf_powerStep s b i off k 1 (b2n v)
@[simp] theorem setRbit_outputs (b : Block) (i off k : Nat) (v : Bool) : (setRbit s b i off k v).outputs = s.outputs :=
  setRf_outputs s b i off k 1 (b2n v)

/-! ## incReg -/

@[simp] theorem incReg_pending (b : Block) (i off : Nat) : (incReg s b i off).pending = s.pending :=
  setReg_pending s b i off _
@[simp] theorem incReg_latches (b : Block) (i off : Nat) : (incReg s b i off).latches = s.latches :=
  setReg_latches s b i off _
@[simp] theorem incReg_time (b : Block) (i off : Nat) : (incReg s b i off).time = s.time :=
  setReg_time s b i off _
@[simp] theorem incReg_timeHeld (b : Block) (i off : Nat) : (incReg s b i off).timeHeld = s.timeHeld :=
  setReg_timeHeld s b i off _
@[simp] theorem incReg_holdLeft (b : Block) (i off : Nat) : (incReg s b i off).holdLeft = s.holdLeft :=
  setReg_holdLeft s b i off _
@[simp] theorem incReg_bellOffset (b : Block) (i off : Nat) : (incReg s b i off).bellOffset = s.bellOffset :=
  setReg_bellOffset s b i off _
@[simp] theorem incReg_bellSlew (b : Block) (i off : Nat) : (incReg s b i off).bellSlew = s.bellSlew :=
  setReg_bellSlew s b i off _
@[simp] theorem incReg_refTime (b : Block) (i off : Nat) : (incReg s b i off).refTime = s.refTime :=
  setReg_refTime s b i off _
@[simp] theorem incReg_bellRun (b : Block) (i off : Nat) : (incReg s b i off).bellRun = s.bellRun :=
  setReg_bellRun s b i off _
@[simp] theorem incReg_bellFrameAt (b : Block) (i off : Nat) : (incReg s b i off).bellFrameAt = s.bellFrameAt :=
  setReg_bellFrameAt s b i off _
@[simp] theorem incReg_bellPulse (b : Block) (i off : Nat) : (incReg s b i off).bellPulse = s.bellPulse :=
  setReg_bellPulse s b i off _
@[simp] theorem incReg_cores (b : Block) (i off : Nat) : (incReg s b i off).cores = s.cores :=
  setReg_cores s b i off _
@[simp] theorem incReg_tscales (b : Block) (i off : Nat) : (incReg s b i off).tscales = s.tscales :=
  setReg_tscales s b i off _
@[simp] theorem incReg_switch (b : Block) (i off : Nat) : (incReg s b i off).switch = s.switch :=
  setReg_switch s b i off _
@[simp] theorem incReg_mem (b : Block) (i off : Nat) : (incReg s b i off).mem = s.mem :=
  setReg_mem s b i off _
@[simp] theorem incReg_chk (b : Block) (i off : Nat) : (incReg s b i off).chk = s.chk :=
  setReg_chk s b i off _
@[simp] theorem incReg_correctedAt (b : Block) (i off : Nat) : (incReg s b i off).correctedAt = s.correctedAt :=
  setReg_correctedAt s b i off _
@[simp] theorem incReg_pageBits (b : Block) (i off : Nat) : (incReg s b i off).pageBits = s.pageBits :=
  setReg_pageBits s b i off _
@[simp] theorem incReg_copyPages (b : Block) (i off : Nat) : (incReg s b i off).copyPages = s.copyPages :=
  setReg_copyPages s b i off _
@[simp] theorem incReg_touches (b : Block) (i off : Nat) : (incReg s b i off).touches = s.touches :=
  setReg_touches s b i off _
@[simp] theorem incReg_fired (b : Block) (i off : Nat) : (incReg s b i off).fired = s.fired :=
  setReg_fired s b i off _
@[simp] theorem incReg_frees (b : Block) (i off : Nat) : (incReg s b i off).frees = s.frees :=
  setReg_frees s b i off _
@[simp] theorem incReg_terrier (b : Block) (i off : Nat) : (incReg s b i off).terrier = s.terrier :=
  setReg_terrier s b i off _
@[simp] theorem incReg_terrierOld (b : Block) (i off : Nat) : (incReg s b i off).terrierOld = s.terrierOld :=
  setReg_terrierOld s b i off _
@[simp] theorem incReg_lanemaps (b : Block) (i off : Nat) : (incReg s b i off).lanemaps = s.lanemaps :=
  setReg_lanemaps s b i off _
@[simp] theorem incReg_groups (b : Block) (i off : Nat) : (incReg s b i off).groups = s.groups :=
  setReg_groups s b i off _
@[simp] theorem incReg_staleAt (b : Block) (i off : Nat) : (incReg s b i off).staleAt = s.staleAt :=
  setReg_staleAt s b i off _
@[simp] theorem incReg_ports (b : Block) (i off : Nat) : (incReg s b i off).ports = s.ports :=
  setReg_ports s b i off _
@[simp] theorem incReg_routers (b : Block) (i off : Nat) : (incReg s b i off).routers = s.routers :=
  setReg_routers s b i off _
@[simp] theorem incReg_routeSeq (b : Block) (i off : Nat) : (incReg s b i off).routeSeq = s.routeSeq :=
  setReg_routeSeq s b i off _
@[simp] theorem incReg_inbox (b : Block) (i off : Nat) : (incReg s b i off).inbox = s.inbox :=
  setReg_inbox s b i off _
@[simp] theorem incReg_postedErrors (b : Block) (i off : Nat) : (incReg s b i off).postedErrors = s.postedErrors :=
  setReg_postedErrors s b i off _
@[simp] theorem incReg_reeveTodo (b : Block) (i off : Nat) : (incReg s b i off).reeveTodo = s.reeveTodo :=
  setReg_reeveTodo s b i off _
@[simp] theorem incReg_chunks (b : Block) (i off : Nat) : (incReg s b i off).chunks = s.chunks :=
  setReg_chunks s b i off _
@[simp] theorem incReg_closedChunks (b : Block) (i off : Nat) : (incReg s b i off).closedChunks = s.closedChunks :=
  setReg_closedChunks s b i off _
@[simp] theorem incReg_transit (b : Block) (i off : Nat) : (incReg s b i off).transit = s.transit :=
  setReg_transit s b i off _
@[simp] theorem incReg_tags (b : Block) (i off : Nat) : (incReg s b i off).tags = s.tags :=
  setReg_tags s b i off _
@[simp] theorem incReg_keyDraws (b : Block) (i off : Nat) : (incReg s b i off).keyDraws = s.keyDraws :=
  setReg_keyDraws s b i off _
@[simp] theorem incReg_devq (b : Block) (i off : Nat) : (incReg s b i off).devq = s.devq :=
  setReg_devq s b i off _
@[simp] theorem incReg_watchEvents (b : Block) (i off : Nat) : (incReg s b i off).watchEvents = s.watchEvents :=
  setReg_watchEvents s b i off _
@[simp] theorem incReg_draws (b : Block) (i off : Nat) : (incReg s b i off).draws = s.draws :=
  setReg_draws s b i off _
@[simp] theorem incReg_pantryDraw (b : Block) (i off : Nat) : (incReg s b i off).pantryDraw = s.pantryDraw :=
  setReg_pantryDraw s b i off _
@[simp] theorem incReg_pantryId (b : Block) (i off : Nat) : (incReg s b i off).pantryId = s.pantryId :=
  setReg_pantryId s b i off _
@[simp] theorem incReg_harvest (b : Block) (i off : Nat) : (incReg s b i off).harvest = s.harvest :=
  setReg_harvest s b i off _
@[simp] theorem incReg_harvestDue (b : Block) (i off : Nat) : (incReg s b i off).harvestDue = s.harvestDue :=
  setReg_harvestDue s b i off _
@[simp] theorem incReg_harvestWanted (b : Block) (i off : Nat) : (incReg s b i off).harvestWanted = s.harvestWanted :=
  setReg_harvestWanted s b i off _
@[simp] theorem incReg_nvme (b : Block) (i off : Nat) : (incReg s b i off).nvme = s.nvme :=
  setReg_nvme s b i off _
@[simp] theorem incReg_nvmeWait (b : Block) (i off : Nat) : (incReg s b i off).nvmeWait = s.nvmeWait :=
  setReg_nvmeWait s b i off _
@[simp] theorem incReg_pantryImage (b : Block) (i off : Nat) : (incReg s b i off).pantryImage = s.pantryImage :=
  setReg_pantryImage s b i off _
@[simp] theorem incReg_storeImage (b : Block) (i off : Nat) : (incReg s b i off).storeImage = s.storeImage :=
  setReg_storeImage s b i off _
@[simp] theorem incReg_refill (b : Block) (i off : Nat) : (incReg s b i off).refill = s.refill :=
  setReg_refill s b i off _
@[simp] theorem incReg_lastRefill (b : Block) (i off : Nat) : (incReg s b i off).lastRefill = s.lastRefill :=
  setReg_lastRefill s b i off _
@[simp] theorem incReg_validPages (b : Block) (i off : Nat) : (incReg s b i off).validPages = s.validPages :=
  setReg_validPages s b i off _
@[simp] theorem incReg_landings (b : Block) (i off : Nat) : (incReg s b i off).landings = s.landings :=
  setReg_landings s b i off _
@[simp] theorem incReg_serve (b : Block) (i off : Nat) : (incReg s b i off).serve = s.serve :=
  setReg_serve s b i off _
@[simp] theorem incReg_started (b : Block) (i off : Nat) : (incReg s b i off).started = s.started :=
  setReg_started s b i off _
@[simp] theorem incReg_coreReturned (b : Block) (i off : Nat) : (incReg s b i off).coreReturned = s.coreReturned :=
  setReg_coreReturned s b i off _
@[simp] theorem incReg_saved (b : Block) (i off : Nat) : (incReg s b i off).saved = s.saved :=
  setReg_saved s b i off _
@[simp] theorem incReg_savedDraw (b : Block) (i off : Nat) : (incReg s b i off).savedDraw = s.savedDraw :=
  setReg_savedDraw s b i off _
@[simp] theorem incReg_measuring (b : Block) (i off : Nat) : (incReg s b i off).measuring = s.measuring :=
  setReg_measuring s b i off _
@[simp] theorem incReg_measured (b : Block) (i off : Nat) : (incReg s b i off).measured = s.measured :=
  setReg_measured s b i off _
@[simp] theorem incReg_measurements (b : Block) (i off : Nat) : (incReg s b i off).measurements = s.measurements :=
  setReg_measurements s b i off _
@[simp] theorem incReg_wipes (b : Block) (i off : Nat) : (incReg s b i off).wipes = s.wipes :=
  setReg_wipes s b i off _
@[simp] theorem incReg_tests (b : Block) (i off : Nat) : (incReg s b i off).tests = s.tests :=
  setReg_tests s b i off _
@[simp] theorem incReg_remaps (b : Block) (i off : Nat) : (incReg s b i off).remaps = s.remaps :=
  setReg_remaps s b i off _
@[simp] theorem incReg_refreshing (b : Block) (i off : Nat) : (incReg s b i off).refreshing = s.refreshing :=
  setReg_refreshing s b i off _
@[simp] theorem incReg_hotFp (b : Block) (i off : Nat) : (incReg s b i off).hotFp = s.hotFp :=
  setReg_hotFp s b i off _
@[simp] theorem incReg_hotNext (b : Block) (i off : Nat) : (incReg s b i off).hotNext = s.hotNext :=
  setReg_hotNext s b i off _
@[simp] theorem incReg_waiting (b : Block) (i off : Nat) : (incReg s b i off).waiting = s.waiting :=
  setReg_waiting s b i off _
@[simp] theorem incReg_throttles (b : Block) (i off : Nat) : (incReg s b i off).throttles = s.throttles :=
  setReg_throttles s b i off _
@[simp] theorem incReg_wear (b : Block) (i off : Nat) : (incReg s b i off).wear = s.wear :=
  setReg_wear s b i off _
@[simp] theorem incReg_wearStored (b : Block) (i off : Nat) : (incReg s b i off).wearStored = s.wearStored :=
  setReg_wearStored s b i off _
@[simp] theorem incReg_socs (b : Block) (i off : Nat) : (incReg s b i off).socs = s.socs :=
  setReg_socs s b i off _
@[simp] theorem incReg_pkgEst (b : Block) (i off : Nat) : (incReg s b i off).pkgEst = s.pkgEst :=
  setReg_pkgEst s b i off _
@[simp] theorem incReg_estNext (b : Block) (i off : Nat) : (incReg s b i off).estNext = s.estNext :=
  setReg_estNext s b i off _
@[simp] theorem incReg_activity (b : Block) (i off : Nat) : (incReg s b i off).activity = s.activity :=
  setReg_activity s b i off _
@[simp] theorem incReg_energy (b : Block) (i off : Nat) : (incReg s b i off).energy = s.energy :=
  setReg_energy s b i off _
@[simp] theorem incReg_curfew (b : Block) (i off : Nat) : (incReg s b i off).curfew = s.curfew :=
  setReg_curfew s b i off _
@[simp] theorem incReg_msixOpen (b : Block) (i off : Nat) : (incReg s b i off).msixOpen = s.msixOpen :=
  setReg_msixOpen s b i off _
@[simp] theorem incReg_msixPending (b : Block) (i off : Nat) : (incReg s b i off).msixPending = s.msixPending :=
  setReg_msixPending s b i off _
@[simp] theorem incReg_bar4 (b : Block) (i off : Nat) : (incReg s b i off).bar4 = s.bar4 :=
  setReg_bar4 s b i off _
@[simp] theorem incReg_aer (b : Block) (i off : Nat) : (incReg s b i off).aer = s.aer :=
  setReg_aer s b i off _
@[simp] theorem incReg_hostReads (b : Block) (i off : Nat) : (incReg s b i off).hostReads = s.hostReads :=
  setReg_hostReads s b i off _
@[simp] theorem incReg_nextRead (b : Block) (i off : Nat) : (incReg s b i off).nextRead = s.nextRead :=
  setReg_nextRead s b i off _
@[simp] theorem incReg_hostDirty (b : Block) (i off : Nat) : (incReg s b i off).hostDirty = s.hostDirty :=
  setReg_hostDirty s b i off _
@[simp] theorem incReg_mgmt (b : Block) (i off : Nat) : (incReg s b i off).mgmt = s.mgmt :=
  setReg_mgmt s b i off _
@[simp] theorem incReg_fw (b : Block) (i off : Nat) : (incReg s b i off).fw = s.fw :=
  setReg_fw s b i off _
@[simp] theorem incReg_firmware (b : Block) (i off : Nat) : (incReg s b i off).firmware = s.firmware :=
  setReg_firmware s b i off _
@[simp] theorem incReg_booted (b : Block) (i off : Nat) : (incReg s b i off).booted = s.booted :=
  setReg_booted s b i off _
@[simp] theorem incReg_spdm (b : Block) (i off : Nat) : (incReg s b i off).spdm = s.spdm :=
  setReg_spdm s b i off _
@[simp] theorem incReg_spdmHeard (b : Block) (i off : Nat) : (incReg s b i off).spdmHeard = s.spdmHeard :=
  setReg_spdmHeard s b i off _
@[simp] theorem incReg_evqSent (b : Block) (i off : Nat) : (incReg s b i off).evqSent = s.evqSent :=
  setReg_evqSent s b i off _
@[simp] theorem incReg_evqWait (b : Block) (i off : Nat) : (incReg s b i off).evqWait = s.evqWait :=
  setReg_evqWait s b i off _
@[simp] theorem incReg_jtag (b : Block) (i off : Nat) : (incReg s b i off).jtag = s.jtag :=
  setReg_jtag s b i off _
@[simp] theorem incReg_boundary (b : Block) (i off : Nat) : (incReg s b i off).boundary = s.boundary :=
  setReg_boundary s b i off _
@[simp] theorem incReg_bypass (b : Block) (i off : Nat) : (incReg s b i off).bypass = s.bypass :=
  setReg_bypass s b i off _
@[simp] theorem incReg_scanTest (b : Block) (i off : Nat) : (incReg s b i off).scanTest = s.scanTest :=
  setReg_scanTest s b i off _
@[simp] theorem incReg_checks (b : Block) (i off : Nat) : (incReg s b i off).checks = s.checks :=
  setReg_checks s b i off _
@[simp] theorem incReg_stackHeld (b : Block) (i off : Nat) : (incReg s b i off).stackHeld = s.stackHeld :=
  setReg_stackHeld s b i off _
@[simp] theorem incReg_dawnOf (b : Block) (i off : Nat) : (incReg s b i off).dawnOf = s.dawnOf :=
  setReg_dawnOf s b i off _
@[simp] theorem incReg_partDawn (b : Block) (i off : Nat) : (incReg s b i off).partDawn = s.partDawn :=
  setReg_partDawn s b i off _
@[simp] theorem incReg_partWaiting (b : Block) (i off : Nat) : (incReg s b i off).partWaiting = s.partWaiting :=
  setReg_partWaiting s b i off _
@[simp] theorem incReg_railOut (b : Block) (i off : Nat) : (incReg s b i off).railOut = s.railOut :=
  setReg_railOut s b i off _
@[simp] theorem incReg_panPerst (b : Block) (i off : Nat) : (incReg s b i off).panPerst = s.panPerst :=
  setReg_panPerst s b i off _
@[simp] theorem incReg_refclkLost (b : Block) (i off : Nat) : (incReg s b i off).refclkLost = s.refclkLost :=
  setReg_refclkLost s b i off _
@[simp] theorem incReg_perstLow (b : Block) (i off : Nat) : (incReg s b i off).perstLow = s.perstLow :=
  setReg_perstLow s b i off _
@[simp] theorem incReg_powerStep (b : Block) (i off : Nat) : (incReg s b i off).powerStep = s.powerStep :=
  setReg_powerStep s b i off _
@[simp] theorem incReg_outputs (b : Block) (i off : Nat) : (incReg s b i off).outputs = s.outputs :=
  setReg_outputs s b i off _

/-! ## addReg -/

@[simp] theorem addReg_pending (b : Block) (i off k : Nat) : (addReg s b i off k).pending = s.pending :=
  setReg_pending s b i off _
@[simp] theorem addReg_latches (b : Block) (i off k : Nat) : (addReg s b i off k).latches = s.latches :=
  setReg_latches s b i off _
@[simp] theorem addReg_time (b : Block) (i off k : Nat) : (addReg s b i off k).time = s.time :=
  setReg_time s b i off _
@[simp] theorem addReg_timeHeld (b : Block) (i off k : Nat) : (addReg s b i off k).timeHeld = s.timeHeld :=
  setReg_timeHeld s b i off _
@[simp] theorem addReg_holdLeft (b : Block) (i off k : Nat) : (addReg s b i off k).holdLeft = s.holdLeft :=
  setReg_holdLeft s b i off _
@[simp] theorem addReg_bellOffset (b : Block) (i off k : Nat) : (addReg s b i off k).bellOffset = s.bellOffset :=
  setReg_bellOffset s b i off _
@[simp] theorem addReg_bellSlew (b : Block) (i off k : Nat) : (addReg s b i off k).bellSlew = s.bellSlew :=
  setReg_bellSlew s b i off _
@[simp] theorem addReg_refTime (b : Block) (i off k : Nat) : (addReg s b i off k).refTime = s.refTime :=
  setReg_refTime s b i off _
@[simp] theorem addReg_bellRun (b : Block) (i off k : Nat) : (addReg s b i off k).bellRun = s.bellRun :=
  setReg_bellRun s b i off _
@[simp] theorem addReg_bellFrameAt (b : Block) (i off k : Nat) : (addReg s b i off k).bellFrameAt = s.bellFrameAt :=
  setReg_bellFrameAt s b i off _
@[simp] theorem addReg_bellPulse (b : Block) (i off k : Nat) : (addReg s b i off k).bellPulse = s.bellPulse :=
  setReg_bellPulse s b i off _
@[simp] theorem addReg_cores (b : Block) (i off k : Nat) : (addReg s b i off k).cores = s.cores :=
  setReg_cores s b i off _
@[simp] theorem addReg_tscales (b : Block) (i off k : Nat) : (addReg s b i off k).tscales = s.tscales :=
  setReg_tscales s b i off _
@[simp] theorem addReg_switch (b : Block) (i off k : Nat) : (addReg s b i off k).switch = s.switch :=
  setReg_switch s b i off _
@[simp] theorem addReg_mem (b : Block) (i off k : Nat) : (addReg s b i off k).mem = s.mem :=
  setReg_mem s b i off _
@[simp] theorem addReg_chk (b : Block) (i off k : Nat) : (addReg s b i off k).chk = s.chk :=
  setReg_chk s b i off _
@[simp] theorem addReg_correctedAt (b : Block) (i off k : Nat) : (addReg s b i off k).correctedAt = s.correctedAt :=
  setReg_correctedAt s b i off _
@[simp] theorem addReg_pageBits (b : Block) (i off k : Nat) : (addReg s b i off k).pageBits = s.pageBits :=
  setReg_pageBits s b i off _
@[simp] theorem addReg_copyPages (b : Block) (i off k : Nat) : (addReg s b i off k).copyPages = s.copyPages :=
  setReg_copyPages s b i off _
@[simp] theorem addReg_touches (b : Block) (i off k : Nat) : (addReg s b i off k).touches = s.touches :=
  setReg_touches s b i off _
@[simp] theorem addReg_fired (b : Block) (i off k : Nat) : (addReg s b i off k).fired = s.fired :=
  setReg_fired s b i off _
@[simp] theorem addReg_frees (b : Block) (i off k : Nat) : (addReg s b i off k).frees = s.frees :=
  setReg_frees s b i off _
@[simp] theorem addReg_terrier (b : Block) (i off k : Nat) : (addReg s b i off k).terrier = s.terrier :=
  setReg_terrier s b i off _
@[simp] theorem addReg_terrierOld (b : Block) (i off k : Nat) : (addReg s b i off k).terrierOld = s.terrierOld :=
  setReg_terrierOld s b i off _
@[simp] theorem addReg_lanemaps (b : Block) (i off k : Nat) : (addReg s b i off k).lanemaps = s.lanemaps :=
  setReg_lanemaps s b i off _
@[simp] theorem addReg_groups (b : Block) (i off k : Nat) : (addReg s b i off k).groups = s.groups :=
  setReg_groups s b i off _
@[simp] theorem addReg_staleAt (b : Block) (i off k : Nat) : (addReg s b i off k).staleAt = s.staleAt :=
  setReg_staleAt s b i off _
@[simp] theorem addReg_ports (b : Block) (i off k : Nat) : (addReg s b i off k).ports = s.ports :=
  setReg_ports s b i off _
@[simp] theorem addReg_routers (b : Block) (i off k : Nat) : (addReg s b i off k).routers = s.routers :=
  setReg_routers s b i off _
@[simp] theorem addReg_routeSeq (b : Block) (i off k : Nat) : (addReg s b i off k).routeSeq = s.routeSeq :=
  setReg_routeSeq s b i off _
@[simp] theorem addReg_inbox (b : Block) (i off k : Nat) : (addReg s b i off k).inbox = s.inbox :=
  setReg_inbox s b i off _
@[simp] theorem addReg_postedErrors (b : Block) (i off k : Nat) : (addReg s b i off k).postedErrors = s.postedErrors :=
  setReg_postedErrors s b i off _
@[simp] theorem addReg_reeveTodo (b : Block) (i off k : Nat) : (addReg s b i off k).reeveTodo = s.reeveTodo :=
  setReg_reeveTodo s b i off _
@[simp] theorem addReg_chunks (b : Block) (i off k : Nat) : (addReg s b i off k).chunks = s.chunks :=
  setReg_chunks s b i off _
@[simp] theorem addReg_closedChunks (b : Block) (i off k : Nat) : (addReg s b i off k).closedChunks = s.closedChunks :=
  setReg_closedChunks s b i off _
@[simp] theorem addReg_transit (b : Block) (i off k : Nat) : (addReg s b i off k).transit = s.transit :=
  setReg_transit s b i off _
@[simp] theorem addReg_tags (b : Block) (i off k : Nat) : (addReg s b i off k).tags = s.tags :=
  setReg_tags s b i off _
@[simp] theorem addReg_keyDraws (b : Block) (i off k : Nat) : (addReg s b i off k).keyDraws = s.keyDraws :=
  setReg_keyDraws s b i off _
@[simp] theorem addReg_devq (b : Block) (i off k : Nat) : (addReg s b i off k).devq = s.devq :=
  setReg_devq s b i off _
@[simp] theorem addReg_watchEvents (b : Block) (i off k : Nat) : (addReg s b i off k).watchEvents = s.watchEvents :=
  setReg_watchEvents s b i off _
@[simp] theorem addReg_draws (b : Block) (i off k : Nat) : (addReg s b i off k).draws = s.draws :=
  setReg_draws s b i off _
@[simp] theorem addReg_pantryDraw (b : Block) (i off k : Nat) : (addReg s b i off k).pantryDraw = s.pantryDraw :=
  setReg_pantryDraw s b i off _
@[simp] theorem addReg_pantryId (b : Block) (i off k : Nat) : (addReg s b i off k).pantryId = s.pantryId :=
  setReg_pantryId s b i off _
@[simp] theorem addReg_harvest (b : Block) (i off k : Nat) : (addReg s b i off k).harvest = s.harvest :=
  setReg_harvest s b i off _
@[simp] theorem addReg_harvestDue (b : Block) (i off k : Nat) : (addReg s b i off k).harvestDue = s.harvestDue :=
  setReg_harvestDue s b i off _
@[simp] theorem addReg_harvestWanted (b : Block) (i off k : Nat) : (addReg s b i off k).harvestWanted = s.harvestWanted :=
  setReg_harvestWanted s b i off _
@[simp] theorem addReg_nvme (b : Block) (i off k : Nat) : (addReg s b i off k).nvme = s.nvme :=
  setReg_nvme s b i off _
@[simp] theorem addReg_nvmeWait (b : Block) (i off k : Nat) : (addReg s b i off k).nvmeWait = s.nvmeWait :=
  setReg_nvmeWait s b i off _
@[simp] theorem addReg_pantryImage (b : Block) (i off k : Nat) : (addReg s b i off k).pantryImage = s.pantryImage :=
  setReg_pantryImage s b i off _
@[simp] theorem addReg_storeImage (b : Block) (i off k : Nat) : (addReg s b i off k).storeImage = s.storeImage :=
  setReg_storeImage s b i off _
@[simp] theorem addReg_refill (b : Block) (i off k : Nat) : (addReg s b i off k).refill = s.refill :=
  setReg_refill s b i off _
@[simp] theorem addReg_lastRefill (b : Block) (i off k : Nat) : (addReg s b i off k).lastRefill = s.lastRefill :=
  setReg_lastRefill s b i off _
@[simp] theorem addReg_validPages (b : Block) (i off k : Nat) : (addReg s b i off k).validPages = s.validPages :=
  setReg_validPages s b i off _
@[simp] theorem addReg_landings (b : Block) (i off k : Nat) : (addReg s b i off k).landings = s.landings :=
  setReg_landings s b i off _
@[simp] theorem addReg_serve (b : Block) (i off k : Nat) : (addReg s b i off k).serve = s.serve :=
  setReg_serve s b i off _
@[simp] theorem addReg_started (b : Block) (i off k : Nat) : (addReg s b i off k).started = s.started :=
  setReg_started s b i off _
@[simp] theorem addReg_coreReturned (b : Block) (i off k : Nat) : (addReg s b i off k).coreReturned = s.coreReturned :=
  setReg_coreReturned s b i off _
@[simp] theorem addReg_saved (b : Block) (i off k : Nat) : (addReg s b i off k).saved = s.saved :=
  setReg_saved s b i off _
@[simp] theorem addReg_savedDraw (b : Block) (i off k : Nat) : (addReg s b i off k).savedDraw = s.savedDraw :=
  setReg_savedDraw s b i off _
@[simp] theorem addReg_measuring (b : Block) (i off k : Nat) : (addReg s b i off k).measuring = s.measuring :=
  setReg_measuring s b i off _
@[simp] theorem addReg_measured (b : Block) (i off k : Nat) : (addReg s b i off k).measured = s.measured :=
  setReg_measured s b i off _
@[simp] theorem addReg_measurements (b : Block) (i off k : Nat) : (addReg s b i off k).measurements = s.measurements :=
  setReg_measurements s b i off _
@[simp] theorem addReg_wipes (b : Block) (i off k : Nat) : (addReg s b i off k).wipes = s.wipes :=
  setReg_wipes s b i off _
@[simp] theorem addReg_tests (b : Block) (i off k : Nat) : (addReg s b i off k).tests = s.tests :=
  setReg_tests s b i off _
@[simp] theorem addReg_remaps (b : Block) (i off k : Nat) : (addReg s b i off k).remaps = s.remaps :=
  setReg_remaps s b i off _
@[simp] theorem addReg_refreshing (b : Block) (i off k : Nat) : (addReg s b i off k).refreshing = s.refreshing :=
  setReg_refreshing s b i off _
@[simp] theorem addReg_hotFp (b : Block) (i off k : Nat) : (addReg s b i off k).hotFp = s.hotFp :=
  setReg_hotFp s b i off _
@[simp] theorem addReg_hotNext (b : Block) (i off k : Nat) : (addReg s b i off k).hotNext = s.hotNext :=
  setReg_hotNext s b i off _
@[simp] theorem addReg_waiting (b : Block) (i off k : Nat) : (addReg s b i off k).waiting = s.waiting :=
  setReg_waiting s b i off _
@[simp] theorem addReg_throttles (b : Block) (i off k : Nat) : (addReg s b i off k).throttles = s.throttles :=
  setReg_throttles s b i off _
@[simp] theorem addReg_wear (b : Block) (i off k : Nat) : (addReg s b i off k).wear = s.wear :=
  setReg_wear s b i off _
@[simp] theorem addReg_wearStored (b : Block) (i off k : Nat) : (addReg s b i off k).wearStored = s.wearStored :=
  setReg_wearStored s b i off _
@[simp] theorem addReg_socs (b : Block) (i off k : Nat) : (addReg s b i off k).socs = s.socs :=
  setReg_socs s b i off _
@[simp] theorem addReg_pkgEst (b : Block) (i off k : Nat) : (addReg s b i off k).pkgEst = s.pkgEst :=
  setReg_pkgEst s b i off _
@[simp] theorem addReg_estNext (b : Block) (i off k : Nat) : (addReg s b i off k).estNext = s.estNext :=
  setReg_estNext s b i off _
@[simp] theorem addReg_activity (b : Block) (i off k : Nat) : (addReg s b i off k).activity = s.activity :=
  setReg_activity s b i off _
@[simp] theorem addReg_energy (b : Block) (i off k : Nat) : (addReg s b i off k).energy = s.energy :=
  setReg_energy s b i off _
@[simp] theorem addReg_curfew (b : Block) (i off k : Nat) : (addReg s b i off k).curfew = s.curfew :=
  setReg_curfew s b i off _
@[simp] theorem addReg_msixOpen (b : Block) (i off k : Nat) : (addReg s b i off k).msixOpen = s.msixOpen :=
  setReg_msixOpen s b i off _
@[simp] theorem addReg_msixPending (b : Block) (i off k : Nat) : (addReg s b i off k).msixPending = s.msixPending :=
  setReg_msixPending s b i off _
@[simp] theorem addReg_bar4 (b : Block) (i off k : Nat) : (addReg s b i off k).bar4 = s.bar4 :=
  setReg_bar4 s b i off _
@[simp] theorem addReg_aer (b : Block) (i off k : Nat) : (addReg s b i off k).aer = s.aer :=
  setReg_aer s b i off _
@[simp] theorem addReg_hostReads (b : Block) (i off k : Nat) : (addReg s b i off k).hostReads = s.hostReads :=
  setReg_hostReads s b i off _
@[simp] theorem addReg_nextRead (b : Block) (i off k : Nat) : (addReg s b i off k).nextRead = s.nextRead :=
  setReg_nextRead s b i off _
@[simp] theorem addReg_hostDirty (b : Block) (i off k : Nat) : (addReg s b i off k).hostDirty = s.hostDirty :=
  setReg_hostDirty s b i off _
@[simp] theorem addReg_mgmt (b : Block) (i off k : Nat) : (addReg s b i off k).mgmt = s.mgmt :=
  setReg_mgmt s b i off _
@[simp] theorem addReg_fw (b : Block) (i off k : Nat) : (addReg s b i off k).fw = s.fw :=
  setReg_fw s b i off _
@[simp] theorem addReg_firmware (b : Block) (i off k : Nat) : (addReg s b i off k).firmware = s.firmware :=
  setReg_firmware s b i off _
@[simp] theorem addReg_booted (b : Block) (i off k : Nat) : (addReg s b i off k).booted = s.booted :=
  setReg_booted s b i off _
@[simp] theorem addReg_spdm (b : Block) (i off k : Nat) : (addReg s b i off k).spdm = s.spdm :=
  setReg_spdm s b i off _
@[simp] theorem addReg_spdmHeard (b : Block) (i off k : Nat) : (addReg s b i off k).spdmHeard = s.spdmHeard :=
  setReg_spdmHeard s b i off _
@[simp] theorem addReg_evqSent (b : Block) (i off k : Nat) : (addReg s b i off k).evqSent = s.evqSent :=
  setReg_evqSent s b i off _
@[simp] theorem addReg_evqWait (b : Block) (i off k : Nat) : (addReg s b i off k).evqWait = s.evqWait :=
  setReg_evqWait s b i off _
@[simp] theorem addReg_jtag (b : Block) (i off k : Nat) : (addReg s b i off k).jtag = s.jtag :=
  setReg_jtag s b i off _
@[simp] theorem addReg_boundary (b : Block) (i off k : Nat) : (addReg s b i off k).boundary = s.boundary :=
  setReg_boundary s b i off _
@[simp] theorem addReg_bypass (b : Block) (i off k : Nat) : (addReg s b i off k).bypass = s.bypass :=
  setReg_bypass s b i off _
@[simp] theorem addReg_scanTest (b : Block) (i off k : Nat) : (addReg s b i off k).scanTest = s.scanTest :=
  setReg_scanTest s b i off _
@[simp] theorem addReg_checks (b : Block) (i off k : Nat) : (addReg s b i off k).checks = s.checks :=
  setReg_checks s b i off _
@[simp] theorem addReg_stackHeld (b : Block) (i off k : Nat) : (addReg s b i off k).stackHeld = s.stackHeld :=
  setReg_stackHeld s b i off _
@[simp] theorem addReg_dawnOf (b : Block) (i off k : Nat) : (addReg s b i off k).dawnOf = s.dawnOf :=
  setReg_dawnOf s b i off _
@[simp] theorem addReg_partDawn (b : Block) (i off k : Nat) : (addReg s b i off k).partDawn = s.partDawn :=
  setReg_partDawn s b i off _
@[simp] theorem addReg_partWaiting (b : Block) (i off k : Nat) : (addReg s b i off k).partWaiting = s.partWaiting :=
  setReg_partWaiting s b i off _
@[simp] theorem addReg_railOut (b : Block) (i off k : Nat) : (addReg s b i off k).railOut = s.railOut :=
  setReg_railOut s b i off _
@[simp] theorem addReg_panPerst (b : Block) (i off k : Nat) : (addReg s b i off k).panPerst = s.panPerst :=
  setReg_panPerst s b i off _
@[simp] theorem addReg_refclkLost (b : Block) (i off k : Nat) : (addReg s b i off k).refclkLost = s.refclkLost :=
  setReg_refclkLost s b i off _
@[simp] theorem addReg_perstLow (b : Block) (i off k : Nat) : (addReg s b i off k).perstLow = s.perstLow :=
  setReg_perstLow s b i off _
@[simp] theorem addReg_powerStep (b : Block) (i off k : Nat) : (addReg s b i off k).powerStep = s.powerStep :=
  setReg_powerStep s b i off _
@[simp] theorem addReg_outputs (b : Block) (i off k : Nat) : (addReg s b i off k).outputs = s.outputs :=
  setReg_outputs s b i off _

/-! ## setReg64 -/

@[simp] theorem setReg64_pending (b : Block) (i lo : Nat) (v : DWord) : (setReg64 s b i lo v).pending = s.pending :=
  by rw [setReg64, setReg_pending, setReg_pending]
@[simp] theorem setReg64_latches (b : Block) (i lo : Nat) (v : DWord) : (setReg64 s b i lo v).latches = s.latches :=
  by rw [setReg64, setReg_latches, setReg_latches]
@[simp] theorem setReg64_time (b : Block) (i lo : Nat) (v : DWord) : (setReg64 s b i lo v).time = s.time :=
  by rw [setReg64, setReg_time, setReg_time]
@[simp] theorem setReg64_timeHeld (b : Block) (i lo : Nat) (v : DWord) : (setReg64 s b i lo v).timeHeld = s.timeHeld :=
  by rw [setReg64, setReg_timeHeld, setReg_timeHeld]
@[simp] theorem setReg64_holdLeft (b : Block) (i lo : Nat) (v : DWord) : (setReg64 s b i lo v).holdLeft = s.holdLeft :=
  by rw [setReg64, setReg_holdLeft, setReg_holdLeft]
@[simp] theorem setReg64_bellOffset (b : Block) (i lo : Nat) (v : DWord) : (setReg64 s b i lo v).bellOffset = s.bellOffset :=
  by rw [setReg64, setReg_bellOffset, setReg_bellOffset]
@[simp] theorem setReg64_bellSlew (b : Block) (i lo : Nat) (v : DWord) : (setReg64 s b i lo v).bellSlew = s.bellSlew :=
  by rw [setReg64, setReg_bellSlew, setReg_bellSlew]
@[simp] theorem setReg64_refTime (b : Block) (i lo : Nat) (v : DWord) : (setReg64 s b i lo v).refTime = s.refTime :=
  by rw [setReg64, setReg_refTime, setReg_refTime]
@[simp] theorem setReg64_bellRun (b : Block) (i lo : Nat) (v : DWord) : (setReg64 s b i lo v).bellRun = s.bellRun :=
  by rw [setReg64, setReg_bellRun, setReg_bellRun]
@[simp] theorem setReg64_bellFrameAt (b : Block) (i lo : Nat) (v : DWord) : (setReg64 s b i lo v).bellFrameAt = s.bellFrameAt :=
  by rw [setReg64, setReg_bellFrameAt, setReg_bellFrameAt]
@[simp] theorem setReg64_bellPulse (b : Block) (i lo : Nat) (v : DWord) : (setReg64 s b i lo v).bellPulse = s.bellPulse :=
  by rw [setReg64, setReg_bellPulse, setReg_bellPulse]
@[simp] theorem setReg64_cores (b : Block) (i lo : Nat) (v : DWord) : (setReg64 s b i lo v).cores = s.cores :=
  by rw [setReg64, setReg_cores, setReg_cores]
@[simp] theorem setReg64_tscales (b : Block) (i lo : Nat) (v : DWord) : (setReg64 s b i lo v).tscales = s.tscales :=
  by rw [setReg64, setReg_tscales, setReg_tscales]
@[simp] theorem setReg64_switch (b : Block) (i lo : Nat) (v : DWord) : (setReg64 s b i lo v).switch = s.switch :=
  by rw [setReg64, setReg_switch, setReg_switch]
@[simp] theorem setReg64_mem (b : Block) (i lo : Nat) (v : DWord) : (setReg64 s b i lo v).mem = s.mem :=
  by rw [setReg64, setReg_mem, setReg_mem]
@[simp] theorem setReg64_chk (b : Block) (i lo : Nat) (v : DWord) : (setReg64 s b i lo v).chk = s.chk :=
  by rw [setReg64, setReg_chk, setReg_chk]
@[simp] theorem setReg64_correctedAt (b : Block) (i lo : Nat) (v : DWord) : (setReg64 s b i lo v).correctedAt = s.correctedAt :=
  by rw [setReg64, setReg_correctedAt, setReg_correctedAt]
@[simp] theorem setReg64_pageBits (b : Block) (i lo : Nat) (v : DWord) : (setReg64 s b i lo v).pageBits = s.pageBits :=
  by rw [setReg64, setReg_pageBits, setReg_pageBits]
@[simp] theorem setReg64_copyPages (b : Block) (i lo : Nat) (v : DWord) : (setReg64 s b i lo v).copyPages = s.copyPages :=
  by rw [setReg64, setReg_copyPages, setReg_copyPages]
@[simp] theorem setReg64_touches (b : Block) (i lo : Nat) (v : DWord) : (setReg64 s b i lo v).touches = s.touches :=
  by rw [setReg64, setReg_touches, setReg_touches]
@[simp] theorem setReg64_fired (b : Block) (i lo : Nat) (v : DWord) : (setReg64 s b i lo v).fired = s.fired :=
  by rw [setReg64, setReg_fired, setReg_fired]
@[simp] theorem setReg64_frees (b : Block) (i lo : Nat) (v : DWord) : (setReg64 s b i lo v).frees = s.frees :=
  by rw [setReg64, setReg_frees, setReg_frees]
@[simp] theorem setReg64_terrier (b : Block) (i lo : Nat) (v : DWord) : (setReg64 s b i lo v).terrier = s.terrier :=
  by rw [setReg64, setReg_terrier, setReg_terrier]
@[simp] theorem setReg64_terrierOld (b : Block) (i lo : Nat) (v : DWord) : (setReg64 s b i lo v).terrierOld = s.terrierOld :=
  by rw [setReg64, setReg_terrierOld, setReg_terrierOld]
@[simp] theorem setReg64_lanemaps (b : Block) (i lo : Nat) (v : DWord) : (setReg64 s b i lo v).lanemaps = s.lanemaps :=
  by rw [setReg64, setReg_lanemaps, setReg_lanemaps]
@[simp] theorem setReg64_groups (b : Block) (i lo : Nat) (v : DWord) : (setReg64 s b i lo v).groups = s.groups :=
  by rw [setReg64, setReg_groups, setReg_groups]
@[simp] theorem setReg64_staleAt (b : Block) (i lo : Nat) (v : DWord) : (setReg64 s b i lo v).staleAt = s.staleAt :=
  by rw [setReg64, setReg_staleAt, setReg_staleAt]
@[simp] theorem setReg64_ports (b : Block) (i lo : Nat) (v : DWord) : (setReg64 s b i lo v).ports = s.ports :=
  by rw [setReg64, setReg_ports, setReg_ports]
@[simp] theorem setReg64_routers (b : Block) (i lo : Nat) (v : DWord) : (setReg64 s b i lo v).routers = s.routers :=
  by rw [setReg64, setReg_routers, setReg_routers]
@[simp] theorem setReg64_routeSeq (b : Block) (i lo : Nat) (v : DWord) : (setReg64 s b i lo v).routeSeq = s.routeSeq :=
  by rw [setReg64, setReg_routeSeq, setReg_routeSeq]
@[simp] theorem setReg64_inbox (b : Block) (i lo : Nat) (v : DWord) : (setReg64 s b i lo v).inbox = s.inbox :=
  by rw [setReg64, setReg_inbox, setReg_inbox]
@[simp] theorem setReg64_postedErrors (b : Block) (i lo : Nat) (v : DWord) : (setReg64 s b i lo v).postedErrors = s.postedErrors :=
  by rw [setReg64, setReg_postedErrors, setReg_postedErrors]
@[simp] theorem setReg64_reeveTodo (b : Block) (i lo : Nat) (v : DWord) : (setReg64 s b i lo v).reeveTodo = s.reeveTodo :=
  by rw [setReg64, setReg_reeveTodo, setReg_reeveTodo]
@[simp] theorem setReg64_chunks (b : Block) (i lo : Nat) (v : DWord) : (setReg64 s b i lo v).chunks = s.chunks :=
  by rw [setReg64, setReg_chunks, setReg_chunks]
@[simp] theorem setReg64_closedChunks (b : Block) (i lo : Nat) (v : DWord) : (setReg64 s b i lo v).closedChunks = s.closedChunks :=
  by rw [setReg64, setReg_closedChunks, setReg_closedChunks]
@[simp] theorem setReg64_transit (b : Block) (i lo : Nat) (v : DWord) : (setReg64 s b i lo v).transit = s.transit :=
  by rw [setReg64, setReg_transit, setReg_transit]
@[simp] theorem setReg64_tags (b : Block) (i lo : Nat) (v : DWord) : (setReg64 s b i lo v).tags = s.tags :=
  by rw [setReg64, setReg_tags, setReg_tags]
@[simp] theorem setReg64_keyDraws (b : Block) (i lo : Nat) (v : DWord) : (setReg64 s b i lo v).keyDraws = s.keyDraws :=
  by rw [setReg64, setReg_keyDraws, setReg_keyDraws]
@[simp] theorem setReg64_devq (b : Block) (i lo : Nat) (v : DWord) : (setReg64 s b i lo v).devq = s.devq :=
  by rw [setReg64, setReg_devq, setReg_devq]
@[simp] theorem setReg64_watchEvents (b : Block) (i lo : Nat) (v : DWord) : (setReg64 s b i lo v).watchEvents = s.watchEvents :=
  by rw [setReg64, setReg_watchEvents, setReg_watchEvents]
@[simp] theorem setReg64_draws (b : Block) (i lo : Nat) (v : DWord) : (setReg64 s b i lo v).draws = s.draws :=
  by rw [setReg64, setReg_draws, setReg_draws]
@[simp] theorem setReg64_pantryDraw (b : Block) (i lo : Nat) (v : DWord) : (setReg64 s b i lo v).pantryDraw = s.pantryDraw :=
  by rw [setReg64, setReg_pantryDraw, setReg_pantryDraw]
@[simp] theorem setReg64_pantryId (b : Block) (i lo : Nat) (v : DWord) : (setReg64 s b i lo v).pantryId = s.pantryId :=
  by rw [setReg64, setReg_pantryId, setReg_pantryId]
@[simp] theorem setReg64_harvest (b : Block) (i lo : Nat) (v : DWord) : (setReg64 s b i lo v).harvest = s.harvest :=
  by rw [setReg64, setReg_harvest, setReg_harvest]
@[simp] theorem setReg64_harvestDue (b : Block) (i lo : Nat) (v : DWord) : (setReg64 s b i lo v).harvestDue = s.harvestDue :=
  by rw [setReg64, setReg_harvestDue, setReg_harvestDue]
@[simp] theorem setReg64_harvestWanted (b : Block) (i lo : Nat) (v : DWord) : (setReg64 s b i lo v).harvestWanted = s.harvestWanted :=
  by rw [setReg64, setReg_harvestWanted, setReg_harvestWanted]
@[simp] theorem setReg64_nvme (b : Block) (i lo : Nat) (v : DWord) : (setReg64 s b i lo v).nvme = s.nvme :=
  by rw [setReg64, setReg_nvme, setReg_nvme]
@[simp] theorem setReg64_nvmeWait (b : Block) (i lo : Nat) (v : DWord) : (setReg64 s b i lo v).nvmeWait = s.nvmeWait :=
  by rw [setReg64, setReg_nvmeWait, setReg_nvmeWait]
@[simp] theorem setReg64_pantryImage (b : Block) (i lo : Nat) (v : DWord) : (setReg64 s b i lo v).pantryImage = s.pantryImage :=
  by rw [setReg64, setReg_pantryImage, setReg_pantryImage]
@[simp] theorem setReg64_storeImage (b : Block) (i lo : Nat) (v : DWord) : (setReg64 s b i lo v).storeImage = s.storeImage :=
  by rw [setReg64, setReg_storeImage, setReg_storeImage]
@[simp] theorem setReg64_refill (b : Block) (i lo : Nat) (v : DWord) : (setReg64 s b i lo v).refill = s.refill :=
  by rw [setReg64, setReg_refill, setReg_refill]
@[simp] theorem setReg64_lastRefill (b : Block) (i lo : Nat) (v : DWord) : (setReg64 s b i lo v).lastRefill = s.lastRefill :=
  by rw [setReg64, setReg_lastRefill, setReg_lastRefill]
@[simp] theorem setReg64_validPages (b : Block) (i lo : Nat) (v : DWord) : (setReg64 s b i lo v).validPages = s.validPages :=
  by rw [setReg64, setReg_validPages, setReg_validPages]
@[simp] theorem setReg64_landings (b : Block) (i lo : Nat) (v : DWord) : (setReg64 s b i lo v).landings = s.landings :=
  by rw [setReg64, setReg_landings, setReg_landings]
@[simp] theorem setReg64_serve (b : Block) (i lo : Nat) (v : DWord) : (setReg64 s b i lo v).serve = s.serve :=
  by rw [setReg64, setReg_serve, setReg_serve]
@[simp] theorem setReg64_started (b : Block) (i lo : Nat) (v : DWord) : (setReg64 s b i lo v).started = s.started :=
  by rw [setReg64, setReg_started, setReg_started]
@[simp] theorem setReg64_coreReturned (b : Block) (i lo : Nat) (v : DWord) : (setReg64 s b i lo v).coreReturned = s.coreReturned :=
  by rw [setReg64, setReg_coreReturned, setReg_coreReturned]
@[simp] theorem setReg64_saved (b : Block) (i lo : Nat) (v : DWord) : (setReg64 s b i lo v).saved = s.saved :=
  by rw [setReg64, setReg_saved, setReg_saved]
@[simp] theorem setReg64_savedDraw (b : Block) (i lo : Nat) (v : DWord) : (setReg64 s b i lo v).savedDraw = s.savedDraw :=
  by rw [setReg64, setReg_savedDraw, setReg_savedDraw]
@[simp] theorem setReg64_measuring (b : Block) (i lo : Nat) (v : DWord) : (setReg64 s b i lo v).measuring = s.measuring :=
  by rw [setReg64, setReg_measuring, setReg_measuring]
@[simp] theorem setReg64_measured (b : Block) (i lo : Nat) (v : DWord) : (setReg64 s b i lo v).measured = s.measured :=
  by rw [setReg64, setReg_measured, setReg_measured]
@[simp] theorem setReg64_measurements (b : Block) (i lo : Nat) (v : DWord) : (setReg64 s b i lo v).measurements = s.measurements :=
  by rw [setReg64, setReg_measurements, setReg_measurements]
@[simp] theorem setReg64_wipes (b : Block) (i lo : Nat) (v : DWord) : (setReg64 s b i lo v).wipes = s.wipes :=
  by rw [setReg64, setReg_wipes, setReg_wipes]
@[simp] theorem setReg64_tests (b : Block) (i lo : Nat) (v : DWord) : (setReg64 s b i lo v).tests = s.tests :=
  by rw [setReg64, setReg_tests, setReg_tests]
@[simp] theorem setReg64_remaps (b : Block) (i lo : Nat) (v : DWord) : (setReg64 s b i lo v).remaps = s.remaps :=
  by rw [setReg64, setReg_remaps, setReg_remaps]
@[simp] theorem setReg64_refreshing (b : Block) (i lo : Nat) (v : DWord) : (setReg64 s b i lo v).refreshing = s.refreshing :=
  by rw [setReg64, setReg_refreshing, setReg_refreshing]
@[simp] theorem setReg64_hotFp (b : Block) (i lo : Nat) (v : DWord) : (setReg64 s b i lo v).hotFp = s.hotFp :=
  by rw [setReg64, setReg_hotFp, setReg_hotFp]
@[simp] theorem setReg64_hotNext (b : Block) (i lo : Nat) (v : DWord) : (setReg64 s b i lo v).hotNext = s.hotNext :=
  by rw [setReg64, setReg_hotNext, setReg_hotNext]
@[simp] theorem setReg64_waiting (b : Block) (i lo : Nat) (v : DWord) : (setReg64 s b i lo v).waiting = s.waiting :=
  by rw [setReg64, setReg_waiting, setReg_waiting]
@[simp] theorem setReg64_throttles (b : Block) (i lo : Nat) (v : DWord) : (setReg64 s b i lo v).throttles = s.throttles :=
  by rw [setReg64, setReg_throttles, setReg_throttles]
@[simp] theorem setReg64_wear (b : Block) (i lo : Nat) (v : DWord) : (setReg64 s b i lo v).wear = s.wear :=
  by rw [setReg64, setReg_wear, setReg_wear]
@[simp] theorem setReg64_wearStored (b : Block) (i lo : Nat) (v : DWord) : (setReg64 s b i lo v).wearStored = s.wearStored :=
  by rw [setReg64, setReg_wearStored, setReg_wearStored]
@[simp] theorem setReg64_socs (b : Block) (i lo : Nat) (v : DWord) : (setReg64 s b i lo v).socs = s.socs :=
  by rw [setReg64, setReg_socs, setReg_socs]
@[simp] theorem setReg64_pkgEst (b : Block) (i lo : Nat) (v : DWord) : (setReg64 s b i lo v).pkgEst = s.pkgEst :=
  by rw [setReg64, setReg_pkgEst, setReg_pkgEst]
@[simp] theorem setReg64_estNext (b : Block) (i lo : Nat) (v : DWord) : (setReg64 s b i lo v).estNext = s.estNext :=
  by rw [setReg64, setReg_estNext, setReg_estNext]
@[simp] theorem setReg64_activity (b : Block) (i lo : Nat) (v : DWord) : (setReg64 s b i lo v).activity = s.activity :=
  by rw [setReg64, setReg_activity, setReg_activity]
@[simp] theorem setReg64_energy (b : Block) (i lo : Nat) (v : DWord) : (setReg64 s b i lo v).energy = s.energy :=
  by rw [setReg64, setReg_energy, setReg_energy]
@[simp] theorem setReg64_curfew (b : Block) (i lo : Nat) (v : DWord) : (setReg64 s b i lo v).curfew = s.curfew :=
  by rw [setReg64, setReg_curfew, setReg_curfew]
@[simp] theorem setReg64_msixOpen (b : Block) (i lo : Nat) (v : DWord) : (setReg64 s b i lo v).msixOpen = s.msixOpen :=
  by rw [setReg64, setReg_msixOpen, setReg_msixOpen]
@[simp] theorem setReg64_msixPending (b : Block) (i lo : Nat) (v : DWord) : (setReg64 s b i lo v).msixPending = s.msixPending :=
  by rw [setReg64, setReg_msixPending, setReg_msixPending]
@[simp] theorem setReg64_bar4 (b : Block) (i lo : Nat) (v : DWord) : (setReg64 s b i lo v).bar4 = s.bar4 :=
  by rw [setReg64, setReg_bar4, setReg_bar4]
@[simp] theorem setReg64_aer (b : Block) (i lo : Nat) (v : DWord) : (setReg64 s b i lo v).aer = s.aer :=
  by rw [setReg64, setReg_aer, setReg_aer]
@[simp] theorem setReg64_hostReads (b : Block) (i lo : Nat) (v : DWord) : (setReg64 s b i lo v).hostReads = s.hostReads :=
  by rw [setReg64, setReg_hostReads, setReg_hostReads]
@[simp] theorem setReg64_nextRead (b : Block) (i lo : Nat) (v : DWord) : (setReg64 s b i lo v).nextRead = s.nextRead :=
  by rw [setReg64, setReg_nextRead, setReg_nextRead]
@[simp] theorem setReg64_hostDirty (b : Block) (i lo : Nat) (v : DWord) : (setReg64 s b i lo v).hostDirty = s.hostDirty :=
  by rw [setReg64, setReg_hostDirty, setReg_hostDirty]
@[simp] theorem setReg64_mgmt (b : Block) (i lo : Nat) (v : DWord) : (setReg64 s b i lo v).mgmt = s.mgmt :=
  by rw [setReg64, setReg_mgmt, setReg_mgmt]
@[simp] theorem setReg64_fw (b : Block) (i lo : Nat) (v : DWord) : (setReg64 s b i lo v).fw = s.fw :=
  by rw [setReg64, setReg_fw, setReg_fw]
@[simp] theorem setReg64_firmware (b : Block) (i lo : Nat) (v : DWord) : (setReg64 s b i lo v).firmware = s.firmware :=
  by rw [setReg64, setReg_firmware, setReg_firmware]
@[simp] theorem setReg64_booted (b : Block) (i lo : Nat) (v : DWord) : (setReg64 s b i lo v).booted = s.booted :=
  by rw [setReg64, setReg_booted, setReg_booted]
@[simp] theorem setReg64_spdm (b : Block) (i lo : Nat) (v : DWord) : (setReg64 s b i lo v).spdm = s.spdm :=
  by rw [setReg64, setReg_spdm, setReg_spdm]
@[simp] theorem setReg64_spdmHeard (b : Block) (i lo : Nat) (v : DWord) : (setReg64 s b i lo v).spdmHeard = s.spdmHeard :=
  by rw [setReg64, setReg_spdmHeard, setReg_spdmHeard]
@[simp] theorem setReg64_evqSent (b : Block) (i lo : Nat) (v : DWord) : (setReg64 s b i lo v).evqSent = s.evqSent :=
  by rw [setReg64, setReg_evqSent, setReg_evqSent]
@[simp] theorem setReg64_evqWait (b : Block) (i lo : Nat) (v : DWord) : (setReg64 s b i lo v).evqWait = s.evqWait :=
  by rw [setReg64, setReg_evqWait, setReg_evqWait]
@[simp] theorem setReg64_jtag (b : Block) (i lo : Nat) (v : DWord) : (setReg64 s b i lo v).jtag = s.jtag :=
  by rw [setReg64, setReg_jtag, setReg_jtag]
@[simp] theorem setReg64_boundary (b : Block) (i lo : Nat) (v : DWord) : (setReg64 s b i lo v).boundary = s.boundary :=
  by rw [setReg64, setReg_boundary, setReg_boundary]
@[simp] theorem setReg64_bypass (b : Block) (i lo : Nat) (v : DWord) : (setReg64 s b i lo v).bypass = s.bypass :=
  by rw [setReg64, setReg_bypass, setReg_bypass]
@[simp] theorem setReg64_scanTest (b : Block) (i lo : Nat) (v : DWord) : (setReg64 s b i lo v).scanTest = s.scanTest :=
  by rw [setReg64, setReg_scanTest, setReg_scanTest]
@[simp] theorem setReg64_checks (b : Block) (i lo : Nat) (v : DWord) : (setReg64 s b i lo v).checks = s.checks :=
  by rw [setReg64, setReg_checks, setReg_checks]
@[simp] theorem setReg64_stackHeld (b : Block) (i lo : Nat) (v : DWord) : (setReg64 s b i lo v).stackHeld = s.stackHeld :=
  by rw [setReg64, setReg_stackHeld, setReg_stackHeld]
@[simp] theorem setReg64_dawnOf (b : Block) (i lo : Nat) (v : DWord) : (setReg64 s b i lo v).dawnOf = s.dawnOf :=
  by rw [setReg64, setReg_dawnOf, setReg_dawnOf]
@[simp] theorem setReg64_partDawn (b : Block) (i lo : Nat) (v : DWord) : (setReg64 s b i lo v).partDawn = s.partDawn :=
  by rw [setReg64, setReg_partDawn, setReg_partDawn]
@[simp] theorem setReg64_partWaiting (b : Block) (i lo : Nat) (v : DWord) : (setReg64 s b i lo v).partWaiting = s.partWaiting :=
  by rw [setReg64, setReg_partWaiting, setReg_partWaiting]
@[simp] theorem setReg64_railOut (b : Block) (i lo : Nat) (v : DWord) : (setReg64 s b i lo v).railOut = s.railOut :=
  by rw [setReg64, setReg_railOut, setReg_railOut]
@[simp] theorem setReg64_panPerst (b : Block) (i lo : Nat) (v : DWord) : (setReg64 s b i lo v).panPerst = s.panPerst :=
  by rw [setReg64, setReg_panPerst, setReg_panPerst]
@[simp] theorem setReg64_refclkLost (b : Block) (i lo : Nat) (v : DWord) : (setReg64 s b i lo v).refclkLost = s.refclkLost :=
  by rw [setReg64, setReg_refclkLost, setReg_refclkLost]
@[simp] theorem setReg64_perstLow (b : Block) (i lo : Nat) (v : DWord) : (setReg64 s b i lo v).perstLow = s.perstLow :=
  by rw [setReg64, setReg_perstLow, setReg_perstLow]
@[simp] theorem setReg64_powerStep (b : Block) (i lo : Nat) (v : DWord) : (setReg64 s b i lo v).powerStep = s.powerStep :=
  by rw [setReg64, setReg_powerStep, setReg_powerStep]
@[simp] theorem setReg64_outputs (b : Block) (i lo : Nat) (v : DWord) : (setReg64 s b i lo v).outputs = s.outputs :=
  by rw [setReg64, setReg_outputs, setReg_outputs]

/-! ## addReg64 -/

@[simp] theorem addReg64_pending (b : Block) (i lo k : Nat) : (addReg64 s b i lo k).pending = s.pending :=
  by rw [addReg64, setReg64_pending]
@[simp] theorem addReg64_latches (b : Block) (i lo k : Nat) : (addReg64 s b i lo k).latches = s.latches :=
  by rw [addReg64, setReg64_latches]
@[simp] theorem addReg64_time (b : Block) (i lo k : Nat) : (addReg64 s b i lo k).time = s.time :=
  by rw [addReg64, setReg64_time]
@[simp] theorem addReg64_timeHeld (b : Block) (i lo k : Nat) : (addReg64 s b i lo k).timeHeld = s.timeHeld :=
  by rw [addReg64, setReg64_timeHeld]
@[simp] theorem addReg64_holdLeft (b : Block) (i lo k : Nat) : (addReg64 s b i lo k).holdLeft = s.holdLeft :=
  by rw [addReg64, setReg64_holdLeft]
@[simp] theorem addReg64_bellOffset (b : Block) (i lo k : Nat) : (addReg64 s b i lo k).bellOffset = s.bellOffset :=
  by rw [addReg64, setReg64_bellOffset]
@[simp] theorem addReg64_bellSlew (b : Block) (i lo k : Nat) : (addReg64 s b i lo k).bellSlew = s.bellSlew :=
  by rw [addReg64, setReg64_bellSlew]
@[simp] theorem addReg64_refTime (b : Block) (i lo k : Nat) : (addReg64 s b i lo k).refTime = s.refTime :=
  by rw [addReg64, setReg64_refTime]
@[simp] theorem addReg64_bellRun (b : Block) (i lo k : Nat) : (addReg64 s b i lo k).bellRun = s.bellRun :=
  by rw [addReg64, setReg64_bellRun]
@[simp] theorem addReg64_bellFrameAt (b : Block) (i lo k : Nat) : (addReg64 s b i lo k).bellFrameAt = s.bellFrameAt :=
  by rw [addReg64, setReg64_bellFrameAt]
@[simp] theorem addReg64_bellPulse (b : Block) (i lo k : Nat) : (addReg64 s b i lo k).bellPulse = s.bellPulse :=
  by rw [addReg64, setReg64_bellPulse]
@[simp] theorem addReg64_cores (b : Block) (i lo k : Nat) : (addReg64 s b i lo k).cores = s.cores :=
  by rw [addReg64, setReg64_cores]
@[simp] theorem addReg64_tscales (b : Block) (i lo k : Nat) : (addReg64 s b i lo k).tscales = s.tscales :=
  by rw [addReg64, setReg64_tscales]
@[simp] theorem addReg64_switch (b : Block) (i lo k : Nat) : (addReg64 s b i lo k).switch = s.switch :=
  by rw [addReg64, setReg64_switch]
@[simp] theorem addReg64_mem (b : Block) (i lo k : Nat) : (addReg64 s b i lo k).mem = s.mem :=
  by rw [addReg64, setReg64_mem]
@[simp] theorem addReg64_chk (b : Block) (i lo k : Nat) : (addReg64 s b i lo k).chk = s.chk :=
  by rw [addReg64, setReg64_chk]
@[simp] theorem addReg64_correctedAt (b : Block) (i lo k : Nat) : (addReg64 s b i lo k).correctedAt = s.correctedAt :=
  by rw [addReg64, setReg64_correctedAt]
@[simp] theorem addReg64_pageBits (b : Block) (i lo k : Nat) : (addReg64 s b i lo k).pageBits = s.pageBits :=
  by rw [addReg64, setReg64_pageBits]
@[simp] theorem addReg64_copyPages (b : Block) (i lo k : Nat) : (addReg64 s b i lo k).copyPages = s.copyPages :=
  by rw [addReg64, setReg64_copyPages]
@[simp] theorem addReg64_touches (b : Block) (i lo k : Nat) : (addReg64 s b i lo k).touches = s.touches :=
  by rw [addReg64, setReg64_touches]
@[simp] theorem addReg64_fired (b : Block) (i lo k : Nat) : (addReg64 s b i lo k).fired = s.fired :=
  by rw [addReg64, setReg64_fired]
@[simp] theorem addReg64_frees (b : Block) (i lo k : Nat) : (addReg64 s b i lo k).frees = s.frees :=
  by rw [addReg64, setReg64_frees]
@[simp] theorem addReg64_terrier (b : Block) (i lo k : Nat) : (addReg64 s b i lo k).terrier = s.terrier :=
  by rw [addReg64, setReg64_terrier]
@[simp] theorem addReg64_terrierOld (b : Block) (i lo k : Nat) : (addReg64 s b i lo k).terrierOld = s.terrierOld :=
  by rw [addReg64, setReg64_terrierOld]
@[simp] theorem addReg64_lanemaps (b : Block) (i lo k : Nat) : (addReg64 s b i lo k).lanemaps = s.lanemaps :=
  by rw [addReg64, setReg64_lanemaps]
@[simp] theorem addReg64_groups (b : Block) (i lo k : Nat) : (addReg64 s b i lo k).groups = s.groups :=
  by rw [addReg64, setReg64_groups]
@[simp] theorem addReg64_staleAt (b : Block) (i lo k : Nat) : (addReg64 s b i lo k).staleAt = s.staleAt :=
  by rw [addReg64, setReg64_staleAt]
@[simp] theorem addReg64_ports (b : Block) (i lo k : Nat) : (addReg64 s b i lo k).ports = s.ports :=
  by rw [addReg64, setReg64_ports]
@[simp] theorem addReg64_routers (b : Block) (i lo k : Nat) : (addReg64 s b i lo k).routers = s.routers :=
  by rw [addReg64, setReg64_routers]
@[simp] theorem addReg64_routeSeq (b : Block) (i lo k : Nat) : (addReg64 s b i lo k).routeSeq = s.routeSeq :=
  by rw [addReg64, setReg64_routeSeq]
@[simp] theorem addReg64_inbox (b : Block) (i lo k : Nat) : (addReg64 s b i lo k).inbox = s.inbox :=
  by rw [addReg64, setReg64_inbox]
@[simp] theorem addReg64_postedErrors (b : Block) (i lo k : Nat) : (addReg64 s b i lo k).postedErrors = s.postedErrors :=
  by rw [addReg64, setReg64_postedErrors]
@[simp] theorem addReg64_reeveTodo (b : Block) (i lo k : Nat) : (addReg64 s b i lo k).reeveTodo = s.reeveTodo :=
  by rw [addReg64, setReg64_reeveTodo]
@[simp] theorem addReg64_chunks (b : Block) (i lo k : Nat) : (addReg64 s b i lo k).chunks = s.chunks :=
  by rw [addReg64, setReg64_chunks]
@[simp] theorem addReg64_closedChunks (b : Block) (i lo k : Nat) : (addReg64 s b i lo k).closedChunks = s.closedChunks :=
  by rw [addReg64, setReg64_closedChunks]
@[simp] theorem addReg64_transit (b : Block) (i lo k : Nat) : (addReg64 s b i lo k).transit = s.transit :=
  by rw [addReg64, setReg64_transit]
@[simp] theorem addReg64_tags (b : Block) (i lo k : Nat) : (addReg64 s b i lo k).tags = s.tags :=
  by rw [addReg64, setReg64_tags]
@[simp] theorem addReg64_keyDraws (b : Block) (i lo k : Nat) : (addReg64 s b i lo k).keyDraws = s.keyDraws :=
  by rw [addReg64, setReg64_keyDraws]
@[simp] theorem addReg64_devq (b : Block) (i lo k : Nat) : (addReg64 s b i lo k).devq = s.devq :=
  by rw [addReg64, setReg64_devq]
@[simp] theorem addReg64_watchEvents (b : Block) (i lo k : Nat) : (addReg64 s b i lo k).watchEvents = s.watchEvents :=
  by rw [addReg64, setReg64_watchEvents]
@[simp] theorem addReg64_draws (b : Block) (i lo k : Nat) : (addReg64 s b i lo k).draws = s.draws :=
  by rw [addReg64, setReg64_draws]
@[simp] theorem addReg64_pantryDraw (b : Block) (i lo k : Nat) : (addReg64 s b i lo k).pantryDraw = s.pantryDraw :=
  by rw [addReg64, setReg64_pantryDraw]
@[simp] theorem addReg64_pantryId (b : Block) (i lo k : Nat) : (addReg64 s b i lo k).pantryId = s.pantryId :=
  by rw [addReg64, setReg64_pantryId]
@[simp] theorem addReg64_harvest (b : Block) (i lo k : Nat) : (addReg64 s b i lo k).harvest = s.harvest :=
  by rw [addReg64, setReg64_harvest]
@[simp] theorem addReg64_harvestDue (b : Block) (i lo k : Nat) : (addReg64 s b i lo k).harvestDue = s.harvestDue :=
  by rw [addReg64, setReg64_harvestDue]
@[simp] theorem addReg64_harvestWanted (b : Block) (i lo k : Nat) : (addReg64 s b i lo k).harvestWanted = s.harvestWanted :=
  by rw [addReg64, setReg64_harvestWanted]
@[simp] theorem addReg64_nvme (b : Block) (i lo k : Nat) : (addReg64 s b i lo k).nvme = s.nvme :=
  by rw [addReg64, setReg64_nvme]
@[simp] theorem addReg64_nvmeWait (b : Block) (i lo k : Nat) : (addReg64 s b i lo k).nvmeWait = s.nvmeWait :=
  by rw [addReg64, setReg64_nvmeWait]
@[simp] theorem addReg64_pantryImage (b : Block) (i lo k : Nat) : (addReg64 s b i lo k).pantryImage = s.pantryImage :=
  by rw [addReg64, setReg64_pantryImage]
@[simp] theorem addReg64_storeImage (b : Block) (i lo k : Nat) : (addReg64 s b i lo k).storeImage = s.storeImage :=
  by rw [addReg64, setReg64_storeImage]
@[simp] theorem addReg64_refill (b : Block) (i lo k : Nat) : (addReg64 s b i lo k).refill = s.refill :=
  by rw [addReg64, setReg64_refill]
@[simp] theorem addReg64_lastRefill (b : Block) (i lo k : Nat) : (addReg64 s b i lo k).lastRefill = s.lastRefill :=
  by rw [addReg64, setReg64_lastRefill]
@[simp] theorem addReg64_validPages (b : Block) (i lo k : Nat) : (addReg64 s b i lo k).validPages = s.validPages :=
  by rw [addReg64, setReg64_validPages]
@[simp] theorem addReg64_landings (b : Block) (i lo k : Nat) : (addReg64 s b i lo k).landings = s.landings :=
  by rw [addReg64, setReg64_landings]
@[simp] theorem addReg64_serve (b : Block) (i lo k : Nat) : (addReg64 s b i lo k).serve = s.serve :=
  by rw [addReg64, setReg64_serve]
@[simp] theorem addReg64_started (b : Block) (i lo k : Nat) : (addReg64 s b i lo k).started = s.started :=
  by rw [addReg64, setReg64_started]
@[simp] theorem addReg64_coreReturned (b : Block) (i lo k : Nat) : (addReg64 s b i lo k).coreReturned = s.coreReturned :=
  by rw [addReg64, setReg64_coreReturned]
@[simp] theorem addReg64_saved (b : Block) (i lo k : Nat) : (addReg64 s b i lo k).saved = s.saved :=
  by rw [addReg64, setReg64_saved]
@[simp] theorem addReg64_savedDraw (b : Block) (i lo k : Nat) : (addReg64 s b i lo k).savedDraw = s.savedDraw :=
  by rw [addReg64, setReg64_savedDraw]
@[simp] theorem addReg64_measuring (b : Block) (i lo k : Nat) : (addReg64 s b i lo k).measuring = s.measuring :=
  by rw [addReg64, setReg64_measuring]
@[simp] theorem addReg64_measured (b : Block) (i lo k : Nat) : (addReg64 s b i lo k).measured = s.measured :=
  by rw [addReg64, setReg64_measured]
@[simp] theorem addReg64_measurements (b : Block) (i lo k : Nat) : (addReg64 s b i lo k).measurements = s.measurements :=
  by rw [addReg64, setReg64_measurements]
@[simp] theorem addReg64_wipes (b : Block) (i lo k : Nat) : (addReg64 s b i lo k).wipes = s.wipes :=
  by rw [addReg64, setReg64_wipes]
@[simp] theorem addReg64_tests (b : Block) (i lo k : Nat) : (addReg64 s b i lo k).tests = s.tests :=
  by rw [addReg64, setReg64_tests]
@[simp] theorem addReg64_remaps (b : Block) (i lo k : Nat) : (addReg64 s b i lo k).remaps = s.remaps :=
  by rw [addReg64, setReg64_remaps]
@[simp] theorem addReg64_refreshing (b : Block) (i lo k : Nat) : (addReg64 s b i lo k).refreshing = s.refreshing :=
  by rw [addReg64, setReg64_refreshing]
@[simp] theorem addReg64_hotFp (b : Block) (i lo k : Nat) : (addReg64 s b i lo k).hotFp = s.hotFp :=
  by rw [addReg64, setReg64_hotFp]
@[simp] theorem addReg64_hotNext (b : Block) (i lo k : Nat) : (addReg64 s b i lo k).hotNext = s.hotNext :=
  by rw [addReg64, setReg64_hotNext]
@[simp] theorem addReg64_waiting (b : Block) (i lo k : Nat) : (addReg64 s b i lo k).waiting = s.waiting :=
  by rw [addReg64, setReg64_waiting]
@[simp] theorem addReg64_throttles (b : Block) (i lo k : Nat) : (addReg64 s b i lo k).throttles = s.throttles :=
  by rw [addReg64, setReg64_throttles]
@[simp] theorem addReg64_wear (b : Block) (i lo k : Nat) : (addReg64 s b i lo k).wear = s.wear :=
  by rw [addReg64, setReg64_wear]
@[simp] theorem addReg64_wearStored (b : Block) (i lo k : Nat) : (addReg64 s b i lo k).wearStored = s.wearStored :=
  by rw [addReg64, setReg64_wearStored]
@[simp] theorem addReg64_socs (b : Block) (i lo k : Nat) : (addReg64 s b i lo k).socs = s.socs :=
  by rw [addReg64, setReg64_socs]
@[simp] theorem addReg64_pkgEst (b : Block) (i lo k : Nat) : (addReg64 s b i lo k).pkgEst = s.pkgEst :=
  by rw [addReg64, setReg64_pkgEst]
@[simp] theorem addReg64_estNext (b : Block) (i lo k : Nat) : (addReg64 s b i lo k).estNext = s.estNext :=
  by rw [addReg64, setReg64_estNext]
@[simp] theorem addReg64_activity (b : Block) (i lo k : Nat) : (addReg64 s b i lo k).activity = s.activity :=
  by rw [addReg64, setReg64_activity]
@[simp] theorem addReg64_energy (b : Block) (i lo k : Nat) : (addReg64 s b i lo k).energy = s.energy :=
  by rw [addReg64, setReg64_energy]
@[simp] theorem addReg64_curfew (b : Block) (i lo k : Nat) : (addReg64 s b i lo k).curfew = s.curfew :=
  by rw [addReg64, setReg64_curfew]
@[simp] theorem addReg64_msixOpen (b : Block) (i lo k : Nat) : (addReg64 s b i lo k).msixOpen = s.msixOpen :=
  by rw [addReg64, setReg64_msixOpen]
@[simp] theorem addReg64_msixPending (b : Block) (i lo k : Nat) : (addReg64 s b i lo k).msixPending = s.msixPending :=
  by rw [addReg64, setReg64_msixPending]
@[simp] theorem addReg64_bar4 (b : Block) (i lo k : Nat) : (addReg64 s b i lo k).bar4 = s.bar4 :=
  by rw [addReg64, setReg64_bar4]
@[simp] theorem addReg64_aer (b : Block) (i lo k : Nat) : (addReg64 s b i lo k).aer = s.aer :=
  by rw [addReg64, setReg64_aer]
@[simp] theorem addReg64_hostReads (b : Block) (i lo k : Nat) : (addReg64 s b i lo k).hostReads = s.hostReads :=
  by rw [addReg64, setReg64_hostReads]
@[simp] theorem addReg64_nextRead (b : Block) (i lo k : Nat) : (addReg64 s b i lo k).nextRead = s.nextRead :=
  by rw [addReg64, setReg64_nextRead]
@[simp] theorem addReg64_hostDirty (b : Block) (i lo k : Nat) : (addReg64 s b i lo k).hostDirty = s.hostDirty :=
  by rw [addReg64, setReg64_hostDirty]
@[simp] theorem addReg64_mgmt (b : Block) (i lo k : Nat) : (addReg64 s b i lo k).mgmt = s.mgmt :=
  by rw [addReg64, setReg64_mgmt]
@[simp] theorem addReg64_fw (b : Block) (i lo k : Nat) : (addReg64 s b i lo k).fw = s.fw :=
  by rw [addReg64, setReg64_fw]
@[simp] theorem addReg64_firmware (b : Block) (i lo k : Nat) : (addReg64 s b i lo k).firmware = s.firmware :=
  by rw [addReg64, setReg64_firmware]
@[simp] theorem addReg64_booted (b : Block) (i lo k : Nat) : (addReg64 s b i lo k).booted = s.booted :=
  by rw [addReg64, setReg64_booted]
@[simp] theorem addReg64_spdm (b : Block) (i lo k : Nat) : (addReg64 s b i lo k).spdm = s.spdm :=
  by rw [addReg64, setReg64_spdm]
@[simp] theorem addReg64_spdmHeard (b : Block) (i lo k : Nat) : (addReg64 s b i lo k).spdmHeard = s.spdmHeard :=
  by rw [addReg64, setReg64_spdmHeard]
@[simp] theorem addReg64_evqSent (b : Block) (i lo k : Nat) : (addReg64 s b i lo k).evqSent = s.evqSent :=
  by rw [addReg64, setReg64_evqSent]
@[simp] theorem addReg64_evqWait (b : Block) (i lo k : Nat) : (addReg64 s b i lo k).evqWait = s.evqWait :=
  by rw [addReg64, setReg64_evqWait]
@[simp] theorem addReg64_jtag (b : Block) (i lo k : Nat) : (addReg64 s b i lo k).jtag = s.jtag :=
  by rw [addReg64, setReg64_jtag]
@[simp] theorem addReg64_boundary (b : Block) (i lo k : Nat) : (addReg64 s b i lo k).boundary = s.boundary :=
  by rw [addReg64, setReg64_boundary]
@[simp] theorem addReg64_bypass (b : Block) (i lo k : Nat) : (addReg64 s b i lo k).bypass = s.bypass :=
  by rw [addReg64, setReg64_bypass]
@[simp] theorem addReg64_scanTest (b : Block) (i lo k : Nat) : (addReg64 s b i lo k).scanTest = s.scanTest :=
  by rw [addReg64, setReg64_scanTest]
@[simp] theorem addReg64_checks (b : Block) (i lo k : Nat) : (addReg64 s b i lo k).checks = s.checks :=
  by rw [addReg64, setReg64_checks]
@[simp] theorem addReg64_stackHeld (b : Block) (i lo k : Nat) : (addReg64 s b i lo k).stackHeld = s.stackHeld :=
  by rw [addReg64, setReg64_stackHeld]
@[simp] theorem addReg64_dawnOf (b : Block) (i lo k : Nat) : (addReg64 s b i lo k).dawnOf = s.dawnOf :=
  by rw [addReg64, setReg64_dawnOf]
@[simp] theorem addReg64_partDawn (b : Block) (i lo k : Nat) : (addReg64 s b i lo k).partDawn = s.partDawn :=
  by rw [addReg64, setReg64_partDawn]
@[simp] theorem addReg64_partWaiting (b : Block) (i lo k : Nat) : (addReg64 s b i lo k).partWaiting = s.partWaiting :=
  by rw [addReg64, setReg64_partWaiting]
@[simp] theorem addReg64_railOut (b : Block) (i lo k : Nat) : (addReg64 s b i lo k).railOut = s.railOut :=
  by rw [addReg64, setReg64_railOut]
@[simp] theorem addReg64_panPerst (b : Block) (i lo k : Nat) : (addReg64 s b i lo k).panPerst = s.panPerst :=
  by rw [addReg64, setReg64_panPerst]
@[simp] theorem addReg64_refclkLost (b : Block) (i lo k : Nat) : (addReg64 s b i lo k).refclkLost = s.refclkLost :=
  by rw [addReg64, setReg64_refclkLost]
@[simp] theorem addReg64_perstLow (b : Block) (i lo k : Nat) : (addReg64 s b i lo k).perstLow = s.perstLow :=
  by rw [addReg64, setReg64_perstLow]
@[simp] theorem addReg64_powerStep (b : Block) (i lo k : Nat) : (addReg64 s b i lo k).powerStep = s.powerStep :=
  by rw [addReg64, setReg64_powerStep]
@[simp] theorem addReg64_outputs (b : Block) (i lo k : Nat) : (addReg64 s b i lo k).outputs = s.outputs :=
  by rw [addReg64, setReg64_outputs]

/-! ## refuse -/

@[simp] theorem refuse_pending (b : Block) (i code off : Nat) : (refuse s b i code off).pending = s.pending :=
  by rw [refuse, setRf_pending, setRf_pending, setRbit_pending]
@[simp] theorem refuse_latches (b : Block) (i code off : Nat) : (refuse s b i code off).latches = s.latches :=
  by rw [refuse, setRf_latches, setRf_latches, setRbit_latches]
@[simp] theorem refuse_time (b : Block) (i code off : Nat) : (refuse s b i code off).time = s.time :=
  by rw [refuse, setRf_time, setRf_time, setRbit_time]
@[simp] theorem refuse_timeHeld (b : Block) (i code off : Nat) : (refuse s b i code off).timeHeld = s.timeHeld :=
  by rw [refuse, setRf_timeHeld, setRf_timeHeld, setRbit_timeHeld]
@[simp] theorem refuse_holdLeft (b : Block) (i code off : Nat) : (refuse s b i code off).holdLeft = s.holdLeft :=
  by rw [refuse, setRf_holdLeft, setRf_holdLeft, setRbit_holdLeft]
@[simp] theorem refuse_bellOffset (b : Block) (i code off : Nat) : (refuse s b i code off).bellOffset = s.bellOffset :=
  by rw [refuse, setRf_bellOffset, setRf_bellOffset, setRbit_bellOffset]
@[simp] theorem refuse_bellSlew (b : Block) (i code off : Nat) : (refuse s b i code off).bellSlew = s.bellSlew :=
  by rw [refuse, setRf_bellSlew, setRf_bellSlew, setRbit_bellSlew]
@[simp] theorem refuse_refTime (b : Block) (i code off : Nat) : (refuse s b i code off).refTime = s.refTime :=
  by rw [refuse, setRf_refTime, setRf_refTime, setRbit_refTime]
@[simp] theorem refuse_bellRun (b : Block) (i code off : Nat) : (refuse s b i code off).bellRun = s.bellRun :=
  by rw [refuse, setRf_bellRun, setRf_bellRun, setRbit_bellRun]
@[simp] theorem refuse_bellFrameAt (b : Block) (i code off : Nat) : (refuse s b i code off).bellFrameAt = s.bellFrameAt :=
  by rw [refuse, setRf_bellFrameAt, setRf_bellFrameAt, setRbit_bellFrameAt]
@[simp] theorem refuse_bellPulse (b : Block) (i code off : Nat) : (refuse s b i code off).bellPulse = s.bellPulse :=
  by rw [refuse, setRf_bellPulse, setRf_bellPulse, setRbit_bellPulse]
@[simp] theorem refuse_cores (b : Block) (i code off : Nat) : (refuse s b i code off).cores = s.cores :=
  by rw [refuse, setRf_cores, setRf_cores, setRbit_cores]
@[simp] theorem refuse_tscales (b : Block) (i code off : Nat) : (refuse s b i code off).tscales = s.tscales :=
  by rw [refuse, setRf_tscales, setRf_tscales, setRbit_tscales]
@[simp] theorem refuse_switch (b : Block) (i code off : Nat) : (refuse s b i code off).switch = s.switch :=
  by rw [refuse, setRf_switch, setRf_switch, setRbit_switch]
@[simp] theorem refuse_mem (b : Block) (i code off : Nat) : (refuse s b i code off).mem = s.mem :=
  by rw [refuse, setRf_mem, setRf_mem, setRbit_mem]
@[simp] theorem refuse_chk (b : Block) (i code off : Nat) : (refuse s b i code off).chk = s.chk :=
  by rw [refuse, setRf_chk, setRf_chk, setRbit_chk]
@[simp] theorem refuse_correctedAt (b : Block) (i code off : Nat) : (refuse s b i code off).correctedAt = s.correctedAt :=
  by rw [refuse, setRf_correctedAt, setRf_correctedAt, setRbit_correctedAt]
@[simp] theorem refuse_pageBits (b : Block) (i code off : Nat) : (refuse s b i code off).pageBits = s.pageBits :=
  by rw [refuse, setRf_pageBits, setRf_pageBits, setRbit_pageBits]
@[simp] theorem refuse_copyPages (b : Block) (i code off : Nat) : (refuse s b i code off).copyPages = s.copyPages :=
  by rw [refuse, setRf_copyPages, setRf_copyPages, setRbit_copyPages]
@[simp] theorem refuse_touches (b : Block) (i code off : Nat) : (refuse s b i code off).touches = s.touches :=
  by rw [refuse, setRf_touches, setRf_touches, setRbit_touches]
@[simp] theorem refuse_fired (b : Block) (i code off : Nat) : (refuse s b i code off).fired = s.fired :=
  by rw [refuse, setRf_fired, setRf_fired, setRbit_fired]
@[simp] theorem refuse_frees (b : Block) (i code off : Nat) : (refuse s b i code off).frees = s.frees :=
  by rw [refuse, setRf_frees, setRf_frees, setRbit_frees]
@[simp] theorem refuse_terrier (b : Block) (i code off : Nat) : (refuse s b i code off).terrier = s.terrier :=
  by rw [refuse, setRf_terrier, setRf_terrier, setRbit_terrier]
@[simp] theorem refuse_terrierOld (b : Block) (i code off : Nat) : (refuse s b i code off).terrierOld = s.terrierOld :=
  by rw [refuse, setRf_terrierOld, setRf_terrierOld, setRbit_terrierOld]
@[simp] theorem refuse_lanemaps (b : Block) (i code off : Nat) : (refuse s b i code off).lanemaps = s.lanemaps :=
  by rw [refuse, setRf_lanemaps, setRf_lanemaps, setRbit_lanemaps]
@[simp] theorem refuse_groups (b : Block) (i code off : Nat) : (refuse s b i code off).groups = s.groups :=
  by rw [refuse, setRf_groups, setRf_groups, setRbit_groups]
@[simp] theorem refuse_staleAt (b : Block) (i code off : Nat) : (refuse s b i code off).staleAt = s.staleAt :=
  by rw [refuse, setRf_staleAt, setRf_staleAt, setRbit_staleAt]
@[simp] theorem refuse_ports (b : Block) (i code off : Nat) : (refuse s b i code off).ports = s.ports :=
  by rw [refuse, setRf_ports, setRf_ports, setRbit_ports]
@[simp] theorem refuse_routers (b : Block) (i code off : Nat) : (refuse s b i code off).routers = s.routers :=
  by rw [refuse, setRf_routers, setRf_routers, setRbit_routers]
@[simp] theorem refuse_routeSeq (b : Block) (i code off : Nat) : (refuse s b i code off).routeSeq = s.routeSeq :=
  by rw [refuse, setRf_routeSeq, setRf_routeSeq, setRbit_routeSeq]
@[simp] theorem refuse_inbox (b : Block) (i code off : Nat) : (refuse s b i code off).inbox = s.inbox :=
  by rw [refuse, setRf_inbox, setRf_inbox, setRbit_inbox]
@[simp] theorem refuse_postedErrors (b : Block) (i code off : Nat) : (refuse s b i code off).postedErrors = s.postedErrors :=
  by rw [refuse, setRf_postedErrors, setRf_postedErrors, setRbit_postedErrors]
@[simp] theorem refuse_reeveTodo (b : Block) (i code off : Nat) : (refuse s b i code off).reeveTodo = s.reeveTodo :=
  by rw [refuse, setRf_reeveTodo, setRf_reeveTodo, setRbit_reeveTodo]
@[simp] theorem refuse_chunks (b : Block) (i code off : Nat) : (refuse s b i code off).chunks = s.chunks :=
  by rw [refuse, setRf_chunks, setRf_chunks, setRbit_chunks]
@[simp] theorem refuse_closedChunks (b : Block) (i code off : Nat) : (refuse s b i code off).closedChunks = s.closedChunks :=
  by rw [refuse, setRf_closedChunks, setRf_closedChunks, setRbit_closedChunks]
@[simp] theorem refuse_transit (b : Block) (i code off : Nat) : (refuse s b i code off).transit = s.transit :=
  by rw [refuse, setRf_transit, setRf_transit, setRbit_transit]
@[simp] theorem refuse_tags (b : Block) (i code off : Nat) : (refuse s b i code off).tags = s.tags :=
  by rw [refuse, setRf_tags, setRf_tags, setRbit_tags]
@[simp] theorem refuse_keyDraws (b : Block) (i code off : Nat) : (refuse s b i code off).keyDraws = s.keyDraws :=
  by rw [refuse, setRf_keyDraws, setRf_keyDraws, setRbit_keyDraws]
@[simp] theorem refuse_devq (b : Block) (i code off : Nat) : (refuse s b i code off).devq = s.devq :=
  by rw [refuse, setRf_devq, setRf_devq, setRbit_devq]
@[simp] theorem refuse_watchEvents (b : Block) (i code off : Nat) : (refuse s b i code off).watchEvents = s.watchEvents :=
  by rw [refuse, setRf_watchEvents, setRf_watchEvents, setRbit_watchEvents]
@[simp] theorem refuse_draws (b : Block) (i code off : Nat) : (refuse s b i code off).draws = s.draws :=
  by rw [refuse, setRf_draws, setRf_draws, setRbit_draws]
@[simp] theorem refuse_pantryDraw (b : Block) (i code off : Nat) : (refuse s b i code off).pantryDraw = s.pantryDraw :=
  by rw [refuse, setRf_pantryDraw, setRf_pantryDraw, setRbit_pantryDraw]
@[simp] theorem refuse_pantryId (b : Block) (i code off : Nat) : (refuse s b i code off).pantryId = s.pantryId :=
  by rw [refuse, setRf_pantryId, setRf_pantryId, setRbit_pantryId]
@[simp] theorem refuse_harvest (b : Block) (i code off : Nat) : (refuse s b i code off).harvest = s.harvest :=
  by rw [refuse, setRf_harvest, setRf_harvest, setRbit_harvest]
@[simp] theorem refuse_harvestDue (b : Block) (i code off : Nat) : (refuse s b i code off).harvestDue = s.harvestDue :=
  by rw [refuse, setRf_harvestDue, setRf_harvestDue, setRbit_harvestDue]
@[simp] theorem refuse_harvestWanted (b : Block) (i code off : Nat) : (refuse s b i code off).harvestWanted = s.harvestWanted :=
  by rw [refuse, setRf_harvestWanted, setRf_harvestWanted, setRbit_harvestWanted]
@[simp] theorem refuse_nvme (b : Block) (i code off : Nat) : (refuse s b i code off).nvme = s.nvme :=
  by rw [refuse, setRf_nvme, setRf_nvme, setRbit_nvme]
@[simp] theorem refuse_nvmeWait (b : Block) (i code off : Nat) : (refuse s b i code off).nvmeWait = s.nvmeWait :=
  by rw [refuse, setRf_nvmeWait, setRf_nvmeWait, setRbit_nvmeWait]
@[simp] theorem refuse_pantryImage (b : Block) (i code off : Nat) : (refuse s b i code off).pantryImage = s.pantryImage :=
  by rw [refuse, setRf_pantryImage, setRf_pantryImage, setRbit_pantryImage]
@[simp] theorem refuse_storeImage (b : Block) (i code off : Nat) : (refuse s b i code off).storeImage = s.storeImage :=
  by rw [refuse, setRf_storeImage, setRf_storeImage, setRbit_storeImage]
@[simp] theorem refuse_refill (b : Block) (i code off : Nat) : (refuse s b i code off).refill = s.refill :=
  by rw [refuse, setRf_refill, setRf_refill, setRbit_refill]
@[simp] theorem refuse_lastRefill (b : Block) (i code off : Nat) : (refuse s b i code off).lastRefill = s.lastRefill :=
  by rw [refuse, setRf_lastRefill, setRf_lastRefill, setRbit_lastRefill]
@[simp] theorem refuse_validPages (b : Block) (i code off : Nat) : (refuse s b i code off).validPages = s.validPages :=
  by rw [refuse, setRf_validPages, setRf_validPages, setRbit_validPages]
@[simp] theorem refuse_landings (b : Block) (i code off : Nat) : (refuse s b i code off).landings = s.landings :=
  by rw [refuse, setRf_landings, setRf_landings, setRbit_landings]
@[simp] theorem refuse_serve (b : Block) (i code off : Nat) : (refuse s b i code off).serve = s.serve :=
  by rw [refuse, setRf_serve, setRf_serve, setRbit_serve]
@[simp] theorem refuse_started (b : Block) (i code off : Nat) : (refuse s b i code off).started = s.started :=
  by rw [refuse, setRf_started, setRf_started, setRbit_started]
@[simp] theorem refuse_coreReturned (b : Block) (i code off : Nat) : (refuse s b i code off).coreReturned = s.coreReturned :=
  by rw [refuse, setRf_coreReturned, setRf_coreReturned, setRbit_coreReturned]
@[simp] theorem refuse_saved (b : Block) (i code off : Nat) : (refuse s b i code off).saved = s.saved :=
  by rw [refuse, setRf_saved, setRf_saved, setRbit_saved]
@[simp] theorem refuse_savedDraw (b : Block) (i code off : Nat) : (refuse s b i code off).savedDraw = s.savedDraw :=
  by rw [refuse, setRf_savedDraw, setRf_savedDraw, setRbit_savedDraw]
@[simp] theorem refuse_measuring (b : Block) (i code off : Nat) : (refuse s b i code off).measuring = s.measuring :=
  by rw [refuse, setRf_measuring, setRf_measuring, setRbit_measuring]
@[simp] theorem refuse_measured (b : Block) (i code off : Nat) : (refuse s b i code off).measured = s.measured :=
  by rw [refuse, setRf_measured, setRf_measured, setRbit_measured]
@[simp] theorem refuse_measurements (b : Block) (i code off : Nat) : (refuse s b i code off).measurements = s.measurements :=
  by rw [refuse, setRf_measurements, setRf_measurements, setRbit_measurements]
@[simp] theorem refuse_wipes (b : Block) (i code off : Nat) : (refuse s b i code off).wipes = s.wipes :=
  by rw [refuse, setRf_wipes, setRf_wipes, setRbit_wipes]
@[simp] theorem refuse_tests (b : Block) (i code off : Nat) : (refuse s b i code off).tests = s.tests :=
  by rw [refuse, setRf_tests, setRf_tests, setRbit_tests]
@[simp] theorem refuse_remaps (b : Block) (i code off : Nat) : (refuse s b i code off).remaps = s.remaps :=
  by rw [refuse, setRf_remaps, setRf_remaps, setRbit_remaps]
@[simp] theorem refuse_refreshing (b : Block) (i code off : Nat) : (refuse s b i code off).refreshing = s.refreshing :=
  by rw [refuse, setRf_refreshing, setRf_refreshing, setRbit_refreshing]
@[simp] theorem refuse_hotFp (b : Block) (i code off : Nat) : (refuse s b i code off).hotFp = s.hotFp :=
  by rw [refuse, setRf_hotFp, setRf_hotFp, setRbit_hotFp]
@[simp] theorem refuse_hotNext (b : Block) (i code off : Nat) : (refuse s b i code off).hotNext = s.hotNext :=
  by rw [refuse, setRf_hotNext, setRf_hotNext, setRbit_hotNext]
@[simp] theorem refuse_waiting (b : Block) (i code off : Nat) : (refuse s b i code off).waiting = s.waiting :=
  by rw [refuse, setRf_waiting, setRf_waiting, setRbit_waiting]
@[simp] theorem refuse_throttles (b : Block) (i code off : Nat) : (refuse s b i code off).throttles = s.throttles :=
  by rw [refuse, setRf_throttles, setRf_throttles, setRbit_throttles]
@[simp] theorem refuse_wear (b : Block) (i code off : Nat) : (refuse s b i code off).wear = s.wear :=
  by rw [refuse, setRf_wear, setRf_wear, setRbit_wear]
@[simp] theorem refuse_wearStored (b : Block) (i code off : Nat) : (refuse s b i code off).wearStored = s.wearStored :=
  by rw [refuse, setRf_wearStored, setRf_wearStored, setRbit_wearStored]
@[simp] theorem refuse_socs (b : Block) (i code off : Nat) : (refuse s b i code off).socs = s.socs :=
  by rw [refuse, setRf_socs, setRf_socs, setRbit_socs]
@[simp] theorem refuse_pkgEst (b : Block) (i code off : Nat) : (refuse s b i code off).pkgEst = s.pkgEst :=
  by rw [refuse, setRf_pkgEst, setRf_pkgEst, setRbit_pkgEst]
@[simp] theorem refuse_estNext (b : Block) (i code off : Nat) : (refuse s b i code off).estNext = s.estNext :=
  by rw [refuse, setRf_estNext, setRf_estNext, setRbit_estNext]
@[simp] theorem refuse_activity (b : Block) (i code off : Nat) : (refuse s b i code off).activity = s.activity :=
  by rw [refuse, setRf_activity, setRf_activity, setRbit_activity]
@[simp] theorem refuse_energy (b : Block) (i code off : Nat) : (refuse s b i code off).energy = s.energy :=
  by rw [refuse, setRf_energy, setRf_energy, setRbit_energy]
@[simp] theorem refuse_curfew (b : Block) (i code off : Nat) : (refuse s b i code off).curfew = s.curfew :=
  by rw [refuse, setRf_curfew, setRf_curfew, setRbit_curfew]
@[simp] theorem refuse_msixOpen (b : Block) (i code off : Nat) : (refuse s b i code off).msixOpen = s.msixOpen :=
  by rw [refuse, setRf_msixOpen, setRf_msixOpen, setRbit_msixOpen]
@[simp] theorem refuse_msixPending (b : Block) (i code off : Nat) : (refuse s b i code off).msixPending = s.msixPending :=
  by rw [refuse, setRf_msixPending, setRf_msixPending, setRbit_msixPending]
@[simp] theorem refuse_bar4 (b : Block) (i code off : Nat) : (refuse s b i code off).bar4 = s.bar4 :=
  by rw [refuse, setRf_bar4, setRf_bar4, setRbit_bar4]
@[simp] theorem refuse_aer (b : Block) (i code off : Nat) : (refuse s b i code off).aer = s.aer :=
  by rw [refuse, setRf_aer, setRf_aer, setRbit_aer]
@[simp] theorem refuse_hostReads (b : Block) (i code off : Nat) : (refuse s b i code off).hostReads = s.hostReads :=
  by rw [refuse, setRf_hostReads, setRf_hostReads, setRbit_hostReads]
@[simp] theorem refuse_nextRead (b : Block) (i code off : Nat) : (refuse s b i code off).nextRead = s.nextRead :=
  by rw [refuse, setRf_nextRead, setRf_nextRead, setRbit_nextRead]
@[simp] theorem refuse_hostDirty (b : Block) (i code off : Nat) : (refuse s b i code off).hostDirty = s.hostDirty :=
  by rw [refuse, setRf_hostDirty, setRf_hostDirty, setRbit_hostDirty]
@[simp] theorem refuse_mgmt (b : Block) (i code off : Nat) : (refuse s b i code off).mgmt = s.mgmt :=
  by rw [refuse, setRf_mgmt, setRf_mgmt, setRbit_mgmt]
@[simp] theorem refuse_fw (b : Block) (i code off : Nat) : (refuse s b i code off).fw = s.fw :=
  by rw [refuse, setRf_fw, setRf_fw, setRbit_fw]
@[simp] theorem refuse_firmware (b : Block) (i code off : Nat) : (refuse s b i code off).firmware = s.firmware :=
  by rw [refuse, setRf_firmware, setRf_firmware, setRbit_firmware]
@[simp] theorem refuse_booted (b : Block) (i code off : Nat) : (refuse s b i code off).booted = s.booted :=
  by rw [refuse, setRf_booted, setRf_booted, setRbit_booted]
@[simp] theorem refuse_spdm (b : Block) (i code off : Nat) : (refuse s b i code off).spdm = s.spdm :=
  by rw [refuse, setRf_spdm, setRf_spdm, setRbit_spdm]
@[simp] theorem refuse_spdmHeard (b : Block) (i code off : Nat) : (refuse s b i code off).spdmHeard = s.spdmHeard :=
  by rw [refuse, setRf_spdmHeard, setRf_spdmHeard, setRbit_spdmHeard]
@[simp] theorem refuse_evqSent (b : Block) (i code off : Nat) : (refuse s b i code off).evqSent = s.evqSent :=
  by rw [refuse, setRf_evqSent, setRf_evqSent, setRbit_evqSent]
@[simp] theorem refuse_evqWait (b : Block) (i code off : Nat) : (refuse s b i code off).evqWait = s.evqWait :=
  by rw [refuse, setRf_evqWait, setRf_evqWait, setRbit_evqWait]
@[simp] theorem refuse_jtag (b : Block) (i code off : Nat) : (refuse s b i code off).jtag = s.jtag :=
  by rw [refuse, setRf_jtag, setRf_jtag, setRbit_jtag]
@[simp] theorem refuse_boundary (b : Block) (i code off : Nat) : (refuse s b i code off).boundary = s.boundary :=
  by rw [refuse, setRf_boundary, setRf_boundary, setRbit_boundary]
@[simp] theorem refuse_bypass (b : Block) (i code off : Nat) : (refuse s b i code off).bypass = s.bypass :=
  by rw [refuse, setRf_bypass, setRf_bypass, setRbit_bypass]
@[simp] theorem refuse_scanTest (b : Block) (i code off : Nat) : (refuse s b i code off).scanTest = s.scanTest :=
  by rw [refuse, setRf_scanTest, setRf_scanTest, setRbit_scanTest]
@[simp] theorem refuse_checks (b : Block) (i code off : Nat) : (refuse s b i code off).checks = s.checks :=
  by rw [refuse, setRf_checks, setRf_checks, setRbit_checks]
@[simp] theorem refuse_stackHeld (b : Block) (i code off : Nat) : (refuse s b i code off).stackHeld = s.stackHeld :=
  by rw [refuse, setRf_stackHeld, setRf_stackHeld, setRbit_stackHeld]
@[simp] theorem refuse_dawnOf (b : Block) (i code off : Nat) : (refuse s b i code off).dawnOf = s.dawnOf :=
  by rw [refuse, setRf_dawnOf, setRf_dawnOf, setRbit_dawnOf]
@[simp] theorem refuse_partDawn (b : Block) (i code off : Nat) : (refuse s b i code off).partDawn = s.partDawn :=
  by rw [refuse, setRf_partDawn, setRf_partDawn, setRbit_partDawn]
@[simp] theorem refuse_partWaiting (b : Block) (i code off : Nat) : (refuse s b i code off).partWaiting = s.partWaiting :=
  by rw [refuse, setRf_partWaiting, setRf_partWaiting, setRbit_partWaiting]
@[simp] theorem refuse_railOut (b : Block) (i code off : Nat) : (refuse s b i code off).railOut = s.railOut :=
  by rw [refuse, setRf_railOut, setRf_railOut, setRbit_railOut]
@[simp] theorem refuse_panPerst (b : Block) (i code off : Nat) : (refuse s b i code off).panPerst = s.panPerst :=
  by rw [refuse, setRf_panPerst, setRf_panPerst, setRbit_panPerst]
@[simp] theorem refuse_refclkLost (b : Block) (i code off : Nat) : (refuse s b i code off).refclkLost = s.refclkLost :=
  by rw [refuse, setRf_refclkLost, setRf_refclkLost, setRbit_refclkLost]
@[simp] theorem refuse_perstLow (b : Block) (i code off : Nat) : (refuse s b i code off).perstLow = s.perstLow :=
  by rw [refuse, setRf_perstLow, setRf_perstLow, setRbit_perstLow]
@[simp] theorem refuse_powerStep (b : Block) (i code off : Nat) : (refuse s b i code off).powerStep = s.powerStep :=
  by rw [refuse, setRf_powerStep, setRf_powerStep, setRbit_powerStep]
@[simp] theorem refuse_outputs (b : Block) (i code off : Nat) : (refuse s b i code off).outputs = s.outputs :=
  by rw [refuse, setRf_outputs, setRf_outputs, setRbit_outputs]

/-! ## emit -/

@[simp] theorem emit_pending (o : Output) : (emit s o).pending = s.pending := rfl
@[simp] theorem emit_regs (o : Output) : (emit s o).regs = s.regs := rfl
@[simp] theorem emit_latches (o : Output) : (emit s o).latches = s.latches := rfl
@[simp] theorem emit_time (o : Output) : (emit s o).time = s.time := rfl
@[simp] theorem emit_timeHeld (o : Output) : (emit s o).timeHeld = s.timeHeld := rfl
@[simp] theorem emit_holdLeft (o : Output) : (emit s o).holdLeft = s.holdLeft := rfl
@[simp] theorem emit_bellOffset (o : Output) : (emit s o).bellOffset = s.bellOffset := rfl
@[simp] theorem emit_bellSlew (o : Output) : (emit s o).bellSlew = s.bellSlew := rfl
@[simp] theorem emit_refTime (o : Output) : (emit s o).refTime = s.refTime := rfl
@[simp] theorem emit_bellRun (o : Output) : (emit s o).bellRun = s.bellRun := rfl
@[simp] theorem emit_bellFrameAt (o : Output) : (emit s o).bellFrameAt = s.bellFrameAt := rfl
@[simp] theorem emit_bellPulse (o : Output) : (emit s o).bellPulse = s.bellPulse := rfl
@[simp] theorem emit_cores (o : Output) : (emit s o).cores = s.cores := rfl
@[simp] theorem emit_tscales (o : Output) : (emit s o).tscales = s.tscales := rfl
@[simp] theorem emit_switch (o : Output) : (emit s o).switch = s.switch := rfl
@[simp] theorem emit_mem (o : Output) : (emit s o).mem = s.mem := rfl
@[simp] theorem emit_chk (o : Output) : (emit s o).chk = s.chk := rfl
@[simp] theorem emit_correctedAt (o : Output) : (emit s o).correctedAt = s.correctedAt := rfl
@[simp] theorem emit_pageBits (o : Output) : (emit s o).pageBits = s.pageBits := rfl
@[simp] theorem emit_copyPages (o : Output) : (emit s o).copyPages = s.copyPages := rfl
@[simp] theorem emit_touches (o : Output) : (emit s o).touches = s.touches := rfl
@[simp] theorem emit_fired (o : Output) : (emit s o).fired = s.fired := rfl
@[simp] theorem emit_frees (o : Output) : (emit s o).frees = s.frees := rfl
@[simp] theorem emit_terrier (o : Output) : (emit s o).terrier = s.terrier := rfl
@[simp] theorem emit_terrierOld (o : Output) : (emit s o).terrierOld = s.terrierOld := rfl
@[simp] theorem emit_lanemaps (o : Output) : (emit s o).lanemaps = s.lanemaps := rfl
@[simp] theorem emit_groups (o : Output) : (emit s o).groups = s.groups := rfl
@[simp] theorem emit_staleAt (o : Output) : (emit s o).staleAt = s.staleAt := rfl
@[simp] theorem emit_ports (o : Output) : (emit s o).ports = s.ports := rfl
@[simp] theorem emit_routers (o : Output) : (emit s o).routers = s.routers := rfl
@[simp] theorem emit_routeSeq (o : Output) : (emit s o).routeSeq = s.routeSeq := rfl
@[simp] theorem emit_inbox (o : Output) : (emit s o).inbox = s.inbox := rfl
@[simp] theorem emit_postedErrors (o : Output) : (emit s o).postedErrors = s.postedErrors := rfl
@[simp] theorem emit_reeveTodo (o : Output) : (emit s o).reeveTodo = s.reeveTodo := rfl
@[simp] theorem emit_chunks (o : Output) : (emit s o).chunks = s.chunks := rfl
@[simp] theorem emit_closedChunks (o : Output) : (emit s o).closedChunks = s.closedChunks := rfl
@[simp] theorem emit_transit (o : Output) : (emit s o).transit = s.transit := rfl
@[simp] theorem emit_tags (o : Output) : (emit s o).tags = s.tags := rfl
@[simp] theorem emit_keyDraws (o : Output) : (emit s o).keyDraws = s.keyDraws := rfl
@[simp] theorem emit_devq (o : Output) : (emit s o).devq = s.devq := rfl
@[simp] theorem emit_watchEvents (o : Output) : (emit s o).watchEvents = s.watchEvents := rfl
@[simp] theorem emit_draws (o : Output) : (emit s o).draws = s.draws := rfl
@[simp] theorem emit_pantryDraw (o : Output) : (emit s o).pantryDraw = s.pantryDraw := rfl
@[simp] theorem emit_pantryId (o : Output) : (emit s o).pantryId = s.pantryId := rfl
@[simp] theorem emit_harvest (o : Output) : (emit s o).harvest = s.harvest := rfl
@[simp] theorem emit_harvestDue (o : Output) : (emit s o).harvestDue = s.harvestDue := rfl
@[simp] theorem emit_harvestWanted (o : Output) : (emit s o).harvestWanted = s.harvestWanted := rfl
@[simp] theorem emit_nvme (o : Output) : (emit s o).nvme = s.nvme := rfl
@[simp] theorem emit_nvmeWait (o : Output) : (emit s o).nvmeWait = s.nvmeWait := rfl
@[simp] theorem emit_pantryImage (o : Output) : (emit s o).pantryImage = s.pantryImage := rfl
@[simp] theorem emit_storeImage (o : Output) : (emit s o).storeImage = s.storeImage := rfl
@[simp] theorem emit_refill (o : Output) : (emit s o).refill = s.refill := rfl
@[simp] theorem emit_lastRefill (o : Output) : (emit s o).lastRefill = s.lastRefill := rfl
@[simp] theorem emit_validPages (o : Output) : (emit s o).validPages = s.validPages := rfl
@[simp] theorem emit_landings (o : Output) : (emit s o).landings = s.landings := rfl
@[simp] theorem emit_serve (o : Output) : (emit s o).serve = s.serve := rfl
@[simp] theorem emit_started (o : Output) : (emit s o).started = s.started := rfl
@[simp] theorem emit_coreReturned (o : Output) : (emit s o).coreReturned = s.coreReturned := rfl
@[simp] theorem emit_saved (o : Output) : (emit s o).saved = s.saved := rfl
@[simp] theorem emit_savedDraw (o : Output) : (emit s o).savedDraw = s.savedDraw := rfl
@[simp] theorem emit_measuring (o : Output) : (emit s o).measuring = s.measuring := rfl
@[simp] theorem emit_measured (o : Output) : (emit s o).measured = s.measured := rfl
@[simp] theorem emit_measurements (o : Output) : (emit s o).measurements = s.measurements := rfl
@[simp] theorem emit_wipes (o : Output) : (emit s o).wipes = s.wipes := rfl
@[simp] theorem emit_tests (o : Output) : (emit s o).tests = s.tests := rfl
@[simp] theorem emit_remaps (o : Output) : (emit s o).remaps = s.remaps := rfl
@[simp] theorem emit_refreshing (o : Output) : (emit s o).refreshing = s.refreshing := rfl
@[simp] theorem emit_hotFp (o : Output) : (emit s o).hotFp = s.hotFp := rfl
@[simp] theorem emit_hotNext (o : Output) : (emit s o).hotNext = s.hotNext := rfl
@[simp] theorem emit_waiting (o : Output) : (emit s o).waiting = s.waiting := rfl
@[simp] theorem emit_throttles (o : Output) : (emit s o).throttles = s.throttles := rfl
@[simp] theorem emit_wear (o : Output) : (emit s o).wear = s.wear := rfl
@[simp] theorem emit_wearStored (o : Output) : (emit s o).wearStored = s.wearStored := rfl
@[simp] theorem emit_socs (o : Output) : (emit s o).socs = s.socs := rfl
@[simp] theorem emit_pkgEst (o : Output) : (emit s o).pkgEst = s.pkgEst := rfl
@[simp] theorem emit_estNext (o : Output) : (emit s o).estNext = s.estNext := rfl
@[simp] theorem emit_activity (o : Output) : (emit s o).activity = s.activity := rfl
@[simp] theorem emit_energy (o : Output) : (emit s o).energy = s.energy := rfl
@[simp] theorem emit_curfew (o : Output) : (emit s o).curfew = s.curfew := rfl
@[simp] theorem emit_msixOpen (o : Output) : (emit s o).msixOpen = s.msixOpen := rfl
@[simp] theorem emit_msixPending (o : Output) : (emit s o).msixPending = s.msixPending := rfl
@[simp] theorem emit_bar4 (o : Output) : (emit s o).bar4 = s.bar4 := rfl
@[simp] theorem emit_aer (o : Output) : (emit s o).aer = s.aer := rfl
@[simp] theorem emit_hostReads (o : Output) : (emit s o).hostReads = s.hostReads := rfl
@[simp] theorem emit_nextRead (o : Output) : (emit s o).nextRead = s.nextRead := rfl
@[simp] theorem emit_hostDirty (o : Output) : (emit s o).hostDirty = s.hostDirty := rfl
@[simp] theorem emit_mgmt (o : Output) : (emit s o).mgmt = s.mgmt := rfl
@[simp] theorem emit_fw (o : Output) : (emit s o).fw = s.fw := rfl
@[simp] theorem emit_firmware (o : Output) : (emit s o).firmware = s.firmware := rfl
@[simp] theorem emit_booted (o : Output) : (emit s o).booted = s.booted := rfl
@[simp] theorem emit_spdm (o : Output) : (emit s o).spdm = s.spdm := rfl
@[simp] theorem emit_spdmHeard (o : Output) : (emit s o).spdmHeard = s.spdmHeard := rfl
@[simp] theorem emit_evqSent (o : Output) : (emit s o).evqSent = s.evqSent := rfl
@[simp] theorem emit_evqWait (o : Output) : (emit s o).evqWait = s.evqWait := rfl
@[simp] theorem emit_jtag (o : Output) : (emit s o).jtag = s.jtag := rfl
@[simp] theorem emit_boundary (o : Output) : (emit s o).boundary = s.boundary := rfl
@[simp] theorem emit_bypass (o : Output) : (emit s o).bypass = s.bypass := rfl
@[simp] theorem emit_scanTest (o : Output) : (emit s o).scanTest = s.scanTest := rfl
@[simp] theorem emit_checks (o : Output) : (emit s o).checks = s.checks := rfl
@[simp] theorem emit_stackHeld (o : Output) : (emit s o).stackHeld = s.stackHeld := rfl
@[simp] theorem emit_dawnOf (o : Output) : (emit s o).dawnOf = s.dawnOf := rfl
@[simp] theorem emit_partDawn (o : Output) : (emit s o).partDawn = s.partDawn := rfl
@[simp] theorem emit_partWaiting (o : Output) : (emit s o).partWaiting = s.partWaiting := rfl
@[simp] theorem emit_railOut (o : Output) : (emit s o).railOut = s.railOut := rfl
@[simp] theorem emit_panPerst (o : Output) : (emit s o).panPerst = s.panPerst := rfl
@[simp] theorem emit_refclkLost (o : Output) : (emit s o).refclkLost = s.refclkLost := rfl
@[simp] theorem emit_perstLow (o : Output) : (emit s o).perstLow = s.perstLow := rfl
@[simp] theorem emit_powerStep (o : Output) : (emit s o).powerStep = s.powerStep := rfl

/-! ## setCore -/

@[simp] theorem setCore_pending (c : Nat) (k : Core) : (setCore s c k).pending = s.pending := rfl
@[simp] theorem setCore_regs (c : Nat) (k : Core) : (setCore s c k).regs = s.regs := rfl
@[simp] theorem setCore_latches (c : Nat) (k : Core) : (setCore s c k).latches = s.latches := rfl
@[simp] theorem setCore_time (c : Nat) (k : Core) : (setCore s c k).time = s.time := rfl
@[simp] theorem setCore_timeHeld (c : Nat) (k : Core) : (setCore s c k).timeHeld = s.timeHeld := rfl
@[simp] theorem setCore_holdLeft (c : Nat) (k : Core) : (setCore s c k).holdLeft = s.holdLeft := rfl
@[simp] theorem setCore_bellOffset (c : Nat) (k : Core) : (setCore s c k).bellOffset = s.bellOffset := rfl
@[simp] theorem setCore_bellSlew (c : Nat) (k : Core) : (setCore s c k).bellSlew = s.bellSlew := rfl
@[simp] theorem setCore_refTime (c : Nat) (k : Core) : (setCore s c k).refTime = s.refTime := rfl
@[simp] theorem setCore_bellRun (c : Nat) (k : Core) : (setCore s c k).bellRun = s.bellRun := rfl
@[simp] theorem setCore_bellFrameAt (c : Nat) (k : Core) : (setCore s c k).bellFrameAt = s.bellFrameAt := rfl
@[simp] theorem setCore_bellPulse (c : Nat) (k : Core) : (setCore s c k).bellPulse = s.bellPulse := rfl
@[simp] theorem setCore_tscales (c : Nat) (k : Core) : (setCore s c k).tscales = s.tscales := rfl
@[simp] theorem setCore_switch (c : Nat) (k : Core) : (setCore s c k).switch = s.switch := rfl
@[simp] theorem setCore_mem (c : Nat) (k : Core) : (setCore s c k).mem = s.mem := rfl
@[simp] theorem setCore_chk (c : Nat) (k : Core) : (setCore s c k).chk = s.chk := rfl
@[simp] theorem setCore_correctedAt (c : Nat) (k : Core) : (setCore s c k).correctedAt = s.correctedAt := rfl
@[simp] theorem setCore_pageBits (c : Nat) (k : Core) : (setCore s c k).pageBits = s.pageBits := rfl
@[simp] theorem setCore_copyPages (c : Nat) (k : Core) : (setCore s c k).copyPages = s.copyPages := rfl
@[simp] theorem setCore_touches (c : Nat) (k : Core) : (setCore s c k).touches = s.touches := rfl
@[simp] theorem setCore_fired (c : Nat) (k : Core) : (setCore s c k).fired = s.fired := rfl
@[simp] theorem setCore_frees (c : Nat) (k : Core) : (setCore s c k).frees = s.frees := rfl
@[simp] theorem setCore_terrier (c : Nat) (k : Core) : (setCore s c k).terrier = s.terrier := rfl
@[simp] theorem setCore_terrierOld (c : Nat) (k : Core) : (setCore s c k).terrierOld = s.terrierOld := rfl
@[simp] theorem setCore_lanemaps (c : Nat) (k : Core) : (setCore s c k).lanemaps = s.lanemaps := rfl
@[simp] theorem setCore_groups (c : Nat) (k : Core) : (setCore s c k).groups = s.groups := rfl
@[simp] theorem setCore_staleAt (c : Nat) (k : Core) : (setCore s c k).staleAt = s.staleAt := rfl
@[simp] theorem setCore_ports (c : Nat) (k : Core) : (setCore s c k).ports = s.ports := rfl
@[simp] theorem setCore_routers (c : Nat) (k : Core) : (setCore s c k).routers = s.routers := rfl
@[simp] theorem setCore_routeSeq (c : Nat) (k : Core) : (setCore s c k).routeSeq = s.routeSeq := rfl
@[simp] theorem setCore_inbox (c : Nat) (k : Core) : (setCore s c k).inbox = s.inbox := rfl
@[simp] theorem setCore_postedErrors (c : Nat) (k : Core) : (setCore s c k).postedErrors = s.postedErrors := rfl
@[simp] theorem setCore_reeveTodo (c : Nat) (k : Core) : (setCore s c k).reeveTodo = s.reeveTodo := rfl
@[simp] theorem setCore_chunks (c : Nat) (k : Core) : (setCore s c k).chunks = s.chunks := rfl
@[simp] theorem setCore_closedChunks (c : Nat) (k : Core) : (setCore s c k).closedChunks = s.closedChunks := rfl
@[simp] theorem setCore_transit (c : Nat) (k : Core) : (setCore s c k).transit = s.transit := rfl
@[simp] theorem setCore_tags (c : Nat) (k : Core) : (setCore s c k).tags = s.tags := rfl
@[simp] theorem setCore_keyDraws (c : Nat) (k : Core) : (setCore s c k).keyDraws = s.keyDraws := rfl
@[simp] theorem setCore_devq (c : Nat) (k : Core) : (setCore s c k).devq = s.devq := rfl
@[simp] theorem setCore_watchEvents (c : Nat) (k : Core) : (setCore s c k).watchEvents = s.watchEvents := rfl
@[simp] theorem setCore_draws (c : Nat) (k : Core) : (setCore s c k).draws = s.draws := rfl
@[simp] theorem setCore_pantryDraw (c : Nat) (k : Core) : (setCore s c k).pantryDraw = s.pantryDraw := rfl
@[simp] theorem setCore_pantryId (c : Nat) (k : Core) : (setCore s c k).pantryId = s.pantryId := rfl
@[simp] theorem setCore_harvest (c : Nat) (k : Core) : (setCore s c k).harvest = s.harvest := rfl
@[simp] theorem setCore_harvestDue (c : Nat) (k : Core) : (setCore s c k).harvestDue = s.harvestDue := rfl
@[simp] theorem setCore_harvestWanted (c : Nat) (k : Core) : (setCore s c k).harvestWanted = s.harvestWanted := rfl
@[simp] theorem setCore_nvme (c : Nat) (k : Core) : (setCore s c k).nvme = s.nvme := rfl
@[simp] theorem setCore_nvmeWait (c : Nat) (k : Core) : (setCore s c k).nvmeWait = s.nvmeWait := rfl
@[simp] theorem setCore_pantryImage (c : Nat) (k : Core) : (setCore s c k).pantryImage = s.pantryImage := rfl
@[simp] theorem setCore_storeImage (c : Nat) (k : Core) : (setCore s c k).storeImage = s.storeImage := rfl
@[simp] theorem setCore_refill (c : Nat) (k : Core) : (setCore s c k).refill = s.refill := rfl
@[simp] theorem setCore_lastRefill (c : Nat) (k : Core) : (setCore s c k).lastRefill = s.lastRefill := rfl
@[simp] theorem setCore_validPages (c : Nat) (k : Core) : (setCore s c k).validPages = s.validPages := rfl
@[simp] theorem setCore_landings (c : Nat) (k : Core) : (setCore s c k).landings = s.landings := rfl
@[simp] theorem setCore_serve (c : Nat) (k : Core) : (setCore s c k).serve = s.serve := rfl
@[simp] theorem setCore_started (c : Nat) (k : Core) : (setCore s c k).started = s.started := rfl
@[simp] theorem setCore_coreReturned (c : Nat) (k : Core) : (setCore s c k).coreReturned = s.coreReturned := rfl
@[simp] theorem setCore_saved (c : Nat) (k : Core) : (setCore s c k).saved = s.saved := rfl
@[simp] theorem setCore_savedDraw (c : Nat) (k : Core) : (setCore s c k).savedDraw = s.savedDraw := rfl
@[simp] theorem setCore_measuring (c : Nat) (k : Core) : (setCore s c k).measuring = s.measuring := rfl
@[simp] theorem setCore_measured (c : Nat) (k : Core) : (setCore s c k).measured = s.measured := rfl
@[simp] theorem setCore_measurements (c : Nat) (k : Core) : (setCore s c k).measurements = s.measurements := rfl
@[simp] theorem setCore_wipes (c : Nat) (k : Core) : (setCore s c k).wipes = s.wipes := rfl
@[simp] theorem setCore_tests (c : Nat) (k : Core) : (setCore s c k).tests = s.tests := rfl
@[simp] theorem setCore_remaps (c : Nat) (k : Core) : (setCore s c k).remaps = s.remaps := rfl
@[simp] theorem setCore_refreshing (c : Nat) (k : Core) : (setCore s c k).refreshing = s.refreshing := rfl
@[simp] theorem setCore_hotFp (c : Nat) (k : Core) : (setCore s c k).hotFp = s.hotFp := rfl
@[simp] theorem setCore_hotNext (c : Nat) (k : Core) : (setCore s c k).hotNext = s.hotNext := rfl
@[simp] theorem setCore_waiting (c : Nat) (k : Core) : (setCore s c k).waiting = s.waiting := rfl
@[simp] theorem setCore_throttles (c : Nat) (k : Core) : (setCore s c k).throttles = s.throttles := rfl
@[simp] theorem setCore_wear (c : Nat) (k : Core) : (setCore s c k).wear = s.wear := rfl
@[simp] theorem setCore_wearStored (c : Nat) (k : Core) : (setCore s c k).wearStored = s.wearStored := rfl
@[simp] theorem setCore_socs (c : Nat) (k : Core) : (setCore s c k).socs = s.socs := rfl
@[simp] theorem setCore_pkgEst (c : Nat) (k : Core) : (setCore s c k).pkgEst = s.pkgEst := rfl
@[simp] theorem setCore_estNext (c : Nat) (k : Core) : (setCore s c k).estNext = s.estNext := rfl
@[simp] theorem setCore_activity (c : Nat) (k : Core) : (setCore s c k).activity = s.activity := rfl
@[simp] theorem setCore_energy (c : Nat) (k : Core) : (setCore s c k).energy = s.energy := rfl
@[simp] theorem setCore_curfew (c : Nat) (k : Core) : (setCore s c k).curfew = s.curfew := rfl
@[simp] theorem setCore_msixOpen (c : Nat) (k : Core) : (setCore s c k).msixOpen = s.msixOpen := rfl
@[simp] theorem setCore_msixPending (c : Nat) (k : Core) : (setCore s c k).msixPending = s.msixPending := rfl
@[simp] theorem setCore_bar4 (c : Nat) (k : Core) : (setCore s c k).bar4 = s.bar4 := rfl
@[simp] theorem setCore_aer (c : Nat) (k : Core) : (setCore s c k).aer = s.aer := rfl
@[simp] theorem setCore_hostReads (c : Nat) (k : Core) : (setCore s c k).hostReads = s.hostReads := rfl
@[simp] theorem setCore_nextRead (c : Nat) (k : Core) : (setCore s c k).nextRead = s.nextRead := rfl
@[simp] theorem setCore_hostDirty (c : Nat) (k : Core) : (setCore s c k).hostDirty = s.hostDirty := rfl
@[simp] theorem setCore_mgmt (c : Nat) (k : Core) : (setCore s c k).mgmt = s.mgmt := rfl
@[simp] theorem setCore_fw (c : Nat) (k : Core) : (setCore s c k).fw = s.fw := rfl
@[simp] theorem setCore_firmware (c : Nat) (k : Core) : (setCore s c k).firmware = s.firmware := rfl
@[simp] theorem setCore_booted (c : Nat) (k : Core) : (setCore s c k).booted = s.booted := rfl
@[simp] theorem setCore_spdm (c : Nat) (k : Core) : (setCore s c k).spdm = s.spdm := rfl
@[simp] theorem setCore_spdmHeard (c : Nat) (k : Core) : (setCore s c k).spdmHeard = s.spdmHeard := rfl
@[simp] theorem setCore_evqSent (c : Nat) (k : Core) : (setCore s c k).evqSent = s.evqSent := rfl
@[simp] theorem setCore_evqWait (c : Nat) (k : Core) : (setCore s c k).evqWait = s.evqWait := rfl
@[simp] theorem setCore_jtag (c : Nat) (k : Core) : (setCore s c k).jtag = s.jtag := rfl
@[simp] theorem setCore_boundary (c : Nat) (k : Core) : (setCore s c k).boundary = s.boundary := rfl
@[simp] theorem setCore_bypass (c : Nat) (k : Core) : (setCore s c k).bypass = s.bypass := rfl
@[simp] theorem setCore_scanTest (c : Nat) (k : Core) : (setCore s c k).scanTest = s.scanTest := rfl
@[simp] theorem setCore_checks (c : Nat) (k : Core) : (setCore s c k).checks = s.checks := rfl
@[simp] theorem setCore_stackHeld (c : Nat) (k : Core) : (setCore s c k).stackHeld = s.stackHeld := rfl
@[simp] theorem setCore_dawnOf (c : Nat) (k : Core) : (setCore s c k).dawnOf = s.dawnOf := rfl
@[simp] theorem setCore_partDawn (c : Nat) (k : Core) : (setCore s c k).partDawn = s.partDawn := rfl
@[simp] theorem setCore_partWaiting (c : Nat) (k : Core) : (setCore s c k).partWaiting = s.partWaiting := rfl
@[simp] theorem setCore_railOut (c : Nat) (k : Core) : (setCore s c k).railOut = s.railOut := rfl
@[simp] theorem setCore_panPerst (c : Nat) (k : Core) : (setCore s c k).panPerst = s.panPerst := rfl
@[simp] theorem setCore_refclkLost (c : Nat) (k : Core) : (setCore s c k).refclkLost = s.refclkLost := rfl
@[simp] theorem setCore_perstLow (c : Nat) (k : Core) : (setCore s c k).perstLow = s.perstLow := rfl
@[simp] theorem setCore_powerStep (c : Nat) (k : Core) : (setCore s c k).powerStep = s.powerStep := rfl
@[simp] theorem setCore_outputs (c : Nat) (k : Core) : (setCore s c k).outputs = s.outputs := rfl

/-! ## updCore -/

@[simp] theorem updCore_pending (c : Nat) (f : Core → Core) : (updCore s c f).pending = s.pending := rfl
@[simp] theorem updCore_regs (c : Nat) (f : Core → Core) : (updCore s c f).regs = s.regs := rfl
@[simp] theorem updCore_latches (c : Nat) (f : Core → Core) : (updCore s c f).latches = s.latches := rfl
@[simp] theorem updCore_time (c : Nat) (f : Core → Core) : (updCore s c f).time = s.time := rfl
@[simp] theorem updCore_timeHeld (c : Nat) (f : Core → Core) : (updCore s c f).timeHeld = s.timeHeld := rfl
@[simp] theorem updCore_holdLeft (c : Nat) (f : Core → Core) : (updCore s c f).holdLeft = s.holdLeft := rfl
@[simp] theorem updCore_bellOffset (c : Nat) (f : Core → Core) : (updCore s c f).bellOffset = s.bellOffset := rfl
@[simp] theorem updCore_bellSlew (c : Nat) (f : Core → Core) : (updCore s c f).bellSlew = s.bellSlew := rfl
@[simp] theorem updCore_refTime (c : Nat) (f : Core → Core) : (updCore s c f).refTime = s.refTime := rfl
@[simp] theorem updCore_bellRun (c : Nat) (f : Core → Core) : (updCore s c f).bellRun = s.bellRun := rfl
@[simp] theorem updCore_bellFrameAt (c : Nat) (f : Core → Core) : (updCore s c f).bellFrameAt = s.bellFrameAt := rfl
@[simp] theorem updCore_bellPulse (c : Nat) (f : Core → Core) : (updCore s c f).bellPulse = s.bellPulse := rfl
@[simp] theorem updCore_tscales (c : Nat) (f : Core → Core) : (updCore s c f).tscales = s.tscales := rfl
@[simp] theorem updCore_switch (c : Nat) (f : Core → Core) : (updCore s c f).switch = s.switch := rfl
@[simp] theorem updCore_mem (c : Nat) (f : Core → Core) : (updCore s c f).mem = s.mem := rfl
@[simp] theorem updCore_chk (c : Nat) (f : Core → Core) : (updCore s c f).chk = s.chk := rfl
@[simp] theorem updCore_correctedAt (c : Nat) (f : Core → Core) : (updCore s c f).correctedAt = s.correctedAt := rfl
@[simp] theorem updCore_pageBits (c : Nat) (f : Core → Core) : (updCore s c f).pageBits = s.pageBits := rfl
@[simp] theorem updCore_copyPages (c : Nat) (f : Core → Core) : (updCore s c f).copyPages = s.copyPages := rfl
@[simp] theorem updCore_touches (c : Nat) (f : Core → Core) : (updCore s c f).touches = s.touches := rfl
@[simp] theorem updCore_fired (c : Nat) (f : Core → Core) : (updCore s c f).fired = s.fired := rfl
@[simp] theorem updCore_frees (c : Nat) (f : Core → Core) : (updCore s c f).frees = s.frees := rfl
@[simp] theorem updCore_terrier (c : Nat) (f : Core → Core) : (updCore s c f).terrier = s.terrier := rfl
@[simp] theorem updCore_terrierOld (c : Nat) (f : Core → Core) : (updCore s c f).terrierOld = s.terrierOld := rfl
@[simp] theorem updCore_lanemaps (c : Nat) (f : Core → Core) : (updCore s c f).lanemaps = s.lanemaps := rfl
@[simp] theorem updCore_groups (c : Nat) (f : Core → Core) : (updCore s c f).groups = s.groups := rfl
@[simp] theorem updCore_staleAt (c : Nat) (f : Core → Core) : (updCore s c f).staleAt = s.staleAt := rfl
@[simp] theorem updCore_ports (c : Nat) (f : Core → Core) : (updCore s c f).ports = s.ports := rfl
@[simp] theorem updCore_routers (c : Nat) (f : Core → Core) : (updCore s c f).routers = s.routers := rfl
@[simp] theorem updCore_routeSeq (c : Nat) (f : Core → Core) : (updCore s c f).routeSeq = s.routeSeq := rfl
@[simp] theorem updCore_inbox (c : Nat) (f : Core → Core) : (updCore s c f).inbox = s.inbox := rfl
@[simp] theorem updCore_postedErrors (c : Nat) (f : Core → Core) : (updCore s c f).postedErrors = s.postedErrors := rfl
@[simp] theorem updCore_reeveTodo (c : Nat) (f : Core → Core) : (updCore s c f).reeveTodo = s.reeveTodo := rfl
@[simp] theorem updCore_chunks (c : Nat) (f : Core → Core) : (updCore s c f).chunks = s.chunks := rfl
@[simp] theorem updCore_closedChunks (c : Nat) (f : Core → Core) : (updCore s c f).closedChunks = s.closedChunks := rfl
@[simp] theorem updCore_transit (c : Nat) (f : Core → Core) : (updCore s c f).transit = s.transit := rfl
@[simp] theorem updCore_tags (c : Nat) (f : Core → Core) : (updCore s c f).tags = s.tags := rfl
@[simp] theorem updCore_keyDraws (c : Nat) (f : Core → Core) : (updCore s c f).keyDraws = s.keyDraws := rfl
@[simp] theorem updCore_devq (c : Nat) (f : Core → Core) : (updCore s c f).devq = s.devq := rfl
@[simp] theorem updCore_watchEvents (c : Nat) (f : Core → Core) : (updCore s c f).watchEvents = s.watchEvents := rfl
@[simp] theorem updCore_draws (c : Nat) (f : Core → Core) : (updCore s c f).draws = s.draws := rfl
@[simp] theorem updCore_pantryDraw (c : Nat) (f : Core → Core) : (updCore s c f).pantryDraw = s.pantryDraw := rfl
@[simp] theorem updCore_pantryId (c : Nat) (f : Core → Core) : (updCore s c f).pantryId = s.pantryId := rfl
@[simp] theorem updCore_harvest (c : Nat) (f : Core → Core) : (updCore s c f).harvest = s.harvest := rfl
@[simp] theorem updCore_harvestDue (c : Nat) (f : Core → Core) : (updCore s c f).harvestDue = s.harvestDue := rfl
@[simp] theorem updCore_harvestWanted (c : Nat) (f : Core → Core) : (updCore s c f).harvestWanted = s.harvestWanted := rfl
@[simp] theorem updCore_nvme (c : Nat) (f : Core → Core) : (updCore s c f).nvme = s.nvme := rfl
@[simp] theorem updCore_nvmeWait (c : Nat) (f : Core → Core) : (updCore s c f).nvmeWait = s.nvmeWait := rfl
@[simp] theorem updCore_pantryImage (c : Nat) (f : Core → Core) : (updCore s c f).pantryImage = s.pantryImage := rfl
@[simp] theorem updCore_storeImage (c : Nat) (f : Core → Core) : (updCore s c f).storeImage = s.storeImage := rfl
@[simp] theorem updCore_refill (c : Nat) (f : Core → Core) : (updCore s c f).refill = s.refill := rfl
@[simp] theorem updCore_lastRefill (c : Nat) (f : Core → Core) : (updCore s c f).lastRefill = s.lastRefill := rfl
@[simp] theorem updCore_validPages (c : Nat) (f : Core → Core) : (updCore s c f).validPages = s.validPages := rfl
@[simp] theorem updCore_landings (c : Nat) (f : Core → Core) : (updCore s c f).landings = s.landings := rfl
@[simp] theorem updCore_serve (c : Nat) (f : Core → Core) : (updCore s c f).serve = s.serve := rfl
@[simp] theorem updCore_started (c : Nat) (f : Core → Core) : (updCore s c f).started = s.started := rfl
@[simp] theorem updCore_coreReturned (c : Nat) (f : Core → Core) : (updCore s c f).coreReturned = s.coreReturned := rfl
@[simp] theorem updCore_saved (c : Nat) (f : Core → Core) : (updCore s c f).saved = s.saved := rfl
@[simp] theorem updCore_savedDraw (c : Nat) (f : Core → Core) : (updCore s c f).savedDraw = s.savedDraw := rfl
@[simp] theorem updCore_measuring (c : Nat) (f : Core → Core) : (updCore s c f).measuring = s.measuring := rfl
@[simp] theorem updCore_measured (c : Nat) (f : Core → Core) : (updCore s c f).measured = s.measured := rfl
@[simp] theorem updCore_measurements (c : Nat) (f : Core → Core) : (updCore s c f).measurements = s.measurements := rfl
@[simp] theorem updCore_wipes (c : Nat) (f : Core → Core) : (updCore s c f).wipes = s.wipes := rfl
@[simp] theorem updCore_tests (c : Nat) (f : Core → Core) : (updCore s c f).tests = s.tests := rfl
@[simp] theorem updCore_remaps (c : Nat) (f : Core → Core) : (updCore s c f).remaps = s.remaps := rfl
@[simp] theorem updCore_refreshing (c : Nat) (f : Core → Core) : (updCore s c f).refreshing = s.refreshing := rfl
@[simp] theorem updCore_hotFp (c : Nat) (f : Core → Core) : (updCore s c f).hotFp = s.hotFp := rfl
@[simp] theorem updCore_hotNext (c : Nat) (f : Core → Core) : (updCore s c f).hotNext = s.hotNext := rfl
@[simp] theorem updCore_waiting (c : Nat) (f : Core → Core) : (updCore s c f).waiting = s.waiting := rfl
@[simp] theorem updCore_throttles (c : Nat) (f : Core → Core) : (updCore s c f).throttles = s.throttles := rfl
@[simp] theorem updCore_wear (c : Nat) (f : Core → Core) : (updCore s c f).wear = s.wear := rfl
@[simp] theorem updCore_wearStored (c : Nat) (f : Core → Core) : (updCore s c f).wearStored = s.wearStored := rfl
@[simp] theorem updCore_socs (c : Nat) (f : Core → Core) : (updCore s c f).socs = s.socs := rfl
@[simp] theorem updCore_pkgEst (c : Nat) (f : Core → Core) : (updCore s c f).pkgEst = s.pkgEst := rfl
@[simp] theorem updCore_estNext (c : Nat) (f : Core → Core) : (updCore s c f).estNext = s.estNext := rfl
@[simp] theorem updCore_activity (c : Nat) (f : Core → Core) : (updCore s c f).activity = s.activity := rfl
@[simp] theorem updCore_energy (c : Nat) (f : Core → Core) : (updCore s c f).energy = s.energy := rfl
@[simp] theorem updCore_curfew (c : Nat) (f : Core → Core) : (updCore s c f).curfew = s.curfew := rfl
@[simp] theorem updCore_msixOpen (c : Nat) (f : Core → Core) : (updCore s c f).msixOpen = s.msixOpen := rfl
@[simp] theorem updCore_msixPending (c : Nat) (f : Core → Core) : (updCore s c f).msixPending = s.msixPending := rfl
@[simp] theorem updCore_bar4 (c : Nat) (f : Core → Core) : (updCore s c f).bar4 = s.bar4 := rfl
@[simp] theorem updCore_aer (c : Nat) (f : Core → Core) : (updCore s c f).aer = s.aer := rfl
@[simp] theorem updCore_hostReads (c : Nat) (f : Core → Core) : (updCore s c f).hostReads = s.hostReads := rfl
@[simp] theorem updCore_nextRead (c : Nat) (f : Core → Core) : (updCore s c f).nextRead = s.nextRead := rfl
@[simp] theorem updCore_hostDirty (c : Nat) (f : Core → Core) : (updCore s c f).hostDirty = s.hostDirty := rfl
@[simp] theorem updCore_mgmt (c : Nat) (f : Core → Core) : (updCore s c f).mgmt = s.mgmt := rfl
@[simp] theorem updCore_fw (c : Nat) (f : Core → Core) : (updCore s c f).fw = s.fw := rfl
@[simp] theorem updCore_firmware (c : Nat) (f : Core → Core) : (updCore s c f).firmware = s.firmware := rfl
@[simp] theorem updCore_booted (c : Nat) (f : Core → Core) : (updCore s c f).booted = s.booted := rfl
@[simp] theorem updCore_spdm (c : Nat) (f : Core → Core) : (updCore s c f).spdm = s.spdm := rfl
@[simp] theorem updCore_spdmHeard (c : Nat) (f : Core → Core) : (updCore s c f).spdmHeard = s.spdmHeard := rfl
@[simp] theorem updCore_evqSent (c : Nat) (f : Core → Core) : (updCore s c f).evqSent = s.evqSent := rfl
@[simp] theorem updCore_evqWait (c : Nat) (f : Core → Core) : (updCore s c f).evqWait = s.evqWait := rfl
@[simp] theorem updCore_jtag (c : Nat) (f : Core → Core) : (updCore s c f).jtag = s.jtag := rfl
@[simp] theorem updCore_boundary (c : Nat) (f : Core → Core) : (updCore s c f).boundary = s.boundary := rfl
@[simp] theorem updCore_bypass (c : Nat) (f : Core → Core) : (updCore s c f).bypass = s.bypass := rfl
@[simp] theorem updCore_scanTest (c : Nat) (f : Core → Core) : (updCore s c f).scanTest = s.scanTest := rfl
@[simp] theorem updCore_checks (c : Nat) (f : Core → Core) : (updCore s c f).checks = s.checks := rfl
@[simp] theorem updCore_stackHeld (c : Nat) (f : Core → Core) : (updCore s c f).stackHeld = s.stackHeld := rfl
@[simp] theorem updCore_dawnOf (c : Nat) (f : Core → Core) : (updCore s c f).dawnOf = s.dawnOf := rfl
@[simp] theorem updCore_partDawn (c : Nat) (f : Core → Core) : (updCore s c f).partDawn = s.partDawn := rfl
@[simp] theorem updCore_partWaiting (c : Nat) (f : Core → Core) : (updCore s c f).partWaiting = s.partWaiting := rfl
@[simp] theorem updCore_railOut (c : Nat) (f : Core → Core) : (updCore s c f).railOut = s.railOut := rfl
@[simp] theorem updCore_panPerst (c : Nat) (f : Core → Core) : (updCore s c f).panPerst = s.panPerst := rfl
@[simp] theorem updCore_refclkLost (c : Nat) (f : Core → Core) : (updCore s c f).refclkLost = s.refclkLost := rfl
@[simp] theorem updCore_perstLow (c : Nat) (f : Core → Core) : (updCore s c f).perstLow = s.perstLow := rfl
@[simp] theorem updCore_powerStep (c : Nat) (f : Core → Core) : (updCore s c f).powerStep = s.powerStep := rfl
@[simp] theorem updCore_outputs (c : Nat) (f : Core → Core) : (updCore s c f).outputs = s.outputs := rfl

/-! ## updPort -/

@[simp] theorem updPort_pending (p : Nat) (f : Port → Port) : (updPort s p f).pending = s.pending := rfl
@[simp] theorem updPort_regs (p : Nat) (f : Port → Port) : (updPort s p f).regs = s.regs := rfl
@[simp] theorem updPort_latches (p : Nat) (f : Port → Port) : (updPort s p f).latches = s.latches := rfl
@[simp] theorem updPort_time (p : Nat) (f : Port → Port) : (updPort s p f).time = s.time := rfl
@[simp] theorem updPort_timeHeld (p : Nat) (f : Port → Port) : (updPort s p f).timeHeld = s.timeHeld := rfl
@[simp] theorem updPort_holdLeft (p : Nat) (f : Port → Port) : (updPort s p f).holdLeft = s.holdLeft := rfl
@[simp] theorem updPort_bellOffset (p : Nat) (f : Port → Port) : (updPort s p f).bellOffset = s.bellOffset := rfl
@[simp] theorem updPort_bellSlew (p : Nat) (f : Port → Port) : (updPort s p f).bellSlew = s.bellSlew := rfl
@[simp] theorem updPort_refTime (p : Nat) (f : Port → Port) : (updPort s p f).refTime = s.refTime := rfl
@[simp] theorem updPort_bellRun (p : Nat) (f : Port → Port) : (updPort s p f).bellRun = s.bellRun := rfl
@[simp] theorem updPort_bellFrameAt (p : Nat) (f : Port → Port) : (updPort s p f).bellFrameAt = s.bellFrameAt := rfl
@[simp] theorem updPort_bellPulse (p : Nat) (f : Port → Port) : (updPort s p f).bellPulse = s.bellPulse := rfl
@[simp] theorem updPort_cores (p : Nat) (f : Port → Port) : (updPort s p f).cores = s.cores := rfl
@[simp] theorem updPort_tscales (p : Nat) (f : Port → Port) : (updPort s p f).tscales = s.tscales := rfl
@[simp] theorem updPort_switch (p : Nat) (f : Port → Port) : (updPort s p f).switch = s.switch := rfl
@[simp] theorem updPort_mem (p : Nat) (f : Port → Port) : (updPort s p f).mem = s.mem := rfl
@[simp] theorem updPort_chk (p : Nat) (f : Port → Port) : (updPort s p f).chk = s.chk := rfl
@[simp] theorem updPort_correctedAt (p : Nat) (f : Port → Port) : (updPort s p f).correctedAt = s.correctedAt := rfl
@[simp] theorem updPort_pageBits (p : Nat) (f : Port → Port) : (updPort s p f).pageBits = s.pageBits := rfl
@[simp] theorem updPort_copyPages (p : Nat) (f : Port → Port) : (updPort s p f).copyPages = s.copyPages := rfl
@[simp] theorem updPort_touches (p : Nat) (f : Port → Port) : (updPort s p f).touches = s.touches := rfl
@[simp] theorem updPort_fired (p : Nat) (f : Port → Port) : (updPort s p f).fired = s.fired := rfl
@[simp] theorem updPort_frees (p : Nat) (f : Port → Port) : (updPort s p f).frees = s.frees := rfl
@[simp] theorem updPort_terrier (p : Nat) (f : Port → Port) : (updPort s p f).terrier = s.terrier := rfl
@[simp] theorem updPort_terrierOld (p : Nat) (f : Port → Port) : (updPort s p f).terrierOld = s.terrierOld := rfl
@[simp] theorem updPort_lanemaps (p : Nat) (f : Port → Port) : (updPort s p f).lanemaps = s.lanemaps := rfl
@[simp] theorem updPort_groups (p : Nat) (f : Port → Port) : (updPort s p f).groups = s.groups := rfl
@[simp] theorem updPort_staleAt (p : Nat) (f : Port → Port) : (updPort s p f).staleAt = s.staleAt := rfl
@[simp] theorem updPort_routers (p : Nat) (f : Port → Port) : (updPort s p f).routers = s.routers := rfl
@[simp] theorem updPort_routeSeq (p : Nat) (f : Port → Port) : (updPort s p f).routeSeq = s.routeSeq := rfl
@[simp] theorem updPort_inbox (p : Nat) (f : Port → Port) : (updPort s p f).inbox = s.inbox := rfl
@[simp] theorem updPort_postedErrors (p : Nat) (f : Port → Port) : (updPort s p f).postedErrors = s.postedErrors := rfl
@[simp] theorem updPort_reeveTodo (p : Nat) (f : Port → Port) : (updPort s p f).reeveTodo = s.reeveTodo := rfl
@[simp] theorem updPort_chunks (p : Nat) (f : Port → Port) : (updPort s p f).chunks = s.chunks := rfl
@[simp] theorem updPort_closedChunks (p : Nat) (f : Port → Port) : (updPort s p f).closedChunks = s.closedChunks := rfl
@[simp] theorem updPort_transit (p : Nat) (f : Port → Port) : (updPort s p f).transit = s.transit := rfl
@[simp] theorem updPort_tags (p : Nat) (f : Port → Port) : (updPort s p f).tags = s.tags := rfl
@[simp] theorem updPort_keyDraws (p : Nat) (f : Port → Port) : (updPort s p f).keyDraws = s.keyDraws := rfl
@[simp] theorem updPort_devq (p : Nat) (f : Port → Port) : (updPort s p f).devq = s.devq := rfl
@[simp] theorem updPort_watchEvents (p : Nat) (f : Port → Port) : (updPort s p f).watchEvents = s.watchEvents := rfl
@[simp] theorem updPort_draws (p : Nat) (f : Port → Port) : (updPort s p f).draws = s.draws := rfl
@[simp] theorem updPort_pantryDraw (p : Nat) (f : Port → Port) : (updPort s p f).pantryDraw = s.pantryDraw := rfl
@[simp] theorem updPort_pantryId (p : Nat) (f : Port → Port) : (updPort s p f).pantryId = s.pantryId := rfl
@[simp] theorem updPort_harvest (p : Nat) (f : Port → Port) : (updPort s p f).harvest = s.harvest := rfl
@[simp] theorem updPort_harvestDue (p : Nat) (f : Port → Port) : (updPort s p f).harvestDue = s.harvestDue := rfl
@[simp] theorem updPort_harvestWanted (p : Nat) (f : Port → Port) : (updPort s p f).harvestWanted = s.harvestWanted := rfl
@[simp] theorem updPort_nvme (p : Nat) (f : Port → Port) : (updPort s p f).nvme = s.nvme := rfl
@[simp] theorem updPort_nvmeWait (p : Nat) (f : Port → Port) : (updPort s p f).nvmeWait = s.nvmeWait := rfl
@[simp] theorem updPort_pantryImage (p : Nat) (f : Port → Port) : (updPort s p f).pantryImage = s.pantryImage := rfl
@[simp] theorem updPort_storeImage (p : Nat) (f : Port → Port) : (updPort s p f).storeImage = s.storeImage := rfl
@[simp] theorem updPort_refill (p : Nat) (f : Port → Port) : (updPort s p f).refill = s.refill := rfl
@[simp] theorem updPort_lastRefill (p : Nat) (f : Port → Port) : (updPort s p f).lastRefill = s.lastRefill := rfl
@[simp] theorem updPort_validPages (p : Nat) (f : Port → Port) : (updPort s p f).validPages = s.validPages := rfl
@[simp] theorem updPort_landings (p : Nat) (f : Port → Port) : (updPort s p f).landings = s.landings := rfl
@[simp] theorem updPort_serve (p : Nat) (f : Port → Port) : (updPort s p f).serve = s.serve := rfl
@[simp] theorem updPort_started (p : Nat) (f : Port → Port) : (updPort s p f).started = s.started := rfl
@[simp] theorem updPort_coreReturned (p : Nat) (f : Port → Port) : (updPort s p f).coreReturned = s.coreReturned := rfl
@[simp] theorem updPort_saved (p : Nat) (f : Port → Port) : (updPort s p f).saved = s.saved := rfl
@[simp] theorem updPort_savedDraw (p : Nat) (f : Port → Port) : (updPort s p f).savedDraw = s.savedDraw := rfl
@[simp] theorem updPort_measuring (p : Nat) (f : Port → Port) : (updPort s p f).measuring = s.measuring := rfl
@[simp] theorem updPort_measured (p : Nat) (f : Port → Port) : (updPort s p f).measured = s.measured := rfl
@[simp] theorem updPort_measurements (p : Nat) (f : Port → Port) : (updPort s p f).measurements = s.measurements := rfl
@[simp] theorem updPort_wipes (p : Nat) (f : Port → Port) : (updPort s p f).wipes = s.wipes := rfl
@[simp] theorem updPort_tests (p : Nat) (f : Port → Port) : (updPort s p f).tests = s.tests := rfl
@[simp] theorem updPort_remaps (p : Nat) (f : Port → Port) : (updPort s p f).remaps = s.remaps := rfl
@[simp] theorem updPort_refreshing (p : Nat) (f : Port → Port) : (updPort s p f).refreshing = s.refreshing := rfl
@[simp] theorem updPort_hotFp (p : Nat) (f : Port → Port) : (updPort s p f).hotFp = s.hotFp := rfl
@[simp] theorem updPort_hotNext (p : Nat) (f : Port → Port) : (updPort s p f).hotNext = s.hotNext := rfl
@[simp] theorem updPort_waiting (p : Nat) (f : Port → Port) : (updPort s p f).waiting = s.waiting := rfl
@[simp] theorem updPort_throttles (p : Nat) (f : Port → Port) : (updPort s p f).throttles = s.throttles := rfl
@[simp] theorem updPort_wear (p : Nat) (f : Port → Port) : (updPort s p f).wear = s.wear := rfl
@[simp] theorem updPort_wearStored (p : Nat) (f : Port → Port) : (updPort s p f).wearStored = s.wearStored := rfl
@[simp] theorem updPort_socs (p : Nat) (f : Port → Port) : (updPort s p f).socs = s.socs := rfl
@[simp] theorem updPort_pkgEst (p : Nat) (f : Port → Port) : (updPort s p f).pkgEst = s.pkgEst := rfl
@[simp] theorem updPort_estNext (p : Nat) (f : Port → Port) : (updPort s p f).estNext = s.estNext := rfl
@[simp] theorem updPort_activity (p : Nat) (f : Port → Port) : (updPort s p f).activity = s.activity := rfl
@[simp] theorem updPort_energy (p : Nat) (f : Port → Port) : (updPort s p f).energy = s.energy := rfl
@[simp] theorem updPort_curfew (p : Nat) (f : Port → Port) : (updPort s p f).curfew = s.curfew := rfl
@[simp] theorem updPort_msixOpen (p : Nat) (f : Port → Port) : (updPort s p f).msixOpen = s.msixOpen := rfl
@[simp] theorem updPort_msixPending (p : Nat) (f : Port → Port) : (updPort s p f).msixPending = s.msixPending := rfl
@[simp] theorem updPort_bar4 (p : Nat) (f : Port → Port) : (updPort s p f).bar4 = s.bar4 := rfl
@[simp] theorem updPort_aer (p : Nat) (f : Port → Port) : (updPort s p f).aer = s.aer := rfl
@[simp] theorem updPort_hostReads (p : Nat) (f : Port → Port) : (updPort s p f).hostReads = s.hostReads := rfl
@[simp] theorem updPort_nextRead (p : Nat) (f : Port → Port) : (updPort s p f).nextRead = s.nextRead := rfl
@[simp] theorem updPort_hostDirty (p : Nat) (f : Port → Port) : (updPort s p f).hostDirty = s.hostDirty := rfl
@[simp] theorem updPort_mgmt (p : Nat) (f : Port → Port) : (updPort s p f).mgmt = s.mgmt := rfl
@[simp] theorem updPort_fw (p : Nat) (f : Port → Port) : (updPort s p f).fw = s.fw := rfl
@[simp] theorem updPort_firmware (p : Nat) (f : Port → Port) : (updPort s p f).firmware = s.firmware := rfl
@[simp] theorem updPort_booted (p : Nat) (f : Port → Port) : (updPort s p f).booted = s.booted := rfl
@[simp] theorem updPort_spdm (p : Nat) (f : Port → Port) : (updPort s p f).spdm = s.spdm := rfl
@[simp] theorem updPort_spdmHeard (p : Nat) (f : Port → Port) : (updPort s p f).spdmHeard = s.spdmHeard := rfl
@[simp] theorem updPort_evqSent (p : Nat) (f : Port → Port) : (updPort s p f).evqSent = s.evqSent := rfl
@[simp] theorem updPort_evqWait (p : Nat) (f : Port → Port) : (updPort s p f).evqWait = s.evqWait := rfl
@[simp] theorem updPort_jtag (p : Nat) (f : Port → Port) : (updPort s p f).jtag = s.jtag := rfl
@[simp] theorem updPort_boundary (p : Nat) (f : Port → Port) : (updPort s p f).boundary = s.boundary := rfl
@[simp] theorem updPort_bypass (p : Nat) (f : Port → Port) : (updPort s p f).bypass = s.bypass := rfl
@[simp] theorem updPort_scanTest (p : Nat) (f : Port → Port) : (updPort s p f).scanTest = s.scanTest := rfl
@[simp] theorem updPort_checks (p : Nat) (f : Port → Port) : (updPort s p f).checks = s.checks := rfl
@[simp] theorem updPort_stackHeld (p : Nat) (f : Port → Port) : (updPort s p f).stackHeld = s.stackHeld := rfl
@[simp] theorem updPort_dawnOf (p : Nat) (f : Port → Port) : (updPort s p f).dawnOf = s.dawnOf := rfl
@[simp] theorem updPort_partDawn (p : Nat) (f : Port → Port) : (updPort s p f).partDawn = s.partDawn := rfl
@[simp] theorem updPort_partWaiting (p : Nat) (f : Port → Port) : (updPort s p f).partWaiting = s.partWaiting := rfl
@[simp] theorem updPort_railOut (p : Nat) (f : Port → Port) : (updPort s p f).railOut = s.railOut := rfl
@[simp] theorem updPort_panPerst (p : Nat) (f : Port → Port) : (updPort s p f).panPerst = s.panPerst := rfl
@[simp] theorem updPort_refclkLost (p : Nat) (f : Port → Port) : (updPort s p f).refclkLost = s.refclkLost := rfl
@[simp] theorem updPort_perstLow (p : Nat) (f : Port → Port) : (updPort s p f).perstLow = s.perstLow := rfl
@[simp] theorem updPort_powerStep (p : Nat) (f : Port → Port) : (updPort s p f).powerStep = s.powerStep := rfl
@[simp] theorem updPort_outputs (p : Nat) (f : Port → Port) : (updPort s p f).outputs = s.outputs := rfl

/-! ## setRawWord -/

@[simp] theorem setRawWord_pending (w v : Nat) : (setRawWord s w v).pending = s.pending := rfl
@[simp] theorem setRawWord_regs (w v : Nat) : (setRawWord s w v).regs = s.regs := rfl
@[simp] theorem setRawWord_latches (w v : Nat) : (setRawWord s w v).latches = s.latches := rfl
@[simp] theorem setRawWord_time (w v : Nat) : (setRawWord s w v).time = s.time := rfl
@[simp] theorem setRawWord_timeHeld (w v : Nat) : (setRawWord s w v).timeHeld = s.timeHeld := rfl
@[simp] theorem setRawWord_holdLeft (w v : Nat) : (setRawWord s w v).holdLeft = s.holdLeft := rfl
@[simp] theorem setRawWord_bellOffset (w v : Nat) : (setRawWord s w v).bellOffset = s.bellOffset := rfl
@[simp] theorem setRawWord_bellSlew (w v : Nat) : (setRawWord s w v).bellSlew = s.bellSlew := rfl
@[simp] theorem setRawWord_refTime (w v : Nat) : (setRawWord s w v).refTime = s.refTime := rfl
@[simp] theorem setRawWord_bellRun (w v : Nat) : (setRawWord s w v).bellRun = s.bellRun := rfl
@[simp] theorem setRawWord_bellFrameAt (w v : Nat) : (setRawWord s w v).bellFrameAt = s.bellFrameAt := rfl
@[simp] theorem setRawWord_bellPulse (w v : Nat) : (setRawWord s w v).bellPulse = s.bellPulse := rfl
@[simp] theorem setRawWord_cores (w v : Nat) : (setRawWord s w v).cores = s.cores := rfl
@[simp] theorem setRawWord_tscales (w v : Nat) : (setRawWord s w v).tscales = s.tscales := rfl
@[simp] theorem setRawWord_switch (w v : Nat) : (setRawWord s w v).switch = s.switch := rfl
@[simp] theorem setRawWord_correctedAt (w v : Nat) : (setRawWord s w v).correctedAt = s.correctedAt := rfl
@[simp] theorem setRawWord_pageBits (w v : Nat) : (setRawWord s w v).pageBits = s.pageBits := rfl
@[simp] theorem setRawWord_copyPages (w v : Nat) : (setRawWord s w v).copyPages = s.copyPages := rfl
@[simp] theorem setRawWord_touches (w v : Nat) : (setRawWord s w v).touches = s.touches := rfl
@[simp] theorem setRawWord_fired (w v : Nat) : (setRawWord s w v).fired = s.fired := rfl
@[simp] theorem setRawWord_frees (w v : Nat) : (setRawWord s w v).frees = s.frees := rfl
@[simp] theorem setRawWord_terrier (w v : Nat) : (setRawWord s w v).terrier = s.terrier := rfl
@[simp] theorem setRawWord_terrierOld (w v : Nat) : (setRawWord s w v).terrierOld = s.terrierOld := rfl
@[simp] theorem setRawWord_lanemaps (w v : Nat) : (setRawWord s w v).lanemaps = s.lanemaps := rfl
@[simp] theorem setRawWord_groups (w v : Nat) : (setRawWord s w v).groups = s.groups := rfl
@[simp] theorem setRawWord_staleAt (w v : Nat) : (setRawWord s w v).staleAt = s.staleAt := rfl
@[simp] theorem setRawWord_ports (w v : Nat) : (setRawWord s w v).ports = s.ports := rfl
@[simp] theorem setRawWord_routers (w v : Nat) : (setRawWord s w v).routers = s.routers := rfl
@[simp] theorem setRawWord_routeSeq (w v : Nat) : (setRawWord s w v).routeSeq = s.routeSeq := rfl
@[simp] theorem setRawWord_inbox (w v : Nat) : (setRawWord s w v).inbox = s.inbox := rfl
@[simp] theorem setRawWord_postedErrors (w v : Nat) : (setRawWord s w v).postedErrors = s.postedErrors := rfl
@[simp] theorem setRawWord_reeveTodo (w v : Nat) : (setRawWord s w v).reeveTodo = s.reeveTodo := rfl
@[simp] theorem setRawWord_chunks (w v : Nat) : (setRawWord s w v).chunks = s.chunks := rfl
@[simp] theorem setRawWord_closedChunks (w v : Nat) : (setRawWord s w v).closedChunks = s.closedChunks := rfl
@[simp] theorem setRawWord_transit (w v : Nat) : (setRawWord s w v).transit = s.transit := rfl
@[simp] theorem setRawWord_tags (w v : Nat) : (setRawWord s w v).tags = s.tags := rfl
@[simp] theorem setRawWord_keyDraws (w v : Nat) : (setRawWord s w v).keyDraws = s.keyDraws := rfl
@[simp] theorem setRawWord_devq (w v : Nat) : (setRawWord s w v).devq = s.devq := rfl
@[simp] theorem setRawWord_watchEvents (w v : Nat) : (setRawWord s w v).watchEvents = s.watchEvents := rfl
@[simp] theorem setRawWord_draws (w v : Nat) : (setRawWord s w v).draws = s.draws := rfl
@[simp] theorem setRawWord_pantryDraw (w v : Nat) : (setRawWord s w v).pantryDraw = s.pantryDraw := rfl
@[simp] theorem setRawWord_pantryId (w v : Nat) : (setRawWord s w v).pantryId = s.pantryId := rfl
@[simp] theorem setRawWord_harvest (w v : Nat) : (setRawWord s w v).harvest = s.harvest := rfl
@[simp] theorem setRawWord_harvestDue (w v : Nat) : (setRawWord s w v).harvestDue = s.harvestDue := rfl
@[simp] theorem setRawWord_harvestWanted (w v : Nat) : (setRawWord s w v).harvestWanted = s.harvestWanted := rfl
@[simp] theorem setRawWord_nvme (w v : Nat) : (setRawWord s w v).nvme = s.nvme := rfl
@[simp] theorem setRawWord_nvmeWait (w v : Nat) : (setRawWord s w v).nvmeWait = s.nvmeWait := rfl
@[simp] theorem setRawWord_pantryImage (w v : Nat) : (setRawWord s w v).pantryImage = s.pantryImage := rfl
@[simp] theorem setRawWord_storeImage (w v : Nat) : (setRawWord s w v).storeImage = s.storeImage := rfl
@[simp] theorem setRawWord_refill (w v : Nat) : (setRawWord s w v).refill = s.refill := rfl
@[simp] theorem setRawWord_lastRefill (w v : Nat) : (setRawWord s w v).lastRefill = s.lastRefill := rfl
@[simp] theorem setRawWord_validPages (w v : Nat) : (setRawWord s w v).validPages = s.validPages := rfl
@[simp] theorem setRawWord_landings (w v : Nat) : (setRawWord s w v).landings = s.landings := rfl
@[simp] theorem setRawWord_serve (w v : Nat) : (setRawWord s w v).serve = s.serve := rfl
@[simp] theorem setRawWord_started (w v : Nat) : (setRawWord s w v).started = s.started := rfl
@[simp] theorem setRawWord_coreReturned (w v : Nat) : (setRawWord s w v).coreReturned = s.coreReturned := rfl
@[simp] theorem setRawWord_saved (w v : Nat) : (setRawWord s w v).saved = s.saved := rfl
@[simp] theorem setRawWord_savedDraw (w v : Nat) : (setRawWord s w v).savedDraw = s.savedDraw := rfl
@[simp] theorem setRawWord_measuring (w v : Nat) : (setRawWord s w v).measuring = s.measuring := rfl
@[simp] theorem setRawWord_measured (w v : Nat) : (setRawWord s w v).measured = s.measured := rfl
@[simp] theorem setRawWord_measurements (w v : Nat) : (setRawWord s w v).measurements = s.measurements := rfl
@[simp] theorem setRawWord_wipes (w v : Nat) : (setRawWord s w v).wipes = s.wipes := rfl
@[simp] theorem setRawWord_tests (w v : Nat) : (setRawWord s w v).tests = s.tests := rfl
@[simp] theorem setRawWord_remaps (w v : Nat) : (setRawWord s w v).remaps = s.remaps := rfl
@[simp] theorem setRawWord_refreshing (w v : Nat) : (setRawWord s w v).refreshing = s.refreshing := rfl
@[simp] theorem setRawWord_hotFp (w v : Nat) : (setRawWord s w v).hotFp = s.hotFp := rfl
@[simp] theorem setRawWord_hotNext (w v : Nat) : (setRawWord s w v).hotNext = s.hotNext := rfl
@[simp] theorem setRawWord_waiting (w v : Nat) : (setRawWord s w v).waiting = s.waiting := rfl
@[simp] theorem setRawWord_throttles (w v : Nat) : (setRawWord s w v).throttles = s.throttles := rfl
@[simp] theorem setRawWord_wear (w v : Nat) : (setRawWord s w v).wear = s.wear := rfl
@[simp] theorem setRawWord_wearStored (w v : Nat) : (setRawWord s w v).wearStored = s.wearStored := rfl
@[simp] theorem setRawWord_socs (w v : Nat) : (setRawWord s w v).socs = s.socs := rfl
@[simp] theorem setRawWord_pkgEst (w v : Nat) : (setRawWord s w v).pkgEst = s.pkgEst := rfl
@[simp] theorem setRawWord_estNext (w v : Nat) : (setRawWord s w v).estNext = s.estNext := rfl
@[simp] theorem setRawWord_activity (w v : Nat) : (setRawWord s w v).activity = s.activity := rfl
@[simp] theorem setRawWord_energy (w v : Nat) : (setRawWord s w v).energy = s.energy := rfl
@[simp] theorem setRawWord_curfew (w v : Nat) : (setRawWord s w v).curfew = s.curfew := rfl
@[simp] theorem setRawWord_msixOpen (w v : Nat) : (setRawWord s w v).msixOpen = s.msixOpen := rfl
@[simp] theorem setRawWord_msixPending (w v : Nat) : (setRawWord s w v).msixPending = s.msixPending := rfl
@[simp] theorem setRawWord_bar4 (w v : Nat) : (setRawWord s w v).bar4 = s.bar4 := rfl
@[simp] theorem setRawWord_aer (w v : Nat) : (setRawWord s w v).aer = s.aer := rfl
@[simp] theorem setRawWord_hostReads (w v : Nat) : (setRawWord s w v).hostReads = s.hostReads := rfl
@[simp] theorem setRawWord_nextRead (w v : Nat) : (setRawWord s w v).nextRead = s.nextRead := rfl
@[simp] theorem setRawWord_hostDirty (w v : Nat) : (setRawWord s w v).hostDirty = s.hostDirty := rfl
@[simp] theorem setRawWord_mgmt (w v : Nat) : (setRawWord s w v).mgmt = s.mgmt := rfl
@[simp] theorem setRawWord_fw (w v : Nat) : (setRawWord s w v).fw = s.fw := rfl
@[simp] theorem setRawWord_firmware (w v : Nat) : (setRawWord s w v).firmware = s.firmware := rfl
@[simp] theorem setRawWord_booted (w v : Nat) : (setRawWord s w v).booted = s.booted := rfl
@[simp] theorem setRawWord_spdm (w v : Nat) : (setRawWord s w v).spdm = s.spdm := rfl
@[simp] theorem setRawWord_spdmHeard (w v : Nat) : (setRawWord s w v).spdmHeard = s.spdmHeard := rfl
@[simp] theorem setRawWord_evqSent (w v : Nat) : (setRawWord s w v).evqSent = s.evqSent := rfl
@[simp] theorem setRawWord_evqWait (w v : Nat) : (setRawWord s w v).evqWait = s.evqWait := rfl
@[simp] theorem setRawWord_jtag (w v : Nat) : (setRawWord s w v).jtag = s.jtag := rfl
@[simp] theorem setRawWord_boundary (w v : Nat) : (setRawWord s w v).boundary = s.boundary := rfl
@[simp] theorem setRawWord_bypass (w v : Nat) : (setRawWord s w v).bypass = s.bypass := rfl
@[simp] theorem setRawWord_scanTest (w v : Nat) : (setRawWord s w v).scanTest = s.scanTest := rfl
@[simp] theorem setRawWord_checks (w v : Nat) : (setRawWord s w v).checks = s.checks := rfl
@[simp] theorem setRawWord_stackHeld (w v : Nat) : (setRawWord s w v).stackHeld = s.stackHeld := rfl
@[simp] theorem setRawWord_dawnOf (w v : Nat) : (setRawWord s w v).dawnOf = s.dawnOf := rfl
@[simp] theorem setRawWord_partDawn (w v : Nat) : (setRawWord s w v).partDawn = s.partDawn := rfl
@[simp] theorem setRawWord_partWaiting (w v : Nat) : (setRawWord s w v).partWaiting = s.partWaiting := rfl
@[simp] theorem setRawWord_railOut (w v : Nat) : (setRawWord s w v).railOut = s.railOut := rfl
@[simp] theorem setRawWord_panPerst (w v : Nat) : (setRawWord s w v).panPerst = s.panPerst := rfl
@[simp] theorem setRawWord_refclkLost (w v : Nat) : (setRawWord s w v).refclkLost = s.refclkLost := rfl
@[simp] theorem setRawWord_perstLow (w v : Nat) : (setRawWord s w v).perstLow = s.perstLow := rfl
@[simp] theorem setRawWord_powerStep (w v : Nat) : (setRawWord s w v).powerStep = s.powerStep := rfl
@[simp] theorem setRawWord_outputs (w v : Nat) : (setRawWord s w v).outputs = s.outputs := rfl

/-! ## setPageWritten -/

@[simp] theorem setPageWritten_pending (p : Nat) (v : Bool) : (setPageWritten s p v).pending = s.pending := rfl
@[simp] theorem setPageWritten_regs (p : Nat) (v : Bool) : (setPageWritten s p v).regs = s.regs := rfl
@[simp] theorem setPageWritten_latches (p : Nat) (v : Bool) : (setPageWritten s p v).latches = s.latches := rfl
@[simp] theorem setPageWritten_time (p : Nat) (v : Bool) : (setPageWritten s p v).time = s.time := rfl
@[simp] theorem setPageWritten_timeHeld (p : Nat) (v : Bool) : (setPageWritten s p v).timeHeld = s.timeHeld := rfl
@[simp] theorem setPageWritten_holdLeft (p : Nat) (v : Bool) : (setPageWritten s p v).holdLeft = s.holdLeft := rfl
@[simp] theorem setPageWritten_bellOffset (p : Nat) (v : Bool) : (setPageWritten s p v).bellOffset = s.bellOffset := rfl
@[simp] theorem setPageWritten_bellSlew (p : Nat) (v : Bool) : (setPageWritten s p v).bellSlew = s.bellSlew := rfl
@[simp] theorem setPageWritten_refTime (p : Nat) (v : Bool) : (setPageWritten s p v).refTime = s.refTime := rfl
@[simp] theorem setPageWritten_bellRun (p : Nat) (v : Bool) : (setPageWritten s p v).bellRun = s.bellRun := rfl
@[simp] theorem setPageWritten_bellFrameAt (p : Nat) (v : Bool) : (setPageWritten s p v).bellFrameAt = s.bellFrameAt := rfl
@[simp] theorem setPageWritten_bellPulse (p : Nat) (v : Bool) : (setPageWritten s p v).bellPulse = s.bellPulse := rfl
@[simp] theorem setPageWritten_cores (p : Nat) (v : Bool) : (setPageWritten s p v).cores = s.cores := rfl
@[simp] theorem setPageWritten_tscales (p : Nat) (v : Bool) : (setPageWritten s p v).tscales = s.tscales := rfl
@[simp] theorem setPageWritten_switch (p : Nat) (v : Bool) : (setPageWritten s p v).switch = s.switch := rfl
@[simp] theorem setPageWritten_mem (p : Nat) (v : Bool) : (setPageWritten s p v).mem = s.mem := rfl
@[simp] theorem setPageWritten_chk (p : Nat) (v : Bool) : (setPageWritten s p v).chk = s.chk := rfl
@[simp] theorem setPageWritten_correctedAt (p : Nat) (v : Bool) : (setPageWritten s p v).correctedAt = s.correctedAt := rfl
@[simp] theorem setPageWritten_copyPages (p : Nat) (v : Bool) : (setPageWritten s p v).copyPages = s.copyPages := rfl
@[simp] theorem setPageWritten_touches (p : Nat) (v : Bool) : (setPageWritten s p v).touches = s.touches := rfl
@[simp] theorem setPageWritten_fired (p : Nat) (v : Bool) : (setPageWritten s p v).fired = s.fired := rfl
@[simp] theorem setPageWritten_frees (p : Nat) (v : Bool) : (setPageWritten s p v).frees = s.frees := rfl
@[simp] theorem setPageWritten_terrier (p : Nat) (v : Bool) : (setPageWritten s p v).terrier = s.terrier := rfl
@[simp] theorem setPageWritten_terrierOld (p : Nat) (v : Bool) : (setPageWritten s p v).terrierOld = s.terrierOld := rfl
@[simp] theorem setPageWritten_lanemaps (p : Nat) (v : Bool) : (setPageWritten s p v).lanemaps = s.lanemaps := rfl
@[simp] theorem setPageWritten_groups (p : Nat) (v : Bool) : (setPageWritten s p v).groups = s.groups := rfl
@[simp] theorem setPageWritten_staleAt (p : Nat) (v : Bool) : (setPageWritten s p v).staleAt = s.staleAt := rfl
@[simp] theorem setPageWritten_ports (p : Nat) (v : Bool) : (setPageWritten s p v).ports = s.ports := rfl
@[simp] theorem setPageWritten_routers (p : Nat) (v : Bool) : (setPageWritten s p v).routers = s.routers := rfl
@[simp] theorem setPageWritten_routeSeq (p : Nat) (v : Bool) : (setPageWritten s p v).routeSeq = s.routeSeq := rfl
@[simp] theorem setPageWritten_inbox (p : Nat) (v : Bool) : (setPageWritten s p v).inbox = s.inbox := rfl
@[simp] theorem setPageWritten_postedErrors (p : Nat) (v : Bool) : (setPageWritten s p v).postedErrors = s.postedErrors := rfl
@[simp] theorem setPageWritten_reeveTodo (p : Nat) (v : Bool) : (setPageWritten s p v).reeveTodo = s.reeveTodo := rfl
@[simp] theorem setPageWritten_chunks (p : Nat) (v : Bool) : (setPageWritten s p v).chunks = s.chunks := rfl
@[simp] theorem setPageWritten_closedChunks (p : Nat) (v : Bool) : (setPageWritten s p v).closedChunks = s.closedChunks := rfl
@[simp] theorem setPageWritten_transit (p : Nat) (v : Bool) : (setPageWritten s p v).transit = s.transit := rfl
@[simp] theorem setPageWritten_tags (p : Nat) (v : Bool) : (setPageWritten s p v).tags = s.tags := rfl
@[simp] theorem setPageWritten_keyDraws (p : Nat) (v : Bool) : (setPageWritten s p v).keyDraws = s.keyDraws := rfl
@[simp] theorem setPageWritten_devq (p : Nat) (v : Bool) : (setPageWritten s p v).devq = s.devq := rfl
@[simp] theorem setPageWritten_watchEvents (p : Nat) (v : Bool) : (setPageWritten s p v).watchEvents = s.watchEvents := rfl
@[simp] theorem setPageWritten_draws (p : Nat) (v : Bool) : (setPageWritten s p v).draws = s.draws := rfl
@[simp] theorem setPageWritten_pantryDraw (p : Nat) (v : Bool) : (setPageWritten s p v).pantryDraw = s.pantryDraw := rfl
@[simp] theorem setPageWritten_pantryId (p : Nat) (v : Bool) : (setPageWritten s p v).pantryId = s.pantryId := rfl
@[simp] theorem setPageWritten_harvest (p : Nat) (v : Bool) : (setPageWritten s p v).harvest = s.harvest := rfl
@[simp] theorem setPageWritten_harvestDue (p : Nat) (v : Bool) : (setPageWritten s p v).harvestDue = s.harvestDue := rfl
@[simp] theorem setPageWritten_harvestWanted (p : Nat) (v : Bool) : (setPageWritten s p v).harvestWanted = s.harvestWanted := rfl
@[simp] theorem setPageWritten_nvme (p : Nat) (v : Bool) : (setPageWritten s p v).nvme = s.nvme := rfl
@[simp] theorem setPageWritten_nvmeWait (p : Nat) (v : Bool) : (setPageWritten s p v).nvmeWait = s.nvmeWait := rfl
@[simp] theorem setPageWritten_pantryImage (p : Nat) (v : Bool) : (setPageWritten s p v).pantryImage = s.pantryImage := rfl
@[simp] theorem setPageWritten_storeImage (p : Nat) (v : Bool) : (setPageWritten s p v).storeImage = s.storeImage := rfl
@[simp] theorem setPageWritten_refill (p : Nat) (v : Bool) : (setPageWritten s p v).refill = s.refill := rfl
@[simp] theorem setPageWritten_lastRefill (p : Nat) (v : Bool) : (setPageWritten s p v).lastRefill = s.lastRefill := rfl
@[simp] theorem setPageWritten_validPages (p : Nat) (v : Bool) : (setPageWritten s p v).validPages = s.validPages := rfl
@[simp] theorem setPageWritten_landings (p : Nat) (v : Bool) : (setPageWritten s p v).landings = s.landings := rfl
@[simp] theorem setPageWritten_serve (p : Nat) (v : Bool) : (setPageWritten s p v).serve = s.serve := rfl
@[simp] theorem setPageWritten_started (p : Nat) (v : Bool) : (setPageWritten s p v).started = s.started := rfl
@[simp] theorem setPageWritten_coreReturned (p : Nat) (v : Bool) : (setPageWritten s p v).coreReturned = s.coreReturned := rfl
@[simp] theorem setPageWritten_saved (p : Nat) (v : Bool) : (setPageWritten s p v).saved = s.saved := rfl
@[simp] theorem setPageWritten_savedDraw (p : Nat) (v : Bool) : (setPageWritten s p v).savedDraw = s.savedDraw := rfl
@[simp] theorem setPageWritten_measuring (p : Nat) (v : Bool) : (setPageWritten s p v).measuring = s.measuring := rfl
@[simp] theorem setPageWritten_measured (p : Nat) (v : Bool) : (setPageWritten s p v).measured = s.measured := rfl
@[simp] theorem setPageWritten_measurements (p : Nat) (v : Bool) : (setPageWritten s p v).measurements = s.measurements := rfl
@[simp] theorem setPageWritten_wipes (p : Nat) (v : Bool) : (setPageWritten s p v).wipes = s.wipes := rfl
@[simp] theorem setPageWritten_tests (p : Nat) (v : Bool) : (setPageWritten s p v).tests = s.tests := rfl
@[simp] theorem setPageWritten_remaps (p : Nat) (v : Bool) : (setPageWritten s p v).remaps = s.remaps := rfl
@[simp] theorem setPageWritten_refreshing (p : Nat) (v : Bool) : (setPageWritten s p v).refreshing = s.refreshing := rfl
@[simp] theorem setPageWritten_hotFp (p : Nat) (v : Bool) : (setPageWritten s p v).hotFp = s.hotFp := rfl
@[simp] theorem setPageWritten_hotNext (p : Nat) (v : Bool) : (setPageWritten s p v).hotNext = s.hotNext := rfl
@[simp] theorem setPageWritten_waiting (p : Nat) (v : Bool) : (setPageWritten s p v).waiting = s.waiting := rfl
@[simp] theorem setPageWritten_throttles (p : Nat) (v : Bool) : (setPageWritten s p v).throttles = s.throttles := rfl
@[simp] theorem setPageWritten_wear (p : Nat) (v : Bool) : (setPageWritten s p v).wear = s.wear := rfl
@[simp] theorem setPageWritten_wearStored (p : Nat) (v : Bool) : (setPageWritten s p v).wearStored = s.wearStored := rfl
@[simp] theorem setPageWritten_socs (p : Nat) (v : Bool) : (setPageWritten s p v).socs = s.socs := rfl
@[simp] theorem setPageWritten_pkgEst (p : Nat) (v : Bool) : (setPageWritten s p v).pkgEst = s.pkgEst := rfl
@[simp] theorem setPageWritten_estNext (p : Nat) (v : Bool) : (setPageWritten s p v).estNext = s.estNext := rfl
@[simp] theorem setPageWritten_activity (p : Nat) (v : Bool) : (setPageWritten s p v).activity = s.activity := rfl
@[simp] theorem setPageWritten_energy (p : Nat) (v : Bool) : (setPageWritten s p v).energy = s.energy := rfl
@[simp] theorem setPageWritten_curfew (p : Nat) (v : Bool) : (setPageWritten s p v).curfew = s.curfew := rfl
@[simp] theorem setPageWritten_msixOpen (p : Nat) (v : Bool) : (setPageWritten s p v).msixOpen = s.msixOpen := rfl
@[simp] theorem setPageWritten_msixPending (p : Nat) (v : Bool) : (setPageWritten s p v).msixPending = s.msixPending := rfl
@[simp] theorem setPageWritten_bar4 (p : Nat) (v : Bool) : (setPageWritten s p v).bar4 = s.bar4 := rfl
@[simp] theorem setPageWritten_aer (p : Nat) (v : Bool) : (setPageWritten s p v).aer = s.aer := rfl
@[simp] theorem setPageWritten_hostReads (p : Nat) (v : Bool) : (setPageWritten s p v).hostReads = s.hostReads := rfl
@[simp] theorem setPageWritten_nextRead (p : Nat) (v : Bool) : (setPageWritten s p v).nextRead = s.nextRead := rfl
@[simp] theorem setPageWritten_hostDirty (p : Nat) (v : Bool) : (setPageWritten s p v).hostDirty = s.hostDirty := rfl
@[simp] theorem setPageWritten_mgmt (p : Nat) (v : Bool) : (setPageWritten s p v).mgmt = s.mgmt := rfl
@[simp] theorem setPageWritten_fw (p : Nat) (v : Bool) : (setPageWritten s p v).fw = s.fw := rfl
@[simp] theorem setPageWritten_firmware (p : Nat) (v : Bool) : (setPageWritten s p v).firmware = s.firmware := rfl
@[simp] theorem setPageWritten_booted (p : Nat) (v : Bool) : (setPageWritten s p v).booted = s.booted := rfl
@[simp] theorem setPageWritten_spdm (p : Nat) (v : Bool) : (setPageWritten s p v).spdm = s.spdm := rfl
@[simp] theorem setPageWritten_spdmHeard (p : Nat) (v : Bool) : (setPageWritten s p v).spdmHeard = s.spdmHeard := rfl
@[simp] theorem setPageWritten_evqSent (p : Nat) (v : Bool) : (setPageWritten s p v).evqSent = s.evqSent := rfl
@[simp] theorem setPageWritten_evqWait (p : Nat) (v : Bool) : (setPageWritten s p v).evqWait = s.evqWait := rfl
@[simp] theorem setPageWritten_jtag (p : Nat) (v : Bool) : (setPageWritten s p v).jtag = s.jtag := rfl
@[simp] theorem setPageWritten_boundary (p : Nat) (v : Bool) : (setPageWritten s p v).boundary = s.boundary := rfl
@[simp] theorem setPageWritten_bypass (p : Nat) (v : Bool) : (setPageWritten s p v).bypass = s.bypass := rfl
@[simp] theorem setPageWritten_scanTest (p : Nat) (v : Bool) : (setPageWritten s p v).scanTest = s.scanTest := rfl
@[simp] theorem setPageWritten_checks (p : Nat) (v : Bool) : (setPageWritten s p v).checks = s.checks := rfl
@[simp] theorem setPageWritten_stackHeld (p : Nat) (v : Bool) : (setPageWritten s p v).stackHeld = s.stackHeld := rfl
@[simp] theorem setPageWritten_dawnOf (p : Nat) (v : Bool) : (setPageWritten s p v).dawnOf = s.dawnOf := rfl
@[simp] theorem setPageWritten_partDawn (p : Nat) (v : Bool) : (setPageWritten s p v).partDawn = s.partDawn := rfl
@[simp] theorem setPageWritten_partWaiting (p : Nat) (v : Bool) : (setPageWritten s p v).partWaiting = s.partWaiting := rfl
@[simp] theorem setPageWritten_railOut (p : Nat) (v : Bool) : (setPageWritten s p v).railOut = s.railOut := rfl
@[simp] theorem setPageWritten_panPerst (p : Nat) (v : Bool) : (setPageWritten s p v).panPerst = s.panPerst := rfl
@[simp] theorem setPageWritten_refclkLost (p : Nat) (v : Bool) : (setPageWritten s p v).refclkLost = s.refclkLost := rfl
@[simp] theorem setPageWritten_perstLow (p : Nat) (v : Bool) : (setPageWritten s p v).perstLow = s.perstLow := rfl
@[simp] theorem setPageWritten_powerStep (p : Nat) (v : Bool) : (setPageWritten s p v).powerStep = s.powerStep := rfl
@[simp] theorem setPageWritten_outputs (p : Nat) (v : Bool) : (setPageWritten s p v).outputs = s.outputs := rfl

/-! ## watchCount -/

@[simp] theorem watchCount_pending (input k : Nat) : (watchCount s input k).pending = s.pending := rfl
@[simp] theorem watchCount_regs (input k : Nat) : (watchCount s input k).regs = s.regs := rfl
@[simp] theorem watchCount_latches (input k : Nat) : (watchCount s input k).latches = s.latches := rfl
@[simp] theorem watchCount_time (input k : Nat) : (watchCount s input k).time = s.time := rfl
@[simp] theorem watchCount_timeHeld (input k : Nat) : (watchCount s input k).timeHeld = s.timeHeld := rfl
@[simp] theorem watchCount_holdLeft (input k : Nat) : (watchCount s input k).holdLeft = s.holdLeft := rfl
@[simp] theorem watchCount_bellOffset (input k : Nat) : (watchCount s input k).bellOffset = s.bellOffset := rfl
@[simp] theorem watchCount_bellSlew (input k : Nat) : (watchCount s input k).bellSlew = s.bellSlew := rfl
@[simp] theorem watchCount_refTime (input k : Nat) : (watchCount s input k).refTime = s.refTime := rfl
@[simp] theorem watchCount_bellRun (input k : Nat) : (watchCount s input k).bellRun = s.bellRun := rfl
@[simp] theorem watchCount_bellFrameAt (input k : Nat) : (watchCount s input k).bellFrameAt = s.bellFrameAt := rfl
@[simp] theorem watchCount_bellPulse (input k : Nat) : (watchCount s input k).bellPulse = s.bellPulse := rfl
@[simp] theorem watchCount_cores (input k : Nat) : (watchCount s input k).cores = s.cores := rfl
@[simp] theorem watchCount_tscales (input k : Nat) : (watchCount s input k).tscales = s.tscales := rfl
@[simp] theorem watchCount_switch (input k : Nat) : (watchCount s input k).switch = s.switch := rfl
@[simp] theorem watchCount_mem (input k : Nat) : (watchCount s input k).mem = s.mem := rfl
@[simp] theorem watchCount_chk (input k : Nat) : (watchCount s input k).chk = s.chk := rfl
@[simp] theorem watchCount_correctedAt (input k : Nat) : (watchCount s input k).correctedAt = s.correctedAt := rfl
@[simp] theorem watchCount_pageBits (input k : Nat) : (watchCount s input k).pageBits = s.pageBits := rfl
@[simp] theorem watchCount_copyPages (input k : Nat) : (watchCount s input k).copyPages = s.copyPages := rfl
@[simp] theorem watchCount_touches (input k : Nat) : (watchCount s input k).touches = s.touches := rfl
@[simp] theorem watchCount_fired (input k : Nat) : (watchCount s input k).fired = s.fired := rfl
@[simp] theorem watchCount_frees (input k : Nat) : (watchCount s input k).frees = s.frees := rfl
@[simp] theorem watchCount_terrier (input k : Nat) : (watchCount s input k).terrier = s.terrier := rfl
@[simp] theorem watchCount_terrierOld (input k : Nat) : (watchCount s input k).terrierOld = s.terrierOld := rfl
@[simp] theorem watchCount_lanemaps (input k : Nat) : (watchCount s input k).lanemaps = s.lanemaps := rfl
@[simp] theorem watchCount_groups (input k : Nat) : (watchCount s input k).groups = s.groups := rfl
@[simp] theorem watchCount_staleAt (input k : Nat) : (watchCount s input k).staleAt = s.staleAt := rfl
@[simp] theorem watchCount_ports (input k : Nat) : (watchCount s input k).ports = s.ports := rfl
@[simp] theorem watchCount_routers (input k : Nat) : (watchCount s input k).routers = s.routers := rfl
@[simp] theorem watchCount_routeSeq (input k : Nat) : (watchCount s input k).routeSeq = s.routeSeq := rfl
@[simp] theorem watchCount_inbox (input k : Nat) : (watchCount s input k).inbox = s.inbox := rfl
@[simp] theorem watchCount_postedErrors (input k : Nat) : (watchCount s input k).postedErrors = s.postedErrors := rfl
@[simp] theorem watchCount_reeveTodo (input k : Nat) : (watchCount s input k).reeveTodo = s.reeveTodo := rfl
@[simp] theorem watchCount_chunks (input k : Nat) : (watchCount s input k).chunks = s.chunks := rfl
@[simp] theorem watchCount_closedChunks (input k : Nat) : (watchCount s input k).closedChunks = s.closedChunks := rfl
@[simp] theorem watchCount_transit (input k : Nat) : (watchCount s input k).transit = s.transit := rfl
@[simp] theorem watchCount_tags (input k : Nat) : (watchCount s input k).tags = s.tags := rfl
@[simp] theorem watchCount_keyDraws (input k : Nat) : (watchCount s input k).keyDraws = s.keyDraws := rfl
@[simp] theorem watchCount_devq (input k : Nat) : (watchCount s input k).devq = s.devq := rfl
@[simp] theorem watchCount_draws (input k : Nat) : (watchCount s input k).draws = s.draws := rfl
@[simp] theorem watchCount_pantryDraw (input k : Nat) : (watchCount s input k).pantryDraw = s.pantryDraw := rfl
@[simp] theorem watchCount_pantryId (input k : Nat) : (watchCount s input k).pantryId = s.pantryId := rfl
@[simp] theorem watchCount_harvest (input k : Nat) : (watchCount s input k).harvest = s.harvest := rfl
@[simp] theorem watchCount_harvestDue (input k : Nat) : (watchCount s input k).harvestDue = s.harvestDue := rfl
@[simp] theorem watchCount_harvestWanted (input k : Nat) : (watchCount s input k).harvestWanted = s.harvestWanted := rfl
@[simp] theorem watchCount_nvme (input k : Nat) : (watchCount s input k).nvme = s.nvme := rfl
@[simp] theorem watchCount_nvmeWait (input k : Nat) : (watchCount s input k).nvmeWait = s.nvmeWait := rfl
@[simp] theorem watchCount_pantryImage (input k : Nat) : (watchCount s input k).pantryImage = s.pantryImage := rfl
@[simp] theorem watchCount_storeImage (input k : Nat) : (watchCount s input k).storeImage = s.storeImage := rfl
@[simp] theorem watchCount_refill (input k : Nat) : (watchCount s input k).refill = s.refill := rfl
@[simp] theorem watchCount_lastRefill (input k : Nat) : (watchCount s input k).lastRefill = s.lastRefill := rfl
@[simp] theorem watchCount_validPages (input k : Nat) : (watchCount s input k).validPages = s.validPages := rfl
@[simp] theorem watchCount_landings (input k : Nat) : (watchCount s input k).landings = s.landings := rfl
@[simp] theorem watchCount_serve (input k : Nat) : (watchCount s input k).serve = s.serve := rfl
@[simp] theorem watchCount_started (input k : Nat) : (watchCount s input k).started = s.started := rfl
@[simp] theorem watchCount_coreReturned (input k : Nat) : (watchCount s input k).coreReturned = s.coreReturned := rfl
@[simp] theorem watchCount_saved (input k : Nat) : (watchCount s input k).saved = s.saved := rfl
@[simp] theorem watchCount_savedDraw (input k : Nat) : (watchCount s input k).savedDraw = s.savedDraw := rfl
@[simp] theorem watchCount_measuring (input k : Nat) : (watchCount s input k).measuring = s.measuring := rfl
@[simp] theorem watchCount_measured (input k : Nat) : (watchCount s input k).measured = s.measured := rfl
@[simp] theorem watchCount_measurements (input k : Nat) : (watchCount s input k).measurements = s.measurements := rfl
@[simp] theorem watchCount_wipes (input k : Nat) : (watchCount s input k).wipes = s.wipes := rfl
@[simp] theorem watchCount_tests (input k : Nat) : (watchCount s input k).tests = s.tests := rfl
@[simp] theorem watchCount_remaps (input k : Nat) : (watchCount s input k).remaps = s.remaps := rfl
@[simp] theorem watchCount_refreshing (input k : Nat) : (watchCount s input k).refreshing = s.refreshing := rfl
@[simp] theorem watchCount_hotFp (input k : Nat) : (watchCount s input k).hotFp = s.hotFp := rfl
@[simp] theorem watchCount_hotNext (input k : Nat) : (watchCount s input k).hotNext = s.hotNext := rfl
@[simp] theorem watchCount_waiting (input k : Nat) : (watchCount s input k).waiting = s.waiting := rfl
@[simp] theorem watchCount_throttles (input k : Nat) : (watchCount s input k).throttles = s.throttles := rfl
@[simp] theorem watchCount_wear (input k : Nat) : (watchCount s input k).wear = s.wear := rfl
@[simp] theorem watchCount_wearStored (input k : Nat) : (watchCount s input k).wearStored = s.wearStored := rfl
@[simp] theorem watchCount_socs (input k : Nat) : (watchCount s input k).socs = s.socs := rfl
@[simp] theorem watchCount_pkgEst (input k : Nat) : (watchCount s input k).pkgEst = s.pkgEst := rfl
@[simp] theorem watchCount_estNext (input k : Nat) : (watchCount s input k).estNext = s.estNext := rfl
@[simp] theorem watchCount_activity (input k : Nat) : (watchCount s input k).activity = s.activity := rfl
@[simp] theorem watchCount_energy (input k : Nat) : (watchCount s input k).energy = s.energy := rfl
@[simp] theorem watchCount_curfew (input k : Nat) : (watchCount s input k).curfew = s.curfew := rfl
@[simp] theorem watchCount_msixOpen (input k : Nat) : (watchCount s input k).msixOpen = s.msixOpen := rfl
@[simp] theorem watchCount_msixPending (input k : Nat) : (watchCount s input k).msixPending = s.msixPending := rfl
@[simp] theorem watchCount_bar4 (input k : Nat) : (watchCount s input k).bar4 = s.bar4 := rfl
@[simp] theorem watchCount_aer (input k : Nat) : (watchCount s input k).aer = s.aer := rfl
@[simp] theorem watchCount_hostReads (input k : Nat) : (watchCount s input k).hostReads = s.hostReads := rfl
@[simp] theorem watchCount_nextRead (input k : Nat) : (watchCount s input k).nextRead = s.nextRead := rfl
@[simp] theorem watchCount_hostDirty (input k : Nat) : (watchCount s input k).hostDirty = s.hostDirty := rfl
@[simp] theorem watchCount_mgmt (input k : Nat) : (watchCount s input k).mgmt = s.mgmt := rfl
@[simp] theorem watchCount_fw (input k : Nat) : (watchCount s input k).fw = s.fw := rfl
@[simp] theorem watchCount_firmware (input k : Nat) : (watchCount s input k).firmware = s.firmware := rfl
@[simp] theorem watchCount_booted (input k : Nat) : (watchCount s input k).booted = s.booted := rfl
@[simp] theorem watchCount_spdm (input k : Nat) : (watchCount s input k).spdm = s.spdm := rfl
@[simp] theorem watchCount_spdmHeard (input k : Nat) : (watchCount s input k).spdmHeard = s.spdmHeard := rfl
@[simp] theorem watchCount_evqSent (input k : Nat) : (watchCount s input k).evqSent = s.evqSent := rfl
@[simp] theorem watchCount_evqWait (input k : Nat) : (watchCount s input k).evqWait = s.evqWait := rfl
@[simp] theorem watchCount_jtag (input k : Nat) : (watchCount s input k).jtag = s.jtag := rfl
@[simp] theorem watchCount_boundary (input k : Nat) : (watchCount s input k).boundary = s.boundary := rfl
@[simp] theorem watchCount_bypass (input k : Nat) : (watchCount s input k).bypass = s.bypass := rfl
@[simp] theorem watchCount_scanTest (input k : Nat) : (watchCount s input k).scanTest = s.scanTest := rfl
@[simp] theorem watchCount_checks (input k : Nat) : (watchCount s input k).checks = s.checks := rfl
@[simp] theorem watchCount_stackHeld (input k : Nat) : (watchCount s input k).stackHeld = s.stackHeld := rfl
@[simp] theorem watchCount_dawnOf (input k : Nat) : (watchCount s input k).dawnOf = s.dawnOf := rfl
@[simp] theorem watchCount_partDawn (input k : Nat) : (watchCount s input k).partDawn = s.partDawn := rfl
@[simp] theorem watchCount_partWaiting (input k : Nat) : (watchCount s input k).partWaiting = s.partWaiting := rfl
@[simp] theorem watchCount_railOut (input k : Nat) : (watchCount s input k).railOut = s.railOut := rfl
@[simp] theorem watchCount_panPerst (input k : Nat) : (watchCount s input k).panPerst = s.panPerst := rfl
@[simp] theorem watchCount_refclkLost (input k : Nat) : (watchCount s input k).refclkLost = s.refclkLost := rfl
@[simp] theorem watchCount_perstLow (input k : Nat) : (watchCount s input k).perstLow = s.perstLow := rfl
@[simp] theorem watchCount_powerStep (input k : Nat) : (watchCount s input k).powerStep = s.powerStep := rfl
@[simp] theorem watchCount_outputs (input k : Nat) : (watchCount s input k).outputs = s.outputs := rfl

end Sys2Proof.Machine
end

