-- ==== Sys2Proof/Laws/Table.lean ====
section
/-!
SUPPORT. Reading a sparse table after writing it, and the canonical form that every write keeps. The reads hold of every
list, in canonical form or not.
-/
namespace Sys2Proof.Machine

variable {α : Type}

@[simp] theorem tget_nil (d : α) (k : Nat) : tget d k [] = d := rfl

theorem tget_tdrop_ne (d : α) {k j : Nat} (h : j ≠ k) : ∀ t : Table α, tget d j (tdrop k t) = tget d j t
  | [] => rfl
  | (i, v) :: t => by
    have ih := tget_tdrop_ne d h t
    by_cases hk : k = i
    · subst hk; simp [tdrop, tget, h, ih]
    · simp [tdrop, tget, hk, ih]

@[simp] theorem tget_tdrop_same (d : α) (k : Nat) : ∀ t : Table α, tget d k (tdrop k t) = d
  | [] => rfl
  | (i, v) :: t => by
    have ih := tget_tdrop_same d k t
    by_cases hk : k = i
    · subst hk; simp [tdrop, ih]
    · simp [tdrop, tget, hk, ih]

theorem tget_tput_ne (d v : α) {k j : Nat} (h : j ≠ k) : ∀ t : Table α, tget d j (tput k v t) = tget d j t
  | [] => by simp [tput, tget, h]
  | (i, w) :: t => by
    have ih := tget_tput_ne d v h t
    by_cases hk : k < i
    · simp [tput, tget, hk, h]
    · simp [tput, tget, hk, ih]

theorem tget_tput_tdrop (d v : α) (k : Nat) : ∀ t : Table α, tget d k (tput k v (tdrop k t)) = v
  | [] => by simp [tdrop, tput, tget]
  | (i, w) :: t => by
    have ih := tget_tput_tdrop d v k t
    by_cases hk : k = i
    · subst hk; simp [tdrop, ih]
    · by_cases hl : k < i
      · simp [tdrop, tput, tget, hk, hl]
      · simp [tdrop, tput, tget, hk, hl, ih]

/-- A read of the key written. -/
@[simp] theorem tget_tset_same [DecidableEq α] (d : α) (k : Nat) (v : α) (t : Table α) : tget d k (tset d k v t) = v := by
  by_cases h : v = d
  · subst h; simp [tset]
  · simp [tset, h, tget_tput_tdrop]

/-- A read of another key. -/
theorem tget_tset_ne [DecidableEq α] (d d' v : α) {k j : Nat} (h : j ≠ k) (t : Table α) :
    tget d j (tset d' k v t) = tget d j t := by
  by_cases hv : v = d'
  · simp [tset, hv, tget_tdrop_ne d h]
  · simp [tset, hv, tget_tput_ne d v h, tget_tdrop_ne d h]

theorem twfFrom_mono [DecidableEq α] (d : Nat → α) {lo lo' : Nat} (h : lo' ≤ lo) :
    ∀ {t : Table α}, twfFrom d lo t = true → twfFrom d lo' t = true
  | [], _ => rfl
  | (k, v) :: t, ht => by
    simp only [twfFrom, Bool.and_eq_true, decide_eq_true_eq] at ht ⊢
    exact ⟨⟨by omega, ht.1.2⟩, ht.2⟩

theorem twfFrom_tdrop [DecidableEq α] (d : Nat → α) (k : Nat) :
    ∀ {lo : Nat} {t : Table α}, twfFrom d lo t = true → twfFrom d lo (tdrop k t) = true
  | _, [], _ => rfl
  | lo, (i, v) :: t, ht => by
    simp only [twfFrom, Bool.and_eq_true, decide_eq_true_eq] at ht
    have ih := twfFrom_tdrop d k ht.2
    by_cases hk : k = i
    · simp only [tdrop, hk, if_true]; subst hk; exact twfFrom_mono d (by omega) ih
    · simp only [tdrop, hk, if_false, twfFrom, Bool.and_eq_true, decide_eq_true_eq]; exact ⟨ht.1, ih⟩

theorem twfFrom_tput [DecidableEq α] (d : Nat → α) {k : Nat} {v : α} (hv : v ≠ d k) :
    ∀ {lo : Nat} {t : Table α}, lo ≤ k → twfFrom d lo (tdrop k t) = true → twfFrom d lo (tput k v (tdrop k t)) = true
  | lo, [], hl, _ => by simp [tdrop, tput, twfFrom, hl, hv]
  | lo, (i, w) :: t, hl, ht => by
    by_cases hk : k = i
    · simp only [tdrop, hk, if_true] at ht ⊢; subst hk; exact twfFrom_tput d hv hl ht
    · simp only [tdrop, hk, if_false, twfFrom, Bool.and_eq_true, decide_eq_true_eq] at ht
      by_cases hlt : k < i
      · simp only [tdrop, hk, if_false, tput, hlt, if_true, twfFrom, Bool.and_eq_true, decide_eq_true_eq]
        exact ⟨⟨hl, hv⟩, ⟨by omega, ht.1.2⟩, ht.2⟩
      · simp only [tdrop, hk, if_false, tput, hlt, twfFrom, Bool.and_eq_true, decide_eq_true_eq]
        exact ⟨ht.1, twfFrom_tput d hv (by omega) ht.2⟩

/-- A write keeps the canonical form. -/
theorem twf_tset [DecidableEq α] (d : Nat → α) (k : Nat) (v : α) {t : Table α} (h : twf d t = true) :
    twf d (tset (d k) k v t) = true := by
  by_cases hv : v = d k
  · simp only [tset, hv, if_true]; exact twfFrom_tdrop d k h
  · simp only [tset, hv, if_false]; exact twfFrom_tput d hv (Nat.zero_le k) (twfFrom_tdrop d k h)

/-- A table whose entries are chosen by their keys and values keeps the canonical form. -/
theorem twf_filter [DecidableEq α] (d : Nat → α) (p : Nat × α → Bool) :
    ∀ {lo : Nat} {t : Table α}, twfFrom d lo t = true → twfFrom d lo (t.filter p) = true
  | _, [], _ => rfl
  | lo, (i, v) :: t, ht => by
    simp only [twfFrom, Bool.and_eq_true, decide_eq_true_eq] at ht
    have ih := twf_filter d p ht.2
    by_cases hp : p (i, v) = true
    · simp only [List.filter_cons, hp, if_true, twfFrom, Bool.and_eq_true, decide_eq_true_eq]; exact ⟨ht.1, ih⟩
    · simp only [List.filter_cons, hp]; exact twfFrom_mono d (by omega) ih

/-- A changed table is in canonical form whatever it was. -/
theorem twf_tmap [DecidableEq α] (d : Nat → α) (f : Nat → α → α) : ∀ t : Table α, twf d (tmap d f t) = true
  | [] => rfl
  | (k, v) :: t => twf_tset d k (f k v) (twf_tmap d f t)

end Sys2Proof.Machine
end

