-- ==== Sys2Proof/Laws/Memory.lean ====
section
/-!
SUPPORT. Memory: a read of a byte after a write, the canonical form that every memory operation keeps, and what an access of
the controller leaves as it was.
-/
namespace Sys2Proof.Machine

/-! ## Bytes -/

/-- A byte outside the ones written reads as before. -/
theorem cellAt_setCells_ne : ∀ (n : Nat) (m : List Host.Cell) (a v x : Nat), x < a ∨ a + n ≤ x →
    cellAt x (setCells m a n v) = cellAt x m
  | 0, _, _, _, _, _ => rfl
  | n + 1, m, a, v, x, h => by
    rw [setCells, cellAt_setCells_ne n _ (a + 1) _ x (by omega)]
    exact tget_tset_ne 0 0 _ (by omega) m

/-- Byte `i` of the ones written. -/
theorem cellAt_setCells_in : ∀ (n : Nat) (m : List Host.Cell) (a v i : Nat), i < n →
    cellAt (a + i) (setCells m a n v) = BitVec.ofNat 8 (v / 256 ^ i)
  | 0, _, _, _, _, h => absurd h (Nat.not_lt_zero _)
  | n + 1, m, a, v, 0, _ => by
    rw [setCells, cellAt_setCells_ne n _ (a + 1) _ (a + 0) (by omega)]
    simp [cellAt]
  | n + 1, m, a, v, i + 1, h => by
    rw [setCells, show a + (i + 1) = a + 1 + i by omega, cellAt_setCells_in n _ (a + 1) (v / 256) i (by omega), Nat.div_div_eq_div_mul,
      ← Nat.pow_succ']

/-- The bytes of a range as one number, when they read alike. -/
theorem cellsNat_congr {m m' : List Host.Cell} : ∀ (n a : Nat), (∀ x, a ≤ x → x < a + n → cellAt x m = cellAt x m') →
    cellsNat m a n = cellsNat m' a n
  | 0, _, _ => rfl
  | n + 1, a, h => by
    rw [cellsNat, cellsNat, h a (by omega) (by omega), cellsNat_congr n (a + 1) (fun x h1 h2 => h x (by omega) (by omega))]

/-- The bytes just written, as one number. -/
theorem cellsNat_setCells : ∀ (n : Nat) (m : List Host.Cell) (a v : Nat), cellsNat (setCells m a n v) a n = v % 256 ^ n
  | 0, _, _, v => by simp [cellsNat, Nat.mod_one]
  | n + 1, m, a, v => by
    have h0 := cellAt_setCells_in (n + 1) m a v 0 (by omega)
    rw [cellsNat, show cellAt a (setCells m a (n + 1) v) = BitVec.ofNat 8 v by simpa using h0, setCells, cellsNat_setCells n,
      Nat.pow_succ', Nat.mod_mul]
    simp

/-- Bytes outside the written range, as one number. -/
theorem cellsNat_setCells_ne {k : Nat} (m : List Host.Cell) (a n v x : Nat) (h : x + k ≤ a ∨ a + n ≤ x) :
    cellsNat (setCells m a n v) x k = cellsNat m x k :=
  cellsNat_congr k x (fun y h1 h2 => cellAt_setCells_ne n m a v y (by omega))

/-- Writing bytes keeps the canonical form. -/
theorem twf_setCells : ∀ (n : Nat) (m : List Host.Cell) (a v : Nat), twf (fun _ => (0 : Byte)) m = true →
    twf (fun _ => (0 : Byte)) (setCells m a n v) = true
  | 0, _, _, _, h => h
  | n + 1, _, a, v, h => twf_setCells n _ (a + 1) (v / 256) (twf_tset (fun _ => (0 : Byte)) a _ h)

/-! ## Codewords -/

/-- A codeword read back. -/
theorem rawWord_setRawWord (s : State) (w v : Nat) : rawWord (setRawWord s w v) w = v % 2 ^ 144 := by
  rw [rawWord, setRawWord]
  simp only [cellsNat_setCells]
  norm_num
  omega

/-- Another codeword is as it was. -/
theorem rawWord_setRawWord_ne (s : State) {w w' : Nat} (v : Nat) (h : w' ≠ w) :
    rawWord (setRawWord s w v) w' = rawWord s w' := by
  rw [rawWord, setRawWord]
  simp only
  rw [cellsNat_setCells_ne _ _ _ _ _ (by omega), cellsNat_setCells_ne _ _ _ _ _ (by omega), rawWord]

/-- The two memories are the same in the two states. -/
def memEq (s t : State) : Prop := t.mem = s.mem ∧ t.chk = s.chk

theorem memEq.wf {s t : State} (h : memEq s t) (hs : Memory.wf s) : Memory.wf t := by
  unfold Memory.wf; rw [h.1, h.2]; exact hs

theorem memEq.trans {s t u : State} (h : memEq s t) (k : memEq t u) : memEq s u := ⟨k.1.trans h.1, k.2.trans h.2⟩

theorem memEq_ite {s t u : State} {p : Prop} [Decidable p] (h : memEq s t) (k : memEq s u) : memEq s (if p then t else u) := by
  by_cases hp : p
  · rw [if_pos hp]; exact h
  · rw [if_neg hp]; exact k

theorem memEq_setReg (s : State) (b : Block) (i off : Nat) (v : Word) : memEq s (setReg s b i off v) := ⟨rfl, rfl⟩
theorem memEq_setRf (s : State) (b : Block) (i off lo w x : Nat) : memEq s (setRf s b i off lo w x) := ⟨rfl, rfl⟩
theorem memEq_setRbit (s : State) (b : Block) (i off k : Nat) (v : Bool) : memEq s (setRbit s b i off k v) := ⟨rfl, rfl⟩
theorem memEq_incReg (s : State) (b : Block) (i off : Nat) : memEq s (incReg s b i off) := ⟨rfl, rfl⟩
theorem memEq_emit (s : State) (o : Output) : memEq s (emit s o) := ⟨rfl, rfl⟩

theorem memEq_sendMsix (s : State) (fn v : Nat) : memEq s (sendMsix s fn v) := memEq_ite (memEq_emit s _) ⟨rfl, rfl⟩

theorem memEq_msixOnRise (s : State) (b : Block) (i : Nat) (w : Word) : memEq s (msixOnRise s b i w) :=
  memEq_ite ⟨rfl, rfl⟩ (memEq_sendMsix s _ _)

/-- An interrupt leaves memory alone. -/
theorem memEq_raiseInt (s : State) (b : Block) (i k : Nat) : memEq s (raiseInt s b i k) :=
  (memEq_setRbit s b i _ k true).trans (memEq_msixOnRise _ b i _)

theorem memEq_errSummary (s : State) (b : Block) (i : Nat) : memEq s (errSummary s b i) := memEq_setRbit s b i _ 31 _

/-- A record counted leaves memory alone. -/
theorem memEq_countRecord (s : State) (b : Block) (i code : Nat) (detail : Word) : memEq s (countRecord s b i code detail) := by
  have h1 : memEq s (incReg (setRbit s b i Off.err (code - 1) true) b i Off.eventCount) :=
    (memEq_setRbit s b i _ _ true).trans (memEq_incReg _ b i _)
  unfold countRecord
  simp only
  refine memEq.trans ?_ (memEq_errSummary _ b i)
  exact h1.trans (memEq_ite ((memEq_setRf _ b i _ 0 8 code).trans (memEq_setReg _ b i _ detail)) ⟨rfl, rfl⟩)

/-- A page's record leaves memory alone. -/
theorem memEq_pageRecord (s : State) (b : Block) (i code : Nat) (detail : Word) : memEq s (pageRecord s b i code detail) :=
  (memEq_countRecord s b i code detail).trans (memEq_msixOnRise _ b i _)

/-- The device queue leaves memory alone. -/
theorem memEq_devqPush (s : State) (r : DWord) : memEq s (devqPush s r) := by
  refine memEq_ite (memEq_incReg s _ _ _) (memEq_ite ?_ ⟨rfl, rfl⟩)
  exact memEq.trans (t := setReg { s with devq := _ } .reeve 0 Off.reeveDevqTail _) ⟨rfl, rfl⟩ (memEq_raiseInt _ _ _ _)

theorem memEq_deviceRecord (s : State) (b : Block) (i cls code unit : Nat) (detail : Word) :
    memEq s (deviceRecord s b i cls code unit detail) :=
  (memEq_pageRecord s b i code detail).trans (memEq_devqPush _ _)

/-- An uncorrectable read leaves memory alone. -/
theorem memEq_memUncorrectable (s : State) (p : Place) : memEq s (memUncorrectable s p) :=
  (memEq_incReg s _ _ _).trans (memEq_deviceRecord _ _ _ _ _ _ _)

/-- A corrected codeword is all that a correction writes. -/
theorem memEq_memCorrected (s : State) (p : Place) (w v : Nat) : memEq (setRawWord s w v) (memCorrected s p w v) := by
  have h := fun k : Nat => memEq_incReg (setRawWord s w v) p.page.1 p.page.2 k
  have k : ∀ u : State, memEq u (watchCount u 0 1) := fun _ => ⟨rfl, rfl⟩
  have q : ∀ (u : State) (c : Table Nat), memEq u { u with correctedAt := c } := fun _ _ => ⟨rfl, rfl⟩
  unfold memCorrected
  simp only
  split
  · exact (((h _).trans (k _)).trans (q _ _)).trans (memEq_deviceRecord _ _ _ _ _ _ _)
  · exact (h _).trans (k _)

/-- What a read of a codeword can do to the memories: nothing, or write the corrected codeword back (R207, R208). -/
theorem readWord_cases (s : State) (slot w : Nat) :
    memEq s (readWord s slot w).1 ∨ ∃ v, decodeWord (rawWord s w) = .corrected v ∧ memEq (setRawWord s w v) (readWord s slot w).1 := by
  unfold readWord
  split
  · exact .inl ⟨rfl, rfl⟩
  · rename_i p _
    simp only
    split
    · exact .inl (memEq_memUncorrectable s p)
    · split
      · exact .inl ⟨rfl, rfl⟩
      · rename_i v hv; exact .inr ⟨v, hv, memEq_memCorrected s p w v⟩
      · exact .inl (memEq_memUncorrectable s p)

/-- What a store of a codeword can do to the memories: nothing, where nothing is mapped or the footprint is fenced, or write the
codeword (R205, R210, R230). -/
theorem storeWord_cases (s : State) (slot w data : Nat) :
    memEq s (storeWord s slot w data)
      ∨ ∃ p, placeOf (16 * w) = some p
          ∧ memEq (setRawWord s w (encodeWord (encryptWord s p w slot data))) (storeWord s slot w data) := by
  unfold storeWord
  split
  · exact .inl ⟨rfl, rfl⟩
  · rename_i p hp
    by_cases ho : p.offline s = true
    · rw [if_pos ho]; exact .inl ⟨rfl, rfl⟩
    · rw [if_neg ho]
      exact .inr ⟨p, hp, memEq_ite (p := p.encrypted = true) (t := setPageWritten _ _ true) ⟨rfl, rfl⟩ ⟨rfl, rfl⟩⟩

/-! ## The canonical form -/

theorem wf_setRawWord {s : State} (h : Memory.wf s) (w v : Nat) : Memory.wf (setRawWord s w v) :=
  ⟨twf_setCells 16 _ _ _ h.1, twf_setCells 2 _ _ _ h.2⟩

theorem wf_readWord {s : State} (h : Memory.wf s) (slot w : Nat) : Memory.wf (readWord s slot w).1 := by
  rcases readWord_cases s slot w with e | ⟨v, _, e⟩
  · exact e.wf h
  · exact e.wf (wf_setRawWord h w v)

theorem wf_storeWord {s : State} (h : Memory.wf s) (slot w data : Nat) : Memory.wf (storeWord s slot w data) := by
  rcases storeWord_cases s slot w data with e | ⟨p, _, e⟩
  · exact e.wf h
  · exact e.wf (wf_setRawWord h w _)

theorem wf_writeWord {s : State} (h : Memory.wf s) (slot w data mask : Nat) : Memory.wf (writeWord s slot w data mask) := by
  unfold writeWord
  by_cases h1 : mask % 2 ^ 16 = 2 ^ 16 - 1
  · rw [if_pos h1]; exact wf_storeWord h slot w data
  · rw [if_neg h1]
    by_cases h2 : mask % 2 ^ 16 = 0
    · rw [if_pos h2]; exact h
    · rw [if_neg h2]; exact wf_storeWord (wf_readWord h slot w) slot w _

theorem wf_readWords : ∀ (n : Nat) {s : State}, Memory.wf s → ∀ slot w, Memory.wf (readWords s slot n w).1
  | 0, _, h, _, _ => h
  | n + 1, _, h, slot, w => wf_readWords n (wf_readWord h slot w) slot (w + 1)

/-- A read keeps the canonical form. -/
theorem wf_readMem {s : State} (h : Memory.wf s) (slot a n : Nat) : Memory.wf (readMem s slot a n).1 := by
  unfold readMem
  by_cases h0 : n = 0
  · rw [if_pos h0]; exact h
  · rw [if_neg h0]; exact wf_readWords _ h slot _

theorem wf_writeWords : ∀ (n : Nat) {s : State}, Memory.wf s → ∀ slot w v mask, Memory.wf (writeWords s slot n w v mask)
  | 0, _, h, _, _, _, _ => h
  | n + 1, _, h, slot, w, v, mask => wf_writeWords n (wf_writeWord h slot w (v % 2 ^ 128) (mask % 2 ^ 16)) slot (w + 1) _ _

/-- A write keeps the canonical form. -/
theorem wf_writeMem {s : State} (h : Memory.wf s) (slot a n v : Nat) : Memory.wf (writeMem s slot a n v) := by
  unfold writeMem
  by_cases h0 : n = 0
  · rw [if_pos h0]; exact h
  · rw [if_neg h0]; exact wf_writeWords _ h slot _ _ _

/-- An atomic keeps the canonical form. -/
theorem wf_atomicMem {s : State} (h : Memory.wf s) (key a n aop x y : Nat) : Memory.wf (atomicMem s key a n aop x y).1 := by
  have hr := wf_readMem h key a n
  unfold atomicMem
  simp only
  split
  · exact hr
  · split
    · exact wf_writeMem hr key a n _
    · exact hr

/-- A zero-fill keeps the canonical form. -/
theorem wf_zeroFill {s : State} (h : Memory.wf s) (lo hi : Nat) : Memory.wf (zeroFill s lo hi) :=
  ⟨twf_filter _ _ h.1, twf_filter _ _ h.2⟩

/-- The zero-fill engine on written pages keeps the canonical form. -/
theorem wf_wipeWritten {s : State} (h : Memory.wf s) (lo hi : Nat) : Memory.wf (wipeWritten s lo hi) :=
  ⟨twf_filter _ _ h.1, twf_filter _ _ h.2⟩

/-- Memory is in canonical form after reset. -/
theorem wf_reset : Memory.wf State.reset := ⟨rfl, rfl⟩

/-! ## What an access leaves as it was -/

/-- A byte of a codeword that is not written reads as before. -/
theorem cellAt_setRawWord_ne (s : State) {w a : Nat} (v : Nat) (h : a / 16 ≠ w) :
    cellAt a (setRawWord s w v).mem = cellAt a s.mem := cellAt_setCells_ne 16 _ _ _ _ (by omega)

theorem cellAt_readWord_ne (s : State) (slot : Nat) {w a : Nat} (h : a / 16 ≠ w) :
    cellAt a (readWord s slot w).1.mem = cellAt a s.mem := by
  rcases readWord_cases s slot w with e | ⟨v, _, e⟩
  · rw [e.1]
  · rw [e.1, cellAt_setRawWord_ne s v h]

theorem cellAt_storeWord_ne (s : State) (slot data : Nat) {w a : Nat} (h : a / 16 ≠ w) :
    cellAt a (storeWord s slot w data).mem = cellAt a s.mem := by
  rcases storeWord_cases s slot w data with e | ⟨p, _, e⟩
  · rw [e.1]
  · rw [e.1, cellAt_setRawWord_ne s _ h]

theorem cellAt_writeWord_ne (s : State) (slot data mask : Nat) {w a : Nat} (h : a / 16 ≠ w) :
    cellAt a (writeWord s slot w data mask).mem = cellAt a s.mem := by
  unfold writeWord
  by_cases h1 : mask % 2 ^ 16 = 2 ^ 16 - 1
  · rw [if_pos h1, cellAt_storeWord_ne s slot data h]
  · rw [if_neg h1]
    by_cases h2 : mask % 2 ^ 16 = 0
    · rw [if_pos h2]
    · rw [if_neg h2]
      simp only
      rw [cellAt_storeWord_ne _ slot _ h, cellAt_readWord_ne s slot h]

theorem cellAt_writeWords_ne : ∀ (n : Nat) (s : State) (slot w v mask a : Nat), a / 16 < w ∨ w + n ≤ a / 16 →
    cellAt a (writeWords s slot n w v mask).mem = cellAt a s.mem
  | 0, _, _, _, _, _, _, _ => rfl
  | n + 1, s, slot, w, v, mask, a, h => by
    rw [writeWords, cellAt_writeWords_ne n _ slot (w + 1) _ _ a (by omega), cellAt_writeWord_ne s slot _ _ (by omega)]

/-- A write leaves every byte outside its codewords as it was (R200). -/
theorem cellAt_writeMem_ne (s : State) (slot x n v a : Nat) (h : a / 16 < x / 16 ∨ (x + n - 1) / 16 < a / 16) :
    cellAt a (writeMem s slot x n v).mem = cellAt a s.mem := by
  unfold writeMem
  by_cases h0 : n = 0
  · rw [if_pos h0]
  · rw [if_neg h0]
    have : x / 16 ≤ (x + n - 1) / 16 := Nat.div_le_div_right (by omega)
    exact cellAt_writeWords_ne _ s slot _ _ _ a (by omega)

/-! ## The memory code and encryption (R202 to R210) -/

/-- The sums depend on the symbols they take alone. -/
theorem codeSum_congr {w w' : Nat} : ∀ n, (∀ k, k < n → codeSymbol w k = codeSymbol w' k) → codeSum w n = codeSum w' n
  | 0, _ => rfl
  | n + 1, h => by
    rw [codeSum, codeSum, codeSum_congr n (fun k hk => h k (by omega)), h n (by omega)]

/-- A product of symbols is a symbol. -/
theorem gfMul_lt {a : Nat} (h : a < 16) (b : Nat) : gfMul a b < 16 := by
  have hd : ∀ x, x < 16 → gfDouble x < 16 := by decide
  have hi : ∀ (p : Bool) x, x < 16 → (if p = true then x else 0) < 16 := by intro p x hx; split <;> omega
  have hx : ∀ x y, x < 16 → y < 16 → x ^^^ y < 16 := fun x y p q => Nat.xor_lt_two_pow (n := 4) p q
  exact hx _ _ (hx _ _ (hx _ _ (hi _ _ h) (hi _ _ (hd _ h))) (hi _ _ (hd _ (hd _ h)))) (hi _ _ (hd _ (hd _ (hd _ h))))

/-- The sums are symbols. -/
theorem codeSum_lt (w : Nat) : ∀ n, n ≤ 36 →
    (codeSum w n).1 < 16 ∧ (codeSum w n).2.1 < 16 ∧ (codeSum w n).2.2.1 < 16 ∧ (codeSum w n).2.2.2 < 16
  | 0, _ => by simp [codeSum]
  | n + 1, h => by
    obtain ⟨h0, h1, h2, h3⟩ := codeSum_lt w n (by omega)
    have hp : ∀ n, n < 36 → quadForm (codePair n).1 (codePair n).2 < 16 ∧ (codePair n).1 < 16 ∧ (codePair n).2 < 16 := by decide
    obtain ⟨q, a, b⟩ := hp n (by omega)
    have hx : ∀ x y, x < 16 → y < 16 → x ^^^ y < 16 := fun x y p q => Nat.xor_lt_two_pow (n := 4) p q
    have hs : codeSymbol w n < 16 := Nat.mod_lt _ (by decide)
    exact ⟨hx _ _ h0 hs, hx _ _ h1 (gfMul_lt q _), hx _ _ h2 (gfMul_lt a _), hx _ _ h3 (gfMul_lt b _)⟩

/-- A data symbol of a codeword. -/
theorem codeSymbol_low (d c k : Nat) (h : k < 32) : codeSymbol (d % 2 ^ 128 + 2 ^ 128 * c) k = codeSymbol d k := by
  apply Nat.eq_of_testBit_eq
  intro i
  unfold codeSymbol
  rw [testBit_fld, testBit_fld]
  by_cases hi : i < 4
  · rw [Nat.add_comm, Nat.testBit_two_pow_mul_add _ (Nat.mod_lt _ (Nat.two_pow_pos _))]
    have : 4 * k + i < 128 := by omega
    rw [Nat.testBit_mod_two_pow]
    simp [hi, this]
  · simp [hi]

/-- A check symbol of a codeword. -/
theorem codeSymbol_high (d c k : Nat) : codeSymbol (d % 2 ^ 128 + 2 ^ 128 * c) (32 + k) = codeSymbol c k := by
  have h : (d % 2 ^ 128 + 2 ^ 128 * c) >>> 128 = c := by
    rw [Nat.shiftRight_eq_div_pow, Nat.add_mul_div_left _ _ (Nat.two_pow_pos _),
      Nat.div_eq_of_lt (Nat.mod_lt _ (Nat.two_pow_pos _)), Nat.zero_add]
  unfold codeSymbol fld
  rw [show 4 * (32 + k) = 128 + 4 * k by omega, Nat.shiftRight_add, h]

/-- One more symbol taken. -/
theorem codeSum_succ (w n : Nat) : codeSum w (n + 1) =
    ((codeSum w n).1 ^^^ codeSymbol w n,
      (codeSum w n).2.1 ^^^ gfMul (quadForm (codePair n).1 (codePair n).2) (codeSymbol w n),
      (codeSum w n).2.2.1 ^^^ gfMul (codePair n).1 (codeSymbol w n),
      (codeSum w n).2.2.2 ^^^ gfMul (codePair n).2 (codeSymbol w n)) := rfl

/-- The sums of a codeword just encoded are 0 (R203 to R205). -/
theorem codeSum_encodeWord (d : Nat) : codeSum (encodeWord d) 36 = (0, 0, 0, 0) := by
  obtain ⟨h0, h1, h2, h3⟩ := codeSum_lt d 32 (by omega)
  have hlow : codeSum (encodeWord d) 32 = codeSum d 32 := codeSum_congr 32 (fun k hk => codeSymbol_low d _ k hk)
  have hx : ∀ x y, x < 16 → y < 16 → x ^^^ y < 16 := fun x y p q => Nat.xor_lt_two_pow (n := 4) p q
  have hch : ∀ k, codeSymbol (encodeWord d) (32 + k) = codeSymbol (checkSymbols d) k := fun k => codeSymbol_high d _ k
  rcases ht : codeSum d 32 with ⟨t0, t1, t2, t3⟩
  rw [ht] at h0 h1 h2 h3
  simp only at h0 h1 h2 h3
  have hc : checkSymbols d = (t0 ^^^ t1 ^^^ gfMul 9 t3) + 16 * (t1 ^^^ gfMul 8 t3) + 256 * (t1 ^^^ t2 ^^^ gfMul 9 t3)
      + 4096 * (t1 ^^^ t2 ^^^ gfMul 8 t3) := by
    unfold checkSymbols; rw [ht]
  have h9 : gfMul 9 t3 < 16 := gfMul_lt (by decide) _
  have h8 : gfMul 8 t3 < 16 := gfMul_lt (by decide) _
  have h98 : ∀ t, t < 16 → gfMul 9 t ^^^ gfMul 8 t = t := by decide
  have hmul : ∀ p, p < 16 → ∀ q, q < 16 → gfMul 8 p ^^^ gfMul 8 q = gfMul 8 (p ^^^ q) := by decide
  have h1m : ∀ p, p < 16 → gfMul 1 p = p ∧ gfMul 0 p = 0 := by decide
  have hs := h98 t3 h3
  generalize gfMul 9 t3 = a at *
  generalize hb : gfMul 8 t3 = b at *
  have p0 := hx _ _ (hx _ _ h0 h1) h9
  have p1 := hx _ _ h1 h8
  have p2 := hx _ _ (hx _ _ h1 h2) h9
  have p3 := hx _ _ (hx _ _ h1 h2) h8
  have e := hmul _ p2 _ p3
  have e2 : (t1 ^^^ t2 ^^^ a) ^^^ (t1 ^^^ t2 ^^^ b) = t3 := by
    rw [← hs]; apply Nat.eq_of_testBit_eq; intro i; simp only [Nat.testBit_xor]
    cases t1.testBit i <;> cases t2.testBit i <;> simp
  rw [e2, hb] at e
  have e0 : t0 ^^^ (t0 ^^^ t1 ^^^ a) ^^^ (t1 ^^^ b) ^^^ (t1 ^^^ t2 ^^^ a) ^^^ (t1 ^^^ t2 ^^^ b) = 0 := by
    apply Nat.eq_of_testBit_eq; intro i; simp only [Nat.testBit_xor, Nat.zero_testBit]
    cases t0.testBit i <;> cases t1.testBit i <;> cases t2.testBit i <;> cases a.testBit i <;> cases b.testBit i <;> rfl
  have e3 : t2 ^^^ (t1 ^^^ b) ^^^ (t1 ^^^ t2 ^^^ b) = 0 := by
    apply Nat.eq_of_testBit_eq; intro i; simp only [Nat.testBit_xor, Nat.zero_testBit]
    cases t1.testBit i <;> cases t2.testBit i <;> cases b.testBit i <;> rfl
  generalize t0 ^^^ t1 ^^^ a = q0 at *
  generalize t1 ^^^ t2 ^^^ a = q2 at *
  generalize t1 ^^^ t2 ^^^ b = q3 at *
  have hq1 : t1 ^^^ (t1 ^^^ b) = b := by simp
  generalize t1 ^^^ b = q1 at *
  have s0 : codeSymbol (checkSymbols d) 0 = q0 := by
    rw [hc]; simp only [codeSymbol, fld, Nat.shiftRight_eq_div_pow]; omega
  have s1 : codeSymbol (checkSymbols d) 1 = q1 := by
    rw [hc]; simp only [codeSymbol, fld, Nat.shiftRight_eq_div_pow]; omega
  have s2 : codeSymbol (checkSymbols d) 2 = q2 := by
    rw [hc]; simp only [codeSymbol, fld, Nat.shiftRight_eq_div_pow]; omega
  have s3 : codeSymbol (checkSymbols d) 3 = q3 := by
    rw [hc]; simp only [codeSymbol, fld, Nat.shiftRight_eq_div_pow]; omega
  have k0 := hch 0; have k1 := hch 1; have k2 := hch 2; have k3 := hch 3
  rw [s0] at k0; rw [s1] at k1; rw [s2] at k2; rw [s3] at k3
  rw [show (36 : Nat) = 32 + 0 + 1 + 1 + 1 + 1 from rfl, codeSum_succ, codeSum_succ, codeSum_succ, codeSum_succ]
  simp only [Nat.add_zero, hlow, ht] at k0 k1 k2 k3 ⊢
  simp only [k0, k1, k2, k3, codePair, Nat.reduceAdd, Nat.reduceLT, Nat.reduceSub, Nat.reduceMod, Nat.reduceDiv, if_false]
  rw [show quadForm 0 0 = 0 from rfl, show quadForm 1 0 = 1 from rfl, show quadForm 0 1 = 8 from rfl, show quadForm 1 1 = 8 from rfl]
  refine Prod.ext e0 (Prod.ext ?_ (Prod.ext ?_ ?_))
  · simp only [(h1m _ p0).2, (h1m _ p1).1, Nat.xor_zero, hq1]
    rw [Nat.xor_assoc, e, Nat.xor_self]
  · simp only [(h1m _ p0).2, (h1m _ p1).1, (h1m _ p2).2, (h1m _ p3).1, Nat.xor_zero, e3]
  · simp only [(h1m _ p0).2, (h1m _ p1).2, (h1m _ p2).1, (h1m _ p3).1, Nat.xor_zero]
    rw [Nat.xor_assoc, e2, Nat.xor_self]

/-- A codeword has 144 bits. -/
theorem encodeWord_lt (d : Nat) : encodeWord d < 2 ^ 144 := by
  obtain ⟨h0, h1, h2, h3⟩ := codeSum_lt d 32 (by omega)
  have hx : ∀ x y, x < 16 → y < 16 → x ^^^ y < 16 := fun x y p q => Nat.xor_lt_two_pow (n := 4) p q
  have hc : checkSymbols d < 2 ^ 16 := by
    unfold checkSymbols
    rcases ht : codeSum d 32 with ⟨t0, t1, t2, t3⟩
    rw [ht] at h0 h1 h2 h3
    have h9 : gfMul 9 t3 < 16 := gfMul_lt (by decide) _
    have h8 : gfMul 8 t3 < 16 := gfMul_lt (by decide) _
    have p0 := hx _ _ (hx _ _ h0 h1) h9
    have p1 := hx _ _ h1 h8
    have p2 := hx _ _ (hx _ _ h1 h2) h9
    have p3 := hx _ _ (hx _ _ h1 h2) h8
    dsimp only at p0 p1 p2 p3 ⊢
    omega
  unfold encodeWord
  omega

/-- A codeword just encoded reads clean. -/
theorem decodeWord_encodeWord (d : Nat) : decodeWord (encodeWord d) = .clean := by
  unfold decodeWord
  rw [codeSum_encodeWord]
  rfl

/-- A word of data encrypted and encoded reads back under the same key slot, and the read changes nothing (R206, R210). -/
theorem readWord_encoded (s : State) (slot w d : Nat) (p : Place) (hp : placeOf (16 * w) = some p) (ho : p.offline s = false)
    (hd : d < 2 ^ 128) (hr : rawWord s w = encodeWord (encryptWord s p w slot d)) : readWord s slot w = (s, d, true) := by
  have hl : encryptWord s p w slot d < 2 ^ 128 := by
    unfold encryptWord; split
    · exact BitVec.isLt _
    · exact Nat.mod_lt _ (Nat.two_pow_pos _)
  have hm : encodeWord (encryptWord s p w slot d) % 2 ^ 128 = encryptWord s p w slot d := by
    rw [encodeWord, Nat.add_mul_mod_self_left, Nat.mod_mod, Nat.mod_eq_of_lt hl]
  have hb : decryptWord s p w slot (encryptWord s p w slot d) = d := by
    unfold decryptWord encryptWord
    by_cases he : p.encrypted = true
    · simp only [he, if_true, BitVec.ofNat_toNat, BitVec.setWidth_eq, Equiv.symm_apply_apply, BitVec.toNat_ofNat]
      exact Nat.mod_eq_of_lt hd
    · simp only [he]
      simp only [Bool.false_eq_true, if_false, Nat.mod_mod]
      exact Nat.mod_eq_of_lt hd
  unfold readWord
  simp only [hp, ho, hr, decodeWord_encodeWord, hm, hb, Bool.false_eq_true, if_false]

end Sys2Proof.Machine
end

