-- ==== Sys2Proof/Laws/Regs.lean ====
section
/-!
SUPPORT. Reading a register or a field after writing one, and what the shared operations over registers leave alone.
-/
namespace Sys2Proof.Machine

/-! ## Registers -/

@[simp] theorem reg_setReg_same (s : State) (b : Block) (i off : Nat) (v : Word) :
    reg (setReg s b i off v) b i off = v := by simp [reg, setReg]

theorem reg_setReg_ne (s : State) (b b' : Block) (i i' off off' : Nat) (v : Word)
    (h : regKey b' i' off' ≠ regKey b i off) : reg (setReg s b i off v) b' i' off' = reg s b' i' off' := by
  simp [reg, setReg, tget_tset_ne _ _ _ h]

/-- Registers whose word offsets differ have different keys. -/
theorem regKey_ne_off {b : Block} {i off off' : Nat} (h : off' / 4 ≠ off / 4) : regKey b i off' ≠ regKey b i off := by
  simp only [regKey]; omega

/-- Registers of two instances of a page have different keys. -/
theorem regKey_ne_inst {b : Block} {i i' off off' : Nat} (h : i' ≠ i) (h1 : off < 4096) (h2 : off' < 4096) :
    regKey b i' off' ≠ regKey b i off := by
  simp only [regKey]; omega

/-- Registers of two pages have different keys. -/
theorem regKey_ne_page {b b' : Block} {i i' off off' : Nat} (h : b'.id ≠ b.id) (h1 : off < 4096) (h2 : off' < 4096)
    (h3 : i < 512) (h4 : i' < 512) : regKey b' i' off' ≠ regKey b i off := by
  simp only [regKey]; omega

theorem reg_toNat_lt (s : State) (b : Block) (i off : Nat) : (reg s b i off).toNat < 2 ^ 32 := (reg s b i off).isLt

@[simp] theorem reg_setRf_same (s : State) (b : Block) (i off lo w x : Nat) :
    reg (setRf s b i off lo w x) b i off = BitVec.ofNat 32 (setFld (reg s b i off).toNat lo w x) := by simp [setRf]

theorem reg_setRf_ne (s : State) (b b' : Block) (i i' off off' lo w x : Nat)
    (h : regKey b' i' off' ≠ regKey b i off) : reg (setRf s b i off lo w x) b' i' off' = reg s b' i' off' :=
  reg_setReg_ne _ _ _ _ _ _ _ _ h

/-- A field read after it was written. -/
theorem rf_setRf_same (s : State) (b : Block) (i off lo w x : Nat) (h : lo + w ≤ 32) :
    rf (setRf s b i off lo w x) b i off lo w = x % 2 ^ w := by
  have : setFld (reg s b i off).toNat lo w x < 2 ^ 32 := setFld_lt _ _ _ _ (reg_toNat_lt _ _ _ _) h
  rw [rf, reg_setRf_same, BitVec.toNat_ofNat, Nat.mod_eq_of_lt this, fld_setFld_same]

/-- Another field of the register written. -/
theorem rf_setRf_field (s : State) (b : Block) (i off x : Nat) {lo w lo' w' : Nat}
    (hd : lo' + w' ≤ lo ∨ lo + w ≤ lo') (h : lo + w ≤ 32) :
    rf (setRf s b i off lo w x) b i off lo' w' = rf s b i off lo' w' := by
  have : setFld (reg s b i off).toNat lo w x < 2 ^ 32 := setFld_lt _ _ _ _ (reg_toNat_lt _ _ _ _) h
  rw [rf, reg_setRf_same, BitVec.toNat_ofNat, Nat.mod_eq_of_lt this, fld_setFld_ne _ _ hd, rf]

theorem rf_setRf_ne (s : State) (b b' : Block) (i i' off off' lo w x lo' w' : Nat)
    (h : regKey b' i' off' ≠ regKey b i off) :
    rf (setRf s b i off lo w x) b' i' off' lo' w' = rf s b' i' off' lo' w' := by simp [rf, reg_setRf_ne _ _ _ _ _ _ _ _ _ _ h]

theorem rf_setReg_ne (s : State) (b b' : Block) (i i' off off' lo' w' : Nat) (v : Word)
    (h : regKey b' i' off' ≠ regKey b i off) :
    rf (setReg s b i off v) b' i' off' lo' w' = rf s b' i' off' lo' w' := by simp [rf, reg_setReg_ne _ _ _ _ _ _ _ _ h]

theorem rbit_setRbit_same (s : State) (b : Block) (i off k : Nat) (v : Bool) (h : k < 32) :
    rbit (setRbit s b i off k v) b i off k = v := by
  have : setFld (reg s b i off).toNat k 1 (b2n v) < 2 ^ 32 := setFld_lt _ _ _ _ (reg_toNat_lt _ _ _ _) h
  rw [rbit, setRbit, reg_setRf_same, BitVec.toNat_ofNat, Nat.mod_eq_of_lt this, testBit_setFld]
  cases v <;> simp [b2n]

theorem rbit_setRbit_ne (s : State) (b b' : Block) (i i' off off' k k' : Nat) (v : Bool)
    (h : regKey b' i' off' ≠ regKey b i off) :
    rbit (setRbit s b i off k v) b' i' off' k' = rbit s b' i' off' k' := by
  simp [rbit, setRbit, reg_setRf_ne _ _ _ _ _ _ _ _ _ _ h]

theorem rbit_setReg_ne (s : State) (b b' : Block) (i i' off off' k' : Nat) (v : Word)
    (h : regKey b' i' off' ≠ regKey b i off) :
    rbit (setReg s b i off v) b' i' off' k' = rbit s b' i' off' k' := by simp [rbit, reg_setReg_ne _ _ _ _ _ _ _ _ h]

theorem rbit_setRf_ne (s : State) (b b' : Block) (i i' off off' lo w x k' : Nat)
    (h : regKey b' i' off' ≠ regKey b i off) :
    rbit (setRf s b i off lo w x) b' i' off' k' = rbit s b' i' off' k' := by simp [rbit, reg_setRf_ne _ _ _ _ _ _ _ _ _ _ h]

/-- A LO and HI pair read after it was written. -/
theorem reg64_setReg64_same (s : State) (b : Block) (i lo : Nat) (v : DWord) :
    reg64 (setReg64 s b i lo v) b i lo = v := by
  have h : regKey b i lo ≠ regKey b i (lo + 4) := regKey_ne_off (by omega)
  simp only [reg64, setReg64, reg_setReg_same, reg_setReg_ne _ _ _ _ _ _ _ _ h]
  apply BitVec.eq_of_getLsbD_eq
  intro i hi
  rw [BitVec.append_eq, BitVec.getLsbD_append]
  by_cases h1 : i < 32
  · simp [h1]
  · simp only [h1, if_false, BitVec.getLsbD_setWidth, BitVec.getLsbD_ushiftRight, show i - 32 < 32 by omega,
      decide_true, Bool.true_and]
    simp [show 32 + (i - 32) = i by omega]

theorem reg_setReg64_ne (s : State) (b b' : Block) (i i' lo off' : Nat) (v : DWord)
    (h : regKey b' i' off' ≠ regKey b i lo) (h4 : regKey b' i' off' ≠ regKey b i (lo + 4)) :
    reg (setReg64 s b i lo v) b' i' off' = reg s b' i' off' := by
  simp [setReg64, reg_setReg_ne _ _ _ _ _ _ _ _ h, reg_setReg_ne _ _ _ _ _ _ _ _ h4]

/-! ## What the shared operations change -/

theorem onlyRegs_refl (s : State) : onlyRegs s s := ⟨s.regs, s.outputs, s.msixPending, rfl⟩

theorem onlyRegs_trans {s t u : State} (h : onlyRegs s t) (h' : onlyRegs t u) : onlyRegs s u := by
  obtain ⟨r, o, m, rfl⟩ := h; obtain ⟨r', o', m', rfl⟩ := h'; exact ⟨r', o', m', rfl⟩

theorem onlyDevice_refl (s : State) : onlyDevice s s := ⟨s.regs, s.outputs, s.msixPending, s.devq, rfl⟩

theorem onlyDevice_trans {s t u : State} (h : onlyDevice s t) (h' : onlyDevice t u) : onlyDevice s u := by
  obtain ⟨r, o, m, q, rfl⟩ := h; obtain ⟨r', o', m', q', rfl⟩ := h'; exact ⟨r', o', m', q', rfl⟩

theorem onlyRegs_device {s t : State} (h : onlyRegs s t) : onlyDevice s t := by
  obtain ⟨r, o, m, rfl⟩ := h; exact ⟨r, o, m, s.devq, rfl⟩

theorem setReg_only (s : State) (b : Block) (i off : Nat) (v : Word) : onlyRegs s (setReg s b i off v) :=
  ⟨_, s.outputs, s.msixPending, rfl⟩

theorem emit_only (s : State) (o : Output) : onlyRegs s (emit s o) := ⟨s.regs, _, s.msixPending, rfl⟩

/-- A vector's message touches outputs and pending bits alone. -/
theorem sendMsix_only (s : State) (fn v : Nat) : onlyRegs s (sendMsix s fn v) := by
  simp only [sendMsix]; split
  · exact emit_only s _
  · exact ⟨s.regs, s.outputs, _, rfl⟩

@[simp] theorem sendMsix_regs (s : State) (fn v : Nat) : (sendMsix s fn v).regs = s.regs := by
  simp only [sendMsix]; split <;> rfl

theorem msixOnRise_only (s : State) (b : Block) (i : Nat) (w : Word) : onlyRegs s (msixOnRise s b i w) := by
  simp only [msixOnRise]; split
  · exact onlyRegs_refl s
  · exact sendMsix_only s _ _

/-- An interrupt raised touches registers and outputs alone. -/
theorem raiseInt_only (s : State) (b : Block) (i k : Nat) : onlyRegs s (raiseInt s b i k) :=
  onlyRegs_trans (setReg_only s _ _ _ _) (msixOnRise_only _ _ _ _)

theorem msixOnRise_reg (s : State) (b : Block) (i : Nat) (w : Word) (b' : Block) (i' off' : Nat) :
    reg (msixOnRise s b i w) b' i' off' = reg s b' i' off' := by
  simp only [msixOnRise]; split
  · rfl
  · simp only [reg, sendMsix_regs]

/-- An interrupt raised leaves every register but INT_STATUS. -/
theorem raiseInt_reg (s : State) (b : Block) (i k : Nat) (b' : Block) (i' off' : Nat)
    (h : regKey b' i' off' ≠ regKey b i Off.intStatus) : reg (raiseInt s b i k) b' i' off' = reg s b' i' off' := by
  rw [raiseInt, msixOnRise_reg]; exact reg_setRf_ne _ _ _ _ _ _ _ _ _ _ h

theorem pageRecord_only (s : State) (b : Block) (i code : Nat) (d : Word) : onlyRegs s (pageRecord s b i code d) := by
  have h1 := setReg_only s b i Off.err
  refine onlyRegs_trans ?_ (msixOnRise_only _ _ _ _)
  refine onlyRegs_trans ?_ (setReg_only _ _ _ _ _)
  split
  · exact onlyRegs_trans (onlyRegs_trans (onlyRegs_trans (h1 _) (setReg_only _ _ _ _ _)) (setReg_only _ _ _ _ _))
      (setReg_only _ _ _ _ _)
  · exact onlyRegs_trans (h1 _) (setReg_only _ _ _ _ _)

theorem devqPush_only (s : State) (r : DWord) : onlyDevice s (devqPush s r) := by
  simp only [devqPush]
  split
  · exact onlyRegs_device (setReg_only s _ _ _ _)
  · have h : ∀ q v, onlyDevice s (setReg { s with devq := q } .reeve 0 Off.reeveDevqTail v) :=
      fun q v => ⟨_, s.outputs, s.msixPending, q, rfl⟩
    split
    · exact onlyDevice_trans (h _ _) (onlyRegs_device (raiseInt_only _ _ _ _))
    · exact h _ _

/-- A record in the device queue touches registers, outputs and the queue alone. -/
theorem deviceRecord_only (s : State) (b : Block) (i cls code unit : Nat) (d : Word) :
    onlyDevice s (deviceRecord s b i cls code unit d) :=
  onlyDevice_trans (onlyRegs_device (pageRecord_only s b i code d)) (devqPush_only _ _)

/-- A refused write touches registers alone. -/
theorem refuse_only (s : State) (b : Block) (i code off : Nat) : onlyRegs s (refuse s b i code off) :=
  onlyRegs_trans (onlyRegs_trans (setReg_only s _ _ _ _) (setReg_only _ _ _ _ _)) (setReg_only _ _ _ _ _)

end Sys2Proof.Machine
end

