-- ==== Sys2Proof/Tests/States.lean ====
section
/-!
SUPPORT. Small states that the tests and the witnesses are made of: the state after reset with a few registers, units and queues
set. Nothing here is part of the model.
-/
namespace Sys2Proof.Machine.Tests

/-! ## The device -/

/-- A number with fields: first bit, width and value of each. -/
def pack (l : List (Nat × Nat × Nat)) : Nat := l.foldl (fun v x => setFld v x.1 x.2.1 x.2.2) 0

/-- Reset with dawn done and the device in RUN; the time is tick 4096. -/
def up : State :=
  { setRf (setRbit State.reset .global 0 Off.globalDawn 8 true) .global 0 Off.globalPower 4 3 0 with
    time := 4096, firmware := true, perstLow := false, checks := [], tests := [], powerStep := 0 }

/-- Core `c` changed by `f`. -/
def onCore (c : Nat) (f : Core → Core) (s : State) : State := updCore s c f

/-- The almanac of core `c` changed by `f`. -/
def onAlm (c : Nat) (f : Almanac → Almanac) (s : State) : State := updCore s c (fun k => { k with alm := f k.alm })

/-- Core `c` is there, enabled and may launch. -/
def live (c : Nat) (s : State) : State := setRbit s .core c Off.status 0 true

/-- `up` with core `c` live and context `x` resident. -/
def core1 (c x : Nat) : State := setRf (live c up) .global 0 Off.globalRun 0 5 x

/-! ## Almanac entries (R45) -/

/-- An entry of operation `op` with argument `arg`, on time whenever it launches, and with no wait. -/
def entry (op arg : Nat) : QWord := BitVec.ofNat 128 (op * 2 ^ 90 + 0xFFFF * 2 ^ 48 + arg)

/-- Entry `e` at the head of core `c`, its tick come. -/
def atHead (c : Nat) (e : QWord) (s : State) : State :=
  onAlm c (fun a => { a with
    head := 0, state := .running, halting := false, skip := false, active := some false,
    epoch := s.time - BitVec.ofNat 64 (entAt e),
    bank0 := { a.bank0 with status := .ready, entries := [e] } }) s

/-- Entry `e` at the head of core `c`, where context 1 is resident. -/
def head1 (c : Nat) (e : QWord) : State := atHead c e (core1 c 1)

/-! ## Terrier and descriptors (R272, R273) -/

/-- A Terrier entry of context `ctx` with every permission: its memory kind, node, first address and pages, key slot. -/
def mapEntry (ctx kind node addr pages key : Nat) : QWord :=
  BitVec.ofNat 128 (pack [(0, 1, 1), (1, 5, ctx), (6, 3, kind), (16, 14, node), (32, 29, addr / 2 ^ 21), (64, 12, pages),
    (80, 4, 15), (88, 6, key)])

/-- Context `ctx` has the entries `es`, from index 32 × `ctx` on. -/
def mapped (ctx : Nat) (es : List QWord) (s : State) : State :=
  let s1 := setRf (setRf s .context ctx Off.contextTerrierCount 0 17 es.length) .context ctx Off.contextTerrierBase 0 16 (32 * ctx)
  { s1 with terrier := (List.range es.length).foldl (fun t i => tset 0 (32 * ctx + i) (es.getD i 0) t) s1.terrier }

/-- The context address of byte `off` of entry `i`. -/
def ctxAddr (i off : Nat) : Nat := 2 ^ 63 + i * 2 ^ 32 + off

/-- Context `ctx` has the granary and the Commons of die 0 of this device, and a range of node 9. -/
def mapped3 (ctx : Nat) (s : State) : State :=
  mapped ctx [mapEntry ctx 1 (thisNode s) (granaryAddr 0) 64 0, mapEntry ctx 2 (thisNode s) (commonsAddr 0) 16 0,
    mapEntry ctx 0 9 0 512 3] s

/-- Descriptor `d` stands in the Larder of core `c` as DESC `i`. -/
def described (c i : Nat) (d : BitVec 512) (s : State) : State := writeMem s 0 (larderAddr c + 64 * i) 64 d.toNat

/-- An entry of operation `op` with DESC 5 and FLAG 3, on core `c` of `described` and mapped context 1. -/
def opens (c op : Nat) (d : BitVec 512) : State := described c 5 d (mapped3 1 (head1 c (entry op (5 + 3 * 2 ^ 16))))

/-- The entry at the head of `opens`. -/
def opened (op : Nat) : QWord := entry op (5 + 3 * 2 ^ 16)

/-- What follows the launch of `e` on core `c` and the read of its descriptor. -/
def afterDesc (c : Nat) (e : QWord) (s : State) : State := (readDesc (noteLaunch s c e) c (entArg e 0 16)).1

/-- A 512-bit descriptor with fields. -/
def desc (l : List (Nat × Nat × Nat)) : BitVec 512 := BitVec.ofNat 512 (pack l)

/-! ## Descriptors and entries -/

/-- A MOVE of one row of 64 B, from the Larder to itself. -/
def moveD : BitVec 512 := desc [(48, 16, 1), (128, 24, 64), (192, 64, 0x10000), (256, 64, 0x20000)]

/-- A FETCH of one row of 64 B of node 9. -/
def fetchD : BitVec 512 := desc [(48, 16, 1), (128, 24, 64), (192, 64, ctxAddr 2 0x1000), (256, 64, 0x10000)]

/-- A PUT of one row of 64 B to node 9. -/
def putD : BitVec 512 := desc [(48, 16, 1), (128, 24, 64), (192, 64, 0x10000), (256, 64, ctxAddr 2 0x1000)]

/-- An ADD of 1 on 4 B of node 9. -/
def atomicD : BitVec 512 := desc [(64, 64, ctxAddr 2 0x1000), (128, 64, 1)]

/-- A REDUCE of one chunk of group 0. -/
def reduceD : BitVec 512 := desc [(40, 24, 1), (64, 10, 64), (128, 64, ctxAddr 0 0x200000)]

/-- Group 0 is valid, this device its root, in FP32, with no child. -/
def group0 : QWord := BitVec.ofNat 128 (pack [(0, 1, 1), (1, 15, 1), (35, 1, 1)])

/-- The REDUCE stands ready on core 0. -/
def reduces : State := { opens 0 6 reduceD with groups := [(0, group0)] }

/-- An entry of VECTOR that waits for phase 0 of gate 7. -/
def gated : QWord := BitVec.ofNat 128 (setFld (setFld (entry 2 5).toNat 88 2 1) 80 8 7)

/-- An operation of core 0 with FLAG 3, in place 4. -/
def anOp (kind : OpKind) (d : BitVec 512) : Op :=
  ⟨4, kind, 5, d, 3, 1, 0, 0, [], 1, 0, false, false, false, [], .none⟩

/-- A transaction of 4 B to the Commons of die 0 of this device. -/
def aTxn (kind : TxnKind) : Txn := ⟨kind, 0, commonsAddr 0, 4, larderAddr 0, 0, 0, 0, 0, 0⟩

/-- A matrix run of one K block in a mode that has read `k` blocks. -/
def matrixRun (mode k : Nat) : MatrixRun :=
  ⟨5, desc [(20, 2, mode), (32, 16, 1)], 3, 1, 1, 0x3F800000, k, 0, [], false, false, false⟩

/-! ## Vector programs -/

/-- The run of a vector program at its first instruction. -/
def vrun : VecRun := ⟨5, 0, 3, 1, 0, false, 0, [], false, false, false, false, false, false⟩

/-- An instruction word of operation `op` with fields. -/
def word (op : Nat) (l : List (Nat × Nat × Nat)) : Nat := pack ((58, 6, op) :: l)

/-- Core `c` is to issue instruction word `w`. -/
def inst (c w : Nat) : State :=
  onCore c (fun k => { k with vxRuns := [vrun], vec := { k.vec with prog := [(0, BitVec.ofNat 64 w)] } }) (core1 c 1)

/-- Core 511 is to load one word of its Larder, a 9, into its program store. -/
def loads : State := writeMem (onCore 511 (fun k => { k with vxRuns := [{ vrun with load := true, image := desc [(16, 2, 1), (96, 12, 1)] }] })
  (core1 511 1)) 0 (larderAddr 511) 8 9

/-- Where the first 64 bytes of a Larder are readable, each is. -/
theorem readable_near (s : State) (h : ∀ k, k < 64 → readable s (larderAddr 0 + k) = true) (a : Nat)
    (hl : larderAddr 0 ≤ a ∧ a < larderAddr 0 + 64) : readable s a = true := by
  obtain ⟨k, rfl⟩ := Nat.exists_eq_add_of_le hl.1
  exact h k (by omega)

/-- Core 0's VARIANT takes word 0 of table 0, which lies in the Commons of its die. -/
def chooses : State :=
  let s := mapped3 1 (head1 0 (entry 0x12 2))
  let s := onCore 0 (fun k => { k with heldVtab := 2 ^ 32 }) (setReg s .doorbell 1 (0x40 + 4) (BitVec.ofNat 32 (2 ^ 16)))
  writeMem s 0 (commonsAddr 0) 8 (2 ^ 63)

/-- What it has consumed and counted when it reads the table. -/
def chosen : State :=
  let s1 := noteLaunch chooses 0 (entry 0x12 2)
  noteBuckets s1 (updCore s1 0 (fun k => { k with alm := { k.alm with consumed := tset 0 2 (BitVec.ofNat 16 1) k.alm.consumed } }))

/-! ## Dawn and power -/

/-- All four partitions are in SERVICE. -/
def serving : State := setRf up .global 0 Off.globalPartState 0 8 0

/-- Step `n` of dawn runs. -/
def dawning (n : Nat) : State := { setRf State.reset .global 0 Off.globalDawn 0 4 n with perstLow := false, firmware := 3 ≤ n }

/-- Slot 1 holds a newer image than slot 0; rails, drive and lanes are in order. -/
def report : DawnReport :=
  ⟨⟨true, true, 0⟩, ⟨true, true, 0xFFFFFFFF⟩, false, [1, 2, 3], 0, false, ⟨4, true, true, 5, 2 ^ 20⟩, 0, [], 0xFFFF, []⟩

/-- The device is in power state `p`, step `n` of an entry or exit runs. -/
def powered (p n : Nat) : State := { setRf serving .global 0 Off.globalPower 4 3 p with powerStep := n }

/-! ## The Steward -/

/-- What the Steward keeps for die `d` is `x`. -/
def withSoc (d : Nat) (x : Soc) (s : State) : State := { s with socs := tset Soc.reset d x s.socs }

/-- A guard band that retires every point but 0. -/
def guarded : Soc := { Soc.reset with guard := 900 }

/-- A write of point 7's voltage is under way after `n` failures, or parked. -/
def writing (n : Nat) (parked : Bool) : Soc := { Soc.reset with volt := some ⟨7, true, n, parked, 0⟩ }

/-! ## Contexts and the Harvest -/

/-- No context is in quarantine. -/
def unquarantined (s : State) : State := setRf s .harvest 0 Off.harvestQuarantine 0 32 0

/-- The page of block `b` shows instance `n`. -/
def shown (b : Block) (n : Nat) (s : State) : State := setRf s b 0 Off.sel 0 9 n

/-- Core `c`'s page is shown, its gate `g` selected. -/
def selected (c g : Nat) : State := setRf (shown .core c up) .core c Off.coreGateSel 0 6 g

/-- Context 5 is resident and shown, its node assigned and its Bell the grandmaster, and its root in a granary whose die's cellar
is in reset; SIGNED is `signed`. -/
def starting (signed : Bool) : State :=
  let s := shown .context 5 (core1 0 5)
  let s := mapped 5 [mapEntry 5 1 (thisNode s) (granaryAddr 0) 1 0] s
  let s := setRf (setRf (unquarantined s) .context 5 Off.contextCtxState 0 3 Ctx.resident) .cellar 0 Off.cellarResetStep 0 3 2
  setRbit (setRf (setRbit s .global 0 Off.globalNode 15 true) .bell 0 Off.status 4 3 Bell.grandmaster) .context 5 Off.ctrl 0 signed

/-- A root that a reset hides names no core. -/
theorem namesOffline_reset (s : State) : namesOffline s (List.replicate 512 (0, false)) = false := by
  have h : ∀ n c, (List.replicate n ((0, false) : Nat × Bool)).getD c (0, false) = (0, false) := by
    intro n c
    by_cases hc : c < n <;> simp [List.getD, hc]
  simp only [namesOffline, List.any_eq_false]
  intro c _
  rw [h]
  simp [rootValid]

/-- Context `x`, whose page is shown, waits for the host's decision; context 1 is resident. -/
def deciding (x : Nat) : State := setRf (shown .context x (core1 0 1)) .context x Off.contextStepStatus 0 3 Step.waiting

/-- Context `x` is resident and context 5 is READY. -/
def ready5 (x : Nat) : State :=
  setRf (setRf (unquarantined (core1 0 x)) .context 5 Off.contextCtxState 0 3 Ctx.ready) .global 0 Off.globalPartState 0 8 0

/-- A switch from context 1 to context 5 is in a phase. -/
def switching (p : SwitchPhase) (g : SwitchGoal) : State := { ready5 1 with switch := ⟨p, 5, 0, g⟩ }

/-- A harvest of context 1 copies its pages. -/
def harvestRun : HarvestRun := ⟨1, false, false, 0, 0, 0, false, false, [], [], [], [], .pages⟩

/-! ## Refills, the pantry, ports and the Bell -/

/-- Bit `b` of an entry set. -/
def setFlag (e : QWord) (b : Nat) : QWord := e ||| (1#128 <<< b)

/-- A refill of context 5 from an image of the pantry, last written at `t`. -/
def refillRun (kind : Nat) (t : DWord) : RefillRun := ⟨kind, 5, true, 0, 0, t, false, .waiting, 0, 0, [], []⟩

/-- REFILL_STATE reads `st`, the run of a PREPARE being there. -/
def refills (st : Nat) (t : DWord) : State :=
  { setRf up .harvest 0 Off.harvestRefillState 0 3 st with refill := some (refillRun 1 t) }

/-- A write of a harvest's page. -/
def copies : NvmeCmd := ⟨1, .write, 0, commonsAddr 0, 0⟩

/-- Port `p` changed by `f`. -/
def onPort (p : Nat) (f : Port → Port) (s : State) : State := updPort s p f

/-- Port `p` is enabled and in state `st`. -/
def inState (p st : Nat) : State := setRf (setRbit up .port p Off.status 0 true) .port p Off.portStatus 0 4 st

/-- Port 31 negotiates, and its peer has 16 slots for VC 3. -/
def negotiating : State := onPort 31 (fun k => { k with peerSize := [(3, 16)] }) (inState 31 Link.negotiate)

/-- Message `m` is the one that waits at port `p`. -/
def said (p : Nat) (m : LocalMsg) (s : State) : State := onPort p (fun k => { k with locals := [m] }) s

/-- What taking a message of port `p` leaves. -/
def heard (p : Nat) (s : State) : State := freeSlots (onPort p (fun k => { k with locals := [] }) s) p 3 1

/-- Keys of a port whose transmitter stands at block `n`. -/
def keyed (n : Nat) : PortKeys := ⟨true, ⟨1, 2, n⟩, ⟨3, 4, 0⟩, false⟩

/-- A DATA flit of sequence 0 with one slot, as far as its CRC. -/
def flitBody : Nat := 19599665578316398593

/-- The CRC takes a flit's bytes in order, so it may be taken in parts. -/
theorem crc32From_add (a b v c : Nat) : crc32From (a + b) v c = crc32From b (v / 256 ^ a) (crc32From a v c) := by
  induction a generalizing v c with
  | zero => simp [crc32From]
  | succ n ih => rw [Nat.succ_add, crc32From, ih, crc32From, Nat.div_div_eq_div_mul, Nat.pow_succ']

/-- The CRC of `flitBody`. -/
theorem flitBody_crc : flitCrc flitBody = 458433373 := by
  have h1 : crc32From 28 flitBody 0xFFFFFFFF = 1354325153 := by decide +kernel
  have h2 : crc32From 28 0 1354325153 = 2494331328 := by decide +kernel
  have h3 : crc32From 28 0 2494331328 = 4154248467 := by decide +kernel
  have h4 : crc32From 28 0 4154248467 = 1595907146 := by decide +kernel
  have h5 : crc32From 28 0 1595907146 = 652463369 := by decide +kernel
  have h6 : crc32From 28 0 652463369 = 3450378258 := by decide +kernel
  have h7 : crc32From 28 0 3450378258 = 4143427676 := by decide +kernel
  have h8 : crc32From 28 0 4143427676 = 4283283213 := by decide +kernel
  have h9 : crc32From 28 0 4283283213 = 3836533922 := by decide +kernel
  have hv : flitBody / 256 ^ 28 = 0 := by decide +kernel
  have h0 : 0 / 256 ^ 28 = 0 := by decide
  unfold flitCrc
  rw [show (252 : Nat) = 28 + (28 + (28 + (28 + (28 + (28 + (28 + (28 + 28))))))) from rfl]
  simp only [crc32From_add, h1, hv, h0, h2, h3, h4, h5, h6, h7, h8, h9]
  decide

/-- The flit with its CRC. -/
def dataFlit : BitVec 2048 := BitVec.ofNat 2048 (flitBody + 458433373 * 2 ^ 2016)

/-- The Bell is in state `st`. -/
def belled (st : Nat) : State := setRf up .bell 0 Off.status 4 3 st

/-- The Bell is in state `st` and follows port 31, whose link is ACTIVE and whose delay is known. -/
def follows (st : Nat) : State :=
  let s := setRf (setRbit (setRf (inState 31 Link.active) .bell 0 Off.status 4 3 st) .bell 0 Off.ctrl 9 true) .bell 0 Off.ctrl 4 5 31
  onPort 31 (fun k => { k with delays := List.replicate 8 0 }) s

/-! ## Packets, reductions and tables -/

/-- A packet with fields in its header. -/
def packet (l : List (Nat × Nat × Nat)) (data : List Byte) : Packet := ⟨BitVec.ofNat 128 (pack l), data⟩

/-- A packet of type `t` to node `dst`, of context 1, for `n` bytes of the Commons of die 0. -/
def request (t dst n : Nat) : Packet :=
  packet [(0, 8, t), (8, 14, dst), (52, 5, 1), (64, 50, commonsAddr 0), (114, 8, n / 4)] (List.replicate n 9)

/-- A fetch-and-add of 1 to 4 B of the Commons of die 0. -/
def addOne : Packet := packet [(0, 8, 4), (8, 14, 7), (52, 5, 1), (64, 50, commonsAddr 0)] (toBytes 8 1 ++ toBytes 8 0)

/-- A packet as it came in at a port, or from this device. -/
def came (p : Packet) (port : Option Nat) : Routed := ⟨p, port, 0⟩

/-- This device is node 7; context 1 is resident. -/
def node7 : State := setRbit (setRf (core1 0 1) .global 0 Off.globalNode 0 14 7) .global 0 Off.globalNode 15 true

/-- Packet `p` of this device has entered link die `d`. -/
def routes (d : Nat) (p : Packet) : State := { node7 with routers := [(d, [came p none])] }

/-- Packet `p` waits to be served. -/
def asked (p : Packet) : State := { node7 with inbox := [(2, came p none)] }

/-- Core 0 has an operation in flight, with tag 0 held by its one transaction. -/
def unasked (o : OpKind) (x : TxnKind) : State :=
  { onCore 0 (fun k => { k with ops := [anOp o fetchD] }) node7 with tags := [(0, .held (.op 0 4) (aTxn x) 0)] }

/-- An answer to it has come. -/
def answered (p : Packet) (o : OpKind) (x : TxnKind) : State := { unasked o x with inbox := [(2, came p none)] }

/-- Field of an entry set. -/
def setFld128 (e : QWord) (lo w v : Nat) : QWord := BitVec.ofNat 128 (setFld e.toNat lo w v)

/-- Group 0: in FP32, its one child behind port 31; not the root. -/
def groupC : QWord := BitVec.ofNat 128 (pack [(0, 1, 1), (1, 15, 1), (36, 32, 2 ^ 31)])

/-- Group 0 with this device its root. -/
def groupR : QWord := setFld128 groupC 35 1 1

/-- A PHASE 0 part of chunk 6 of group 0. -/
def partC : Packet := packet [(0, 8, 0x20), (88, 24, 6)] (List.replicate 256 0)

/-- A REDUCE of one chunk, which core 0 has sent off. -/
def sums (g : QWord) : Op :=
  { anOp .reduce reduceD with red := { RedState.none with entry := g, turn := 1 }, places := [[(commonsAddr 0, 0)]] }

/-- The context of chunk 6 of group 0. -/
def chunkC (parts : List (Nat × Part)) (acc : Option Part) : Chunk := ⟨0, 6, 1, some (0, 4, 0), 0, parts, none, none, acc, []⟩

/-- Core 0 has the one chunk of a REDUCE open. -/
def combines (parts : List (Nat × Part)) (acc : Option Part) (g : QWord) : State :=
  { onCore 0 (fun k => { k with ops := [sums g] }) (core1 0 1) with groups := [(0, g)], chunks := [chunkC parts acc] }

/-- The ENTRY registers of a page hold entry `e`. -/
def stages (b : Block) (e : QWord) : State :=
  (List.range 4).foldl (fun s i => setReg s b 0 (0x100 + 4 * i) (BitVec.ofNat 32 (e.toNat / 2 ^ (32 * i)))) up

/-- A MGMT packet of a MOP, a response where `rsp` is 1, with XID 5. -/
def mgmt (rsp mop : Nat) (data : List Byte) : Packet := packet [(0, 8, 0x30), (72, 8, mop), (80, 16, 5), (96, 1, rsp)] data

/-- The payload of a LANEMAP_WRITE of one entry of node 9. -/
def laneBytes : List Byte := toBytes 8 (pack [(4, 14, 9), (18, 4, 1)])

/-- The payload of a GROUP_WRITE of group 5. -/
def groupBytes : List Byte := toBytes 16 5 ++ toBytes 16 groupC.toNat

/-- A MGMT_SR of two hops, the second by port 30. -/
def sourced : Packet :=
  packet [(0, 8, 0x31), (64, 4, 2), (72, 8, 1), (80, 16, 5)] (toBytes 16 (30 * 32) ++ toBytes 16 0)

/-! ## The host -/

/-- Windows are open, and context 1 is mapped. -/
def windowed : State := setRbit (mapped3 1 up) .pcie 0 Off.status 0 true

/-- What the refusal of a window access of function `fn` leaves. -/
def refusedAt (s : State) (fn o : Nat) (perm : Perm) : State :=
  match windowTarget s fn (windowAddr s fn o) 4 perm with
  | .error (t, _) => t
  | .ok _ => s

/-- The I3C controller has given an address. -/
def addressed : State := setRf up .sideband 0 Off.sidebandI3cDa 0 7 9

end Sys2Proof.Machine.Tests
end

