-- ==== Sys2Proof/Tests/Slice0.lean ====
section
/-!
SUPPORT. The model's own tests: an ill-formed term for each check of WellFormed, and the worked examples of the spec. Every
expected value is the spec's; each test names the example it is taken from.
-/
namespace Sys2Proof.Machine.Tests

set_option Elab.async false

/-! ## Ill-formed commands -/

theorem test_wf_dawn_digests : (Instr.dawnStepDone { report with digests := [1, 2], pmbAddr := List.replicate 4 (1, 0) }).wf = false := by
  decide

theorem test_wf_dawn_accepts : (Instr.dawnStepDone { report with pmbAddr := List.replicate 4 (1, 0) }).wf = true := by decide

theorem test_wf_lane : (Instr.selfTestComplete 0 [⟨true, 5, 6, 65⟩]).wf = false := by decide

theorem test_wf_core_lane : (Instr.selfTestComplete 0 [⟨false, 5, 239, 33⟩]).wf = false := by decide

theorem test_wf_period : (Instr.stewardPeriod ⟨[], [], List.replicate 15 0, List.replicate 4 0, List.replicate 16 0⟩).wf = false := by
  decide

theorem test_wf_window_read : (Instr.windowRead 1 (2 ^ 30) 1 false).wf = false := by decide

theorem test_wf_window_write : (Instr.windowWrite 0 0 [1, 2, 3] false).wf = false := by decide

theorem test_wf_bypass : (Instr.bypass 3 8).wf = false := by decide

theorem test_wf_read_bar0 : (Instr.readLoLatch true .bar0 0x3FFFFFF 4 false).wf = false := by decide

theorem test_wf_read_doorbell : (Instr.readLoLatch true (.doorbell 1) 0x10000 4 false).wf = false := by decide

theorem test_wf_write_bar0 : (Instr.registerWrite .bar0 0x3FFFFFF 4 0 false).wf = false := by decide

theorem test_wf_write_doorbell : (Instr.registerWrite (.doorbell 1) 0xFFFF 4 0 false).wf = false := by decide

theorem test_wf_drive_read : (Instr.driveMemoryRequest (.read (2 ^ 64) 1)).wf = false := by decide

theorem test_wf_drive_write : (Instr.driveMemoryRequest (.write (2 ^ 64 - 1) [1, 2])).wf = false := by decide

/-! ## The queue -/

/-- What an outcome answers, where it is a next state. -/
def nextOf (o : Host.Outcome State Fault Refusal) : State :=
  match o with
  | .next t => t
  | _ => State.reset

/-- Commands run first in, first out. -/
theorem test_queue_order : (nextOf (step { up with pending := [.curfew, .curfewRelease] })).pending = [.curfewRelease] := by
  decide +kernel

/-- The table gives no bits, so no word spells a command. -/
theorem test_no_words : decodeTableWord 32 0xFFFFFFFF = none := by decide

/-! ## Number formats (spec/04_number_formats.md and 07) -/

/-- The seed of lane 10 of core 3 (the example under R116). -/
theorem test_seed_lane : seedLane 0x5EED00001234ABCD 7 3 10 = 0x5EED00001233AB07 := by decide +kernel

/-- 1 + 3 × 2⁻¹⁰ to BF16 with SR_BITS 4 and draws 5, 9 and 12, and to nearest even (the example under R117). -/
theorem test_stochastic_bf16 :
    [5, 9, 12].map (fun r => narrow .bf16 (some (4, r)) (f32 0x3F806000)) = [0x3F80, 0x3F80, 0x3F81]
      ∧ narrow .bf16 none (f32 0x3F806000) = 0x3F80 := by decide +kernel

/-- 440 to E4M3 with SR_BITS 2: 448 with draw 3, 416 with draw 0. -/
theorem test_stochastic_e4m3 :
    narrow .e4m3 (some (2, 3)) (f32 0x43DC0000) = 0x7E ∧ narrow .e4m3 (some (2, 0)) (f32 0x43DC0000) = 0x7D := by decide +kernel

/-- INT4 code 3 with scale 2⁻⁶ and zero point 8 is −0.078125, E4M3 0x9A; code 8 gives 0 (the example under R107). -/
theorem test_zero_point : narrow .e4m3 none (scaleZero 0x00083C80 3) = 0x9A ∧ narrow .e4m3 none (scaleZero 0x00083C80 8) = 0 := by
  decide +kernel

/-- The largest magnitude 0.094 of an MXFP4 block measures scale code 0x79 (the example of STB in chapter 07). -/
theorem test_scale_code : measureScale .e2m1 [f32 0x3DC08312, f32 0xBCF5C28F] = 0x79 := by decide +kernel

/-! ## Addresses, packets and pages -/

/-- The Terrier example of R273 and R276: index 3 of context 5 leads to stack 6 of node 0x0042. -/
theorem test_translate :
    translate { setRf (setRf up .context 5 Off.contextTerrierBase 0 16 0x200) .context 5 Off.contextTerrierCount 0 17 0x100 with
      terrier := [(0x203, 0x00000000_09030800_00030200_0042000B)] } 4 5 0x0003_1234_5600 512 (some .r)
      = .ok ⟨0x42, 0x60_5234_5600, 9, 0⟩ := by decide +kernel

/-- The READ_REQ header of core 7 of node 0x0041 (the example of R283). -/
theorem test_read_req :
    (txnPacket (setRbit (setRf up .global 0 Off.globalNode 0 14 0x41) .global 0 Off.globalNode 15 true)
      ⟨.read, 0x42, 0x60_5234_5600, 512, 0, 0, 9, 0, 0, 0⟩ 0x1C3 0 5 []).header = 0x0200006052345600_12501C3010404201 := by
  decide +kernel

/-- ALM_STATUS of a core stalled at index 295 of bank 1 while bank 0 loads (the example of chapter 20). -/
theorem test_alm_status :
    almStatus { Almanac.reset with state := .starved, head := 295, active := some true, bank0 := ⟨.loading, 0, [], 0, 0⟩ }
      = 0x00016A72 := by decide +kernel

/-- The context page of the example of chapter 19, with what the ENABLE check of context 9 reads. -/
def preparing (base key : Nat) : State :=
  let s := setRf (setReg up .keys 17 Off.keysSlotState 0x109) .context 0 Off.sel 0 9 9
  let s := setRf (setRf s .context 9 Off.contextSaveOffset 0 32 4) .context 9 Off.contextSaveKey 0 6 key
  let s := setRf (setRf s .context 9 Off.contextTerrierBase 0 16 base) .context 9 Off.contextTerrierCount 0 17 0x100
  { setReg s .context 9 Off.ctrl 2 with checks := [(.context, 9, 0)] }

/-- TERRIER_BASE and TERRIER_COUNT exceed 65,536: STATUS reads 0x0134_0904. -/
theorem test_enable_capacity :
    reg (nextOf (exec (.enableCheckEnd 7 9) (preparing 0xFF80 17))) .context 9 Off.status = 0x01340904 := by decide +kernel

/-- SAVE_KEY at 0: STATUS reads 0x0128_0604. -/
theorem test_enable_owner :
    reg (nextOf (exec (.enableCheckEnd 7 9) (preparing 0xFF80 0))) .context 9 Off.status = 0x01280604 := by decide +kernel

/-- TERRIER_BASE 0xFE00: the check passes and STATUS reads 1. -/
theorem test_enable_passes :
    reg (nextOf (exec (.enableCheckEnd 7 9) (preparing 0xFE00 17))) .context 9 Off.status = 1 := by decide +kernel

end Sys2Proof.Machine.Tests
end

