-- ==== Sys2Proof/Tests/WitnessContexts.lean ====
section
/-!
SUPPORT. Witnesses for the statements of contexts, steps, the Watch, the Harvest and the pantry: for each clause that has
hypotheses, a concrete state and operands that meet all of them together. A witness carries the number of its clause in the
statement.
-/
namespace Sys2Proof.Machine.Tests

set_option Elab.async false
set_option linter.unusedVariables false

theorem witness_ContextsStart_1 : ∃ (s : State) (s1 : State) (c : Nat) (l : List (Nat × Bool)), hostReady s .context
    ∧ shownInstance s .context = c ∧ c ≠ 0 ∧ almGoCheck s c = 0 ∧ readRoot s c = (s1, some l) ∧ mapsOffline s1 c = false
    ∧ namesOffline s1 l = false ∧ measures s1 c = false :=
  ⟨starting false, starting false, 5, List.replicate 512 (0, false), by unfold hostReady; exact ⟨by decide +kernel,
    by decide +kernel, by decide +kernel, by decide +kernel, by decide +kernel, by decide +kernel, namesOffline_reset _,
    by decide +kernel⟩⟩

theorem witness_ContextsStart_2 : ∃ (s : State) (s1 : State) (c : Nat) (l : List (Nat × Bool)), hostReady s .context
    ∧ shownInstance s .context = c ∧ c ≠ 0 ∧ almGoCheck s c = 0 ∧ readRoot s c = (s1, some l) ∧ mapsOffline s1 c = false
    ∧ namesOffline s1 l = false ∧ measures s1 c = true :=
  ⟨starting true, starting true, 5, List.replicate 512 (0, false), by unfold hostReady; exact ⟨by decide +kernel,
    by decide +kernel, by decide +kernel, by decide +kernel, by decide +kernel, by decide +kernel, namesOffline_reset _,
    by decide +kernel⟩⟩

theorem witness_ContextsStart_3 : ∃ (s : State) (c : Nat), hostReady s .context ∧ shownInstance s .context = c ∧ c ≠ 0 ∧ c < 32
    ∧ almGoCheck s c ≠ 0 :=
  ⟨shown .context 5 up, 5, by unfold hostReady; decide +kernel⟩

theorem witness_ContextsStart_4 : ∃ (s : State) (c : Nat), s.measuring = some c :=
  ⟨{ up with measuring := some 5 }, 5, by decide +kernel⟩

theorem witness_SeedsSetGenerators_1 : ∃ (s : State) (c : Nat) (n : Nat) (l : Nat), l < 64 :=
  ⟨core1 0 1, 0, 7, 63, by decide +kernel⟩

theorem witness_SeedsSetGenerators_2 : ∃ (c : Fin 512) (s : State) (e : QWord), launches s c .seed e ∧ onTime s c e
    ∧ (core s c).vxPend = none ∧ ((∀ r ∈ (core s c).vxRuns, r.ended = true)) :=
  ⟨0, head1 0 (entry 0x0A 7), entry 0x0A 7, by unfold launches onTime; decide +kernel⟩

theorem witness_SeedsSetGenerators_3 : ∃ (s : State) (s1 : State) (c : Nat) (l : List (Nat × Bool)), hostReady s .context
    ∧ shownInstance s .context = c ∧ c ≠ 0 ∧ almGoCheck s c = 0 ∧ readRoot s c = (s1, some l) ∧ mapsOffline s1 c = false
    ∧ namesOffline s1 l = false ∧ measures s1 c = false ∧ resident s = c :=
  ⟨starting false, starting false, 5, List.replicate 512 (0, false), by unfold hostReady; exact ⟨by decide +kernel,
    by decide +kernel, by decide +kernel, by decide +kernel, by decide +kernel, by decide +kernel, namesOffline_reset _,
    by decide +kernel, by decide +kernel⟩⟩

theorem witness_StepsDecide_1 : ∃ (c : Fin 512) (s : State) (e : QWord), commitHead (core s c) = some e ∧ resident s ≠ 0
    ∧ stepState s (resident s) = Step.idle ∧ coreOffline s c = false :=
  ⟨0, head1 0 (entry 0x14 (3 * 2 ^ 16)), entry 0x14 (3 * 2 ^ 16), by decide +kernel⟩

theorem witness_StepsDecide_2 : ∃ (c : Fin 512) (s : State) (e : QWord) (drop : Bool), launches s c .commit e ∧ onTime s c e
    ∧ (core s c).alm.commit = some drop :=
  ⟨0, onAlm 0 (fun a => { a with commit := some true }) (head1 0 (entry 0x14 0)), entry 0x14 0, true,
    by unfold launches onTime; decide +kernel⟩

theorem witness_StepsDecide_3 : ∃ (s : State) (es : List QWord), commits s = some es ∧ resident s ≠ 0
    ∧ stepState s (resident s) < Step.waiting
    ∧ (countedCores s).any (fun e => sumPending e.2 (commitGroup (es.headD 0))) = false ∧ contextStays s = true :=
  ⟨head1 0 (entry 0x14 (3 * 2 ^ 16)), [entry 0x14 (3 * 2 ^ 16)], by decide +kernel⟩

theorem witness_StepsDecide_4 : ∃ (s : State) (c : Nat), hostReady s .context ∧ shownInstance s .context = c ∧ c ≠ 0
    ∧ stepState s c = Step.waiting ∧ resident s = c :=
  ⟨deciding 1, 1, by unfold hostReady; decide +kernel⟩

theorem witness_StepsDecide_5 : ∃ (s : State) (c : Nat), hostReady s .context ∧ shownInstance s .context = c ∧ c ≠ 0
    ∧ stepState s c = Step.waiting ∧ resident s ≠ c :=
  ⟨deciding 5, 5, by unfold hostReady; decide +kernel⟩

theorem witness_StepsDecide_6 : ∃ (s : State) (c : Nat), hostReady s .context ∧ shownInstance s .context = c ∧ c ≠ 0
    ∧ stepState s c = Step.waiting ∧ resident s = c :=
  ⟨deciding 1, 1, by unfold hostReady; decide +kernel⟩

theorem witness_StepsDecide_7 : ∃ (s : State), resident s ≠ 0 ∧ stepState s (resident s) = Step.dropping
    ∧ heldPages s (dropPages s (rf s .context (resident s) Off.contextStepStatus 8 8)) = []
    ∧ ((∀ p ∈ dropPages s (rf s .context (resident s) Off.contextStepStatus 8 8), addrTesting s (p * 2 ^ 21) = false)) :=
  ⟨setRf (core1 0 1) .context 1 Off.contextStepStatus 0 3 Step.dropping, by decide +kernel⟩

theorem witness_StepsDecide_8 : ∃ (c : Fin 512) (s : State) (e : QWord) (b : Bool), (core s c).alm.headEntry = some e
    ∧ (core s c).alm.active = some b ∧ (core s c).alm.skip = true ∧ ((core s c).alm.state = .running
    ∨ (core s c).alm.state = .starved) ∧ coreMayLaunch s c = true
    ∧ (core s c).alm.head + 1 ≠ ((core s c).alm.bank b).entries.length ∧ opOfCode (entOp e) ≠ some .variant
    ∧ opOfCode (entOp e) ≠ some .switch ∧ opOfCode (entOp e) ≠ some .loop :=
  ⟨0,
    onAlm 0 (fun a => { a with skip := true, bank0 := { a.bank0 with entries := [entry 1 5, entry 0x14 0] } }) (head1 0 (entry 1 5)),
    entry 1 5, false, by decide +kernel⟩

theorem witness_GatesAndTallyWritten_1 : ∃ (v : BitVec 31) (s : State) (c : Nat) (g : Nat), hostReady s .core
    ∧ shownInstance s .core = c ∧ rf s .core c Off.coreGateSel 0 6 = g ∧ g < 48 ∧ fld v.toNat 21 10 = 0 ∧ fld v.toNat 0 15 ≠ 0
    ∧ contextRuns s (gateOf (core s c) g).owner.toNat = false ∧ contextRuns s (fld v.toNat 16 5) = false
    ∧ coreOffline s c = false :=
  ⟨0x00030004, selected 3 47, 3, 47, by unfold hostReady; decide +kernel⟩

theorem witness_GatesAndTallyWritten_2 : ∃ (v : BitVec 31) (s : State) (c : Nat) (g : Nat), hostReady s .core
    ∧ shownInstance s .core = c ∧ rf s .core c Off.coreGateSel 0 6 = g ∧ g < 48 ∧ fld v.toNat 21 10 = 0
    ∧ contextRuns s (gateOf (core s c) g).owner.toNat = false ∧ contextRuns s (fld v.toNat 16 5) = false :=
  ⟨0, selected 3 47, 3, 47, by unfold hostReady; decide +kernel⟩

theorem witness_GatesAndTallyWritten_3 : ∃ (v : BitVec 31) (s : State) (c : Nat) (g : Nat), hostReady s .core
    ∧ shownInstance s .core = c ∧ c < 512 ∧ rf s .core c Off.coreGateSel 0 6 = g ∧ fld v.toNat 21 10 = 0 ∧ fld v.toNat 0 15 ≠ 0
    ∧ contextRuns s (gateOf (core s c) g).owner.toNat = true :=
  ⟨0x00030004,
    onCore 0 (fun k => { k with gates := [(7, { Gate.reset with owner := 1 })] }) (onAlm 0 (fun a => { a with state := .running }) (setRf (core1 0 1) .core 0 Off.coreGateSel 0 6 7)),
    0, 7, by unfold hostReady; decide +kernel⟩

theorem witness_GatesAndTallyWritten_4 : ∃ (v : BitVec 32) (s : State) (c : Nat), hostReady s .core ∧ shownInstance s .core = c
    ∧ v.toNat < 2 ^ 16 ∧ contextRuns s (resident s) = false :=
  ⟨0xFFFF, shown .core 511 up, 511, by unfold hostReady; decide +kernel⟩

theorem witness_ContextsSwitch_1 : ∃ (n : BitVec 5) (s : State), s.checks = [] ∧ switchCheck s n.toNat = 0
    ∧ n.toNat ≠ resident s ∧ resident s ≠ 0 :=
  ⟨5, ready5 1, by decide +kernel⟩

theorem witness_ContextsSwitch_2 : ∃ (n : BitVec 5) (s : State), s.checks = [] ∧ switchCheck s n.toNat = 0 ∧ resident s = 0 :=
  ⟨5, ready5 0, by decide +kernel⟩

theorem witness_ContextsSwitch_3 : ∃ (n : BitVec 5) (s : State), s.checks = [] ∧ switchCheck s n.toNat ≠ 0
    ∧ n.toNat ≠ resident s :=
  ⟨6, ready5 1, by decide +kernel⟩

theorem witness_ContextsSwitch_4 : ∃ (n : BitVec 5) (s : State), s.checks = [] ∧ n.toNat ≠ 0 ∧ n.toNat = resident s :=
  ⟨1, ready5 1, by decide +kernel⟩

theorem witness_ContextsSwitch_5 : ∃ (s : State), s.switch.phase = .requested ∧ notAtPoint s = [] :=
  ⟨switching .requested .context, by decide +kernel⟩

theorem witness_ContextsSwitch_6 : ∃ (s : State), s.switch.phase = .requested ∧ notAtPoint s ≠ []
    ∧ s.switch.since.toNat + 25000 ≤ s.time.toNat :=
  ⟨onAlm 0 (fun a => { a with state := .running }) { switching .requested .context with time := 30000 }, by decide +kernel⟩

theorem witness_ContextsSwitch_7 : ∃ (s : State), s.switch.phase = .draining ∧ s.switch.goal ≠ .lost
    ∧ s.cores.all (fun x => x.2.ops.isEmpty) = true :=
  ⟨switching .draining .context, by decide +kernel⟩

theorem witness_ContextsSwitch_8 : ∃ (s : State), s.switch.phase = .draining ∧ s.switch.goal = .lost
    ∧ s.cores.all (fun x => x.2.ops.isEmpty) = true ∧ s.partWaiting = [] ∧ resident s < 32 :=
  ⟨switching .draining .lost, by decide +kernel⟩

theorem witness_ContextsSwitch_9 : ∃ (s : State), s.switch.phase = .saving ∧ (List.range 4).any (bondTesting s) = false
    ∧ s.switch.next ≠ resident s :=
  ⟨switching .saving .context, by decide +kernel⟩

theorem witness_ContextsSwitch_10 : ∃ (s : State), s.switch.phase = .restoring ∧ (List.range 4).any (bondTesting s) = false
    ∧ powerState s = 0 ∧ tripped s = false ∧ s.switch.next < 32 :=
  ⟨switching .restoring .context, by decide +kernel⟩

theorem witness_ContextsAndKeys_1 : ∃ (s : State) (c : Nat), hostReady s .context ∧ shownInstance s .context = c ∧ c ≠ 0
    ∧ c < 32 ∧ ctxState s c ≠ Ctx.resetting :=
  ⟨shown .context 5 up, 5, by unfold hostReady; decide +kernel⟩

theorem witness_ContextsAndKeys_2 : ∃ (index : Nat) (s : State) (c : Nat) (since : DWord) (rest : List (WipeScope × DWord)),
    takeAt s.wipes index = some ((.context c, since), rest) ∧ c < 32 :=
  ⟨1, { up with wipes := [(.device, 0), (.context 5, 7)] }, 5, 7, [(.device, 0)], by decide +kernel⟩

theorem witness_ContextsAndKeys_3 : ∃ (index : Nat) (s : State) (since : DWord), takeAt s.wipes index = some ((.device, since),
    []) ∧ 5 ≤ dawnStep s :=
  ⟨0, { dawning 5 with wipes := [(.device, 7)] }, 7, by decide +kernel⟩

theorem witness_ContextsAndKeys_4 : ∃ (owner : BitVec 5) (s : State) (k : Nat), hostOpen s .keys = true
    ∧ rf s .keys 0 Off.keysSel 0 6 = k ∧ k ≠ 0 ∧ owner ≠ 0 ∧ entropyFailed s = false ∧ slotAssigned s k = false :=
  ⟨5, setRf up .keys 0 Off.keysSel 0 6 63, 63, by decide +kernel⟩

theorem witness_ContextsAndKeys_5 : ∃ (owner : BitVec 5) (s : State), hostOpen s .keys = true ∧ rf s .keys 0 Off.keysSel 0 6 ≠ 0
    ∧ owner ≠ 0 ∧ entropyFailed s = true :=
  ⟨5, setRbit (setRf up .keys 0 Off.keysSel 0 6 63) .keys 0 Off.status 0 true, by decide +kernel⟩

theorem witness_ContextsAndKeys_6 : ∃ (s : State) (k : Nat), hostOpen s .keys = true ∧ rf s .keys 0 Off.keysSel 0 6 = k ∧ k ≠ 0
      ∧ ((slotAssigned s k = true → ctxState s (slotOwner s k) = Ctx.free ∨ ctxState s (slotOwner s k) = Ctx.ready
      ∨ ctxState s (slotOwner s k) = Ctx.resetting)) :=
  ⟨setRbit (setRf up .keys 0 Off.keysSel 0 6 63) .keys 63 Off.keysSlotState 8 true, 63, by decide +kernel⟩

theorem witness_WatchAndHarvest_1 : ∃ (s : State) (s0 : State), s.time.toNat % 2 ^ 24 = 0 ∧ fireOnce s 2 = some s0 :=
  ⟨{ up with time := BitVec.ofNat 64 (2 ^ 24) },
    { up with time := BitVec.ofNat 64 (2 ^ 24), fired := tset 0 2 (2 ^ 24 + 1) up.fired }, by decide +kernel⟩

theorem witness_WatchAndHarvest_2 : ∃ (c : Fin 512) (s : State) (e : QWord), readyEntry s c .harvest = some e
    ∧ waitForeign (core s c) (resident s) e = false ∧ ((∀ r, s.harvest = some r → r.ctx ≠ resident s))
    ∧ boundaryHeads s true = true ∧ boundaryQuiet s = true :=
  ⟨0, head1 0 (entry 0x15 0), entry 0x15 0, by decide +kernel⟩

theorem witness_WatchAndHarvest_3 : ∃ (s : State), s.harvestWanted = true ∧ boundaryHeld s = true ∧ s.harvest = none
    ∧ boundaryHeads s false = true ∧ boundaryQuiet s = true :=
  ⟨{ onAlm 0 (fun a => { a with bank0 := { a.bank0 with entries := [entry 0x14 0, entry 0 0] }, head := 1 }) (setRf (head1 0 (entry 0 0)) .harvest 0 Off.ctrl 8 5 1) with harvestWanted := true },
    by decide +kernel⟩

theorem witness_WatchAndHarvest_4 : ∃ (die : Fin 4) (s : State) (r : HarvestRun) (p : Nat) (k : Nat), s.harvest = some r
    ∧ nextCopy s die.val = some p ∧ freeStage s r die.val = some k ∧ bondTesting s die.val = false
    ∧ addrWaits s (p * 2 ^ 21) = false :=
  ⟨0, { up with harvest := some harvestRun, copyPages := [commonsAddr 0 / 2 ^ 21] }, harvestRun, commonsAddr 0 / 2 ^ 21, 0,
    by decide +kernel⟩

theorem witness_WatchAndHarvest_5 : ∃ (page : Nat) (s : State), s.harvest.isSome = true ∧ tget 0 page s.touches ≠ 0
    ∧ tget 0 page s.touches - 1 + rf s .harvest 0 Off.harvestStallLimit 0 24 ≤ s.time.toNat :=
  ⟨commonsAddr 0 / 2 ^ 21,
    { up with harvest := some harvestRun, touches := [(commonsAddr 0 / 2 ^ 21, 1)], time := BitVec.ofNat 64 (2 ^ 24) },
    by decide +kernel⟩

theorem witness_RefillsRun_1 : ∃ (kind : BitVec 2) (ctx : BitVec 5) (s : State), hostReady s .harvest ∧ kind ≠ 3 ∧ ctx ≠ 0
    ∧ contextRuns s ctx.toNat = false ∧ refillState s = 0 ∧ s.harvest.any (fun r => r.ctx == ctx.toNat) = false :=
  ⟨1, 5, up, by unfold hostReady; decide +kernel⟩

theorem witness_RefillsRun_2 : ∃ (kind : BitVec 2) (ctx : BitVec 5) (s : State), hostReady s .harvest ∧ kind ≠ 3 ∧ ctx ≠ 0
    ∧ contextRuns s ctx.toNat = false ∧ refillState s ≠ 0 :=
  ⟨1, 5, refills 1 0, by unfold hostReady; decide +kernel⟩

theorem witness_RefillsRun_3 : ∃ (s : State) (r : RefillRun), hostReady s .harvest ∧ s.refill = some r ∧ refillState s = 1
    ∧ r.kind ≠ 0 ∧ stagingBusy s = false :=
  ⟨refills 1 0, refillRun 1 0, by unfold hostReady; decide +kernel⟩

theorem witness_RefillsRun_4 : ∃ (s : State), hostReady s .harvest ∧ s.refill.isSome = true :=
  ⟨refills 2 0, by unfold hostReady; decide +kernel⟩

theorem witness_RefillsRun_5 : ∃ (s : State) (r : RefillRun), s.refill = some r ∧ refillState s = 2
    ∧ r.last.toNat + rf s .harvest 0 Off.harvestRefillTimeout 0 24 ≤ s.time.toNat :=
  ⟨{ refills 2 0 with time := BitVec.ofNat 64 (2 ^ 24) }, refillRun 1 0, by decide +kernel⟩

theorem witness_RefillsRun_6 : ∃ (s : State), hostReady s .harvest ∧ (refillState s = 3 ∨ refillState s = 4) :=
  ⟨refills 4 0, by unfold hostReady; decide +kernel⟩

theorem witness_RefillsRun_7 : ∃ (ctx : BitVec 5) (s : State), hostReady s .harvest ∧ ctx ≠ 0 ∧ refillState s = 0
    ∧ harvesting s ctx.toNat = false
    ∧ Gr.epoch (groupEntry s (rf s .harvest 0 Off.harvestRefillGroup 0 8)) = (reg s .harvest 0 Off.harvestRefillEpoch).toNat
    ∧ contextRuns s (resident s) = false ∧ pagesWhere s ctx.toNat entReplicated ≠ [] :=
  ⟨5, mapped 5 [setFlag (mapEntry 5 0 (thisNode up) 0 1 3) 85] up, by unfold hostReady; decide +kernel⟩

theorem witness_PantryDrive_1 : ∃ (s : State) (s1 : State), s.time.toNat % 2 ^ 28 = 0 ∧ enabled s .pantry 0 = true
    ∧ fireOnce s 3 = some s1 ∧ pantryTakes s = true ∧ (s.nvme.filter (fun x => x.queue == 4)).length < 255
    ∧ s.nvmeWait.any (fun x => x.queue == 4) = false :=
  ⟨{ setRbit up .pantry 0 Off.status 0 true with time := BitVec.ofNat 64 (2 ^ 28) },
    { setRbit up .pantry 0 Off.status 0 true with time := BitVec.ofNat 64 (2 ^ 28), fired := tset 0 3 (2 ^ 28 + 1) up.fired },
    by decide +kernel⟩

theorem witness_PantryDrive_2 : ∃ (index : Nat) (log : BitVec 16) (s : State) (c : NvmeCmd) (rest : List NvmeCmd),
    takeAt s.nvme index = some (c, rest) ∧ c.op = .smart :=
  ⟨0, 1, { up with nvme := [⟨4, .smart, 0, 0, 0⟩] }, ⟨4, .smart, 0, 0, 0⟩, [], by decide +kernel⟩

theorem witness_PantryDrive_3 : ∃ (index : Nat) (status : BitVec 16) (log : BitVec 16) (s : State) (c : NvmeCmd) (rest : List NvmeCmd),
    takeAt s.nvme index = some (c, rest) ∧ status ≠ 0 ∧ harvestCmd c = true ∧ c.queue ≠ 3 :=
  ⟨1, 2, 0, { up with nvme := [⟨4, .smart, 0, 0, 0⟩, copies] }, copies, [⟨4, .smart, 0, 0, 0⟩], by decide +kernel⟩

theorem witness_PantryDrive_4 : ∃ (index : Nat) (s : State) (c : NvmeCmd) (rest : List NvmeCmd), takeAt s.nvme index = some (c,
    rest) ∧ harvestCmd c = true ∧ c.queue ≠ 3 ∧ c.since.toNat + rf s .pantry 0 Off.pantryCmdTimeout 0 24 ≤ s.time.toNat :=
  ⟨0, { up with nvme := [copies], time := BitVec.ofNat 64 (2 ^ 24) }, copies, [], by decide +kernel⟩

theorem witness_PantryDrive_5 : ∃ (d : DriveReport) (s : State), hostReady s .pantry ∧ enabled s .pantry 0 = false :=
  ⟨report.drive, up, by unfold hostReady; decide +kernel⟩

theorem witness_PantryDrive_6 : ∃ (d : DriveReport) (s : State), hostReady s .pantry ∧ enabled s .pantry 0 = true :=
  ⟨report.drive, setRbit up .pantry 0 Off.status 0 true, by unfold hostReady; decide +kernel⟩

theorem witness_PantryDrive_7 : ∃ (a : Nat) (data : List Byte) (s : State) (c : NvmeCmd),
    bufferOf s .read a data.length = some c :=
  ⟨commonsAddr 0 + 16, [1, 2], { up with nvme := [⟨3, .read, 0, commonsAddr 0, 0⟩] }, ⟨3, .read, 0, commonsAddr 0, 0⟩,
    by decide +kernel⟩

theorem witness_PantryDrive_8 : ∃ (a : Nat) (n : Nat) (s : State) (c : NvmeCmd), bufferOf s .write a n = some c :=
  ⟨commonsAddr 0 + 16, 16, { up with nvme := [copies] }, copies, by decide +kernel⟩

theorem witness_PantryDrive_9 : ∃ (a : Nat) (n : Nat) (s : State), bufferOf s .write a n = none :=
  ⟨commonsAddr 0, 16, up, by decide +kernel⟩

end Sys2Proof.Machine.Tests
end

