-- ==== Sys2Proof/Tests/WitnessCores.lean ====
section
/-!
SUPPORT. Witnesses for the statements of the almanac, the matrix arrays and the vector engines: for each clause that has
hypotheses, a concrete state and operands that meet all of them together. A witness carries the number of its clause in the
statement.
-/
namespace Sys2Proof.Machine.Tests

set_option Elab.async false
set_option linter.unusedVariables false

theorem witness_StepTakesFront : ∃ (i : Instr) (rest : List Instr) (s : State), s.pending = i :: rest :=
  ⟨.nop 0, [], { core1 0 1 with pending := [.nop 0] }, by decide +kernel⟩

theorem witness_EmptyQueueTicks : ∃ (s : State), s.pending = [] ∧ ((∀ d, d < 4 → rf s .cellar d Off.cellarResetStep 0 3 ≠ 3)) :=
  ⟨core1 0 1, by decide +kernel⟩

theorem witness_StepKeepsMemoryForm : ∃ (s : State) (t : State), s.Inv ∧ step s = .next t :=
  ⟨described 0 5 1 (core1 0 1), idleStep (described 0 5 1 (core1 0 1)), by exact ⟨by decide +kernel, rfl⟩⟩

theorem witness_ResetState_3 : ∃ (p : Nat), p < 32 :=
  ⟨31, by decide +kernel⟩

theorem witness_UnitEntriesLaunch_1 : ∃ (c : Fin 512) (s : State) (e : QWord), launches s c .matrix e ∧ onTime s c e
    ∧ (core s c).mxPend = none ∧ cellarBusy s (c.val / 128) = false :=
  ⟨0, head1 0 (entry 1 5), entry 1 5, by unfold launches onTime; decide +kernel⟩

theorem witness_UnitEntriesLaunch_2 : ∃ (c : Fin 512) (s : State) (e : QWord), launches s c .vector e ∧ onTime s c e
    ∧ (core s c).vxPend = none ∧ cellarBusy s (c.val / 128) = false :=
  ⟨511, head1 511 (entry 2 5), entry 2 5, by unfold launches onTime; decide +kernel⟩

theorem witness_UnitEntriesLaunch_3 : ∃ (c : Fin 512) (s : State) (e : QWord) (p : VecPend), launches s c .seed e ∧ onTime s c e
    ∧ (core s c).vxPend = some p :=
  ⟨0, onCore 0 (fun k => { k with vxPend := some ⟨5, 0, 0, 3, 1, 0⟩ }) (head1 0 (entry 0x0A 77)), entry 0x0A 77, ⟨5, 0, 0, 3, 1,
    0⟩, by unfold launches onTime; decide +kernel⟩

theorem witness_UnitEntriesLaunch_4 : ∃ (c : Fin 512) (s : State) (e : QWord), launches s c .hist e ∧ onTime s c e :=
  ⟨3, head1 3 (entry 0x0B 13), entry 0x0B 13, by unfold launches onTime; decide +kernel⟩

/-- Core 0 of context 1 is to load bank 0 from the granary of its die. -/
def refilling : State :=
  onAlm 0 (fun a => { a with refill := some ⟨false, 0⟩ }) (mapped 1 [mapEntry 1 1 (thisNode up) (granaryAddr 0) 1 0] (core1 0 1))

/-- Word `w` of the granary of die 0 holds `d`, as encryption under key slot 0 and the memory code leave it. -/
def encoded (w d : Nat) (s : State) : State :=
  setRawWord s w (encodeWord (encryptWord s ⟨.granary, 0, 16 * w % 2 ^ 33⟩ w 0 d))

/-- A segment of one entry, a HALT, lies at its start. -/
def scheduled : State := encoded (2 ^ 36) 1 (encoded (2 ^ 36 + 1) (entry 0 0).toNat refilling)

/-- What is stored does not change how a word is encrypted. -/
theorem encryptWord_setRawWord (s : State) (w v : Nat) (p : Place) (w' k d : Nat) :
    encryptWord (setRawWord s w v) p w' k d = encryptWord s p w' k d := rfl

/-- The word just stored. -/
theorem rawWord_encoded (s : State) (w d : Nat) :
    rawWord (encoded w d s) w = encodeWord (encryptWord (encoded w d s) ⟨.granary, 0, 16 * w % 2 ^ 33⟩ w 0 d) := by
  rw [encoded, rawWord_setRawWord, Nat.mod_eq_of_lt (encodeWord_lt _), encryptWord_setRawWord]

/-- A word stored before. -/
theorem rawWord_encoded_ne (s : State) (w d w' d' : Nat) (p : Place) (h : w' ≠ w)
    (hr : rawWord s w' = encodeWord (encryptWord s p w' 0 d')) :
    rawWord (encoded w d s) w' = encodeWord (encryptWord (encoded w d s) p w' 0 d') := by
  rw [encoded, rawWord_setRawWord_ne _ _ h, hr, encryptWord_setRawWord]

/-- The header reads back. -/
theorem readWord_first : readWord scheduled 0 (2 ^ 36) = (scheduled, 1, true) :=
  readWord_encoded scheduled 0 (2 ^ 36) 1 ⟨.granary, 0, 0⟩ (by decide +kernel) (by decide +kernel) (by decide)
    (rawWord_encoded (encoded (2 ^ 36 + 1) (entry 0 0).toNat refilling) (2 ^ 36) 1)

/-- The entry reads back. -/
theorem readWord_second : readWord scheduled 0 (2 ^ 36 + 1) = (scheduled, (entry 0 0).toNat, true) :=
  readWord_encoded scheduled 0 (2 ^ 36 + 1) _ ⟨.granary, 0, 16⟩ (by decide +kernel) (by decide +kernel) (BitVec.isLt _)
    (rawWord_encoded_ne (encoded (2 ^ 36 + 1) (entry 0 0).toNat refilling) (2 ^ 36) 1 (2 ^ 36 + 1) _ _ (by decide)
      (rawWord_encoded refilling (2 ^ 36 + 1) _))

/-- The bank loads. -/
theorem loadBank_scheduled : loadBank scheduled 1 0 0 = (scheduled, ⟨.ready, 1, [entry 0 0], 0, 0⟩) := by
  have h1 : schedulePlace scheduled 1 (0 / 128) 0 16 = some ⟨thisNode up, granaryAddr 0, 0, 1⟩ := by decide +kernel
  have h2 : schedulePlace scheduled 1 (0 / 128) 0 32 = some ⟨thisNode up, granaryAddr 0, 0, 1⟩ := by decide +kernel
  have hw : granaryAddr 0 / 16 = 2 ^ 36 := by decide
  have hr : readMem scheduled 0 (granaryAddr 0) 16 = (scheduled, 1, true) := by
    unfold readMem
    rw [hw]
    simp only [readWords, readWord_first]
    rfl
  have he : readEntries scheduled 0 1 (granaryAddr 0 / 16 + 1) = (scheduled, [(entry 0 0, true)]) := by
    rw [hw]; simp only [readEntries, readWord_second, BitVec.ofNat_toNat, BitVec.setWidth_eq]
  unfold loadBank
  simp only [Nat.zero_mod, ne_eq, not_true_eq_false, if_false, h1, hr, Bool.not_true, Bool.false_eq_true,
    show headerFault (BitVec.ofNat 128 1) = 0 from by decide, show hdrLength (BitVec.ofNat 128 1) = 1 from by decide, h2, he]
  rw [show entriesFault 1 0 [] [(entry 0 0, true)] = none from by decide +kernel]
  rfl

theorem witness_BanksTurn_1 : ∃ (c : Fin 512) (s : State) (s1 : State) (r : Refill) (bank : Bank), (core s c).alm.refill = some r
    ∧ (core s c).alm.active = none ∧ coreClocked s c = true ∧ cellarBusy s (c.val / 128) = false
    ∧ loadBank s (resident s) c r.addr = (s1, bank) ∧ bank.status = .ready :=
  ⟨0, scheduled, scheduled, ⟨false, 0⟩, ⟨.ready, 1, [entry 0 0], 0, 0⟩, by decide +kernel, by decide +kernel, by decide +kernel,
    by decide +kernel, by rw [show resident scheduled = 1 by decide +kernel]; exact loadBank_scheduled, rfl⟩

theorem witness_BanksTurn_2 : ∃ (c : Fin 512) (s : State) (e : QWord), launches s c .segment e ∧ onTime s c e
    ∧ boundaryHeld s = false ∧ ((core s c).alm.bank (!((core s c).alm.active == some true))).status = .ready :=
  ⟨0, onAlm 0 (fun a => { a with bank1 := { a.bank1 with status := .ready } }) (head1 0 (entry 0x10 40)), entry 0x10 40,
    by unfold launches onTime; decide +kernel⟩

theorem witness_BanksTurn_3 : ∃ (c : Fin 512) (s : State) (e : QWord) (n : BitVec 9), launches s c .segment e
    ∧ (core s c).alm.state = .running ∧ ((core s c).alm.bank (!((core s c).alm.active == some true))).status = .loading :=
  ⟨0, onAlm 0 (fun a => { a with bank1 := { a.bank1 with status := .loading } }) (head1 0 (entry 0x10 40)), entry 0x10 40, 0,
    by unfold launches; decide +kernel⟩

theorem witness_BanksTurn_4 : ∃ (c : Fin 512) (s : State) (e : QWord), launches s c .segment e ∧ boundaryHeld s = false
    ∧ ((core s c).alm.bank (!((core s c).alm.active == some true))).status = .empty :=
  ⟨0, head1 0 (entry 0x10 40), entry 0x10 40, by unfold launches; decide +kernel⟩

theorem witness_VariantChooses_1 : ∃ (c : Fin 512) (s : State) (s3 : State) (e : QWord) (w : Nat) (t0 : Target), let b := entArg e 0 4
    let n := (tget 0 b (core s c).alm.consumed).toNat
    let ring := (ringWord s (resident s) b n).toNat
    let s1 := noteLaunch s c e
    let s2 := noteBuckets s1 (updCore s1 c (fun k => { k with alm := { k.alm with
          consumed := tset 0 b (BitVec.ofNat 16 (n + 1)) k.alm.consumed } }))
    launches s c .variant e ∧ onTime s c e ∧ (fld ring 16 16 + 2 ^ 17 - n - 1) % 2 ^ 16 = 0 ∧ cellarBusy s (c.val / 128) = false
      ∧ tablePlace s2 (resident s) (c.val / 128) ((core s c).heldVtab + 128 * entArg e 4 16 + 8 * fld ring 0 4) 8 = some t0
      ∧ addrReset s t0.addr = false ∧ readMem s2 t0.key t0.addr 8 = (s3, w, true) ∧ w.testBit 63 = true :=
  ⟨0, chooses, chosen, entry 0x12 2, 2 ^ 63, ⟨thisNode up, commonsAddr 0, 0, 2⟩, by unfold launches onTime; decide +kernel⟩

theorem witness_VariantChooses_2 : ∃ (c : Fin 512) (s : State) (e : QWord), let b := entArg e 0 4
    let n := (tget 0 b (core s c).alm.consumed).toNat
    let ahead := (fld (ringWord s (resident s) b n).toNat 16 16 + 2 ^ 17 - n - 1) % 2 ^ 16
    launches s c .variant e ∧ 1 ≤ ahead ∧ ahead ≤ 0x7FFF :=
  ⟨0, setReg (head1 0 (entry 0x12 2)) .doorbell 1 (0x40 + 4) (BitVec.ofNat 32 (2 * 2 ^ 16)), entry 0x12 2,
    by unfold launches; decide +kernel⟩

theorem witness_HaltLoopSwitchLaunch_1 : ∃ (c : Fin 512) (s : State) (e : QWord), launches s c .halt e ∧ onTime s c e
    ∧ boundaryHeld s = false :=
  ⟨0, head1 0 (entry 0 0), entry 0 0, by unfold launches onTime; decide +kernel⟩

theorem witness_HaltLoopSwitchLaunch_2 : ∃ (c : Fin 512) (s : State) (e : QWord), launches s c .loop e ∧ onTime s c e :=
  ⟨0, head1 0 (entry 0x11 3), entry 0x11 3, by unfold launches onTime; decide +kernel⟩

theorem witness_HaltLoopSwitchLaunch_3 : ∃ (c : Fin 512) (s : State) (e : QWord), launches s c .switch e ∧ onTime s c e
    ∧ s.switch.phase = .idle ∧ dirtyGates (core s c) (resident s) = [] :=
  ⟨0, head1 0 (entry 0x13 0), entry 0x13 0, by unfold launches onTime; decide +kernel⟩

theorem witness_HaltLoopSwitchLaunch_4 : ∃ (c : Fin 512) (s : State), (core s c).alm.halting = true
    ∧ ((core s c).alm.state = .running ∨ (core s c).alm.state = .starved) ∧ (core s c).ops = [] ∧ (core s c).mxRuns = []
    ∧ (core s c).mxPend = none ∧ (core s c).vxRuns = [] ∧ (core s c).vxPend = none :=
  ⟨0, onAlm 0 (fun a => { a with halting := true, state := .running }) (core1 0 1), by decide +kernel⟩

theorem witness_HaltLoopSwitchLaunch_5 : ∃ (c : Fin 512) (s : State) (e : QWord), (core s c).alm.headEntry = some e
    ∧ (core s c).alm.halting = false ∧ ((core s c).alm.state = .running ∨ (core s c).alm.state = .starved)
    ∧ 2 ^ 31 ≤ (slipNow s (core s c).alm e).toNat ∧ (slipNow s (core s c).alm e).toNat < 2 ^ 63 :=
  ⟨0, onAlm 0 (fun a => { a with epoch := a.epoch - 2 ^ 31 }) (head1 0 (entry 1 5)), entry 1 5, by decide +kernel⟩

theorem witness_HaltLoopSwitchLaunch_6 : ∃ (c : Fin 512) (s : State) (e : QWord), launches s c .loop e ∧ ¬ onTime s c e
    ∧ (core s c).alm.lateWritten = true :=
  ⟨0,
    onAlm 0 (fun a => { a with lateWritten := true, epoch := a.epoch - 8 }) (head1 0 (BitVec.ofNat 128 (0x11 * 2 ^ 90 + 7 * 2 ^ 48 + 3))),
    BitVec.ofNat 128 (0x11 * 2 ^ 90 + 7 * 2 ^ 48 + 3), by unfold launches onTime; decide +kernel⟩

theorem witness_TransferEntriesLaunch_1 : ∃ (c : Fin 512) (s : State) (s1 : State) (e : QWord) (d : BitVec 512),
    launches s c .move e ∧ onTime s c e ∧ hasRoom (core s c) = true ∧ readsDesc c s s1 e d ∧ mvCheck d = 0
    ∧ firstFault ((mvOperands d).map (fun o => operandRows s1 c o (Mv.rows d))).flatten = none
    ∧ rowsReset s1 ((mvOperands d).map (fun o => operandRows s1 c o (Mv.rows d))).flatten = false :=
  ⟨0, opens 0 3 moveD, afterDesc 0 (opened 3) (opens 0 3 moveD), opened 3, moveD,
    by unfold readsDesc launches onTime; decide +kernel⟩

theorem witness_TransferEntriesLaunch_2 : ∃ (c : Fin 512) (s : State) (s1 : State) (e : QWord) (d : BitVec 512), launches s c .fetch e ∧ onTime s c e
      ∧ hasRoom (core s c) = true ∧ readsDesc c s s1 e d ∧ xfCheck true d = 0
      ∧ firstFault ((List.range (Mv.rows d)).map (farRow s1 c (xfOperands true d).1)
      ++ operandRows s1 c (xfOperands true d).2 (Mv.rows d)) = none
      ∧ rowsReset s1 (operandRows s1 c (xfOperands true d).2 (Mv.rows d)) = false :=
  ⟨0, opens 0 4 fetchD, afterDesc 0 (opened 4) (opens 0 4 fetchD), opened 4, fetchD,
    by unfold readsDesc launches onTime; decide +kernel⟩

theorem witness_TransferEntriesLaunch_3 : ∃ (c : Fin 512) (s : State) (s1 : State) (e : QWord) (d : BitVec 512), launches s c .put e ∧ onTime s c e
      ∧ hasRoom (core s c) = true ∧ readsDesc c s s1 e d ∧ xfCheck false d = 0
      ∧ firstFault (operandRows s1 c (xfOperands false d).1 (Mv.rows d)
      ++ (List.range (Mv.rows d)).map (farRow s1 c (xfOperands false d).2)) = none
      ∧ rowsReset s1 (operandRows s1 c (xfOperands false d).1 (Mv.rows d)) = false :=
  ⟨0, opens 0 5 putD, afterDesc 0 (opened 5) (opens 0 5 putD), opened 5, putD,
    by unfold readsDesc launches onTime; decide +kernel⟩

theorem witness_TransferEntriesLaunch_4 : ∃ (c : Fin 512) (s : State) (s1 : State) (e : QWord) (d : BitVec 512) (p : RowPlace),
    launches s c .atomic e ∧ onTime s c e ∧ hasRoom (core s c) = true ∧ readsDesc c s s1 e d ∧ atCheck d = 0
    ∧ ((At.ret d = true → (cellarRange s1 c (At.result d) (At.bytes d)).isSome = true))
    ∧ rowPlace s1 c (At.target d) 0 0 (At.bytes d) (some .a) = .ok p ∧ addrReset s1 p.addr = false :=
  ⟨0, opens 0 7 atomicD, afterDesc 0 (opened 7) (opens 0 7 atomicD), opened 7, atomicD, ⟨0x1000, 3, 9⟩,
    by unfold readsDesc launches onTime; decide +kernel⟩

theorem witness_DescriptorsLaunch_1 : ∃ (c : Fin 512) (s : State) (s1 : State) (e : QWord) (d : BitVec 512),
    launches s c .move e ∧ onTime s c e ∧ hasRoom (core s c) = true ∧ readsDesc c s s1 e d ∧ mvCheck d ≠ 0 :=
  ⟨0, opens 0 3 15, afterDesc 0 (opened 3) (opens 0 3 15), opened 3, 15, by unfold readsDesc launches onTime; decide +kernel⟩

theorem witness_DescriptorsLaunch_2 : ∃ (c : Fin 512) (s : State) (s1 : State) (e : QWord) (d : BitVec 512),
    launches s c .reduce e ∧ onTime s c e ∧ hasRoom (core s c) = true ∧ readsDesc c s s1 e d
    ∧ rdCheck d (groupEntry s1 (Rd.group d)) = 0
    ∧ firstFault ((List.range (Rd.chunks d)).map (fun i => chunkRows s1 c d (groupEntry s1 (Rd.group d)) i)).flatten = none
    ∧ rdGroupCheck (core s1 c) d (groupEntry s1 (Rd.group d)) = 0
    ∧ rowsReset s1 ((List.range (Rd.chunks d)).map (fun i => chunkRows s1 c d (groupEntry s1 (Rd.group d)) i)).flatten = false :=
  ⟨0, reduces, afterDesc 0 (opened 6) reduces, opened 6, reduceD, by unfold readsDesc launches onTime; decide +kernel⟩

theorem witness_CountersAdvance_1 : ∃ (index : Nat) (s : State) (x : Transit), linkOff s = false ∧ s.transit[index]? = some x
    ∧ x.signal = false ∧ arriveStatus s x.core x.index x.ctx = 0 ∧ (core s x.core).arrivals.length < 64 :=
  ⟨0,
    { onCore 0 (fun k => { k with gates := [(7, { Gate.reset with owner := 1, state := .armed })] }) (core1 0 1) with transit := [⟨false, 0, 7, 1, none, none, 0, 0⟩] },
    ⟨false, 0, 7, 1, none, none, 0, 0⟩, by decide +kernel⟩

theorem witness_CountersAdvance_2 : ∃ (c : Fin 512) (s : State) (g : Nat) (rest : List Nat), (core s c).arrivals = g :: rest :=
  ⟨0, onCore 0 (fun k => { k with arrivals := [7] }) (core1 0 1), 7, [], by decide +kernel⟩

theorem witness_CountersAdvance_3 : ∃ (index : Nat) (s : State) (x : Transit), linkOff s = false ∧ s.transit[index]? = some x
    ∧ x.signal = true ∧ contextRuns s x.ctx = true ∧ residentStaying s x.ctx = true :=
  ⟨0, { onAlm 0 (fun a => { a with state := .running }) (core1 0 1) with transit := [⟨true, 0, 255, 1, none, none, 0, 0⟩] },
    ⟨true, 0, 255, 1, none, none, 0, 0⟩, by decide +kernel⟩

theorem witness_CountersAdvance_4 : ∃ (index : Nat) (s : State) (x : Transit), linkOff s = false ∧ s.transit[index]? = some x
    ∧ x.signal = true ∧ contextRuns s x.ctx = false :=
  ⟨0, { core1 0 1 with transit := [⟨true, 0, 255, 2, none, none, 0, 0⟩] }, ⟨true, 0, 255, 2, none, none, 0, 0⟩,
    by decide +kernel⟩

theorem witness_CountersAdvance_5 : ∃ (c : Fin 512) (s : State) (e : QWord), (core s c).alm.headEntry = some e
    ∧ ((core s c).alm.state = .running ∨ (core s c).alm.state = .starved) ∧ (core s c).alm.halting = false
    ∧ (core s c).alm.timeoutFired = false ∧ coreClocked s c = true ∧ contextStays s = true ∧ entRemoteSignal e = false
    ∧ entOp e ≠ 0x11 ∧ entKind e = 1 ∧ waitForeign (core s c) (resident s) e = false ∧ waitHolds (core s c) e = false
    ∧ (gateOf (core s c) (entId e)).ticks ≠ 0
    ∧ timeoutStart (core s c).alm e + (gateOf (core s c) (entId e)).ticks.toNat ≤ s.time.toNat :=
  ⟨0,
    onCore 0 (fun k => { k with gates := [(7, { Gate.reset with owner := 1, ticks := 1, phase := true })] }) (onAlm 0 (fun a => { a with epoch := a.epoch - 2 }) (head1 0 gated)),
    gated, by decide +kernel⟩

theorem witness_ArrivalsLaunchAndOperationsComplete_1 : ∃ (c : Fin 512) (s : State) (e : QWord), launches s c .arrive e
    ∧ onTime s c e ∧ hasRoom (core s c) = true :=
  ⟨0, head1 0 (entry 8 0), entry 8 0, by unfold launches onTime; decide +kernel⟩

theorem witness_ArrivalsLaunchAndOperationsComplete_2 : ∃ (c : Fin 512) (s : State) (e : QWord), launches s c .signal e
    ∧ onTime s c e ∧ hasRoom (core s c) = true :=
  ⟨0, head1 0 (entry 9 0), entry 9 0, by unfold launches onTime; decide +kernel⟩

theorem witness_ArrivalsLaunchAndOperationsComplete_3 : ∃ (c : Fin 512) (s : State) (id : Nat) (o : Op),
    (core s c).op id = some o ∧ o.kind = .move ∧ coreClocked s c = true ∧ moveServed (core s c) o = true ∧ opTesting s o = false
    ∧ heldPages s (opPages o) = [] :=
  ⟨0, onCore 0 (fun k => { k with ops := [anOp .move moveD] }) (core1 0 1), 4, anOp .move moveD, by decide +kernel⟩

theorem witness_ArrivalsLaunchAndOperationsComplete_4 : ∃ (c : Fin 512) (s : State) (id : Nat) (o : Op) (x : Txn) (rest : List Txn),
    (core s c).op id = some o ∧ o.kind = .atomic ∧ o.started = true ∧ o.todo = x :: rest ∧ addrWaits s x.addr = false
    ∧ ((At.ret o.image = true → addrWaits s x.place = false))
    ∧ heldPages s (pagesOf x.addr x.len ++ (if At.ret o.image then pagesOf x.place x.len else [])) = [] :=
  ⟨0, onCore 0 (fun k => { k with ops := [{ anOp .atomic atomicD with started := true, todo := [aTxn .atomic] }] }) (core1 0 1),
    4, { anOp .atomic atomicD with started := true, todo := [aTxn .atomic] }, aTxn .atomic, [], by decide +kernel⟩

theorem witness_ArrivalsLaunchAndOperationsComplete_5 : ∃ (c : Fin 512) (s : State) (id : Nat) (o : Op),
    (core s c).op id = some o ∧ o.kind = .reduce ∧ Rd.chunks o.image ≤ o.red.turn ∧ o.red.left = 0 ∧ opTesting s o = false
    ∧ heldPages s (flaggedPages o (flaggedChunks s o)) = [] :=
  ⟨0, onCore 0 (fun k => { k with ops := [{ anOp .reduce reduceD with red := { RedState.none with turn := 1 } }] }) (core1 0 1),
    4, { anOp .reduce reduceD with red := { RedState.none with turn := 1 } }, by decide +kernel⟩

theorem witness_MatrixRuns_1 : ∃ (c : Fin 512) (s : State) (p : MatrixPend), (core s c).mxPend = some p ∧ p.refused = 0
    ∧ (core s c).mxRuns = [] ∧ coreIssues s c = true ∧ slotState (core s c) (Mx.slot p.image) ≠ .emitted :=
  ⟨0, onCore 0 (fun k => { k with mxPend := some ⟨5, 0, 0, 3, 1, false⟩ }) (core1 0 1), ⟨5, 0, 0, 3, 1, false⟩,
    by decide +kernel⟩

theorem witness_MatrixRuns_2 : ∃ (c : Fin 512) (s : State) (r : MatrixRun), (core s c).mxRuns = [r] ∧ r.kdone < Mx.kb r.image
    ∧ coreClocked s c = true :=
  ⟨0, onCore 0 (fun k => { k with mxRuns := [matrixRun 0 0] }) (core1 0 1), matrixRun 0 0, by decide +kernel⟩

theorem witness_MatrixRuns_3 : ∃ (c : Fin 512) (s : State) (r : MatrixRun) (rest : List MatrixRun),
    (core s c).mxRuns = r :: rest ∧ Mx.mode r.image = 2 ∧ Mx.kb r.image ≤ r.kdone ∧ r.pushed = false ∧ coreClocked s c = true
    ∧ (core s c).tiles.length < 8 :=
  ⟨0, onCore 0 (fun k => { k with mxRuns := [matrixRun 2 1] }) (core1 0 1), matrixRun 2 1, [], by decide +kernel⟩

theorem witness_MatrixRuns_4 : ∃ (c : Fin 512) (s : State) (r : MatrixRun) (rest : List MatrixRun),
    (core s c).mxRuns = r :: rest ∧ Mx.kb r.image ≤ r.kdone ∧ ((Mx.mode r.image = 2 → r.pushed = true))
    ∧ coreClocked s c = true :=
  ⟨0, onCore 0 (fun k => { k with mxRuns := [matrixRun 0 1] }) (core1 0 1), matrixRun 0 1, [], by decide +kernel⟩

theorem witness_MatrixRuns_5 : ∃ (c : Fin 512) (s : State) (p : MatrixPend), (core s c).mxPend = some p ∧ p.refused ≠ 0
    ∧ (core s c).mxRuns = [] ∧ (coreClocked s c = true ∨ coreOffline s c = true) :=
  ⟨0, onCore 0 (fun k => { k with mxPend := some ⟨5, 0, 2, 255, 1, false⟩ }) (core1 0 1), ⟨5, 0, 2, 255, 1, false⟩,
    by decide +kernel⟩

theorem witness_VectorStartsAndLoads_1 : ∃ (c : Fin 512) (s : State) (p : VecPend), (core s c).vxPend = some p ∧ p.refused = 0
    ∧ (((core s c).vxRuns = [] ∨ ∃ r, (core s c).vxRuns = [r] ∧ r.ended = true)) ∧ coreIssues s c = true :=
  ⟨0, onCore 0 (fun k => { k with vxPend := some ⟨5, 0, 0, 3, 1, 0⟩, vxRuns := [{ vrun with ended := true }] }) (core1 0 1), ⟨5,
    0, 0, 3, 1, 0⟩, by exact ⟨by decide +kernel, by decide +kernel, .inr ⟨_, rfl, rfl⟩, by decide +kernel⟩⟩

theorem witness_VectorStartsAndLoads_2 : ∃ (c : Fin 512) (s : State) (s1 : State) (r : VecRun) (rest : List VecRun) (v : Nat),
    (core s c).vxRuns = r :: rest ∧ r.load = true ∧ coreClocked s c = true ∧ (core s c).seedBefore = none
    ∧ readMem s 0 (larderAddr c + Vx.src r.image) (8 * Vx.count r.image) = (s1, v, true) :=
  ⟨511, loads, (readMem loads 0 (larderAddr 511) 8).1, { vrun with load := true, image := desc [(16, 2, 1), (96, 12, 1)] }, [],
    9, by decide +kernel⟩

theorem witness_VectorStartsAndLoads_3 : ∃ (c : Fin 512) (s : State) (p : VecPend), (core s c).vxPend = some p ∧ p.refused ≠ 0
    ∧ (core s c).vxRuns = [] ∧ (core s c).seedAfter = none ∧ coreClocked s c = true :=
  ⟨0, onCore 0 (fun k => { k with vxPend := some ⟨5, 0, 2, 3, 1, 0⟩ }) (core1 0 1), ⟨5, 0, 2, 3, 1, 0⟩, by decide +kernel⟩

theorem witness_TilesAndVectorEnd_1 : ∃ (c : Fin 512) (s : State) (r : VecRun) (x : TileEntry) (rest : List TileEntry),
    (core s c).vxRuns.getLast? = some r ∧ r.needTile = true ∧ holder (core s c) = none ∧ (core s c).tiles = x :: rest
    ∧ coreIssues s c = true :=
  ⟨0, onCore 0 (fun k => { k with vxRuns := [{ vrun with needTile := true }], tiles := [⟨2, 5⟩] }) (core1 0 1),
    { vrun with needTile := true }, ⟨2, 5⟩, [], by decide +kernel⟩

theorem witness_TilesAndVectorEnd_2 : ∃ (c : Fin 512) (s : State) (r : VecRun) (x : TileEntry) (rest : List TileEntry),
    holder (core s c) = some r ∧ r.trel = true ∧ (core s c).tiles = x :: rest ∧ coreClocked s c = true :=
  ⟨0, onCore 0 (fun k => { k with vxRuns := [{ vrun with held := true, trel := true }], tiles := [⟨2, 5⟩] }) (core1 0 1),
    { vrun with held := true, trel := true }, ⟨2, 5⟩, [], by decide +kernel⟩

theorem witness_TilesAndVectorEnd_3 : ∃ (c : Fin 512) (s : State) (r : VecRun) (rest : List VecRun),
    (core s c).vxRuns = r :: rest ∧ r.load = false ∧ r.ended = true ∧ r.held = false ∧ coreClocked s c = true :=
  ⟨0, onCore 0 (fun k => { k with vxRuns := [{ vrun with ended := true }] }) (core1 0 1), { vrun with ended := true }, [],
    by decide +kernel⟩

/-- The hypotheses of `lanesResult` are met: core `c` issues a word of the opcode whose fields are in order. -/
def lanesMet (opc : Nat) (ok : Nat → Bool) : Prop :=
  ∃ (c : Fin 512) (s : State) (r : VecRun) (w : Nat), issues s c r w ∧ Vi.opc w = opc ∧ ok w = true

/-- The state `inst` meets them, where the word does. -/
theorem lanesMet_of {opc : Nat} {ok : Nat → Bool} (c : Fin 512) (w : Nat)
    (h : (issuing (core (inst c w) c) = some vrun ∧ coreIssues (inst c w) c = true ∧ (core (inst c w) c).vec.inst vrun.pc = w
      ∧ (vecAdvance vrun.loops (vrun.pc + 1)).2 < 2048) ∧ Vi.opc w = opc ∧ ok w = true) : lanesMet opc ok :=
  ⟨c, inst c w, vrun, w, h⟩

theorem witness_VectorFloatLanes :
    lanesMet 0x01 twoSources
    ∧ lanesMet 0x02 twoSources
    ∧ lanesMet 0x03 twoSources
    ∧ lanesMet 0x04 threeSources
    ∧ lanesMet 0x05 threeSources
    ∧ lanesMet 0x06 twoSources
    ∧ lanesMet 0x07 twoSources
    ∧ lanesMet 0x0A (oneSource 0)
    ∧ lanesMet 0x0B (oneSource 0)
    ∧ lanesMet 0x0C (oneSource 0)
    ∧ lanesMet 0x0D (oneSource 0)
    ∧ lanesMet 0x0E (fun w => oneSource 4 w && (cvtElem (Vi.imm w)).isSome)
    ∧ lanesMet 0x0F (fun w => oneSource 4 w && ((cvtElem (Vi.imm w)).isSome || Vi.imm w == 0xE)) :=
  ⟨lanesMet_of 0 (word 0x01 [(49, 6, 1), (43, 6, 2), (37, 6, 3)]) (by decide +kernel),
    lanesMet_of 0 (word 0x02 [(49, 6, 1), (43, 6, 2), (37, 6, 3)]) (by decide +kernel),
    lanesMet_of 0 (word 0x03 [(49, 6, 1), (43, 6, 2), (37, 6, 3)]) (by decide +kernel),
    lanesMet_of 0 (word 0x04 [(49, 6, 1), (43, 6, 2), (37, 6, 3), (31, 6, 4)]) (by decide +kernel),
    lanesMet_of 0 (word 0x05 [(49, 6, 1), (43, 6, 2), (37, 6, 3), (31, 6, 4)]) (by decide +kernel),
    lanesMet_of 0 (word 0x06 [(49, 6, 1), (43, 6, 2), (37, 6, 3)]) (by decide +kernel),
    lanesMet_of 0 (word 0x07 [(49, 6, 1), (43, 6, 2), (37, 6, 3)]) (by decide +kernel),
    lanesMet_of 0 (word 0x0A [(49, 6, 1), (43, 6, 2), (0, 31, 0)]) (by decide +kernel),
    lanesMet_of 0 (word 0x0B [(49, 6, 1), (43, 6, 2), (0, 31, 0)]) (by decide +kernel),
    lanesMet_of 0 (word 0x0C [(49, 6, 1), (43, 6, 2), (0, 31, 0)]) (by decide +kernel),
    lanesMet_of 0 (word 0x0D [(49, 6, 1), (43, 6, 2), (0, 31, 0)]) (by decide +kernel),
    lanesMet_of 0 (word 0x0E [(49, 6, 1), (43, 6, 2), (0, 31, 13)]) (by decide +kernel),
    lanesMet_of 0 (word 0x0F [(49, 6, 1), (43, 6, 2), (0, 31, 14)]) (by decide +kernel)⟩

theorem witness_VectorIntegerLanes :
    lanesMet 0x18 twoSources
    ∧ lanesMet 0x19 twoSources
    ∧ lanesMet 0x1A twoSources
    ∧ lanesMet 0x1B twoSources
    ∧ lanesMet 0x1C (oneSource 5)
    ∧ lanesMet 0x1D (oneSource 5)
    ∧ lanesMet 0x1E (oneSource 5)
    ∧ lanesMet 0x1F twoSources
    ∧ lanesMet 0x20 twoSources
    ∧ lanesMet 0x22 (fun w => Vi.va w == 0 && oneSource 31 w)
    ∧ lanesMet 0x09 (fun w => Vi.vc w == 0 && decide (Vi.imm w < 8))
    ∧ lanesMet 0x11 (oneSource 6)
    ∧ lanesMet 0x12 (oneSource 6)
    ∧ lanesMet 0x17 (fun w => oneSource 2 w && Vi.imm w != 3) :=
  ⟨lanesMet_of 0 (word 0x18 [(49, 6, 1), (43, 6, 2), (37, 6, 3)]) (by decide +kernel),
    lanesMet_of 0 (word 0x19 [(49, 6, 1), (43, 6, 2), (37, 6, 3)]) (by decide +kernel),
    lanesMet_of 0 (word 0x1A [(49, 6, 1), (43, 6, 2), (37, 6, 3)]) (by decide +kernel),
    lanesMet_of 0 (word 0x1B [(49, 6, 1), (43, 6, 2), (37, 6, 3)]) (by decide +kernel),
    lanesMet_of 0 (word 0x1C [(49, 6, 1), (43, 6, 2), (0, 31, 31)]) (by decide +kernel),
    lanesMet_of 0 (word 0x1D [(49, 6, 1), (43, 6, 2), (0, 31, 31)]) (by decide +kernel),
    lanesMet_of 0 (word 0x1E [(49, 6, 1), (43, 6, 2), (0, 31, 31)]) (by decide +kernel),
    lanesMet_of 0 (word 0x1F [(49, 6, 1), (43, 6, 2), (37, 6, 3)]) (by decide +kernel),
    lanesMet_of 0 (word 0x20 [(49, 6, 1), (43, 6, 2), (37, 6, 3)]) (by decide +kernel),
    lanesMet_of 0 (word 0x22 [(49, 6, 1), (0, 31, 7)]) (by decide +kernel),
    lanesMet_of 0 (word 0x09 [(49, 6, 1), (43, 6, 2), (37, 6, 3), (0, 31, 7)]) (by decide +kernel),
    lanesMet_of 0 (word 0x11 [(49, 6, 1), (43, 6, 2), (0, 31, 63)]) (by decide +kernel),
    lanesMet_of 0 (word 0x12 [(49, 6, 1), (43, 6, 2), (0, 31, 63)]) (by decide +kernel),
    lanesMet_of 0 (word 0x17 [(49, 6, 1), (43, 6, 2), (0, 31, 2)]) (by decide +kernel)⟩

theorem witness_LaneMoves :
    lanesMet 0x10 threeSources
    ∧ lanesMet 0x13 (fun w => Vi.vc w == 0 && decide (Vi.imm w < 2))
    ∧ lanesMet 0x14 (fun w => Vi.vc w == 0 && decide (Vi.imm w < 2))
    ∧ lanesMet 0x15 (fun w => oneSource 5 w && packWidth (Vi.imm w))
    ∧ lanesMet 0x16 (fun w => oneSource 5 w && packWidth (Vi.imm w)) :=
  ⟨lanesMet_of 0 (word 0x10 [(49, 6, 1), (43, 6, 2), (37, 6, 3), (31, 6, 4)]) (by decide +kernel),
    lanesMet_of 0 (word 0x13 [(49, 6, 1), (43, 6, 2), (37, 6, 3), (0, 31, 1)]) (by decide +kernel),
    lanesMet_of 0 (word 0x14 [(49, 6, 1), (43, 6, 2), (37, 6, 3), (0, 31, 1)]) (by decide +kernel),
    lanesMet_of 0 (word 0x15 [(49, 6, 1), (43, 6, 2), (0, 31, 16)]) (by decide +kernel),
    lanesMet_of 0 (word 0x16 [(49, 6, 1), (43, 6, 2), (0, 31, 16)]) (by decide +kernel)⟩

/-- The hypotheses of `maskResult` are met. -/
def maskMet (opc : Nat) (ok : Nat → Bool) : Prop :=
  ∃ (c : Fin 512) (s : State) (r : VecRun) (w : Nat), issues s c r w ∧ Vi.opc w = opc ∧ ok w = true ∧ 1 ≤ Vi.vd w ∧ Vi.vd w ≤ 7

/-- The state `inst` meets them, where the word does. -/
theorem maskMet_of {opc : Nat} {ok : Nat → Bool} (c : Fin 512) (w : Nat)
    (h : (issuing (core (inst c w) c) = some vrun ∧ coreIssues (inst c w) c = true ∧ (core (inst c w) c).vec.inst vrun.pc = w
      ∧ (vecAdvance vrun.loops (vrun.pc + 1)).2 < 2048) ∧ Vi.opc w = opc ∧ ok w = true ∧ 1 ≤ Vi.vd w ∧ Vi.vd w ≤ 7) :
    maskMet opc ok :=
  ⟨c, inst c w, vrun, w, h⟩

theorem witness_VectorMasks :
    maskMet 0x08 (fun w => Vi.vc w == 0 && decide (Vi.imm w ≤ 5))
    ∧ maskMet 0x21 (fun w => Vi.vc w == 0 && decide (Vi.imm w ≤ 5))
    ∧ maskMet 0x23 (fun w => twoSources w && decide (Vi.va w < 8) && decide (Vi.vb w < 8))
    ∧ maskMet 0x24 (fun w => twoSources w && decide (Vi.va w < 8) && decide (Vi.vb w < 8))
    ∧ maskMet 0x25 (fun w => twoSources w && decide (Vi.va w < 8) && decide (Vi.vb w < 8))
    ∧ maskMet 0x26 (fun w => twoSources w && decide (Vi.va w < 8) && Vi.vb w == 0) :=
  ⟨maskMet_of 0 (word 0x08 [(49, 6, 1), (43, 6, 2), (37, 6, 3), (0, 31, 5)]) (by decide +kernel),
    maskMet_of 0 (word 0x21 [(49, 6, 1), (43, 6, 2), (37, 6, 3), (0, 31, 5)]) (by decide +kernel),
    maskMet_of 0 (word 0x23 [(49, 6, 1), (43, 6, 2), (37, 6, 3)]) (by decide +kernel),
    maskMet_of 0 (word 0x24 [(49, 6, 1), (43, 6, 2), (37, 6, 3)]) (by decide +kernel),
    maskMet_of 0 (word 0x25 [(49, 6, 1), (43, 6, 2), (37, 6, 3)]) (by decide +kernel),
    maskMet_of 0 (word 0x26 [(49, 6, 7), (43, 6, 2)]) (by decide +kernel)⟩

theorem witness_VectorControl_1 : ∃ (c : Fin 512) (s : State) (r : VecRun), issues s c r 0 :=
  ⟨0, inst 0 0, vrun, by unfold issues; decide +kernel⟩

theorem witness_VectorControl_2 : ∃ (c : Fin 512) (s : State) (r : VecRun) (w : Nat), issues s c r w ∧ Vi.opc w = 0x33
    ∧ Vi.mk w = 0 ∧ Vi.vd w < 16 ∧ Vi.va w = 0 ∧ Vi.vb w = 0 ∧ Vi.vc w = 0 ∧ Vi.imm w < 2 ^ 24 :=
  ⟨0, inst 0 (word 0x33 [(49, 6, 15), (0, 27, 2 ^ 24 - 1)]), vrun, word 0x33 [(49, 6, 15), (0, 27, 2 ^ 24 - 1)],
    by unfold issues; decide +kernel⟩

theorem witness_VectorControl_3 : ∃ (c : Fin 512) (s : State) (r : VecRun) (w : Nat), issues s c r w ∧ Vi.opc w = 0x34
    ∧ fld w 0 58 = 0 :=
  ⟨0, inst 0 (word 0x34 []), vrun, word 0x34 [], by unfold issues; decide +kernel⟩

theorem witness_VectorControl_4 : ∃ (c : Fin 512) (s : State) (r : VecRun) (w : Nat), issuing (core s c) = some r
    ∧ coreIssues s c = true ∧ (core s c).vec.inst r.pc = w ∧ Vi.opc w = 0x35 ∧ Vi.mk w = 0 ∧ Vi.vd w = 0 ∧ Vi.va w = 0
    ∧ Vi.vb w = 0 ∧ Vi.vc w = 0 ∧ Vi.imm w < 2 ^ 27 ∧ fld w 0 16 ≠ 0 ∧ fld w 16 11 ≠ 0 ∧ fld w 16 11 ≤ 2046 ∧ r.loops.length < 2
    ∧ r.pc + fld w 16 11 ≤ 2047 ∧ ((∀ l ∈ r.loops, r.pc + fld w 16 11 < l.start + l.body)) ∧ ((∀ k,
    k < fld w 16 11 → Vi.opc ((core s c).vec.inst (r.pc + 1 + k)) ≠ 0x3F)) :=
  ⟨0, inst 0 (word 0x35 [(0, 16, 7), (16, 11, 2)]), vrun, word 0x35 [(0, 16, 7), (16, 11, 2)], by decide +kernel⟩

theorem witness_VectorControl_5 : ∃ (c : Fin 512) (s : State) (r : VecRun) (w : Nat), issuing (core s c) = some r
    ∧ coreIssues s c = true ∧ (core s c).vec.inst r.pc = w ∧ Vi.opc w = 0x3F ∧ fld w 0 58 = 0 ∧ (core s c).seedBefore = none :=
  ⟨0, inst 0 (word 0x3F []), vrun, word 0x3F [], by decide +kernel⟩

theorem witness_VectorControl_6 : ∃ (c : Fin 512) (s : State) (r : VecRun) (w : Nat), issues s c r w ∧ Vi.opc w = 0x01
    ∧ twoSources w = false ∧ (core s c).seedBefore = none ∧ r.pc < 2048 :=
  ⟨0, inst 0 (word 1 [(0, 27, 1)]), vrun, word 1 [(0, 27, 1)], by unfold issues; decide +kernel⟩

theorem witness_VectorMemory_1 : ∃ (c : Fin 512) (s : State) (r : VecRun) (w : Nat) (f : VFmt), issues s c r w ∧ Vi.opc w = 0x30
    ∧ vfmtOf (Vi.fmt w) = some f ∧ (Vi.fmt w ≤ 4 ∨ (8 ≤ Vi.fmt w ∧ Vi.fmt w ≤ 10) ∨ Vi.fmt w = 0xE) ∧ Vi.as' w = 0
    ∧ Vi.rnd w = false ∧ Vi.sr w = 0 ∧ Vi.blk w = 0 ∧ lanesReach s c w (f.width / 8) (f == .elem .fp32 || f == .raw 32) :=
  ⟨0, inst 0 (word 0x30 [(37, 4, 0xE), (15, 15, 1), (0, 15, 2)]), vrun, word 0x30 [(37, 4, 0xE), (15, 15, 1), (0, 15, 2)],
    .e8m0, by unfold issues lanesReach; decide +kernel⟩

theorem witness_VectorMemory_2 : ∃ (c : Fin 512) (s : State) (r : VecRun) (w : Nat) (f : VFmt), issues s c r w ∧ Vi.opc w = 0x31
    ∧ vfmtOf (Vi.fmt w) = some f ∧ (Vi.fmt w ≤ 4 ∨ (8 ≤ Vi.fmt w ∧ Vi.fmt w ≤ 10)) ∧ ((Vi.rnd w = true → 1 ≤ Vi.fmt w
    ∧ Vi.fmt w ≤ 4)) ∧ ((Vi.rnd w = false → Vi.sr w = 0)) ∧ Vi.as' w = 0 ∧ Vi.blk w = 0
    ∧ lanesReach s c w (f.width / 8) (f == .elem .fp32 || f == .raw 32) ∧ ((∀ i,
    laneOn s c w i → readable s (lanePlace s c w (f.width / 8) i) = true)) :=
  ⟨0, inst 0 (word 0x31 [(37, 4, 2), (15, 15, 1)]), vrun, word 0x31 [(37, 4, 2), (15, 15, 1)], .elem .fp16,
    by unfold issues lanesReach laneOn; exact ⟨by decide +kernel, by decide +kernel, by decide +kernel, by decide +kernel,
    by decide +kernel, by decide +kernel, by decide +kernel, by decide +kernel, by decide +kernel,
    fun i h => (by decide +kernel : ∀ i, i < 64 → readable (inst 0 (word 0x31 [(37, 4, 2), (15, 15,
    1)])) (lanePlace (inst 0 (word 0x31 [(37, 4, 2), (15, 15, 1)])) 0 (word 0x31 [(37, 4, 2), (15, 15,
    1)]) 2 i) = true) i h.1⟩⟩

theorem witness_VectorMemory_3 : ∃ (c : Fin 512) (s : State) (r : VecRun) (w : Nat) (n : Nat) (b : Nat) (pe : Nat) (ps : Nat) (x : Elem),
    issues s c r w ∧ Vi.opc w = 0x32 ∧ vfmtOf (Vi.fmt w) = some (.elem x) ∧ x.isBlock = true ∧ Vi.mk w = 0 ∧ Vi.off w = 0
    ∧ Vi.stride w = 0 ∧ ((Vi.rnd w = false → Vi.sr w = 0)) ∧ b = 16 * 2 ^ Vi.blk w ∧ n = (if Vi.blk w = 3 then 128 else 64)
    ∧ ((Vi.blk w = 3 → Vi.vd w ≠ 63)) ∧ cellarRange s c ((core s c).vec.addr (Vi.an w)) (n * x.width / 8) = some pe
    ∧ cellarRange s c ((core s c).vec.addr (Vi.as' w)) (n / b) = some ps ∧ (core s c).vec.addr (Vi.an w) / 2 ^ 30 ≠ 1
    ∧ (core s c).vec.addr (Vi.as' w) / 2 ^ 30 ≠ 1 ∧ ((∀ a, (pe ≤ a ∧ a < pe + n * x.width / 8) ∨ (ps ≤ a
    ∧ a < ps + n / b) → readable s a = true)) :=
  ⟨0, inst 0 (word 0x32 [(37, 4, 3), (45, 4, 1)]), vrun, word 0x32 [(37, 4, 3), (45, 4, 1)], 64, 16, larderAddr 0, larderAddr 0,
    .e4m3, by unfold issues; exact ⟨by decide +kernel, by decide +kernel, by decide +kernel, by decide +kernel,
    by decide +kernel, by decide +kernel, by decide +kernel, by decide +kernel, by decide +kernel, by decide +kernel,
    by decide +kernel, by decide +kernel, by decide +kernel, by decide +kernel, by decide +kernel,
    fun a h => readable_near _ (by decide +kernel) a (by simp [Elem.width] at h ; omega)⟩⟩

end Sys2Proof.Machine.Tests
end

