-- ==== Sys2Proof/Tests/WitnessDevice.lean ====
section
/-!
SUPPORT. Witnesses for the statements of dawn, power, the Steward and the memories: for each clause that has hypotheses, a
concrete state and operands that meet all of them together. A witness carries the number of its clause in the statement.
-/
namespace Sys2Proof.Machine.Tests

set_option Elab.async false
set_option linter.unusedVariables false

theorem witness_ResetsBegin_2 : ∃ (s : State), s.perstLow = false ∧ s.firmware = true :=
  ⟨up, by decide +kernel⟩

theorem witness_ResetsBegin_4 : ∃ (s : State), deviceDiscarded s = false :=
  ⟨up, by decide +kernel⟩

theorem witness_ResetsBegin_5 : ∃ (s : State), deviceDiscarded s = false :=
  ⟨up, by decide +kernel⟩

theorem witness_ResetsBegin_6 : ∃ (n : Nat) (s : State), n < 4 ∧ narrowDiscarded s = false :=
  ⟨3, up, by decide +kernel⟩

theorem witness_ResetsBegin_7 : ∃ (p : Nat) (s : State), p < 32 ∧ narrowDiscarded s = false ∧ partResetting s (p / 8) = false :=
  ⟨31, up, by decide +kernel⟩

theorem witness_ResetsBegin_8 : ∃ (vf : Fin 32) (s : State), vf.val ≠ 0 ∧ dawnDone s = true :=
  ⟨31, up, by decide +kernel⟩

theorem witness_DawnSteps_1 : ∃ (r : DawnReport) (s : State), dawnDone s = false ∧ dawnHeld s = false ∧ dawnStep s = 1 :=
  ⟨report, dawning 1, by decide +kernel⟩

theorem witness_DawnSteps_2 : ∃ (r : DawnReport) (s : State), dawnDone s = false ∧ dawnHeld s = false ∧ dawnStep s = 2
    ∧ ¬ bootable r.slot0 ∧ ¬ bootable r.slot1 :=
  ⟨{ report with slot0 := ⟨false, true, 0⟩, slot1 := ⟨true, false, 9⟩ }, dawning 2,
    by unfold bootable; exact ⟨by decide +kernel, by decide +kernel, by decide +kernel, by simp [slotFits], by simp⟩⟩

theorem witness_DawnSteps_3 : ∃ (r : DawnReport) (s : State) (slot : Bool), dawnDone s = false ∧ dawnHeld s = false
    ∧ dawnStep s = 2 ∧ bootable (if slot then r.slot1 else r.slot0)
    ∧ ((bootable (if slot then r.slot0 else r.slot1) → preferred r slot)) :=
  ⟨report, dawning 2, true, by unfold bootable preferred; exact ⟨by decide +kernel, by decide +kernel, by decide +kernel,
    ⟨by simp [slotFits, report, Nat.le_of_lt_succ Config.minVersion.isLt], rfl⟩, fun _ => by simp [report]⟩⟩

theorem witness_DawnSteps_4 : ∃ (r : DawnReport) (s : State), dawnDone s = false ∧ dawnHeld s = false ∧ dawnStep s = 3
    ∧ r.sharedRails = false :=
  ⟨report, dawning 3, by decide +kernel⟩

theorem witness_DawnSteps_5 : ∃ (r : DawnReport) (s : State), dawnDone s = false ∧ dawnHeld s = false ∧ dawnStep s = 3
    ∧ r.sharedRails = true :=
  ⟨{ report with sharedRails := true }, dawning 3, by decide +kernel⟩

theorem witness_DawnSteps_6 : ∃ (r : DawnReport) (s : State), dawnDone s = false ∧ dawnHeld s = false ∧ dawnStep s = 4 :=
  ⟨report, dawning 4, by decide +kernel⟩

theorem witness_DawnSteps_7 : ∃ (r : DawnReport) (s : State), dawnDone s = false ∧ dawnHeld s = false ∧ dawnStep s = 5
    ∧ s.wipes.any (fun w => w.1 == .device) = false :=
  ⟨report, dawning 5, by decide +kernel⟩

theorem witness_DawnSteps_8 : ∃ (r : DawnReport) (s : State), dawnDone s = false ∧ dawnHeld s = false ∧ dawnStep s = 6 :=
  ⟨report, dawning 6, by decide +kernel⟩

theorem witness_DawnSteps_9 : ∃ (x : ConfigAccess) (s : State), s.perstLow = false ∧ dawnDone s = false ∧ dawnStep s ≤ 3 :=
  ⟨.bar4Size 8, dawning 3, by decide +kernel⟩

theorem witness_DawnSteps_10 : ∃ (s : State), s.perstLow = false ∧ (dawnDone s = true ∨ 3 < dawnStep s) :=
  ⟨dawning 4, by decide +kernel⟩

theorem witness_PowerAndService_1 : ∃ (die : Fin 4) (s : State), partState s die.val = 0 ∧ dawnDone s = true :=
  ⟨3, serving, by decide +kernel⟩

theorem witness_PowerAndService_2 : ∃ (s : State), s.refclkLost = false :=
  ⟨up, by decide +kernel⟩

theorem witness_PowerAndService_3 : ∃ (s : State), inField s = false :=
  ⟨setRf up .reeve 0 Off.reeveLc 0 2 1, by decide +kernel⟩

theorem witness_PowerAndService_4 : ∃ (s : State), powerCheck s 1 = 0 ∧ powerState s = 0 ∧ resident s = 0 :=
  ⟨serving, by decide +kernel⟩

theorem witness_PowerAndService_5 : ∃ (s : State), powerCheck s 1 = 0 ∧ powerState s = 0 ∧ resident s ≠ 0 :=
  ⟨setRf serving .global 0 Off.globalRun 0 5 1, by decide +kernel⟩

theorem witness_PowerAndService_6 : ∃ (s : State), powerCheck s 2 = 0 ∧ (powerState s = 0 ∨ powerState s = 1)
    ∧ resident s = 0 :=
  ⟨powered 1 0, by decide +kernel⟩

theorem witness_PowerAndService_7 : ∃ (s : State), (powerState s = 1 ∨ powerState s = 2) ∧ powerCheck s 0 = 0 :=
  ⟨powered 2 0, by decide +kernel⟩

theorem witness_PowerAndService_8 : ∃ (s : State), tripped s = false ∧ s.powerStep = 1 :=
  ⟨powered 0 1, by decide +kernel⟩

theorem witness_PowerAndService_9 : ∃ (s : State), tripped s = false ∧ s.powerStep = 2 :=
  ⟨powered 0 2, by decide +kernel⟩

theorem witness_PowerAndService_10 : ∃ (s : State), tripped s = false ∧ s.powerStep = 4 ∧ anyTest s = false ∧ powerReq s = 0 :=
  ⟨powered 1 4, by decide +kernel⟩

theorem witness_StewardPeriods_1 : ∃ (r : PeriodReport) (s : State) (s0 : State), s.time.toNat % 512 = 0
    ∧ fireOnce s 5 = some s0 :=
  ⟨⟨[⟨1, 0, 3, 100⟩], [(5, 16)], [], [], []⟩, up, { up with fired := tset 0 5 4097 up.fired }, by decide +kernel⟩

theorem witness_StewardPeriods_2 : ∃ (s : State), s.time.toNat % 512 = 64 ∧ s.estNext.isEmpty = false :=
  ⟨{ up with time := 64, estNext := [(0, 0)] }, by decide +kernel⟩

theorem witness_StewardPeriods_3 : ∃ (die : Fin 4) (temp : BitVec 10) (s : State), 460 ≤ temp.toNat ∧ tripped s = false :=
  ⟨3, 460, up, by decide +kernel⟩

theorem witness_PointsAndCurfew_1 : ∃ (v : Word) (s : State), hostOpen s .steward = true ∧ v.toNat < 2 ^ 16 ∧ s.curfew = .none
    ∧ linkOff s = false ∧ ((∀ d, d < 4 → retired s d (fld v.toNat (4 * d) 4) = false)) :=
  ⟨0, up, by exact ⟨by decide +kernel, by decide +kernel, by decide +kernel, by decide +kernel, fun d _ => by simp [retired,
    fld]⟩⟩

theorem witness_PointsAndCurfew_2 : ∃ (v : Word) (s : State) (d : Nat), hostOpen s .steward = true ∧ v.toNat < 2 ^ 16 ∧ d < 4
    ∧ retired s d (fld v.toNat (4 * d) 4) = true :=
  ⟨0x50, withSoc 1 guarded up, 1, by exact ⟨by decide +kernel, by decide +kernel, by decide +kernel,
    by have h : (soc (withSoc 1 guarded up) 1).guard = 900 := (by decide +kernel); simp only [retired, effVolt,
    h]; simp [fld]⟩⟩

theorem witness_PointsAndCurfew_3 : ∃ (die : Fin 4) (s : State) (p : Nat) (start : DWord), (soc s die.val).rising = some p
    ∧ (soc s die.val).settleFrom = some start ∧ start.toNat + rf s .steward 0 Off.stewardVfSettle 0 16 ≤ s.time.toNat :=
  ⟨1, withSoc 1 { Soc.reset with rising := some 15, settleFrom := some 0 } { up with time := 65536 }, 15, 0, by decide +kernel⟩

theorem witness_PointsAndCurfew_4 : ∃ (die : Fin 4) (mv : BitVec 12) (s : State), (soc s die.val).droop = false
    ∧ mv.toNat + rf s .steward 0 Off.stewardDroopMargin 0 8 < effVolt s die.val (soc s die.val).cur :=
  ⟨1, 0, withSoc 1 guarded up, by exact ⟨by decide +kernel,
    by have h : (soc (withSoc 1 guarded up) 1).guard = 900 := (by decide +kernel); have h0 : rf (withSoc 1 guarded up) .steward 0 Off.stewardDroopMargin 0 8 < 850 := (by decide +kernel); simp only [effVolt]; show _ < if (15 : Nat) = 0 then _ else _; simp only [Nat.reduceEqDiff,
    if_false]; have : (1 : Fin 4).val = 1 := rfl; rw [this, h]; simp; omega⟩⟩

theorem witness_PointsAndCurfew_5 : ∃ (die : Fin 4) (mv : BitVec 12) (s : State),
    effVolt s die.val (soc s die.val).cur ≤ mv.toNat + rf s .steward 0 Off.stewardDroopMargin 0 8 :=
  ⟨1, 4095, up,
    by have h : (soc up 1).guard = 0 := (by decide +kernel); have h2 := (Config.vfVolt 1 (soc up 1).cur).isLt; have : (1 : Fin 4).val = 1 := rfl; simp only [effVolt,
    this, h]; split <;> simp <;> omega⟩

theorem witness_PointsAndCurfew_6 : ∃ (die : Fin 4) (x : BitVec 64) (s : State), (soc s die.val).droopOn.toNat ≤ x.toNat
    ∧ x.toNat + 64 ≤ s.time.toNat :=
  ⟨1, 4032, withSoc 1 { Soc.reset with droop := true, droopOn := 4000 } up, by decide +kernel⟩

theorem witness_PointsAndCurfew_7 : ∃ (s : State), s.curfew = .none :=
  ⟨up, by decide +kernel⟩

theorem witness_PointsAndCurfew_8 : ∃ (s : State), s.curfew = .active :=
  ⟨{ up with curfew := .active }, by decide +kernel⟩

theorem witness_PointsAndCurfew_9 : ∃ (s : State) (rose : DWord), s.curfew = .hold rose ∧ rose.toNat + 25000 ≤ s.time.toNat :=
  ⟨{ up with curfew := .hold 5, time := 25005 }, 5, by decide +kernel⟩

theorem witness_VoltageAndWear_1 : ∃ (die : Fin 4) (s : State) (w : VoltWrite), (soc s die.val).volt = some w
    ∧ w.parked = false :=
  ⟨1, withSoc 1 (writing 0 false) up, ⟨7, true, 0, false, 0⟩, by decide +kernel⟩

theorem witness_VoltageAndWear_2 : ∃ (die : Fin 4) (s : State) (w : VoltWrite), (soc s die.val).volt = some w ∧ w.parked = false
    ∧ w.failures < 2 :=
  ⟨1, withSoc 1 (writing 1 false) up, ⟨7, true, 1, false, 0⟩, by decide +kernel⟩

theorem witness_VoltageAndWear_3 : ∃ (die : Fin 4) (s : State) (w : VoltWrite), (soc s die.val).volt = some w ∧ w.parked = false
    ∧ 2 ≤ w.failures :=
  ⟨1, withSoc 1 (writing 2 false) up, ⟨7, true, 2, false, 0⟩, by decide +kernel⟩

theorem witness_VoltageAndWear_4 : ∃ (die : Fin 4) (s : State) (w : VoltWrite), (soc s die.val).volt = some w ∧ w.parked = true
    ∧ w.since.toNat + 2 ^ 14 ≤ s.time.toNat :=
  ⟨1, { withSoc 1 (writing 0 true) up with time := 16384 }, ⟨7, true, 0, true, 0⟩, by decide +kernel⟩

theorem witness_VoltageAndWear_5 : ∃ (s : State) (s1 : State), s.time.toNat % 2 ^ 28 = 0 ∧ fireOnce s 4 = some s1 :=
  ⟨{ up with time := BitVec.ofNat 64 (2 ^ 28) },
    { up with time := BitVec.ofNat 64 (2 ^ 28), fired := tset 0 4 (2 ^ 28 + 1) up.fired }, by decide +kernel⟩

theorem witness_MemoryCodeCorrects_1 : ∃ (w : Nat), codeSum w 36 = (0, 0, 0, 0) :=
  ⟨encodeWord 9, by decide +kernel⟩

theorem witness_MemoryCodeCorrects_2 : ∃ (w : Nat) (s0 : Nat) (s1 : Nat) (s2 : Nat) (s3 : Nat) (k : Nat), codeSum w 36 = (s0,
    s1, s2, s3) ∧ s0 ≠ 0 ∧ gfMul s0 s1 = gfMul s2 s2 ^^^ gfMul s2 s3 ^^^ gfMul 8 (gfMul s3 s3) ∧ k < 36
    ∧ codePair k = (gfMul s2 (gfInv s0), gfMul s3 (gfInv s0)) :=
  ⟨1, 1, quadForm 0 2, 0, 2, 0, by decide +kernel⟩

theorem witness_MemoryCodeCorrects_3 : ∃ (w : Nat) (s0 : Nat) (s1 : Nat) (s2 : Nat) (s3 : Nat), codeSum w 36 = (s0, s1, s2, s3) ∧ (s0, s1, s2, s3) ≠ (0, 0, 0, 0)
      ∧ (s0 = 0 ∨ gfMul s0 s1 ≠ gfMul s2 s2 ^^^ gfMul s2 s3 ^^^ gfMul 8 (gfMul s3 s3)
      ∨ (∀ k, k < 36 → codePair k ≠ (gfMul s2 (gfInv s0), gfMul s3 (gfInv s0)))) :=
  ⟨0x11, 0, quadForm 0 2 ^^^ quadForm 1 2, 1, 0, by decide +kernel⟩

theorem witness_MemoryCodeCorrects_5 : ∃ (data : Nat) (k : Nat) (e : Nat), k < 36 ∧ 0 < e ∧ e < 16 :=
  ⟨9, 35, 15, by decide +kernel⟩

theorem witness_MemoryCodeCorrects_6 : ∃ (data : Nat) (j : Nat) (k : Nat) (e : Nat) (f : Nat), j < k ∧ k < 36 ∧ 0 < e ∧ e < 16
    ∧ 0 < f ∧ f < 16 :=
  ⟨9, 0, 35, 1, 15, by decide +kernel⟩

theorem witness_MemoryRequests_1 : ∃ (a : BitVec 51) (key : Fin 64) (data : BitVec 128) (s : State) (p : Place),
    placeOf (16 * (a.toNat / 16)) = some p ∧ p.encrypted = false ∧ openPlace s p
    ∧ s.copyPages.contains (16 * (a.toNat / 16) / 2 ^ 21) = false :=
  ⟨BitVec.ofNat 51 (commonsAddr 0 + 16), 0, 9, up, ⟨.commons, 0, 16⟩, by unfold openPlace; exact ⟨by decide +kernel,
    by decide +kernel, ⟨by decide +kernel, by decide +kernel, by intro f h; cases h⟩, by decide +kernel⟩⟩

theorem witness_MemoryRequests_2 : ∃ (a : BitVec 51) (key : Fin 64) (s : State) (p : Place),
    placeOf (16 * (a.toNat / 16)) = some p ∧ openPlace s p ∧ p.offline s = false
    ∧ rawWord s (a.toNat / 16) = encodeWord (rawWord s (a.toNat / 16)) :=
  ⟨BitVec.ofNat 51 (commonsAddr 0), 0, writeMem up 0 (commonsAddr 0) 16 9, ⟨.commons, 0, 0⟩,
    by unfold openPlace; exact ⟨by decide +kernel, ⟨by decide +kernel, by decide +kernel, by intro f h; cases h⟩,
    by decide +kernel, by decide +kernel⟩⟩

theorem witness_MemoryRequests_3 : ∃ (a : BitVec 51) (key : Fin 64) (s : State) (p : Place) (k : Nat) (e : Nat),
    placeOf (16 * (a.toNat / 16)) = some p ∧ openPlace s p ∧ p.offline s = false
    ∧ rawWord s (a.toNat / 16) = encodeWord (rawWord s (a.toNat / 16)) ∧ k < 36 ∧ 0 < e ∧ e < 16 :=
  ⟨BitVec.ofNat 51 (commonsAddr 0), 0, writeMem up 0 (commonsAddr 0) 16 9, ⟨.commons, 0, 0⟩, 35, 15,
    by unfold openPlace; exact ⟨by decide +kernel, ⟨by decide +kernel, by decide +kernel, by intro f h; cases h⟩,
    by decide +kernel, by decide +kernel, by decide +kernel, by decide +kernel, by decide +kernel⟩⟩

theorem witness_MemoryRequests_4 : ∃ (c : Fin 512) (slot : Fin 8) (a : BitVec 51) (key : Fin 64) (fmt : Fin 4) (scale : BitVec 8) (addends : BitVec 512) (mask : BitVec 16) (flags : BitVec 51) (block : BitVec 12) (s : State) (p : Place),
    placeOf (16 * (a.toNat / 16)) = some p ∧ openPlace s p ∧ s.copyPages.contains (16 * (a.toNat / 16) / 2 ^ 21) = false
    ∧ s.copyPages.contains ((flags.toNat + block.toNat / 4) / 2 ^ 21) = false :=
  ⟨0, 7, BitVec.ofNat 51 (commonsAddr 0), 0, 0, 127, 5, 0xFFFF, BitVec.ofNat 51 (commonsAddr 0 + 4096), 3, up, ⟨.commons, 0, 0⟩,
    by unfold openPlace; exact ⟨by decide +kernel, ⟨by decide +kernel, by decide +kernel, by intro f h; cases h⟩,
    by decide +kernel, by decide +kernel⟩⟩

theorem witness_RefreshAndThrottle_1 : ∃ (f : Fin 128) (s : State), s.time.toNat % 1024 = 8 * f.val :=
  ⟨3, { up with time := 24 }, by decide +kernel⟩

theorem witness_RefreshAndThrottle_2 : ∃ (f : Fin 128) (s : State), s.refreshing.toNat.testBit f.val = true
    ∧ 16 ≤ (s.time.toNat + 1024 - 8 * f.val) % 1024 :=
  ⟨3, { up with refreshing := 8 }, by decide +kernel⟩

theorem witness_RefreshAndThrottle_3 : ∃ (a : BitVec 51) (key : Fin 64) (flip : BitVec 144) (s : State) (p : Place),
    placeOf (16 * (a.toNat / 16)) = some p ∧ inCellarReset s p = false ∧ placeWaits s p = true :=
  ⟨BitVec.ofNat 51 (commonsAddr 0), 0, 0, { up with tests := [(0, .periodic)] }, ⟨.commons, 0, 0⟩, by decide +kernel⟩

theorem witness_RefreshAndThrottle_4 : ∃ (die : Fin 4) (f : Fin 128) (s : State), isHot s (128 * die.val + f.val) = true
    ∧ admitDue s (128 * die.val + f.val) = true ∧ (throttle s (128 * die.val + f.val)).held = [] :=
  ⟨0, 3, { up with hotFp := 8 }, by decide +kernel⟩

theorem witness_RefreshAndThrottle_5 : ∃ (die : Fin 4) (f : Fin 128) (s : State) (b : HeldBeat) (rest : List HeldBeat),
    isHot s (128 * die.val + f.val) = true ∧ (throttle s (128 * die.val + f.val)).held = b :: rest
    ∧ admitDue s (128 * die.val + f.val) = true ∧ addrWaits s (16 * b.word) = false ∧ beatHeld s b = false :=
  ⟨0, 3, { up with hotFp := 8, throttles := [(3, { Throttle.reset with held := [.read (BitVec.ofNat 51 (2 ^ 40)) 0 0] })] },
    .read (BitVec.ofNat 51 (2 ^ 40)) 0 0, [], by decide +kernel⟩

theorem witness_BondTestsAndCellars_1 : ∃ (die : Fin 4) (s : State) (s1 : State), s.time.toNat % 2 ^ 28 = die.val * 2 ^ 26
    ∧ cellarBusy s die.val = false ∧ bondTesting s die.val = false ∧ memoryOff s = false ∧ partState s die.val ≠ 3
    ∧ railGated s die.val = false ∧ fireOnce s (8 + die.val) = some s1 :=
  ⟨1, { up with time := BitVec.ofNat 64 (2 ^ 26) },
    { up with time := BitVec.ofNat 64 (2 ^ 26), fired := tset 0 9 (2 ^ 26 + 1) up.fired }, by decide +kernel⟩

theorem witness_BondTestsAndCellars_2 : ∃ (die : Fin 4) (s : State), tget BondTest.none die.val s.tests = .periodic
    ∧ s.waiting = [] ∧ s.evqWait = [] :=
  ⟨1, { up with tests := [(1, .periodic)] }, by decide +kernel⟩

theorem witness_BondTestsAndCellars_3 : ∃ (die : Fin 4) (s : State) (f : LaneFail),
    tget BondTest.none die.val s.tests = .periodic ∧ Lane.real f = true
    ∧ (tget [] (Lane.key f die.val) s.remaps).contains f.lane.val = false
    ∧ (tget [] (Lane.key f die.val) s.remaps).length < Lane.spares f :=
  ⟨1, { up with tests := [(1, .periodic)] }, ⟨false, 3, 5, 7⟩, by decide +kernel⟩

theorem witness_BondTestsAndCellars_4 : ∃ (die : Fin 4) (s : State), hostOpen s .cellar = true ∧ cellarBusy s die.val = false
    ∧ inLowPower s = false ∧ partResetting s die.val = false :=
  ⟨1, up, by decide +kernel⟩

theorem witness_BondTestsAndCellars_5 : ∃ (die : Fin 4) (s : State), rf s .cellar die.val Off.cellarResetStep 0 3 = 2 :=
  ⟨1, setRf up .cellar 1 Off.cellarResetStep 0 3 2, by decide +kernel⟩

theorem witness_BondTestsAndCellars_6 : ∃ (die : Fin 4) (s : State), s.pending = []
    ∧ rf s .cellar die.val Off.cellarResetStep 0 3 = 3 :=
  ⟨1, setRf up .cellar 1 Off.cellarResetStep 0 3 3, by decide +kernel⟩

theorem witness_BondTestsAndCellars_7 : ∃ (die : Fin 4) (s : State), rf s .cellar die.val Off.cellarResetStep 0 3 = 4 :=
  ⟨1, setRf up .cellar 1 Off.cellarResetStep 0 3 4, by decide +kernel⟩

theorem witness_BondTestsAndCellars_8 : ∃ (die : Fin 4) (s : State), tget BondTest.none die.val s.tests = .cellar :=
  ⟨1, { up with tests := [(1, .cellar)] }, by decide +kernel⟩

end Sys2Proof.Machine.Tests
end

