-- ==== Sys2Proof/Tests/WitnessHost.lean ====
section
/-!
SUPPORT. Witnesses for the statements of management, the host, the sideband and the registers: for each clause that has
hypotheses, a concrete state and operands that meet all of them together. A witness carries the number of its clause in the
statement.
-/
namespace Sys2Proof.Machine.Tests

set_option Elab.async false
set_option linter.unusedVariables false

theorem witness_ManagementServed_1 : ∃ (index : Nat) (s : State) (s1 : State) (p : Packet), takeMgmt s index false = some (p,
    s1) ∧ p.type = 0x30 ∧ Mg.mop p = 0x01 :=
  ⟨0, asked (mgmt 0 1 []), node7, mgmt 0 1 [], by decide +kernel⟩

theorem witness_ManagementServed_2 : ∃ (index : Nat) (s : State) (s1 : State) (p : Packet), takeMgmt s index false = some (p,
    s1) ∧ Mg.mop p = 0x02 :=
  ⟨0, asked (mgmt 0 2 [5, 0]), node7, mgmt 0 2 [5, 0], by decide +kernel⟩

theorem witness_ManagementServed_3 : ∃ (index : Nat) (s : State) (s1 : State) (p : Packet) (v : Nat),
    takeMgmt s index false = some (p, s1) ∧ Mg.mop p = 0x03 ∧ v = ofBytes (Mg.payload p) ∧ mgmtTrusted s p = true
    ∧ laneWriteGood v = true :=
  ⟨0, { up with inbox := [(2, came (mgmt 0 3 laneBytes) none)] }, up, mgmt 0 3 laneBytes, ofBytes laneBytes, by decide +kernel⟩

theorem witness_ManagementServed_4 : ∃ (index : Nat) (s : State) (s1 : State) (p : Packet), takeMgmt s index false = some (p,
    s1) ∧ p.type = 0x30 ∧ Mg.mop p = 0x03 ∧ mgmtTrusted s p = false :=
  ⟨0, asked (mgmt 0 3 laneBytes), node7, mgmt 0 3 laneBytes, by decide +kernel⟩

theorem witness_ManagementServed_5 : ∃ (index : Nat) (s : State) (s1 : State) (p : Packet) (g : Nat) (e : QWord),
    takeMgmt s index false = some (p, s1) ∧ Mg.mop p = 0x04 ∧ g = ofBytes ((Mg.payload p).take 1)
    ∧ e = BitVec.ofNat 128 (ofBytes (((Mg.payload p).drop 16).take 16)) ∧ mgmtTrusted s p = true ∧ groupCheck s g e = 0 :=
  ⟨0, { up with inbox := [(2, came (mgmt 0 4 groupBytes) none)] }, up, mgmt 0 4 groupBytes, 5, groupC, by decide +kernel⟩

theorem witness_ManagementServed_6 : ∃ (index : Nat) (d : Nat) (port : Nat) (s : State) (r : Routed) (rest : List (Nat × Routed)) (q : Packet) (out : Nat),
    takeAt s.inbox index = some ((d, r), rest) ∧ r.packet.type = 0x31 ∧ r.ingress = some port ∧ q = srArrived r.packet port
    ∧ Mg.index q ≠ Mg.hops q ∧ out = Mg.hop (Mg.route q) (Mg.index q) ∧ portState s out = Link.active :=
  ⟨0, 2, 31, { inState 30 Link.active with inbox := [(2, came sourced (some 31))] }, came sourced (some 31), [],
    srArrived sourced 31, 30, by decide +kernel⟩

theorem witness_MailboxCommands_1 : ∃ (s : State), mboxBusy s = false :=
  ⟨up, by decide +kernel⟩

theorem witness_MailboxCommands_2 : ∃ (s : State), mboxBusy s = true :=
  ⟨setRf up .reeve 0 Off.reeveCmdStatus 0 2 1, by decide +kernel⟩

theorem witness_MailboxCommands_3 : ∃ (s : State), mboxBusy s = false ∧ rf s .reeve 0 Off.reeveMgmtDst 16 4 ≠ 0 :=
  ⟨setRf up .reeve 0 Off.reeveMgmtDst 16 4 1, by decide +kernel⟩

theorem witness_MailboxCommands_4 : ∃ (index : Nat) (s : State) (s1 : State) (p : Packet) (r : MgmtRun),
    takeMgmt s index true = some (p, s1) ∧ s.mgmt = some r ∧ r.xid = Mg.xid p :=
  ⟨0, { asked (mgmt 1 1 []) with mgmt := some ⟨5, 0⟩ }, { node7 with mgmt := some ⟨5, 0⟩ }, mgmt 1 1 [], ⟨5, 0⟩,
    by decide +kernel⟩

theorem witness_MailboxCommands_5 : ∃ (s : State) (r : MgmtRun), s.mgmt = some r
    ∧ r.since.toNat + txnTimeout s ≤ s.time.toNat :=
  ⟨{ up with mgmt := some ⟨5, 0⟩, time := BitVec.ofNat 64 (2 ^ 24) }, ⟨5, 0⟩, by decide +kernel⟩

theorem witness_MailboxCommands_6 : ∃ (slot : Bool) (s : State), slot ≠ s.booted ∧ mboxBusy s = false :=
  ⟨true, up, by decide +kernel⟩

theorem witness_MailboxCommands_8 : ∃ (result : BitVec 4) (s : State) (r : FwRun), s.fw = some r :=
  ⟨1, { up with fw := some ⟨1, true, 0, []⟩ }, ⟨1, true, 0, []⟩, by decide +kernel⟩

theorem witness_MailboxCommands_9 : ∃ (v : BitVec 32) (s : State), v.toNat < 4 ∧ v.toNat = rf s .reeve 0 Off.reeveLc 0 2 + 1
    ∧ resident s = 0 ∧ inService s = true ∧ mboxBusy s = false :=
  ⟨3, setRf up .global 0 Off.globalPartState 0 8 0, by decide +kernel⟩

theorem witness_MailboxCommands_10 : ∃ (v : BitVec 32) (s : State), v.toNat < 4 ∧ v.toNat ≠ rf s .reeve 0 Off.reeveLc 0 2 + 1 :=
  ⟨0, up, by decide +kernel⟩

theorem witness_DoorbellsAndQueues_1 : ∃ (ctx : Fin 32) (slot : Fin 16) (word : Fin 8) (v : BitVec 32) (ide : Bool) (s : State),
    ideBlocked s ide = false ∧ ctx.val ≠ 0 ∧ dawnDone s = true :=
  ⟨31, 15, 7, 9, false, up, by decide +kernel⟩

theorem witness_DoorbellsAndQueues_2 : ∃ (ctx : Fin 32) (slot : Fin 16) (word : Fin 8) (v : BitVec 32) (s : State),
    ideBlocked s false = true :=
  ⟨31, 15, 7, 9, setRbit up .pcie 0 Off.pcieIdeCtrl 0 true, by decide +kernel⟩

theorem witness_DoorbellsAndQueues_3 : ∃ (ctx : Fin 32) (v : BitVec 32) (ide : Bool) (s : State), ideBlocked s ide = false
    ∧ ctx.val ≠ 0 ∧ dawnDone s = true ∧ fld v.toNat 5 3 = 0 ∧ fld v.toNat 9 7 = 0
    ∧ evqEnableCheck s ctx (fld v.toNat 0 5) = 0 :=
  ⟨1, 0x00640006, false, mapped3 1 up, by decide +kernel⟩

theorem witness_DoorbellsAndQueues_4 : ∃ (ctx : Fin 32) (v : BitVec 32) (ide : Bool) (s : State), ideBlocked s ide = false
    ∧ ctx.val ≠ 0 ∧ dawnDone s = true ∧ fld v.toNat 5 3 = 0 ∧ fld v.toNat 9 7 = 0
    ∧ evqEnableCheck s ctx (fld v.toNat 0 5) ≠ 0 :=
  ⟨1, 0x00640015, false, mapped3 1 up, by decide +kernel⟩

theorem witness_DoorbellsAndQueues_5 : ∃ (ctx : Fin 32) (v : BitVec 32) (ide : Bool) (s : State), ideBlocked s ide = false
    ∧ ctx.val ≠ 0 ∧ (fld v.toNat 5 3 ≠ 0 ∨ fld v.toNat 9 7 ≠ 0) :=
  ⟨1, 0x8000, false, up, by decide +kernel⟩

theorem witness_DoorbellsAndQueues_6 : ∃ (ctx : Fin 32) (v : BitVec 32) (ide : Bool) (s : State), ideBlocked s ide = false
    ∧ ctx.val ≠ 0 ∧ dawnDone s = true :=
  ⟨1, 9, false, up, by decide +kernel⟩

theorem witness_DoorbellsAndQueues_7 : ∃ (ctx : Fin 32) (s : State) (last : Word) (sent : DWord), ctx.val ≠ 0 ∧ tget (0,
    0) ctx.val s.evqSent = (last, sent) ∧ reg s .doorbell ctx Off.doorbellEvqTail ≠ last
    ∧ sent.toNat + rf s .doorbell ctx Off.doorbellEvqCfg 16 16 ≤ s.time.toNat :=
  ⟨1, setReg up .doorbell 1 Off.doorbellEvqTail 3, 0, 0, by decide +kernel⟩

theorem witness_HostWindows_1 : ∃ (fn : Fin 32) (dw : Nat) (len : Nat) (ide : Bool) (s : State) (w : Target),
    ideBlocked s ide = false ∧ len ≠ 0 ∧ windowOutside s fn (4 * dw) (4 * len) = false ∧ quiescing s .pcie 0 = false
    ∧ windowTarget s fn (windowAddr s fn (4 * dw)) (4 * len) .r = .ok w :=
  ⟨1, 0x400, 4, false, windowed, ⟨thisNode windowed, granaryAddr 0 + 0x1000, 0, 1⟩, by decide +kernel⟩

theorem witness_HostWindows_2 : ∃ (fn : Fin 32) (dw : Nat) (len : Nat) (ide : Bool) (s : State) (s1 : State) (r : Nat),
    ideBlocked s ide = false ∧ len ≠ 0 ∧ windowOutside s fn (4 * dw) (4 * len) = false ∧ quiescing s .pcie 0 = false
    ∧ windowTarget s fn (windowAddr s fn (4 * dw)) (4 * len) .r = .error (s1, r) :=
  ⟨2, 0x400, 4, false, windowed, refusedAt windowed 2 (4 * 0x400) .r, 0x01, by decide +kernel⟩

theorem witness_HostWindows_3 : ∃ (fn : Fin 32) (dw : Nat) (data : List Byte) (ide : Bool) (s : State) (w : Target),
    ideBlocked s ide = false ∧ data.length / 4 ≠ 0 ∧ windowOutside s fn (4 * dw) (data.length / 4 * 4) = false
    ∧ quiescing s .pcie 0 = false ∧ windowTarget s fn (windowAddr s fn (4 * dw)) (data.length / 4 * 4) .w = .ok w :=
  ⟨1, 0x400, [1, 2, 3, 4], false, windowed, ⟨thisNode windowed, granaryAddr 0 + 0x1000, 0, 1⟩, by decide +kernel⟩

theorem witness_HostWindows_4 : ∃ (fn : Fin 32) (dw : Nat) (data : List Byte) (ide : Bool) (s : State) (s1 : State) (r : Nat),
    ideBlocked s ide = false ∧ data.length / 4 ≠ 0 ∧ windowOutside s fn (4 * dw) (data.length / 4 * 4) = false
    ∧ quiescing s .pcie 0 = false ∧ windowTarget s fn (windowAddr s fn (4 * dw)) (data.length / 4 * 4) .w = .error (s1, r) :=
  ⟨2, 0x400, [1, 2, 3, 4], false, windowed, refusedAt windowed 2 (4 * 0x400) .w, 0x01, by decide +kernel⟩

theorem witness_HostWindows_8 : ∃ (stream : BitVec 2) (s : State), s.spdm ≠ .session :=
  ⟨3, up, by decide +kernel⟩

theorem witness_HostWindows_9 : ∃ (stream : BitVec 2) (s : State), s.spdm = .session :=
  ⟨3, { up with spdm := .session }, by decide +kernel⟩

theorem witness_SidebandAnswers_1 : ∃ (addr : BitVec 7) (s : State), s.firmware = true ∧ i3cAddr s = 0 :=
  ⟨9, up, by decide +kernel⟩

theorem witness_SidebandAnswers_3 : ∃ (eid : BitVec 8) (s : State), s.firmware = true ∧ i3cAddr s ≠ 0 ∧ eid ≠ 0 ∧ eid ≠ 0xFF :=
  ⟨9, addressed, by decide +kernel⟩

theorem witness_SidebandAnswers_4 : ∃ (s : State), s.firmware = true ∧ i3cAddr s ≠ 0 :=
  ⟨addressed, by decide +kernel⟩

theorem witness_SidebandAnswers_5 : ∃ (handle : BitVec 32) (s : State), s.firmware = true ∧ i3cAddr s ≠ 0 :=
  ⟨5, addressed, by decide +kernel⟩

theorem witness_SidebandAnswers_7 : ∃ (n : BitVec 16) (s : State), s.firmware = true ∧ i3cAddr s ≠ 0 :=
  ⟨5, addressed, by decide +kernel⟩

theorem witness_SidebandAnswers_8 : ∃ (n : BitVec 16) (v : BitVec 32) (s : State) (off : Nat) (top : Nat), s.firmware = true
    ∧ i3cAddr s ≠ 0 ∧ effecterReg n.toNat = some (off, top) ∧ 1 ≤ v.toNat ∧ v.toNat ≤ top :=
  ⟨5, 450, addressed, Off.stewardDieCap + 12, 450, by decide +kernel⟩

theorem witness_SidebandAnswers_9 : ∃ (n : BitVec 16) (v : BitVec 32) (s : State) (off : Nat) (top : Nat), s.firmware = true
    ∧ i3cAddr s ≠ 0 ∧ effecterReg n.toNat = some (off, top) ∧ (v.toNat = 0 ∨ top < v.toNat) :=
  ⟨1, 2801, addressed, Off.stewardPkgCap, 2800, by decide +kernel⟩

theorem witness_SidebandAnswers_10 : ∃ (path : SpdmPath) (request : List Byte) (s : State), spdmHears s path = true :=
  ⟨.mctp, [0x12, 0x84, 0, 0], addressed, by decide +kernel⟩

theorem witness_SidebandAnswers_11 : ∃ (path : SpdmPath) (request : List Byte) (s : State), spdmHears s path = true
    ∧ pathSecured path = false :=
  ⟨.doe, [0x12, 0x84, 0, 0], up, by decide +kernel⟩

theorem witness_SidebandAnswers_12 : ∃ (path : SpdmPath) (s : State), s.firmware = true
    ∧ ((pathMctp path = true → i3cAddr s ≠ 0)) ∧ ((pathSecured path = true → s.spdm = .exchanged ∨ s.spdm = .session)) :=
  ⟨.mctpSecured, { addressed with spdm := .session }, by decide +kernel⟩

theorem witness_SidebandAnswers_13 : ∃ (len : Nat) (tdi : Nat) (s : State), len ≠ 0 :=
  ⟨8, 0x5A, up, by decide +kernel⟩

theorem witness_PagesEnable_1 : ∃ (n : BitVec 14) (v : BitVec 32) (s : State) (b : Block) (i : Nat) (k : Nat), hostReady s b
    ∧ reaches s n.toNat b i ∧ b.enableBit = some k ∧ b.hostFixed = false ∧ enabled s b i = false
    ∧ ctrlWord v k true &&& ~~~(definedMask b Off.ctrl) = 0 :=
  ⟨0x41, 0, up, .pantry, 0, 0, by unfold hostReady reaches; exact ⟨by decide +kernel, ⟨0, by decide +kernel⟩, by decide +kernel,
    by decide +kernel, by decide +kernel, by decide +kernel⟩⟩

theorem witness_PagesEnable_2 : ∃ (n : BitVec 14) (index : Fin 512) (s : State) (s1 : State) (b : Block) (rep : Nat) (i : Nat) (k : Nat) (old : Word),
    pageOf n.toNat = some (b, rep) ∧ i = namedInstance b rep index ∧ s.checks = [(b, i, old)] ∧ b.enableBit = some k
    ∧ s1 = setRbit { s with checks := [] } b i Off.status 1 (quiescing s b i && inFlight s b i) :=
  ⟨0x41, 5, { up with checks := [(.pantry, 0, 0)] }, setRbit up .pantry 0 Off.status 1 false, .pantry, 0, 0, 0, 0,
    by decide +kernel⟩

theorem witness_PagesEnable_3 : ∃ (n : BitVec 14) (v : BitVec 32) (s : State) (b : Block) (i : Nat) (k : Nat), hostReady s b
    ∧ reaches s n.toNat b i ∧ b.enableBit = some k ∧ b.hostFixed = false ∧ enabled s b i = true
    ∧ ctrlWord v k false &&& ~~~(definedMask b Off.ctrl) = 0 ∧ disableCheck s b i (ctrlWord v k false) = 0 :=
  ⟨0x31, 0xA5000000, shown .port 31 (inState 31 Link.active), .port, 31, 0,
    by unfold hostReady reaches; exact ⟨by decide +kernel, ⟨0, by decide +kernel⟩, by decide +kernel, by decide +kernel,
    by decide +kernel, by decide +kernel, by decide +kernel⟩⟩

theorem witness_PagesEnable_4 : ∃ (n : BitVec 14) (v : BitVec 32) (s : State) (b : Block) (i : Nat) (k : Nat), hostReady s b
    ∧ reaches s n.toNat b i ∧ b.enableBit = some k ∧ b.hostFixed = false ∧ enabled s b i = true
    ∧ ctrlWord v k false &&& ~~~(definedMask b Off.ctrl) = 0 ∧ disableCheck s b i (ctrlWord v k false) ≠ 0 :=
  ⟨0x31, 0, shown .port 31 (inState 31 Link.active), .port, 31, 0, by unfold hostReady reaches; exact ⟨by decide +kernel, ⟨0,
    by decide +kernel⟩, by decide +kernel, by decide +kernel, by decide +kernel, by decide +kernel, by decide +kernel⟩⟩

theorem witness_PagesEnable_5 : ∃ (n : BitVec 14) (v : BitVec 32) (s : State) (b : Block) (i : Nat) (k : Nat) (j : Nat),
    hostReady s b ∧ reaches s n.toNat b i ∧ b.quiesceBit = some k ∧ b.enableBit = some j ∧ b.hostFixed = false
    ∧ enabled s b i = true ∧ quiescing s b i = false ∧ ctrlWord v k true &&& ~~~(definedMask b Off.ctrl) = 0
    ∧ (ctrlWord v k true).toNat.testBit j = true :=
  ⟨0x31, 1, shown .port 31 (inState 31 Link.active), .port, 31, 1, 0, by unfold hostReady reaches; exact ⟨by decide +kernel, ⟨0,
    by decide +kernel⟩, by decide +kernel, by decide +kernel, by decide +kernel, by decide +kernel, by decide +kernel,
    by decide +kernel, by decide +kernel⟩⟩

theorem witness_PagesEnable_6 : ∃ (n : BitVec 14) (index : Fin 512) (s : State) (b : Block) (rep : Nat) (i : Nat),
    pageOf n.toNat = some (b, rep) ∧ i = namedInstance b rep index ∧ quiescing s b i = true ∧ inFlight s b i = false
    ∧ s.checks = [] :=
  ⟨0x31, 31, setRbit (inState 31 Link.active) .port 31 Off.ctrl 1 true, .port, 0, 31, by decide +kernel⟩

theorem witness_BellTimeLatches_3 : ∃ (host : Bool) (ide : Bool) (s : State) (t : State) (o : List Output) (x : DWord),
    exec (.readLoLatch host .bar0 (BitVec.ofNat 26 (0x2000 + Off.bellTimeLo)) 4 ide) s = .next t :=
  ⟨true, false, up, _, [], 0, by exact rfl⟩

theorem witness_RecordsCounted_1 : ∃ (s : State) (t : State) (b : Block) (i : Nat) (code : Nat) (detail : Word), 1 ≤ code
    ∧ code ≤ 32 ∧ pageRecord s b i code detail = t :=
  ⟨up, pageRecord up .steward 0 3 9, .steward, 0, 3, 9, by decide +kernel⟩

theorem witness_RecordsCounted_2 : ∃ (s : State) (t : State) (b : Block) (i : Nat) (k : Nat), k < 32 ∧ raiseInt s b i k = t :=
  ⟨up, raiseInt up .steward 0 31, .steward, 0, 31, by decide +kernel⟩

theorem witness_RecordsCounted_3 : ∃ (s : State) (t : State) (b : Block) (i : Nat) (off : Nat) (v : Word), off ≠ Off.status
    ∧ writeHeader s b i off v = t :=
  ⟨up, writeHeader up .steward 0 Off.errEn 7, .steward, 0, Off.errEn, 7, by decide +kernel⟩

theorem witness_RegistersAccessed_1 : ∃ (a : BitVec 26) (v : BitVec 32) (ide : Bool) (s : State) (b : Block) (rep : Nat),
    a.toNat % 4 = 0 ∧ pageOf (a.toNat / 4096) = some (b, rep) ∧ b.instanced = false ∧ a.toNat % 4096 ≠ Off.sel
    ∧ hostOpen s b = false ∧ s.checks = [] ∧ reservedSet b (a.toNat % 4096) v = false :=
  ⟨0x40010, 0, false, State.reset, .pcie, 0, by decide +kernel⟩

theorem witness_RegistersAccessed_2 : ∃ (a : BitVec 26) (v : BitVec 32) (ide : Bool) (s : State) (b : Block) (rep : Nat),
    a.toNat % 4 = 0 ∧ pageOf (a.toNat / 4096) = some (b, rep) ∧ b.instanced = false ∧ a.toNat % 4096 ≠ Off.sel ∧ s.checks = []
    ∧ regExists b (a.toNat % 4096) = true ∧ v &&& ~~~(definedMask b (a.toNat % 4096)) ≠ 0 :=
  ⟨0x3154, 2, false, up, .steward, 0, by decide +kernel⟩

theorem witness_RegistersAccessed_3 : ∃ (v : BitVec 32) (ide : Bool) (s : State), hostReady s .steward ∧ v.toNat < 2 ^ 12 :=
  ⟨0xFFF, false, up, by unfold hostReady; decide +kernel⟩

theorem witness_RegistersAccessed_4 : ∃ (a : BitVec 26) (len : Nat) (v : BitVec 32) (ide : Bool) (s : State), (a.toNat % 4 ≠ 0
    ∨ len ≠ 4) :=
  ⟨0x40002, 4, 0, false, up, by decide +kernel⟩

theorem witness_RegistersAccessed_5 : ∃ (ctx : Fin 32) (a : BitVec 26) (len : Nat) (v : BitVec 32) (ide : Bool) (s : State),
    (a.toNat % 4 ≠ 0 ∨ len ≠ 4 ∨ ideBlocked s ide = true) :=
  ⟨1, 0x400, 8, 0, false, up, by decide +kernel⟩

theorem witness_RegistersAccessed_6 : ∃ (host : Bool) (ide : Bool) (ctx : Fin 32) (a : BitVec 26) (s : State), a.toNat % 4 = 0
    ∧ ((host = true → ideBlocked s ide = false)) :=
  ⟨true, false, 1, 0x400, up, by decide +kernel⟩

theorem witness_RegistersAccessed_7 : ∃ (a : BitVec 26) (v : BitVec 32) (ide : Bool) (s : State), a.toNat % 4 = 0
    ∧ pageOf (a.toNat / 4096) = none :=
  ⟨0x8000, 0, false, up, by decide +kernel⟩

theorem witness_RegistersAccessed_8 : ∃ (host : Bool) (s : State) (r : DWord) (time : DWord),
    reg s .reeve 0 Off.reeveDevqHead ≠ reg s .reeve 0 Off.reeveDevqTail ∧ tget (0,
    0) ((reg s .reeve 0 Off.reeveDevqHead).toNat % 4096) s.devq = (r, time) :=
  ⟨true, { setReg up .reeve 0 Off.reeveDevqTail 1 with devq := [(0, (9, 5))] }, 9, 5, by decide +kernel⟩

theorem witness_RegistersAccessed_9 : ∃ (host : Bool) (s : State),
    reg s .reeve 0 Off.reeveDevqHead = reg s .reeve 0 Off.reeveDevqTail :=
  ⟨true, up, by decide +kernel⟩

end Sys2Proof.Machine.Tests
end

