-- ==== Sys2Proof/Tests/WitnessLinks.lean ====
section
/-!
SUPPORT. Witnesses for the statements of the links, the Bell, packets and reductions: for each clause that has hypotheses, a
concrete state and operands that meet all of them together. A witness carries the number of its clause in the statement.
-/
namespace Sys2Proof.Machine.Tests

set_option Elab.async false
set_option linter.unusedVariables false

theorem witness_PortsTrain_1 : ∃ (p : Fin 32) (s : State), linkOff s = false ∧ portState s p = Link.detect :=
  ⟨31, inState 31 Link.detect, by decide +kernel⟩

theorem witness_PortsTrain_2 : ∃ (p : Fin 32) (good : BitVec 8) (s : State), linkOff s = false ∧ portState s p = Link.train
    ∧ (portOf s p).mask = none ∧ (portOf s p).peerMask = none :=
  ⟨31, 0xFF, inState 31 Link.train, by decide +kernel⟩

theorem witness_PortsTrain_3 : ∃ (p : Fin 32) (mask : BitVec 8) (w : BitVec 2) (s : State) (m : BitVec 8) (set : BitVec 8),
    linkOff s = false ∧ portState s p = Link.train ∧ (portOf s p).mask = some m ∧ (portOf s p).chosen = none
    ∧ chooseLanes (m &&& mask) (max (minLanes (rf s .port p Off.portCfg 0 2)) (minLanes w.toNat)) 8 = some set :=
  ⟨31, 0xFF, 0, onPort 31 (fun k => { k with mask := some 0xFF }) (inState 31 Link.train), 0xFF, 0xFF, by decide +kernel⟩

theorem witness_PortsTrain_4 : ∃ (p : Fin 32) (mask : BitVec 8) (w : BitVec 2) (s : State) (m : BitVec 8), linkOff s = false
    ∧ portState s p = Link.train ∧ (portOf s p).mask = some m ∧ (portOf s p).chosen = none
    ∧ chooseLanes (m &&& mask) (max (minLanes (rf s .port p Off.portCfg 0 2)) (minLanes w.toNat)) 8 = none :=
  ⟨31, 0, 0, onPort 31 (fun k => { k with mask := some 0xFF }) (inState 31 Link.train), 0xFF, by decide +kernel⟩

theorem witness_PortsTrain_5 : ∃ (p : Fin 32) (s : State) (m : BitVec 8), linkOff s = false ∧ portState s p = Link.align
    ∧ (portOf s p).chosen = some m :=
  ⟨31, onPort 31 (fun k => { k with chosen := some 0x0F }) (inState 31 Link.align), 0x0F, by decide +kernel⟩

theorem witness_PortsTrain_6 : ∃ (p : Fin 32) (s : State) (s1 : State) (msg : LocalMsg), linkOff s = false
    ∧ portState s p = Link.negotiate ∧ (portOf s p).negSeen = false ∧ takeLocal s p 0xF4 = some (msg, s1)
    ∧ negotiateBad (portOf s p) msg.slot.toNat = false ∧ rbit s .keys 0 Off.status 0 = false :=
  ⟨31, said 31 ⟨0x1F4, 0, 0⟩ (inState 31 Link.negotiate), heard 31 (inState 31 Link.negotiate), ⟨0x1F4, 0, 0⟩,
    by decide +kernel⟩

theorem witness_PortsTrain_7 : ∃ (p : Fin 32) (s : State) (s1 : State) (msg : LocalMsg), linkOff s = false
    ∧ portState s p = Link.secure ∧ takeLocal s p 0xF3 = some (msg, s1) ∧ msg.slot.toNat.testBit 9 = false :=
  ⟨31, said 31 ⟨0x9000401F3, 0, 0⟩ (inState 31 Link.secure), heard 31 (inState 31 Link.secure), ⟨0x9000401F3, 0, 0⟩,
    by decide +kernel⟩

theorem witness_PortsTrain_8 : ∃ (p : Fin 32) (s : State) (s1 : State) (msg : LocalMsg) (whole : List Byte), linkOff s = false ∧ portState s p = Link.secure
      ∧ takeLocal s p 0xF3 = some (msg, s1) ∧ msg.slot.toNat.testBit 9 = true
      ∧ whole = (if msg.slot.toNat.testBit 8 then [] else (portOf s p).fragment)
      ++ toBytes (min (fld msg.slot.toNat 16 16) 12) (msg.slot.toNat / 2 ^ 32) :=
  ⟨31, said 31 ⟨0x9000403F3, 0, 0⟩ (inState 31 Link.secure), heard 31 (inState 31 Link.secure), ⟨0x9000403F3, 0, 0⟩,
    toBytes 4 9, by decide +kernel⟩

theorem witness_PortsTrain_9 : ∃ (p : Fin 32) (s : State) (n : Nat), linkOff s = false ∧ phaseBound (portState s p) = some n
    ∧ portState s p ≠ Link.retrain ∧ (portOf s p).since.toNat + n < s.time.toNat :=
  ⟨31, { inState 31 Link.negotiate with time := 25001 }, 25000, by decide +kernel⟩

theorem witness_PortsRetrain_1 : ∃ (p : Fin 32) (lane : Fin 8) (s : State), linkOff s = false ∧ portState s p = Link.active
    ∧ rbit s .port p Off.portStatus (16 + lane.val) = true :=
  ⟨31, 7, setRbit (inState 31 Link.active) .port 31 Off.portStatus 23 true, by decide +kernel⟩

theorem witness_PortsRetrain_2 : ∃ (p : Fin 32) (mask : BitVec 8) (w : BitVec 2) (s : State) (set : BitVec 8), linkOff s = false ∧ portState s p = Link.active
      ∧ chooseLanes (BitVec.ofNat 8 (rf s .port p Off.portStatus 8 8) &&& mask)
      (max (minLanes (rf s .port p Off.portCfg 0 2)) (minLanes w.toNat)) (popCount 8 (rf s .port p Off.portStatus 16 8)) = some set :=
  ⟨31, 0xFF, 0, setRf (setRf (inState 31 Link.active) .port 31 Off.portStatus 8 8 0xFF) .port 31 Off.portStatus 16 8 0xFF, 0xFF,
    by decide +kernel⟩

theorem witness_PortsRetrain_3 : ∃ (p : Fin 32) (s : State) (m : BitVec 8), linkOff s = false ∧ portState s p = Link.retrain
    ∧ (portOf s p).chosen = some m :=
  ⟨31, onPort 31 (fun k => { k with chosen := some 0x0F }) (inState 31 Link.retrain), 0x0F, by decide +kernel⟩

theorem witness_PortsRetrain_4 : ∃ (p : Fin 32) (s : State), linkOff s = false ∧ portState s p = Link.retrain
    ∧ (portOf s p).since.toNat + 12500 < s.time.toNat :=
  ⟨31, { inState 31 Link.retrain with time := 12501 }, by decide +kernel⟩

theorem witness_PortsRetrain_5 : ∃ (p : Fin 32) (s : State), linkOff s = false ∧ (portState s p = Link.active
    ∨ portState s p = Link.retrain) :=
  ⟨31, inState 31 Link.active, by decide +kernel⟩

theorem witness_PortsRetrain_6 : ∃ (s : State) (p : Nat), hostReady s .port ∧ shownInstance s .port = p ∧ p < 32
    ∧ enabled s .port p = true ∧ linkOff s = false ∧ portState s p ≠ Link.down ∧ portState s p ≠ Link.detect :=
  ⟨shown .port 31 (inState 31 Link.active), 31, by unfold hostReady; decide +kernel⟩

theorem witness_PortsRetrain_7 : ∃ (s : State) (p : Nat) (ks : PortKeys), hostReady s .port ∧ shownInstance s .port = p ∧ p < 32
    ∧ enabled s .port p = true ∧ linkOff s = false ∧ portState s p = Link.active ∧ (portOf s p).keys = some ks :=
  ⟨shown .port 31 (onPort 31 (fun k => { k with keys := some (keyed 0) }) (inState 31 Link.active)), 31, keyed 0,
    by unfold hostReady; decide +kernel⟩

theorem witness_PortsRetrain_8 : ∃ (p : Fin 32) (s : State) (ks : PortKeys), linkOff s = false ∧ (portOf s p).keys = some ks
    ∧ 2 ^ 32 ≤ ks.tx.position :=
  ⟨31, onPort 31 (fun k => { k with keys := some (keyed (2 ^ 32)) }) (inState 31 Link.active), keyed (2 ^ 32),
    by decide +kernel⟩

theorem witness_FlitsMove_1 : ∃ (p : Fin 32) (frac : BitVec 8) (s : State), linkOff s = false ∧ flitsRun s p = true :=
  ⟨31, 0, inState 31 Link.active, by decide +kernel⟩

theorem witness_FlitsMove_2 : ∃ (p : Fin 32) (frac : BitVec 8) (s : State) (k : Port), linkOff s = false ∧ flitsRun s p = true
    ∧ k = queueNegotiate s p (portOf s p) ∧ k.replayAt = none ∧ k.buffer.length < 1024 ∧ (takeSlots k (fillPlan k)).2 ≠ [] :=
  ⟨31, 0, negotiating, queueNegotiate negotiating 31 (portOf negotiating 31), by decide +kernel⟩

theorem witness_FlitsMove_3 : ∃ (p : Fin 32) (bits : BitVec 2048) (ended : List (BitVec 10)) (pair : List (BitVec 10)) (frac : BitVec 8) (s : State),
    linkOff s = false ∧ flitsRun s p = true ∧ loopTaken s p bits = true ∧ ((∃ n ∈ pair, 15 < n.toNat)
    ∨ flitCrc (fld bits.toNat 0 2016) ≠ FlitBits.crc bits.toNat) :=
  ⟨31, 0, [], [16], 0, inState 31 Link.active, by decide +kernel⟩

theorem witness_FlitsMove_4 : ∃ (p : Fin 32) (bits : BitVec 2048) (ended : List (BitVec 10)) (pair : List (BitVec 10)) (frac : BitVec 8) (s : State),
      linkOff s = false ∧ flitsRun s p = true ∧ loopTaken s p bits = true ∧ ((∀ n ∈ pair, n.toNat ≤ 15))
      ∧ flitCrc (fld bits.toNat 0 2016) = FlitBits.crc bits.toNat ∧ flitReserved bits.toNat = false ∧ (portOf s p).keys = none
      ∧ FlitBits.enc bits.toNat = false ∧ FlitBits.kind bits.toNat = 1 ∧ FlitBits.seq bits.toNat = (portOf s p).expect
      ∧ (tget 0 (fld (FlitBits.credit bits.toNat) 16 2) (portOf s p).sent + 2 ^ 16 - fld (FlitBits.credit bits.toNat) 0 16) % 2 ^ 16
      < 2 ^ 15 :=
  ⟨31, dataFlit, [], [15], 0, inState 31 Link.active, by exact ⟨by decide +kernel, by decide +kernel, by decide +kernel,
    by decide +kernel, by rw [show fld dataFlit.toNat 0 2016 = flitBody by decide +kernel, flitBody_crc]; decide +kernel,
    by decide +kernel, by decide +kernel, by decide +kernel, by decide +kernel, by decide +kernel, by decide +kernel⟩⟩

theorem witness_FlitsMove_5 : ∃ (p : Fin 32) (s : State) (f : Flit) (rest : List Flit), linkOff s = false
    ∧ (portOf s p).buffer = f :: rest ∧ carriesFlits (portState s p) = true ∧ (portOf s p).replayAt = none
    ∧ f.sentAt.toNat + rf s .port p Off.portTimer 0 16 ≤ s.time.toNat
    ∧ (portOf s p).replays + 1 < rf s .port p Off.portCfg 16 8 :=
  ⟨31, onPort 31 (fun k => { k with buffer := [⟨0, [], 0⟩] }) { inState 31 Link.active with time := 65536 }, ⟨0, [], 0⟩, [],
    by decide +kernel⟩

theorem witness_BellFollows_1 : ∃ (s : State) (s1 : State), s.time.toNat % 2 ^ 14 = 0 ∧ bellServes s = true
    ∧ fireOnce s 0 = some s1 :=
  ⟨{ belled Bell.grandmaster with time := 16384 },
    { belled Bell.grandmaster with time := 16384, fired := tset 0 0 16385 up.fired }, by decide +kernel⟩

theorem witness_BellFollows_2 : ∃ (s : State) (s1 : State), s.time.toNat % 2 ^ 14 = 2 ^ 13 ∧ isGrandmaster s = false
    ∧ parentEn s = true ∧ portState s (parentPort s) = Link.active ∧ fireOnce s 1 = some s1 :=
  ⟨{ follows Bell.locked with time := 8192 }, { follows Bell.locked with time := 8192, fired := tset 0 1 8193 up.fired },
    by decide +kernel⟩

theorem witness_BellFollows_3 : ∃ (p : Fin 32) (s : State) (s1 : State) (msg : LocalMsg), takeLocal s p 0xF1 = some (msg, s1)
    ∧ bellServes s = true ∧ rbit s .bell 0 Off.bellChildMask p = true ∧ portState s p = Link.active :=
  ⟨31, said 31 ⟨0xF1, 0, 0⟩ (setRbit (follows Bell.locked) .bell 0 Off.bellChildMask 31 true),
    heard 31 (setRbit (follows Bell.locked) .bell 0 Off.bellChildMask 31 true), ⟨0xF1, 0, 0⟩, by decide +kernel⟩

theorem witness_BellFollows_4 : ∃ (p : Fin 32) (s : State) (s1 : State) (msg : LocalMsg) (xid : Nat) (t1 : Nat),
    takeLocal s p 0xF2 = some (msg, s1) ∧ (portOf s p).request = some (xid, t1) ∧ fld msg.slot.toNat 16 16 = xid :=
  ⟨31, onPort 31 (fun k => { k with request := some (5, 100) }) (said 31 ⟨0x500F2, 0, 0⟩ (follows Bell.locked)),
    heard 31 (onPort 31 (fun k => { k with request := some (5, 100) }) (follows Bell.locked)), ⟨0x500F2, 0, 0⟩, 5, 100,
    by decide +kernel⟩

theorem witness_BellFollows_5 : ∃ (p : Fin 32) (s : State) (s1 : State) (msg : LocalMsg), takeLocal s p 0xF0 = some (msg, s1)
    ∧ bellParent s p ∧ bellState s = Bell.acquiring ∧ within (syncOffset s p msg) 2 = true :=
  ⟨31, said 31 ⟨0xF0, 2, 0⟩ (follows Bell.acquiring), heard 31 (follows Bell.acquiring), ⟨0xF0, 2, 0⟩,
    by unfold bellParent; decide +kernel⟩

theorem witness_BellFollows_6 : ∃ (p : Fin 32) (s : State) (s1 : State) (msg : LocalMsg), takeLocal s p 0xF0 = some (msg, s1)
    ∧ bellParent s p ∧ bellState s = Bell.locked :=
  ⟨31, said 31 ⟨0xF0, 2, 0⟩ (follows Bell.locked), heard 31 (follows Bell.locked), ⟨0xF0, 2, 0⟩,
    by unfold bellParent; decide +kernel⟩

theorem witness_BellFollows_7 : ∃ (p : Fin 32) (s : State) (s1 : State) (msg : LocalMsg), takeLocal s p 0xF0 = some (msg, s1)
    ∧ parentPort s ≠ p :=
  ⟨30, said 30 ⟨0xF0, 2, 0⟩ (follows Bell.locked), heard 30 (follows Bell.locked), ⟨0xF0, 2, 0⟩, by decide +kernel⟩

theorem witness_BellFollows_8 : ∃ (s : State), bellState s = Bell.locked ∧ s.bellFrameAt.toNat + 4 * 2 ^ 14 ≤ s.time.toNat :=
  ⟨{ belled Bell.locked with time := 65536 }, by decide +kernel⟩

theorem witness_BellPinsAndSoftware_1 : ∃ (s : State), s.timeHeld = true ∧ s.holdLeft = 0 :=
  ⟨{ up with timeHeld := true }, by decide +kernel⟩

theorem witness_BellPinsAndSoftware_2 : ∃ (s : State), s.time.toNat % 2 ^ 20 = 0 ∧ rbit s .bell 0 Off.ctrl 2 = true
    ∧ bellServes s = true ∧ s.bellPulse = none :=
  ⟨{ setRbit (belled Bell.grandmaster) .bell 0 Off.ctrl 2 true with time := BitVec.ofNat 64 (2 ^ 20) }, by decide +kernel⟩

theorem witness_BellPinsAndSoftware_3 : ∃ (s : State) (began : DWord), s.bellPulse = some began
    ∧ began.toNat + 256 ≤ s.time.toNat :=
  ⟨{ up with bellPulse := some 3840 }, 3840, by decide +kernel⟩

theorem witness_BellPinsAndSoftware_5 : ∃ (s : State), hostReady s .bell ∧ bellState s = Bell.adrift ∧ isGrandmaster s = false
    ∧ parentEn s = true ∧ reg s .bell 0 Off.ctrl &&& ~~~(definedMask .bell Off.ctrl) = 0 :=
  ⟨follows Bell.adrift, by unfold hostReady; decide +kernel⟩

theorem witness_BellPinsAndSoftware_6 : ∃ (v : BitVec 32) (s : State), hostReady s .bell ∧ resident s = 0
    ∧ isGrandmaster s = true :=
  ⟨9, setRbit up .bell 0 Off.ctrl 0 true, by unfold hostReady; decide +kernel⟩

theorem witness_BellPinsAndSoftware_7 : ∃ (v : BitVec 32) (s : State), hostReady s .bell ∧ resident s = 0
    ∧ isGrandmaster s = false :=
  ⟨9, up, by unfold hostReady; decide +kernel⟩

theorem witness_PacketsGoOut_1 : ∃ (c : Fin 512) (id : Nat) (tag : Nat) (s : State) (o : Op) (x : Txn) (rest : List Txn),
    linkOff s = false ∧ (core s c).op id = some o ∧ o.todo = x :: rest ∧ o.kind ≠ .atomic ∧ x.kind = .read
    ∧ freeTag s (c / 128) (64 * (c % 128)) 64 = some tag :=
  ⟨0, 4, 0, onCore 0 (fun k => { k with ops := [{ anOp .fetch fetchD with todo := [aTxn .read] }] }) (core1 0 1),
    { anOp .fetch fetchD with todo := [aTxn .read] }, aTxn .read, [], by decide +kernel⟩

theorem witness_PacketsGoOut_2 : ∃ (index : Nat) (tag : Nat) (s : State) (x : Txn) (rest : List (TagUser × Txn)),
    linkOff s = false ∧ takeAt s.reeveTodo index = some ((.refill, x), rest) ∧ x.kind = .read ∧ freeTag s 4 0 512 = some tag :=
  ⟨0, 0, { up with reeveTodo := [(.refill, aTxn .read)] }, aTxn .read, [], by decide +kernel⟩

theorem witness_PacketsGoOut_3 : ∃ (die : Fin 4) (vc : Fin 4) (s : State) (r : Routed) (rest : List Routed), linkOff s = false
    ∧ takeVc vc (tget [] die s.routers) = some (r, rest) ∧ overtakes s r = false ∧ typeListed r.packet.type = true
    ∧ assigned s = true ∧ r.packet.dst = thisNode s ∧ r.packet.type ≠ 5 ∧ r.packet.type ≠ 6 ∧ r.packet.type ≠ 0x31 :=
  ⟨1, 0, routes 1 (request 1 7 0), came (request 1 7 0) none, [], by decide +kernel⟩

theorem witness_PacketsGoOut_4 : ∃ (die : Fin 4) (vc : Fin 4) (s : State) (r : Routed) (rest : List Routed), linkOff s = false
    ∧ takeVc vc (tget [] die s.routers) = some (r, rest) ∧ overtakes s r = false ∧ r.packet.type = 5 ∧ assigned s = true
    ∧ r.packet.dst = thisNode s :=
  ⟨1, 0, routes 1 (request 5 7 0), came (request 5 7 0) none, [], by decide +kernel⟩

theorem witness_PacketsGoOut_5 : ∃ (die : Fin 4) (vc : Fin 4) (s : State) (r : Routed) (rest : List Routed) (port : Nat),
    linkOff s = false ∧ takeVc vc (tget [] die s.routers) = some (r, rest) ∧ overtakes s r = false
    ∧ typeListed r.packet.type = true ∧ assigned s = true ∧ r.packet.dst ≠ thisNode s ∧ r.packet.type ≠ 0x31
    ∧ egress s die r.packet = some port ∧ quiescing s .port port = false :=
  ⟨1, 0,
    { setRf (routes 1 (request 1 9 0)) .port 31 Off.portStatus 0 4 Link.active with lanemaps := [(16384 + 9, 0x8000001F)] },
    came (request 1 9 0) none, [], 31, by decide +kernel⟩

theorem witness_PacketsGoOut_6 : ∃ (die : Fin 4) (vc : Fin 4) (s : State) (r : Routed) (rest : List Routed), linkOff s = false
    ∧ takeVc vc (tget [] die s.routers) = some (r, rest) ∧ overtakes s r = false ∧ typeListed r.packet.type = false :=
  ⟨1, 3, routes 1 (request 0x7F 7 0), came (request 0x7F 7 0) none, [], by decide +kernel⟩

theorem witness_RequestsServed_1 : ∃ (index : Nat) (d : Nat) (p : Packet) (s : State) (s1 : State) (s2 : State) (v : Nat) (ok : Bool),
    linkOff s = false ∧ takeInbox s index 1 = some (d, p, s1) ∧ homeStatus s1 p.addr p.len p.ctx p.key = 0
    ∧ addrWaits s p.addr = false ∧ readMem s1 p.key p.addr p.len = (s2, v, ok) :=
  ⟨0, 2, request 1 7 16, asked (request 1 7 16), node7, (readMem node7 0 (commonsAddr 0) 16).1, 0, true, by decide +kernel⟩

theorem witness_RequestsServed_2 : ∃ (index : Nat) (d : Nat) (p : Packet) (s : State) (s1 : State), linkOff s = false
    ∧ takeInbox s index 1 = some (d, p, s1) ∧ homeStatus s1 p.addr p.len p.ctx p.key ≠ 0 :=
  ⟨0, 2, packet [(0, 8, 1), (64, 50, 2 ^ 49)] [], asked (packet [(0, 8, 1), (64, 50, 2 ^ 49)] []), node7, by decide +kernel⟩

theorem witness_RequestsServed_3 : ∃ (index : Nat) (d : Nat) (p : Packet) (s : State) (s1 : State), linkOff s = false
    ∧ takeInbox s index 2 = some (d, p, s1) ∧ p.len ≠ 0 ∧ homeStatus s1 p.addr p.len p.ctx p.key = 0
    ∧ addrWaits s p.addr = false ∧ homeHeld s p = false ∧ s.refill = none :=
  ⟨0, 2, request 2 7 16, asked (request 2 7 16), node7, by decide +kernel⟩

theorem witness_RequestsServed_4 : ∃ (index : Nat) (d : Nat) (p : Packet) (s : State) (s1 : State), linkOff s = false
    ∧ takeInbox s index 2 = some (d, p, s1) ∧ p.len = 0 ∧ streamWaits s index p = false :=
  ⟨0, 2, request 2 7 0, asked (request 2 7 0), node7, by decide +kernel⟩

theorem witness_RequestsServed_5 : ∃ (index : Nat) (d : Nat) (p : Packet) (s : State) (s1 : State), linkOff s = false
    ∧ takeInbox s index 3 = some (d, p, s1) ∧ streamWaits s index p = false ∧ homeStatus s1 p.addr p.len p.ctx p.key = 0
    ∧ addrWaits s p.addr = false ∧ homeHeld s p = false :=
  ⟨0, 2, request 3 7 16, asked (request 3 7 16), node7, by decide +kernel⟩

theorem witness_RequestsServed_6 : ∃ (index : Nat) (d : Nat) (p : Packet) (s : State) (s1 : State), linkOff s = false
    ∧ takeInbox s index 3 = some (d, p, s1) ∧ streamWaits s index p = false ∧ homeStatus s1 p.addr p.len p.ctx p.key ≠ 0 :=
  ⟨0, 2, packet [(0, 8, 3), (64, 50, 2 ^ 49)] [], asked (packet [(0, 8, 3), (64, 50, 2 ^ 49)] []), node7, by decide +kernel⟩

theorem witness_RequestsServed_7 : ∃ (index : Nat) (d : Nat) (p : Packet) (s : State) (s1 : State) (s2 : State) (old : Nat) (ok : Bool), linkOff s = false
      ∧ takeInbox s index 4 = some (d, p, s1) ∧ homeStatus s1 p.addr (atomicLen p) p.ctx p.key = 0 ∧ addrWaits s p.addr = false
      ∧ heldPages s (pagesOf p.addr (atomicLen p)) = []
      ∧ atomicMem s1 p.key p.addr (atomicLen p) (pf p 114 3) (ofBytes (p.data.take 8)) (ofBytes ((p.data.drop 8).take 8))
      = (s2, old, ok) :=
  ⟨0, 2, addOne, asked addOne, node7, (atomicMem node7 0 (commonsAddr 0) 4 0 1 0).1, 0, true, by decide +kernel⟩

theorem witness_AnswersReturn_1 : ∃ (index : Nat) (d : Nat) (p : Packet) (s : State) (s1 : State) (c : Fin 512) (id : Nat) (o : Op) (x : Txn) (since : DWord),
    takeInbox s index 0x10 = some (d, p, s1) ∧ tagState s p.sunit p.tag = .held (.op c id) x since ∧ (core s c).op id = some o
    ∧ x.kind = .read ∧ answerWaits s (.op c id) x = false ∧ heldPages s (pagesOf x.place x.len) = [] :=
  ⟨0, 2, request 0x10 7 16, answered (request 0x10 7 16) .fetch .read, unasked .fetch .read, 0, 4, anOp .fetch fetchD,
    aTxn .read, 0, by decide +kernel⟩

theorem witness_AnswersReturn_2 : ∃ (index : Nat) (d : Nat) (p : Packet) (s : State) (s1 : State) (c : Fin 512) (id : Nat) (o : Op) (x : Txn) (since : DWord),
    takeInbox s index 0x11 = some (d, p, s1) ∧ tagState s p.sunit p.tag = .held (.op c id) x since ∧ (core s c).op id = some o
    ∧ x.kind = .write ∧ o.todo = [] ∧ o.unanswered = 1 :=
  ⟨0, 2, request 0x11 7 0, answered (request 0x11 7 0) .put .write, unasked .put .write, 0, 4, anOp .put fetchD, aTxn .write, 0,
    by decide +kernel⟩

theorem witness_AnswersReturn_3 : ∃ (index : Nat) (d : Nat) (p : Packet) (s : State) (s1 : State) (c : Fin 512) (id : Nat) (o : Op) (x : Txn) (since : DWord),
    takeInbox s index 0x12 = some (d, p, s1) ∧ tagState s p.sunit p.tag = .held (.op c id) x since ∧ (core s c).op id = some o
    ∧ x.kind = .atomic ∧ o.todo = [] ∧ o.unanswered = 1 ∧ answerWaits s (.op c id) x = false
    ∧ heldPages s (answerPages s (.op c id) x) = [] :=
  ⟨0, 2, request 0x12 7 16, answered (request 0x12 7 16) .atomic .atomic, unasked .atomic .atomic, 0, 4, anOp .atomic fetchD,
    aTxn .atomic, 0, by decide +kernel⟩

theorem witness_AnswersReturn_4 : ∃ (index : Nat) (d : Nat) (p : Packet) (s : State) (s1 : State),
    takeInbox s index 0x11 = some (d, p, s1) ∧ tagState s p.sunit p.tag = .free :=
  ⟨0, 2, request 0x11 7 0, asked (request 0x11 7 0), node7, by decide +kernel⟩

theorem witness_AnswersReturn_5 : ∃ (sunit : Fin 5) (tag : Fin 8192) (s : State) (u : TagUser) (x : Txn) (since : DWord),
    linkOff s = false ∧ tagState s sunit tag = .held u x since ∧ since.toNat + txnTimeout s ≤ s.time.toNat
    ∧ answerWaits s u x = false ∧ heldPages s (answerPages s u x) = [] :=
  ⟨0, 0, { unasked .fetch .read with time := BitVec.ofNat 64 (2 ^ 24) }, .op 0 4, aTxn .read, 0, by decide +kernel⟩

theorem witness_AnswersReturn_6 : ∃ (sunit : Fin 5) (tag : Fin 8192) (s : State) (since : DWord),
    tagState s sunit tag = .retired since ∧ since.toNat + 2 * txnTimeout s ≤ s.time.toNat :=
  ⟨4, 511, { up with tags := [(tagKey 4 511, .retired 0)], time := BitVec.ofNat 64 (2 ^ 26) }, 0, by decide +kernel⟩

theorem witness_ChunksReduce_1 : ∃ (index : Nat) (d : Nat) (s : State) (r : Routed) (rest : List (Nat × Routed)) (g : Nat) (ch : Nat) (port : Nat),
    linkOff s = false ∧ takeAt s.inbox index = some ((d, r), rest) ∧ r.packet.type = 0x20 ∧ g = pf r.packet 64 8
    ∧ ch = pf r.packet 88 24 ∧ pf r.packet 72 16 = Gr.epoch (groupEntry s g) % 2 ^ 16 ∧ r.ingress = some port
    ∧ pf r.packet 120 1 = 0 ∧ phaseFits (groupEntry s g) 0 r.ingress = true ∧ findChunk s g ch = none
    ∧ s.closedChunks.any (fun x => x.2 == (g, ch)) = false ∧ openChunks s (ch % 4) < 2048 :=
  ⟨0, 2, { up with groups := [(0, groupC)], inbox := [(2, came partC (some 31))] }, came partC (some 31), [], 0, 6, 31,
    by decide +kernel⟩

theorem witness_ChunksReduce_2 : ∃ (index : Nat) (d : Nat) (s : State) (r : Routed) (rest : List (Nat × Routed)),
    linkOff s = false ∧ takeAt s.inbox index = some ((d, r), rest) ∧ r.packet.type = 0x20
    ∧ pf r.packet 72 16 ≠ Gr.epoch (groupEntry s (pf r.packet 64 8)) % 2 ^ 16 :=
  ⟨0, 2, { up with groups := [(0, setFld128 groupC 68 32 9)], inbox := [(2, came partC (some 31))] }, came partC (some 31), [],
    by decide +kernel⟩

theorem witness_ChunksReduce_3 : ∃ (index : Nat) (s : State) (x : Chunk) (c : Nat) (id : Nat) (i : Nat) (o : Op),
    linkOff s = false ∧ s.chunks[index]? = some x ∧ findChunk s x.group x.chunk = some x ∧ x.owner = some (c, id, i)
    ∧ (core s c).op id = some o ∧ x.acc = none ∧ opTesting s o = false ∧ Rd.digest o.image = false
    ∧ (Gr.children o.red.entry).all (fun p => x.parts.any (fun y => y.1 == p)) = true :=
  ⟨0, combines [(31, ⟨64, 5, 0⟩)] none groupC, chunkC [(31, ⟨64, 5, 0⟩)] none, 0, 4, 0, sums groupC, by decide +kernel⟩

theorem witness_ChunksReduce_4 : ∃ (index : Nat) (s : State) (x : Chunk) (c : Nat) (id : Nat) (i : Nat) (o : Op),
    linkOff s = false ∧ s.chunks[index]? = some x ∧ findChunk s x.group x.chunk = some x ∧ x.owner = some (c, id, i)
    ∧ (core s c).op id = some o ∧ x.acc = none ∧ x.own = none ∧ opTesting s o = false ∧ Rd.digest o.image = false
    ∧ (Gr.children o.red.entry).all (fun p => x.parts.any (fun y => y.1 == p)) = false :=
  ⟨0, combines [] none groupC, chunkC [] none, 0, 4, 0, sums groupC, by decide +kernel⟩

theorem witness_ChunksReduce_5 : ∃ (index : Nat) (s : State) (x : Chunk) (c : Nat) (id : Nat) (i : Nat) (a : Nat) (key : Nat) (o : Op) (total : Part),
    linkOff s = false ∧ noneWaits s ∧ s.chunks[index]? = some x ∧ x.owner = some (c, id, i) ∧ x.acc = some total
    ∧ (core s c).op id = some o ∧ opTesting s o = false ∧ Gr.root o.red.entry = true ∧ Gr.fmt o.red.entry = 0
    ∧ Rd.digest o.image = false ∧ (o.places.getD i []).getD 0 (0, 0) = (a, key)
    ∧ heldPages s (pagesOf a (chunkCount o.image o.red.entry i * Gr.bytes o.red.entry)) = [] :=
  ⟨0, combines [(31, ⟨64, 5, 0⟩)] (some ⟨64, 7, 0⟩) groupR, chunkC [(31, ⟨64, 5, 0⟩)] (some ⟨64, 7, 0⟩), 0, 4, 0, commonsAddr 0,
    0, sums groupR, ⟨64, 7, 0⟩, by unfold noneWaits; decide +kernel⟩

theorem witness_ChunksReduce_6 : ∃ (index : Nat) (s : State) (x : Chunk), linkOff s = false ∧ noneWaits s
    ∧ s.chunks[index]? = some x ∧ x.opened.toNat + (reg s .lanemap 0 Off.lanemapTxnTimeout).toNat ≤ s.time.toNat :=
  ⟨0, { combines [] none groupC with time := BitVec.ofNat 64 (2 ^ 26) }, chunkC [] none, by unfold noneWaits; decide +kernel⟩

theorem witness_TablesWritten_1 : ∃ (v : BitVec 32) (s : State) (i : Nat) (e : QWord), hostOpen s .terrier = true
    ∧ rf s .terrier 0 Off.sel 0 16 = i ∧ staged (setReg s .terrier 0 0x10C v) .terrier = e
    ∧ terrierCheck (setReg s .terrier 0 0x10C v) i e = 0 :=
  ⟨BitVec.ofNat 32 ((mapEntry 5 2 16383 (commonsAddr 0) 16 0).toNat / 2 ^ 96),
    stages .terrier (mapEntry 5 2 16383 (commonsAddr 0) 16 0), 0, mapEntry 5 2 16383 (commonsAddr 0) 16 0, by decide +kernel⟩

theorem witness_TablesWritten_2 : ∃ (v : BitVec 32) (s : State) (i : Nat) (e : QWord), hostOpen s .terrier = true
    ∧ rf s .terrier 0 Off.sel 0 16 = i ∧ staged (setReg s .terrier 0 0x10C v) .terrier = e
    ∧ terrierCheck (setReg s .terrier 0 0x10C v) i e ≠ 0 :=
  ⟨0x80000000, up, 0, BitVec.ofNat 128 (2 ^ 127), by decide +kernel⟩

theorem witness_TablesWritten_3 : ∃ (s : State) (x : Nat × QWord × Word), s.terrierOld = some x :=
  ⟨{ up with terrierOld := some (3, 0, 1) }, (3, 0, 1), by decide +kernel⟩

theorem witness_TablesWritten_4 : ∃ (v : BitVec 32) (s : State) (g : Nat) (e : QWord), hostOpen s .group = true
    ∧ rf s .group 0 Off.sel 0 8 = g ∧ staged (setReg s .group 0 0x10C v) .group = e
    ∧ groupCheck (setReg s .group 0 0x10C v) g e = 0 :=
  ⟨0, stages .group groupC, 0, groupC, by decide +kernel⟩

theorem witness_TablesWritten_5 : ∃ (v : BitVec 32) (s : State), fld v.toNat 20 10 ≠ 0 :=
  ⟨0x00100000, up, by decide +kernel⟩

theorem witness_TablesWritten_6 : ∃ (v : BitVec 32) (s : State), hostOpen s .lanemap = true ∧ fld v.toNat 20 10 = 0 :=
  ⟨0x8000001F, up, by decide +kernel⟩

theorem witness_TablesWritten_7 : ∃ (v : BitVec 32) (s : State), hostOpen s .core = true ∧ v.toNat < 512 :=
  ⟨511, up, by decide +kernel⟩

theorem witness_TablesWritten_8 : ∃ (v : BitVec 32) (s : State), hostOpen s .core = true ∧ 512 ≤ v.toNat :=
  ⟨512, up, by decide +kernel⟩

theorem witness_TablesWritten_9 : ∃ (v : BitVec 32) (s : State), v.toNat < 2 ^ 14
    ∧ rbit s .global 0 Off.globalNode 16 = false :=
  ⟨0x3FFF, up, by decide +kernel⟩

theorem witness_TablesWritten_10 : ∃ (v : BitVec 32) (s : State), v.toNat < 2 ^ 14
    ∧ rbit s .global 0 Off.globalNode 16 = true :=
  ⟨5, setRbit up .global 0 Off.globalNode 16 true, by decide +kernel⟩

end Sys2Proof.Machine.Tests
end

section
/-!
SUPPORT. What a refused write shows, what an Unsupported Request leaves, when HEALTH stays, and what a host write of a page comes to.
-/
namespace Sys2Proof.Machine

/-! ## Registers that stay -/

theorem otherRegs_trans {keys : List Nat} {s t u : State} (h : otherRegs keys s t) (h' : otherRegs keys t u) :
    otherRegs keys s u := fun b i off hk => (h' b i off hk).trans (h b i off hk)

/-- A register write leaves every other register. -/
theorem setReg_otherRegs (s : State) (b : Block) (i off : Nat) (v : Word) :
    otherRegs [regKey b i off] s (setReg s b i off v) :=
  fun _ _ _ h => reg_setReg_ne _ _ _ _ _ _ _ _ (List.ne_of_not_mem_cons h)

theorem setRf_otherRegs (s : State) (b : Block) (i off lo w x : Nat) :
    otherRegs [regKey b i off] s (setRf s b i off lo w x) := setReg_otherRegs s b i off _

/-- A refused write leaves every register but STATUS. -/
theorem refuse_otherRegs (s : State) (b : Block) (i code off : Nat) :
    otherRegs [regKey b i Off.status] s (refuse s b i code off) :=
  otherRegs_trans (otherRegs_trans (setRf_otherRegs s _ _ _ _ _ _) (setRf_otherRegs _ _ _ _ _ _ _)) (setRf_otherRegs _ _ _ _ _ _ _)

/-! ## What STATUS shows of a refused write (R440) -/

/-- A bit of a register outside the field written. -/
theorem rbit_setRf_field (s : State) (b : Block) (i off x : Nat) {lo w k : Nat} (hd : k < lo ∨ lo + w ≤ k) (h : lo + w ≤ 32) :
    rbit (setRf s b i off lo w x) b i off k = rbit s b i off k := by
  have hlt : setFld (reg s b i off).toNat lo w x < 2 ^ 32 := setFld_lt _ _ _ _ (reg_toNat_lt _ _ _ _) h
  have hk : ¬ (lo ≤ k ∧ k < lo + w) := by omega
  rw [rbit, reg_setRf_same, BitVec.toNat_ofNat, Nat.mod_eq_of_lt hlt, testBit_setFld, if_neg hk, rbit]

theorem refuse_refused (s : State) (b : Block) (i code off : Nat) :
    rbit (refuse s b i code off) b i Off.status 2 = true := by
  rw [refuse, rbit_setRf_field _ _ _ _ _ (by omega) (by omega), rbit_setRf_field _ _ _ _ _ (by omega) (by omega),
    rbit_setRbit_same _ _ _ _ _ _ (by omega)]

theorem refuse_code (s : State) (b : Block) (i code off : Nat) :
    rf (refuse s b i code off) b i Off.status 8 8 = code % 2 ^ 8 := by
  rw [refuse, rf_setRf_field _ _ _ _ _ (by omega) (by omega), rf_setRf_same _ _ _ _ _ _ _ (by omega)]

theorem refuse_offset (s : State) (b : Block) (i code off : Nat) :
    rf (refuse s b i code off) b i Off.status 16 16 = off % 2 ^ 16 := by
  rw [refuse, rf_setRf_same _ _ _ _ _ _ _ (by omega)]

/-! ## HEALTH (R451) -/

/-- The keys of the registers that HEALTH is made of: PART_STATE, THERMTRIP, the Watch's CTRL and LEVEL, and the fenced cores of
the four stacks. -/
def healthKeys : List Nat :=
  [regKey .global 0 Off.globalPartState, regKey .steward 0 Off.stewardThermtrip, regKey .watch 0 Off.ctrl,
    regKey .watch 0 Off.watchLevel]
    ++ (List.range 4).flatMap (fun d => (List.range 8).map (fun j => regKey .stack d (Off.stackOfflineCore + 4 * j)))

/-- HEALTH reads no other register. -/
theorem health_congr {s t : State} (h : ∀ b i off, regKey b i off ∈ healthKeys → reg t b i off = reg s b i off) :
    health t = health s := by
  have hstack : ∀ d ∈ List.range 4, ∀ j ∈ List.range 8,
      reg t .stack d (Off.stackOfflineCore + 4 * j) = reg s .stack d (Off.stackOfflineCore + 4 * j) := fun d hd j hj =>
    h _ _ _ (List.mem_append_right _ (List.mem_flatMap.2 ⟨d, hd, List.mem_map.2 ⟨j, hj, rfl⟩⟩))
  have hoffline : anyOffline t = anyOffline s := by
    rw [Bool.eq_iff_iff]
    simp only [anyOffline, List.any_eq_true]
    exact exists_congr fun d => and_congr_right fun hd => exists_congr fun j => and_congr_right fun hj => by rw [hstack d hd j hj]
  have hpart : partState t = partState s := by
    funext n; rw [partState, rf, h .global 0 Off.globalPartState (by simp [healthKeys]), partState, rf]
  have htrip : tripped t = tripped s := by
    rw [tripped, rbit, h .steward 0 Off.stewardThermtrip (by simp [healthKeys]), tripped, rbit]
  have hlevel : rf t .watch 0 Off.watchLevel 0 8 = rf s .watch 0 Off.watchLevel 0 8 := by
    rw [rf, h .watch 0 Off.watchLevel (by simp [healthKeys]), rf]
  have hctrl : rf t .watch 0 Off.ctrl 8 8 = rf s .watch 0 Off.ctrl 8 8 := by
    rw [rf, h .watch 0 Off.ctrl (by simp [healthKeys]), rf]
  unfold health
  rw [hpart, htrip, hlevel, hctrl, hoffline]

/-- Nothing follows a step that wrote no register of HEALTH. -/
theorem healthStep_of_otherRegs {keys : List Nat} {s t : State} (h : otherRegs keys s t) (hk : ∀ k ∈ keys, k ∉ healthKeys) :
    healthStep s t = t := by
  have he : health t = health s := health_congr fun b i off hm => h b i off fun hc => hk _ hc hm
  rw [healthStep, if_pos he.symm]

theorem status_notMem_healthKeys (b : Block) (i : Nat) : regKey b i Off.status ∉ healthKeys := by
  have hword : ∀ k ∈ healthKeys, k % 1024 ≠ 3 := by decide
  intro hm
  exact hword _ hm (by simp only [regKey, Off.status]; omega)

/-- A refused write leaves HEALTH. -/
theorem healthStep_refuse (s : State) (b : Block) (i code off : Nat) :
    healthStep s (refuse s b i code off) = refuse s b i code off :=
  healthStep_of_otherRegs (refuse_otherRegs s b i code off) (by simpa using status_notMem_healthKeys b i)

/-! ## A host write of a page with no ENABLE check in progress (R14, R424, R434) -/

theorem endCheck_of_checks_nil {s : State} (h : s.checks = []) (b : Block) (i : Nat) : endCheck s b i = s := by
  simp [endCheck, h]

/-- With no check in progress a host write waits for nothing. -/
theorem hostStore_of_checks_nil {s : State} (h : s.checks = []) (b : Block) (i off : Nat) (v : Word) :
    hostStore s b i off v = healthStep s (hostWrite s b i off v (fun s => writeReg s b i off v)) := by
  rw [hostStore, endCheck_of_checks_nil h, ite_self]

theorem hostStore_reserved {s : State} (h : s.checks = []) {b : Block} (i : Nat) {off : Nat} {v : Word}
    (hr : reservedSet b off v = true) : hostStore s b i off v = refuse s b i 0x01 off := by
  rw [hostStore_of_checks_nil h, hostWrite, if_pos hr, healthStep_refuse]

theorem hostStore_closed {s : State} (h : s.checks = []) {b : Block} (i : Nat) {off : Nat} {v : Word}
    (hr : reservedSet b off v = false) (ho : hostOpen s b = false) : hostStore s b i off v = refuse s b i 0x03 off := by
  rw [hostStore_of_checks_nil h, hostWrite, hr, ho]
  exact healthStep_refuse s b i 0x03 off

theorem hostStore_open {s : State} {b : Block} (h : hostReady s b) (i : Nat) {off : Nat} {v : Word} (hr : reservedSet b off v = false) :
    hostStore s b i off v = healthStep s (writeReg s b i off v) := by
  obtain ⟨ho, hc⟩ := h
  rw [hostStore_of_checks_nil hc, hostWrite, hr, ho]
  rfl

/-- A write of an aligned dword of a page that is no window reaches that page. -/
theorem bar0Write_page (s : State) {off : Nat} {b : Block} {rep : Nat} (v : Word) (ha : off % 4 = 0)
    (hp : pageOf (off / 4096) = some (b, rep)) (hb : b.instanced = false) :
    bar0Write s off 4 v = hostStore s b rep (off % 4096) v := by
  simp [bar0Write, ha, hp, hb]

/-- A write of a register below the header that sets no reserved bit goes to the page's own registers. -/
theorem writeReg_writePage (s : State) {b : Block} {i off : Nat} {v : Word} (he : regExists b off = true)
    (hv : v &&& ~~~(definedMask b off) = 0) (hc : ¬(b = .context ∧ i = 0)) (ho : 0x100 ≤ off) :
    writeReg s b i off v = writePage s b i off v := by
  have hsel : off ≠ Off.sel := by simp only [Off.sel]; omega
  have hctrl : off ≠ Off.ctrl := by simp only [Off.ctrl]; omega
  rw [writeReg, if_neg (by simp [he]), if_neg (fun h => hsel h.2), if_neg (not_not.2 hv), if_neg hc, if_neg hctrl,
    if_neg (by omega)]

/-! ## Fields stored (R12) -/

/-- A field whose bits were replaced by those of `v` reads as `v`'s. -/
theorem fld_masked (old v : Word) (f : FieldDesc) (h : f.lo + f.width ≤ 32) :
    fld ((old &&& ~~~(BitVec.ofNat 32 f.mask)) ||| (v &&& BitVec.ofNat 32 f.mask)).toNat f.lo f.width = fld v.toNat f.lo f.width := by
  apply Nat.eq_of_testBit_eq
  intro i
  rw [testBit_fld, testBit_fld]
  by_cases hi : i < f.width
  · have hm : (BitVec.ofNat 32 f.mask).getLsbD (f.lo + i) = true := by
      rw [BitVec.getLsbD_ofNat, FieldDesc.mask, Nat.testBit_mul_two_pow, Nat.testBit_two_pow_sub_one]
      simp [hi]; omega
    simp only [BitVec.testBit_toNat, BitVec.getLsbD_or, BitVec.getLsbD_and, BitVec.getLsbD_not, hm]
    simp
  · simp [hi]

/-- A word of `w` bits sets no bit above them. -/
theorem and_not_ones_of_lt {v : Word} {w : Nat} (h : v.toNat < 2 ^ w) : v &&& ~~~(BitVec.ofNat 32 (2 ^ w - 1)) = 0 := by
  apply BitVec.eq_of_getLsbD_eq
  intro i hi
  rw [BitVec.getLsbD_and, BitVec.getLsbD_not, BitVec.getLsbD_ofNat, Nat.testBit_two_pow_sub_one]
  by_cases hw : i < w
  · simp [hi, hw]
  · have hbit : v.getLsbD i = false := Nat.testBit_lt_two_pow (h.trans_le (Nat.pow_le_pow_right (by decide) (not_lt.1 hw)))
    simp [hbit]

/-! ## Unsupported Requests (R398, R400) -/

/-- An Unsupported Request changes nothing but its function's AER status and what was sent. -/
theorem unsupported_notServed (s : State) (fn : Nat) : notServed fn s (unsupported s fn) := by
  refine ⟨rfl, ?_, fun f hf => tget_tset_ne _ _ _ hf _⟩
  rw [unsupported]
  simp only [emit, tget_tset_same, BitVec.testBit_toNat, BitVec.getLsbD_or]
  simp

/-! ## Latches (R445) -/

@[simp] theorem latched_setLatch_same (s : State) (host : Bool) (b : Block) (i off : Nat) (v : Word) :
    latched (setLatch s host b i off v) host b i off = v := tget_tset_same _ _ _ _

@[simp] theorem latched_emit (s : State) (o : Output) (host : Bool) (b : Block) (i off : Nat) :
    latched (emit s o) host b i off = latched s host b i off := rfl

/-- The latch of another word of the page. -/
theorem latched_setLatch_ne (s : State) (host : Bool) (b : Block) (i : Nat) {off off' : Nat} (v : Word) (h : off' / 4 ≠ off / 4) :
    latched (setLatch s host b i off v) host b i off' = latched s host b i off' := by
  have hk : latchKey host b i off' ≠ latchKey host b i off := by simp only [latchKey, regKey]; omega
  exact tget_tset_ne _ _ _ hk _

/-! ## Registers at reset (R15) -/

@[simp] theorem ofId_id (b : Block) : Block.ofId b.id = b := by cases b <;> rfl

/-- An unlisted register reads as its reset value. -/
theorem regDefault_regKey (b : Block) {i off : Nat} (hi : i < 512) (ho : off < 4096) (ha : off % 4 = 0) :
    regDefault (regKey b i off) = resetWord b off := by
  have hpage : regKey b i off / 1024 / 512 = b.id := by simp only [regKey]; omega
  have hword : 4 * (regKey b i off % 1024) = off := by simp only [regKey]; omega
  rw [regDefault, hpage, hword, ofId_id]

theorem reg_reset (b : Block) (i off : Nat) : reg State.reset b i off = regDefault (regKey b i off) := rfl

theorem core_reset (c : Nat) : core State.reset c = Core.reset := rfl

/-- Every port is DOWN at reset (R245). -/
theorem portState_reset {p : Nat} (h : p < 32) : portState State.reset p = Link.down := by
  have hreg : reg State.reset .port p Off.portStatus = 0 := by
    rw [reg_reset, regDefault_regKey .port (by omega) (by decide) (by decide)]; decide
  rw [portState, rf, hreg]; rfl

end Sys2Proof.Machine
end

section
/-!
PROOFS. What reset leaves, and what an access of a register of BAR0 or of a doorbell page comes to.
-/
namespace Sys2Proof.Machine

/-- Settles O5: no register, core or port is listed at reset, so each reads as its reset value. -/
theorem resetState : Obligations.ResetState := by
  refine ⟨⟨rfl, rfl⟩, rfl, rfl, rfl, reg_reset, ?_, ?_, fun c => ?_, fun p hp => portState_reset hp⟩
  · decide
  · decide
  · rw [core_reset]; exact ⟨rfl, fun _ => rfl⟩

/-! ## What the commands are -/

theorem exec_registerWrite (space : RegSpace) (a : BitVec 26) (len : Nat) (v : Word) (ide : Bool) (s : State) :
    exec (.registerWrite space a len v ide) s = execRegisterWrite space a len v ide s := rfl

theorem exec_readLoLatch (host : Bool) (space : RegSpace) (a : BitVec 26) (len : Nat) (ide : Bool) (s : State) :
    exec (.readLoLatch host space a len ide) s = execReadLoLatch host space a len ide s := rfl

/-! ## BAR0 (R14, R400, R424) -/

/-- A write that a page refuses shows the code and the register's offset, and changes nothing else. -/
theorem registerWrite_refused (s : State) {a : BitVec 26} {v : Word} (ide : Bool) {b : Block} {rep code : Nat} (ha : a.toNat % 4 = 0)
    (hp : pageOf (a.toNat / 4096) = some (b, rep)) (hb : b.instanced = false) (hc : code < 2 ^ 8)
    (h : hostStore s b rep (a.toNat % 4096) v = refuse s b rep code (a.toNat % 4096)) :
    Answers (.registerWrite .bar0 a 4 v ide) s (fun t => rbit t b rep Off.status 2 = true ∧ rf t b rep Off.status 8 8 = code
      ∧ rf t b rep Off.status 16 16 = a.toNat % 4096 ∧ otherRegs [regKey b rep Off.status] s t ∧ onlyRegs s t) := by
  refine ⟨refuse s b rep code (a.toNat % 4096), ?_, refuse_refused _ _ _ _ _, ?_, ?_, refuse_otherRegs _ _ _ _ _,
    refuse_only _ _ _ _ _⟩
  · rw [exec_registerWrite, execRegisterWrite, bar0Write_page s v ha hp hb, h]
  · rw [refuse_code, Nat.mod_eq_of_lt hc]
  · rw [refuse_offset, Nat.mod_eq_of_lt (by omega)]

/-- A reserved bit set in any register but SEL is one that refuses the write. -/
theorem reservedSet_of_reserved {b : Block} {off : Nat} {v : Word} (hs : off ≠ Off.sel) (he : regExists b off = true)
    (hv : v &&& ~~~(definedMask b off) ≠ 0) : reservedSet b off v = true := by
  have hbit : (v &&& ~~~(definedMask b off) != 0) = true := bne_iff_ne.2 hv
  rw [reservedSet, he, hbit]
  simp [hs]

/-- Any access but that of an aligned dword is an Unsupported Request of the physical function. -/
theorem bar0_unsupported {a : BitVec 26} {len : Nat} (v : Word) (ide : Bool) (s : State) (h : a.toNat % 4 ≠ 0 ∨ len ≠ 4) :
    Answers (.registerWrite .bar0 a len v ide) s (notServed 0 s)
      ∧ Answers (.readLoLatch true .bar0 a len ide) s (notServed 0 s) := by
  refine ⟨⟨unsupported s 0, ?_, unsupported_notServed s 0⟩, ⟨unsupported s 0, ?_, unsupported_notServed s 0⟩⟩
  · rw [exec_registerWrite, execRegisterWrite, bar0Write, if_pos h]
  · rw [exec_readLoLatch, execReadLoLatch, bar0Read, if_pos h]

/-- A write where no page lies is discarded. -/
theorem bar0_noPage {a : BitVec 26} (v : Word) (ide : Bool) (s : State) (ha : a.toNat % 4 = 0) (hp : pageOf (a.toNat / 4096) = none) :
    Answers (.registerWrite .bar0 a 4 v ide) s (fun t => t = s) := by
  refine ⟨s, ?_, rfl⟩
  rw [exec_registerWrite, execRegisterWrite, bar0Write, hp]
  simp [ha]

/-! ## STEWARD.PKG_CAP (R396) -/

theorem regFields_pkgCap : regFields .steward Off.stewardPkgCap = [⟨0x100, 0, 12, .rw, 0xAF0, 126⟩] := by decide

theorem reserved_pkgCap {v : Word} (hv : v.toNat < 2 ^ 12) : v &&& ~~~(definedMask .steward Off.stewardPkgCap) = 0 := by
  have hmask : definedMask .steward Off.stewardPkgCap = BitVec.ofNat 32 (2 ^ 12 - 1) := by
    rw [definedMask, regFields_pkgCap]; decide
  rw [hmask, and_not_ones_of_lt hv]

/-- A write of PKG_CAP stores 1 to 2,800 and refuses any other value. -/
theorem writeReg_pkgCap (s : State) {v : Word} (hv : v.toNat < 2 ^ 12) :
    writeReg s .steward 0 Off.stewardPkgCap v =
      if 1 ≤ v.toNat ∧ v.toNat ≤ 2800 then storeReg s .steward 0 Off.stewardPkgCap v
      else refuse s .steward 0 0x02 Off.stewardPkgCap := by
  have he : regExists .steward Off.stewardPkgCap = true := by rw [regExists, regFields_pkgCap]; rfl
  rw [writeReg_writePage s he (reserved_pkgCap hv) (by decide) (by decide), writePage, writeSteward]
  simp [storeIf]

theorem storeReg_pkgCap (s : State) (v : Word) :
    storeReg s .steward 0 Off.stewardPkgCap v =
      setReg s .steward 0 Off.stewardPkgCap ((reg s .steward 0 Off.stewardPkgCap &&& ~~~(0xFFF#32)) ||| (v &&& 0xFFF#32)) := by
  rw [storeReg, storeFields, regFields_pkgCap]
  rfl

/-- PKG_CAP reads as the 12 bits written. -/
theorem rf_storeReg_pkgCap (s : State) {v : Word} (hv : v.toNat < 2 ^ 12) :
    rf (storeReg s .steward 0 Off.stewardPkgCap v) .steward 0 Off.stewardPkgCap 0 12 = v.toNat := by
  have hfld := fld_masked (reg s .steward 0 Off.stewardPkgCap) v ⟨0x100, 0, 12, .rw, 0xAF0, 126⟩ (by decide)
  rw [storeReg_pkgCap, rf, reg_setReg_same]
  refine hfld.trans ?_
  simpa [fld] using Nat.mod_eq_of_lt hv

/-- What a write of PKG_CAP comes to, once the page may be written: HEALTH does not read the register. -/
theorem hostStore_pkgCap {s : State} {v : Word} (h : hostReady s .steward) (hv : v.toNat < 2 ^ 12) :
    hostStore s .steward 0 Off.stewardPkgCap v =
      if 1 ≤ v.toNat ∧ v.toNat ≤ 2800 then storeReg s .steward 0 Off.stewardPkgCap v
      else refuse s .steward 0 0x02 Off.stewardPkgCap := by
  have hr : reservedSet .steward Off.stewardPkgCap v = false := by simp [reservedSet, reserved_pkgCap hv]
  rw [hostStore_open h 0 hr, writeReg_pkgCap s hv]
  split
  · rw [storeReg_pkgCap]
    exact healthStep_of_otherRegs (setReg_otherRegs s _ _ _ _) (by decide)
  · exact healthStep_refuse s _ _ _ _

theorem registerWrite_pkgCap {v : Word} (ide : Bool) {s : State} (h : hostReady s .steward) (hv : v.toNat < 2 ^ 12) :
    Answers (.registerWrite .bar0 (BitVec.ofNat 26 (0x3000 + Off.stewardPkgCap)) 4 v ide) s (fun t =>
      if 1 ≤ v.toNat ∧ v.toNat ≤ 2800
      then rf t .steward 0 Off.stewardPkgCap 0 12 = v.toNat ∧ otherRegs [regKey .steward 0 Off.stewardPkgCap] s t ∧ onlyRegs s t
      else reg t .steward 0 Off.stewardPkgCap = reg s .steward 0 Off.stewardPkgCap
        ∧ rf t .steward 0 Off.status 8 8 = 0x02 ∧ onlyRegs s t) := by
  refine ⟨hostStore s .steward 0 Off.stewardPkgCap v, ?_, ?_⟩
  · rw [exec_registerWrite, execRegisterWrite, bar0Write_page s v (by decide) (b := .steward) (rep := 0) (by decide) rfl]
    rfl
  · rw [hostStore_pkgCap h hv]
    by_cases hrange : 1 ≤ v.toNat ∧ v.toNat ≤ 2800
    · beta_reduce
      rw [if_pos hrange, if_pos hrange]
      refine ⟨rf_storeReg_pkgCap s hv, ?_, setReg_only s _ _ _ _⟩
      rw [storeReg_pkgCap]
      exact setReg_otherRegs s _ _ _ _
    · beta_reduce
      rw [if_neg hrange, if_neg hrange]
      exact ⟨refuse_otherRegs s _ _ _ _ _ _ _ (by decide), refuse_code s _ _ _ _, refuse_only s _ _ _ _⟩

/-! ## Doorbell pages (R400, R404, R406) -/

/-- An access that is no aligned dword, or comes outside a required IDE stream, is an Unsupported Request of the page's function. -/
theorem doorbell_unsupported (ctx : Fin 32) {a : BitVec 26} {len : Nat} (v : Word) {ide : Bool} {s : State}
    (h : a.toNat % 4 ≠ 0 ∨ len ≠ 4 ∨ ideBlocked s ide = true) :
    Answers (.registerWrite (.doorbell ctx) a len v ide) s (notServed ctx s)
      ∧ Answers (.readLoLatch true (.doorbell ctx) a len ide) s (notServed ctx s) := by
  refine ⟨⟨unsupported s ctx, ?_, unsupported_notServed s ctx⟩, ⟨unsupported s ctx, ?_, unsupported_notServed s ctx⟩⟩
  · rw [exec_registerWrite, execRegisterWrite, doorbellStore, if_pos h]
  · rw [exec_readLoLatch, execReadLoLatch, doorbellRead, Bool.true_and, if_pos h]

/-- A read that is served answers its register and changes nothing else. -/
theorem doorbell_read {host ide : Bool} (ctx : Fin 32) {a : BitVec 26} {s : State} (ha : a.toNat % 4 = 0)
    (hide : host = true → ideBlocked s ide = false) :
    Answers (.readLoLatch host (.doorbell ctx) a 4 ide) s (fun t =>
      t = { s with outputs := s.outputs ++ [.regRead (readReg s .doorbell ctx a.toNat)] }) := by
  have hserved : ¬(a.toNat % 4 ≠ 0 ∨ (4 : Nat) ≠ 4 ∨ (host && ideBlocked s ide) = true) := by
    cases host with
    | false => simp [ha]
    | true => simp [ha, hide rfl]
  refine ⟨emit s (.regRead (readReg s .doorbell ctx a.toNat)), ?_, rfl⟩
  rw [exec_readLoLatch, execReadLoLatch, doorbellRead, if_neg hserved]

/-! ## The device queue (R445, R449, R452) -/

/-- DEVQ_REC0_READ is a read of the record at HEAD. -/
theorem exec_devqRec0Read (host : Bool) (s : State) :
    exec (.devqRec0Read host) s = .next (emit (readRecord s host).1 (.regRead (readRecord s host).2)) := rfl

/-- A read of the record at HEAD latches its three other words and answers the first. -/
theorem readRecord_record (host : Bool) {s : State} {r time : DWord}
    (h : reg s .reeve 0 Off.reeveDevqHead ≠ reg s .reeve 0 Off.reeveDevqTail)
    (hrec : tget (0, 0) ((reg s .reeve 0 Off.reeveDevqHead).toNat % 4096) s.devq = (r, time)) :
    readRecord s host = (setLatch (setLatch (setLatch s
      host .reeve 0 (Off.reeveDevqRec0 + 4) ((r >>> 32).setWidth 32))
      host .reeve 0 (Off.reeveDevqRec0 + 8) (time.setWidth 32))
      host .reeve 0 (Off.reeveDevqRec0 + 12) ((time >>> 32).setWidth 32), r.setWidth 32) := by
  simp only [readRecord, if_neg h, hrec]

theorem devqRec0Read_record (host : Bool) {s : State} {r time : DWord}
    (h : reg s .reeve 0 Off.reeveDevqHead ≠ reg s .reeve 0 Off.reeveDevqTail)
    (hrec : tget (0, 0) ((reg s .reeve 0 Off.reeveDevqHead).toNat % 4096) s.devq = (r, time)) :
    Answers (.devqRec0Read host) s (fun t => t.outputs = s.outputs ++ [.regRead (r.setWidth 32)]
      ∧ latched t host .reeve 0 (Off.reeveDevqRec0 + 4) = (r >>> 32).setWidth 32
      ∧ latched t host .reeve 0 (Off.reeveDevqRec0 + 8) = time.setWidth 32
      ∧ latched t host .reeve 0 (Off.reeveDevqRec0 + 12) = (time >>> 32).setWidth 32
      ∧ t.regs = s.regs ∧ t.devq = s.devq ∧ sameMemory s t) := by
  refine ⟨_, exec_devqRec0Read host s, ?_⟩
  rw [readRecord_record host h hrec]
  refine ⟨rfl, ?_, ?_, ?_, rfl, rfl, fun _ => ⟨rfl, rfl⟩⟩
  · rw [latched_emit, latched_setLatch_ne _ _ _ _ _ (by decide), latched_setLatch_ne _ _ _ _ _ (by decide),
      latched_setLatch_same]
  · rw [latched_emit, latched_setLatch_ne _ _ _ _ _ (by decide), latched_setLatch_same]
  · rw [latched_emit, latched_setLatch_same]

/-- An empty queue answers 0, and the free words it latches change nothing but the latches and the count of free words. -/
theorem readRecord_empty (host : Bool) {s : State}
    (h : reg s .reeve 0 Off.reeveDevqHead = reg s .reeve 0 Off.reeveDevqTail) :
    ∃ l n, readRecord s host = ({ s with latches := l, frees := n }, 0) := by
  rw [readRecord, if_pos h]
  exact ⟨_, _, rfl⟩

theorem devqRec0Read_empty (host : Bool) {s : State}
    (h : reg s .reeve 0 Off.reeveDevqHead = reg s .reeve 0 Off.reeveDevqTail) :
    Answers (.devqRec0Read host) s (fun t => t.outputs = s.outputs ++ [.regRead 0] ∧ t.regs = s.regs ∧ sameMemory s t) := by
  obtain ⟨l, n, hread⟩ := readRecord_empty host h
  refine ⟨_, exec_devqRec0Read host s, ?_⟩
  rw [hread]
  exact ⟨rfl, rfl, fun _ => ⟨rfl, rfl⟩⟩

/-- Settles O60, clause by clause: a refused write of a page, PKG_CAP, the Unsupported Requests, the doorbell pages and the device
queue. -/
theorem registersAccessed : Obligations.RegistersAccessed := by
  refine ⟨?_, ?_, fun v ide s h hv => registerWrite_pkgCap ide h hv, fun a len v ide s h => bar0_unsupported v ide s h,
    fun ctx a len v ide s h => doorbell_unsupported ctx v h, fun host ide ctx a s ha hide => doorbell_read ctx ha hide,
    fun a v ide s ha hp => bar0_noPage v ide s ha hp, fun host s r time h hrec => devqRec0Read_record host h hrec,
    fun host s h => devqRec0Read_empty host h⟩
  · intro a v ide s b rep ha hp hb hsel hclosed hchecks hreserved
    exact registerWrite_refused s ide ha hp hb (by decide) (hostStore_closed hchecks rep hreserved hclosed)
  · intro a v ide s b rep ha hp hb hsel hchecks hexists hv
    obtain ⟨t, ht, -, hshown⟩ := registerWrite_refused s ide ha hp hb (by decide)
      (hostStore_reserved hchecks rep (reservedSet_of_reserved hsel hexists hv))
    exact ⟨t, ht, hshown⟩

end Sys2Proof.Machine
end

section
/-!
PROOFS. The tick of an empty queue, and the latch of BELLTIME.
-/
namespace Sys2Proof.Machine

/-! ## The tick (R30, R34) -/

/-- No wipe of a CELLAR reset is due: nothing begins. -/
theorem beginCellarWipes_of_none {s : State} (h : ∀ d, d < 4 → rf s .cellar d Off.cellarResetStep 0 3 ≠ 3) :
    beginCellarWipes s = s := by
  have hstep : ∀ d, d < 4 → beginCellarWipe s d = s := fun d hd => if_neg (h d hd)
  have hrange : List.range 4 = [0, 1, 2, 3] := rfl
  simp only [beginCellarWipes, hrange, List.foldl_cons, List.foldl_nil, hstep 0 (by decide), hstep 1 (by decide),
    hstep 2 (by decide), hstep 3 (by decide)]

/-- A tick writes no register. -/
theorem tick_regs (s : State) : (tick s).regs = s.regs := by
  rw [tick]; split <;> rfl

theorem rf_of_regs {s t : State} (h : t.regs = s.regs) (b : Block) (i off lo w : Nat) : rf t b i off lo w = rf s b i off lo w := by
  rw [rf, reg, h, ← reg, ← rf]

theorem step_empty {s : State} (hp : s.pending = []) (h : ∀ d, d < 4 → rf s .cellar d Off.cellarResetStep 0 3 ≠ 3) :
    step s = .next (tick s) := by
  rw [step, hp]
  exact congrArg _ (beginCellarWipes_of_none fun d hd => by rw [rf_of_regs (tick_regs s)]; exact h d hd)

/-- What a tick slews is at most 256 units either way, on the side of what is left, and nothing only where nothing is left. -/
theorem slewStep_bounds (left : Int) : -256 ≤ slewStep left ∧ slewStep left ≤ 256
    ∧ (0 ≤ left → 0 ≤ slewStep left ∧ slewStep left ≤ left) ∧ (left ≤ 0 → left ≤ slewStep left ∧ slewStep left ≤ 0)
    ∧ (left ≠ 0 → slewStep left ≠ 0) := by
  simp only [slewStep]; omega

/-- Settles O2: an empty queue is one tick, whose slew is that of `slewStep`. -/
theorem emptyQueueTicks : Obligations.EmptyQueueTicks := by
  intro s hp hw
  rw [step_empty hp hw]
  refine ⟨fun hheld => ?_, fun hheld => by rw [tick, hheld]; rfl⟩
  obtain ⟨hlo, hhi, hpos, hneg, hmoves⟩ := slewStep_bounds s.bellSlew
  refine ⟨slewStep s.bellSlew, hlo, hhi, hpos, hneg, hmoves, ?_⟩
  rw [tick, hheld]; rfl

/-! ## The latch of BELLTIME (R32, R445) -/

/-- The two paths latch apart. -/
theorem latched_setLatch_path (s : State) (host : Bool) (b : Block) (i off : Nat) (v : Word) :
    latched (setLatch s host b i off v) (!host) b i off = latched s (!host) b i off := by
  have hk : latchKey (!host) b i off ≠ latchKey host b i off := by
    cases host <;> simp [latchKey, b2n]
  exact tget_tset_ne _ _ _ hk _

theorem det_toNat (w : Word) : det w.toNat = w := by simp [det]

/-- A read of TIME_LO latches the upper half on its path and answers the lower. -/
theorem exec_readTimeLo (s : State) (host ide : Bool) :
    exec (.readLoLatch host .bar0 (BitVec.ofNat 26 (0x2000 + Off.bellTimeLo)) 4 ide) s
      = .next (emit (setLatch s host .bell 0 Off.bellTimeLo ((s.time >>> 32).setWidth 32)) (.regRead (s.time.setWidth 32))) := by
  have hlo : readReg s .bell 0 Off.bellTimeLo = s.time.setWidth 32 := det_toNat _
  have hhi : readReg s .bell 0 (Off.bellTimeLo + 4) = (s.time >>> 32).setWidth 32 := det_toNat _
  rw [← hlo, ← hhi]; rfl

/-- A read of TIME_HI answers what its path latched. -/
theorem exec_readTimeHi (s : State) (host ide : Bool) :
    exec (.readLoLatch host .bar0 (BitVec.ofNat 26 (0x2000 + Off.bellTimeHi)) 4 ide) s
      = .next (emit s (.regRead (latched s host .bell 0 Off.bellTimeLo))) := rfl

/-- Settles O58, clause by clause, from what the two reads come to. -/
theorem bellTimeLatches : Obligations.BellTimeLatches := by
  refine ⟨fun host ide s => ⟨_, exec_readTimeLo s host ide, rfl, ?_, ?_, rfl⟩,
    fun host ide s => ⟨_, exec_readTimeHi s host ide, rfl⟩, ?_,
    fun host ide => ⟨_, exec_readTimeHi _ host ide, rfl⟩⟩
  · rw [latched_emit, latched_setLatch_same]
  · rw [latched_emit, latched_setLatch_path]
  · intro host ide s t o x ht
    obtain rfl := Host.Outcome.next.inj (ht.symm.trans (exec_readTimeLo s host ide))
    refine ⟨_, exec_readTimeHi _ host ide, ?_⟩
    exact congrArg (fun w => o ++ [Output.regRead w]) (latched_setLatch_same _ _ _ _ _ _)

end Sys2Proof.Machine
end

section
/-!
SUPPORT. What records and memory accesses leave as it was: `Noted s t` says that `t` is `s` after some of them. One lemma for each
shared operation, so that a proof about a command never unfolds one.
-/
namespace Sys2Proof.Machine

/-! ## Keys of registers -/

theorem regKey_page (b : Block) {i off : Nat} (hi : i < 512) (ho : off < 4096) : regKey b i off / 1024 / 512 = b.id := by
  simp only [regKey]; omega

theorem regKey_word (b : Block) (i : Nat) {off : Nat} (ho : off < 4096) (ha : off % 4 = 0) : 4 * (regKey b i off % 1024) = off := by
  simp only [regKey]; omega

/-- The header words that a record of a page writes (R443). -/
def headerTallies : List Nat := [Off.err, Off.errFirst, Off.errInfo, Off.intStatus, Off.eventCount]

/-- The words of a page that records, memory accesses and launches write. -/
def tallyOffs : Block → List Nat
  | .doorbell => [Off.doorbellEvqTail, Off.doorbellEvqLost]
  | .reeve => headerTallies ++ [Off.reeveDevqTail, Off.reeveDevqLost]
  | .cellar => headerTallies ++ [Off.cellarCeCount, Off.cellarUeCount]
  | .granary => headerTallies ++ [Off.granaryCeCount, Off.granaryUeCount]
  | .hbm => headerTallies ++ [Off.hbmCeCount, Off.hbmUeCount]
  | .stack => headerTallies ++ [Off.stackHotOverlapCount]
  | .harvest => headerTallies ++ [Off.harvestFirstTouchCount]
  | .core => headerTallies ++ [Off.coreAlmLaunchLo, Off.coreAlmLaunchHi, Off.coreAlmLateCount, Off.coreAlmStarveCount,
      Off.coreAlmSlipMax, Off.coreGateDirtyCount, Off.coreMxFaultCount, Off.coreVxFaultCount]
  | _ => headerTallies

/-- Whether the word of the register file at a key is one of them. -/
def tallied (key : Nat) : Bool := (tallyOffs (Block.ofId (key / 1024 / 512))).contains (4 * (key % 1024))

theorem tallied_regKey {b : Block} {i off : Nat} (hi : i < 512) (ho : off < 4096) (ha : off % 4 = 0) :
    tallied (regKey b i off) = (tallyOffs b).contains off := by
  rw [tallied, regKey_page b hi ho, regKey_word b i ho ha, ofId_id]

theorem tallied_header {b : Block} {i off : Nat} (hb : b ≠ .doorbell) (hi : i < 512) (ho : off ∈ headerTallies) :
    tallied (regKey b i off) = true := by
  have hoff : off < 4096 ∧ off % 4 = 0 := by
    have hall : ∀ x ∈ headerTallies, x < 4096 ∧ x % 4 = 0 := by decide
    exact hall _ ho
  have hmem : off ∈ tallyOffs b := by
    cases b <;> simp_all [tallyOffs]
  rw [tallied_regKey hi hoff.1 hoff.2]
  exact List.elem_eq_true_of_mem hmem

/-- An event queue's counters are among them, whatever the context's number. -/
theorem tallied_evq {ctx off : Nat} (h : off ∈ tallyOffs .doorbell) : tallied (regKey .doorbell ctx off) = true := by
  have hoff : ∀ x ∈ tallyOffs .doorbell, x < 4096 ∧ x % 4 = 0 := by decide
  have hid : ∀ n, 20 ≤ n → Block.ofId n = .doorbell := by
    intro n hn
    obtain ⟨m, rfl⟩ := Nat.exists_eq_add_of_le' hn
    cases m <;> rfl
  have hpage : 20 ≤ regKey .doorbell ctx off / 1024 / 512 := by
    simp only [regKey, Block.id]; omega
  rw [tallied, hid _ hpage, regKey_word _ _ (hoff _ h).1 (hoff _ h).2]
  exact List.elem_eq_true_of_mem h

/-! ## The relation -/

/-- `t` is `s` after records have been written and memory accessed: the words of `tallied`, what was sent, the device queue and the
event queues, the memories, the throttles and the counters of events have changed, and nothing else. -/
structure Noted (s t : State) : Prop where
  fields : t = { s with
    regs := t.regs, outputs := t.outputs, msixPending := t.msixPending, devq := t.devq, mem := t.mem, chk := t.chk
    pageBits := t.pageBits, correctedAt := t.correctedAt, watchEvents := t.watchEvents, throttles := t.throttles
    frees := t.frees, touches := t.touches, evqWait := t.evqWait, activity := t.activity }
  words : ∀ k, tallied k = false → tget (regDefault k) k t.regs = tget (regDefault k) k s.regs

theorem Noted.refl (s : State) : Noted s s := ⟨rfl, fun _ _ => rfl⟩

theorem Noted.trans {s t u : State} (h : Noted s t) (k : Noted t u) : Noted s u := by
  refine ⟨?_, fun key hk => (k.words key hk).trans (h.words key hk)⟩
  have hf := k.fields
  rw [h.fields] at hf
  exact hf

theorem Noted.reg {s t : State} (h : Noted s t) {b : Block} {i off : Nat} (hk : tallied (regKey b i off) = false) :
    reg t b i off = reg s b i off := h.words _ hk

theorem Noted.rf {s t : State} (h : Noted s t) {b : Block} {i off : Nat} (hk : tallied (regKey b i off) = false) (lo w : Nat) :
    rf t b i off lo w = rf s b i off lo w := by rw [Machine.rf, h.reg hk, ← Machine.rf]

theorem Noted.rbit {s t : State} (h : Noted s t) {b : Block} {i off : Nat} (hk : tallied (regKey b i off) = false) (k : Nat) :
    rbit t b i off k = rbit s b i off k := by rw [Machine.rbit, h.reg hk, ← Machine.rbit]

theorem Noted.time {s t : State} (h : Noted s t) : t.time = s.time := (congrArg State.time h.fields :)

theorem Noted.cores {s t : State} (h : Noted s t) : t.cores = s.cores := (congrArg State.cores h.fields :)

theorem Noted.core {s t : State} (h : Noted s t) (c : Nat) : core t c = core s c := by rw [Machine.core, h.cores, ← Machine.core]

theorem Noted.resident {s t : State} (h : Noted s t) : resident t = resident s := h.rf (by decide) 0 5

theorem Noted.cellarBusy {s t : State} (h : Noted s t) {d : Nat} (hd : d < 512) : cellarBusy t d = cellarBusy s d := by
  rw [Machine.cellarBusy, h.rf (by rw [tallied_regKey hd (by decide) (by decide)]; decide), ← Machine.cellarBusy]

/-- A chain of steps each of which notes. -/
theorem noted_foldl {α : Type} {f : State → α → State} : ∀ (l : List α) (s : State), (∀ x ∈ l, ∀ u, Noted u (f u x)) →
    Noted s (l.foldl f s)
  | [], s, _ => Noted.refl s
  | x :: l, s, h => (h x (List.mem_cons_self ..) s).trans (noted_foldl l _ fun y hy => h y (List.mem_cons_of_mem _ hy))

theorem noted_ite {s t u : State} {p : Prop} [Decidable p] (h : p → Noted s t) (k : ¬ p → Noted s u) : Noted s (if p then t else u) := by
  split
  · exact h ‹_›
  · exact k ‹_›

/-! ## Registers and messages -/

theorem noted_setReg (s : State) {b : Block} {i off : Nat} (v : Word) (h : tallied (regKey b i off) = true) :
    Noted s (setReg s b i off v) := by
  refine ⟨rfl, fun k hk => tget_tset_ne _ _ _ ?_ _⟩
  rintro rfl
  rw [h] at hk; cases hk

theorem noted_incReg (s : State) {b : Block} {i off : Nat} (h : tallied (regKey b i off) = true) : Noted s (incReg s b i off) :=
  noted_setReg s _ h

theorem noted_addReg (s : State) {b : Block} {i off : Nat} (k : Nat) (h : tallied (regKey b i off) = true) :
    Noted s (addReg s b i off k) := noted_setReg s _ h

theorem noted_setRf (s : State) {b : Block} {i off : Nat} (lo w x : Nat) (h : tallied (regKey b i off) = true) :
    Noted s (setRf s b i off lo w x) := noted_setReg s _ h

theorem noted_setRbit (s : State) {b : Block} {i off : Nat} (k : Nat) (v : Bool) (h : tallied (regKey b i off) = true) :
    Noted s (setRbit s b i off k v) := noted_setReg s _ h

theorem noted_emit (s : State) (o : Output) : Noted s (emit s o) := ⟨rfl, fun _ _ => rfl⟩

theorem noted_sendMsix (s : State) (fn v : Nat) : Noted s (sendMsix s fn v) :=
  noted_ite (fun _ => noted_emit s _) fun _ => ⟨rfl, fun _ _ => rfl⟩

theorem noted_msixOnRise (s : State) (b : Block) (i : Nat) (w : Word) : Noted s (msixOnRise s b i w) :=
  noted_ite (fun _ => Noted.refl s) fun _ => noted_sendMsix s _ _

theorem noted_watchCount (s : State) (input k : Nat) : Noted s (watchCount s input k) := ⟨rfl, fun _ _ => rfl⟩

theorem noted_countActivity (s : State) (d j n : Nat) : Noted s (countActivity s d j n) := ⟨rfl, fun _ _ => rfl⟩

theorem noted_freshWord (s : State) : Noted s (freshWord s).1 := ⟨rfl, fun _ _ => rfl⟩

theorem noted_setThrottle (s : State) (f : Nat) (t : Throttle) : Noted s (setThrottle s f t) := ⟨rfl, fun _ _ => rfl⟩

theorem noted_setRawWord (s : State) (w v : Nat) : Noted s (setRawWord s w v) := ⟨rfl, fun _ _ => rfl⟩

theorem noted_setPageWritten (s : State) (p : Nat) (v : Bool) : Noted s (setPageWritten s p v) := ⟨rfl, fun _ _ => rfl⟩

/-! ## Records (R443, R448, R449) -/

section
variable {b : Block} {i : Nat} (hb : b ≠ .doorbell) (hi : i < 512)
include hb hi

theorem noted_raiseInt (s : State) (k : Nat) : Noted s (raiseInt s b i k) :=
  (noted_setRbit s k true (tallied_header hb hi (by decide))).trans (noted_msixOnRise _ _ _ _)

theorem noted_countRecord (s : State) (code : Nat) (detail : Word) : Noted s (countRecord s b i code detail) := by
  have hinc : Noted s (incReg (setRbit s b i Off.err (code - 1) true) b i Off.eventCount) :=
    (noted_setRbit s _ _ (tallied_header hb hi (by decide))).trans (noted_incReg _ (tallied_header hb hi (by decide)))
  have hfirst : Noted s (if decide (reg s b i Off.err = 0) = true
      then setReg (setRf (incReg (setRbit s b i Off.err (code - 1) true) b i Off.eventCount) b i Off.errFirst 0 8 code) b i Off.errInfo detail
      else incReg (setRbit s b i Off.err (code - 1) true) b i Off.eventCount) :=
    noted_ite (fun _ => (hinc.trans (noted_setRf _ _ _ _ (tallied_header hb hi (by decide)))).trans
      (noted_setReg _ _ (tallied_header hb hi (by decide)))) fun _ => hinc
  exact hfirst.trans (noted_setRbit _ _ _ (tallied_header hb hi (by decide)))

theorem noted_pageRecord (s : State) (code : Nat) (detail : Word) : Noted s (pageRecord s b i code detail) :=
  (noted_countRecord hb hi s code detail).trans (noted_msixOnRise _ _ _ _)

theorem noted_pageEvent (s : State) (code : Nat) (detail : Word) (ks : List Nat) : Noted s (pageEvent s b i code detail ks) :=
  ((noted_countRecord hb hi s code detail).trans (noted_foldl ks _ fun _ _ _ =>
    noted_setRbit _ _ _ (tallied_header hb hi (by decide)))).trans (noted_msixOnRise _ _ _ _)

end

theorem noted_devqPush (s : State) (r : DWord) : Noted s (devqPush s r) := by
  have hpush : ∀ q v, Noted s (setReg { s with devq := q } .reeve 0 Off.reeveDevqTail v) := fun q v =>
    Noted.trans (t := { s with devq := q }) ⟨rfl, fun _ _ => rfl⟩ (noted_setReg _ v (by decide))
  refine noted_ite (fun _ => noted_incReg s (by decide)) fun _ => ?_
  exact noted_ite (fun _ => (hpush _ _).trans (noted_raiseInt (by decide) (by decide) _ _)) fun _ => hpush _ _

section
variable {b : Block} {i : Nat} (hb : b ≠ .doorbell) (hi : i < 512)
include hb hi

theorem noted_deviceRecord (s : State) (cls code unit : Nat) (detail : Word) : Noted s (deviceRecord s b i cls code unit detail) :=
  (noted_pageRecord hb hi s code detail).trans (noted_devqPush _ _)

theorem noted_deviceEvent (s : State) (cls code unit : Nat) (detail : Word) (ks : List Nat) :
    Noted s (deviceEvent s b i cls code unit detail ks) :=
  (noted_pageEvent hb hi s code detail ks).trans (noted_devqPush _ _)

end

/-! ## Memory (R200 to R210) -/

theorem placeOf_unit_lt {a : Nat} {p : Place} (h : placeOf a = some p) : p.unit < 512 := by
  unfold placeOf at h
  split_ifs at h <;> cases h <;> simp only [tallyBase] at * <;> omega

theorem Place.die_lt {p : Place} (h : p.unit < 512) : p.die < 512 := by
  cases hk : p.kind <;> simp only [Place.die, hk] <;> omega

theorem Place.page_lt {p : Place} (h : p.unit < 512) : p.page.2 < 512 := by
  have hd := Place.die_lt h
  cases hk : p.kind <;> simp only [Place.page, hk] <;> assumption

theorem Place.page_ne_doorbell (p : Place) : p.page.1 ≠ .doorbell := by
  cases hk : p.kind <;> simp [Place.page, hk]

theorem tallied_ceOff {p : Place} (h : p.unit < 512) : tallied (regKey p.page.1 p.page.2 p.ceOff) = true := by
  have hlt := Place.page_lt h
  cases hk : p.kind <;> simp only [Place.page, Place.ceOff, hk] at hlt ⊢ <;>
    exact (tallied_regKey hlt (by decide) (by decide)).trans (by decide)

theorem tallied_ueOff {p : Place} (h : p.unit < 512) : tallied (regKey p.page.1 p.page.2 p.ueOff) = true := by
  have hlt := Place.page_lt h
  cases hk : p.kind <;> simp only [Place.page, Place.ueOff, hk] at hlt ⊢ <;>
    exact (tallied_regKey hlt (by decide) (by decide)).trans (by decide)

theorem noted_memUncorrectable (s : State) {p : Place} (h : p.unit < 512) : Noted s (memUncorrectable s p) :=
  (noted_incReg s (tallied_ueOff h)).trans (noted_deviceRecord p.page_ne_doorbell (Place.page_lt h) _ _ _ _ _)

theorem noted_correctedAt (s : State) (t : Table Nat) : Noted s { s with correctedAt := t } := ⟨rfl, fun _ _ => rfl⟩

theorem noted_memCorrected (s : State) {p : Place} (h : p.unit < 512) (w v : Nat) : Noted s (memCorrected s p w v) := by
  have hcount : Noted s (watchCount (incReg (setRawWord s w v) p.page.1 p.page.2 p.ceOff) 0 1) :=
    ((noted_setRawWord s w v).trans (noted_incReg _ (tallied_ceOff h))).trans (noted_watchCount _ _ _)
  unfold memCorrected
  simp only
  split
  · exact (hcount.trans (noted_correctedAt _ _)).trans (noted_deviceRecord p.page_ne_doorbell (Place.page_lt h) _ _ _ _ _)
  · exact hcount

theorem noted_readWord (s : State) (slot w : Nat) : Noted s (readWord s slot w).1 := by
  unfold readWord
  split
  · exact Noted.refl s
  · rename_i p hp
    have hu := placeOf_unit_lt hp
    simp only
    split
    · exact noted_memUncorrectable s hu
    · split
      · exact Noted.refl s
      · exact noted_memCorrected s hu w _
      · exact noted_memUncorrectable s hu

theorem noted_readWords : ∀ (n : Nat) (s : State) (slot w : Nat), Noted s (readWords s slot n w).1
  | 0, s, _, _ => Noted.refl s
  | n + 1, s, slot, w => (noted_readWord s slot w).trans (noted_readWords n _ slot (w + 1))

theorem noted_readMem (s : State) (slot a n : Nat) : Noted s (readMem s slot a n).1 := by
  rw [readMem]
  split
  · exact Noted.refl s
  · exact noted_readWords _ s slot _

theorem noted_storeWord (s : State) (slot w data : Nat) : Noted s (storeWord s slot w data) := by
  unfold storeWord
  split
  · exact Noted.refl s
  · refine noted_ite (fun _ => Noted.refl s) fun _ => noted_ite (fun _ => ?_) fun _ => noted_setRawWord s _ _
    exact (noted_setRawWord s _ _).trans (noted_setPageWritten _ _ _)

theorem noted_writeWord (s : State) (slot w data mask : Nat) : Noted s (writeWord s slot w data mask) :=
  noted_ite (fun _ => noted_storeWord s slot w data) fun _ => noted_ite (fun _ => Noted.refl s) fun _ =>
    (noted_readWord s slot w).trans (noted_storeWord _ slot w _)

theorem noted_writeWords : ∀ (n : Nat) (s : State) (slot w v mask : Nat), Noted s (writeWords s slot n w v mask)
  | 0, s, _, _, _, _ => Noted.refl s
  | n + 1, s, slot, w, _, _ => (noted_writeWord s slot w _ _).trans (noted_writeWords n _ slot (w + 1) _ _)

theorem noted_writeMem (s : State) (slot a n v : Nat) : Noted s (writeMem s slot a n v) :=
  noted_ite (fun _ => Noted.refl s) fun _ => noted_writeWords _ s slot _ _ _

/-! ## Throttles and held writes (R233, R340) -/

theorem placeOf_granary_bounds {a : Nat} {p : Place} (h : placeOf a = some p) (hk : p.kind = .granary) :
    p.unit < 4 ∧ p.offset < 2 ^ 33 := by
  unfold placeOf at h
  split_ifs at h <;> cases h <;> cases hk
  show (a - 2 ^ 40) / 2 ^ 33 < 4 ∧ a % 2 ^ 33 < 2 ^ 33
  omega

theorem placeFootprint_lt {a f : Nat} (h : (placeOf a).bind Place.footprint = some f) : f < 512 := by
  obtain ⟨p, hp, hf⟩ := Option.bind_eq_some_iff.1 h
  rw [Place.footprint] at hf
  split_ifs at hf with hk
  obtain ⟨hunit, hoff⟩ := placeOf_granary_bounds hp hk
  cases hf
  omega

theorem hotOf_lt {s : State} {a n f : Nat} (h : f ∈ hotOf s a n) : f < 512 := by
  unfold hotOf at h
  split at h
  · rename_i f0 g hf0 hg
    obtain ⟨i, hi, hsome⟩ := List.mem_filterMap.1 h
    have hlt := List.mem_range.1 hi
    have h1 := placeFootprint_lt hf0
    have h2 := placeFootprint_lt hg
    split_ifs at hsome
    cases hsome
    omega
  · cases h

theorem noted_noteHeld (s : State) {f : Nat} (hf : f < 512) (k : Nat) : Noted s (noteHeld s f k) := by
  have hd : f / 128 < 512 := by omega
  have hadd : Noted s (addReg s .stack (f / 128) Off.stackHotOverlapCount k) :=
    noted_addReg s k ((tallied_regKey hd (by decide) (by decide)).trans (by decide))
  exact noted_ite (fun _ => (hadd.trans (noted_setThrottle _ _ _)).trans (noted_deviceRecord (by decide) hd _ _ _ _ _))
    fun _ => hadd.trans (noted_setThrottle _ _ _)

theorem noted_throttleAccess (s : State) (a n : Nat) : Noted s (throttleAccess s a n) :=
  noted_foldl _ s fun _ hf u => noted_ite (fun _ => noted_freshWord u) fun _ =>
    (noted_freshWord u).trans (noted_noteHeld _ (hotOf_lt hf) _)

theorem noted_touches (s : State) (t : Table Nat) : Noted s { s with touches := t } := ⟨rfl, fun _ _ => rfl⟩

theorem noted_touchPage (s : State) (p : Nat) : Noted s (touchPage s p) :=
  noted_ite (fun _ => Noted.refl s) fun _ =>
    (noted_touches s _).trans (noted_incReg _ (b := .harvest) (i := 0) (off := Off.harvestFirstTouchCount) (by decide))

theorem noted_touchPages (s : State) (ps : List Nat) : Noted s (touchPages s ps) :=
  noted_foldl _ s fun p _ u => noted_touchPage u p

/-! ## Event queues (R407, R448) -/

theorem noted_evqPush (s : State) (ctx : Nat) (r : DWord) : Noted s (evqPush s ctx r) := by
  have hlost : Noted s (incReg s .doorbell ctx Off.doorbellEvqLost) := noted_incReg s (tallied_evq (by decide))
  have hwait : Noted s { s with evqWait := s.evqWait ++ [(ctx, r)] } := ⟨rfl, fun _ _ => rfl⟩
  unfold evqPush
  refine noted_ite (fun _ => Noted.refl s) fun _ => noted_ite (fun _ => hwait) fun _ => noted_ite (fun _ => hlost) fun _ => ?_
  split
  · exact hlost
  · refine noted_ite (fun _ => hlost) fun _ => noted_ite (fun _ => hwait.trans (noted_touchPages _ _)) fun _ => ?_
    exact ((noted_throttleAccess s _ _).trans (noted_writeMem _ _ _ _ _)).trans (noted_setReg _ _ (tallied_evq (by decide)))

theorem noted_drainRings (s : State) : Noted s (drainRings s) :=
  Noted.trans (t := { s with evqWait := [] }) ⟨rfl, fun _ _ => rfl⟩ (noted_foldl _ _ fun _ _ u => noted_evqPush u _ _)

section
variable {b : Block} {i : Nat} (hb : b ≠ .doorbell) (hi : i < 512)
include hb hi

theorem noted_contextRecord (s : State) (cls code unit : Nat) (detail : Word) (ctx : Nat) :
    Noted s (contextRecord s b i cls code unit detail ctx) :=
  (noted_deviceRecord hb hi s cls code unit detail).trans (noted_evqPush _ _ _)

theorem noted_contextEvent (s : State) (cls code unit : Nat) (detail : Word) (ctx k : Nat) :
    Noted s (contextEvent s b i cls code unit detail ctx k) :=
  (noted_deviceEvent hb hi s cls code unit detail [k]).trans (noted_evqPush _ _ _)

end

theorem noted_coreEvent (s : State) {c : Nat} (hc : c < 512) (code : Nat) (detail : Word) (k : Nat) :
    Noted s (coreEvent s c code detail k) := noted_contextEvent (by decide) hc s _ _ _ _ _ _

theorem noted_coreRecord (s : State) {c : Nat} (hc : c < 512) (cls code : Nat) (detail : Word) :
    Noted s (coreRecord s c cls code detail) :=
  noted_ite (fun _ => noted_contextRecord (by decide) hc s _ _ _ _ _) fun _ => noted_deviceRecord (by decide) hc s _ _ _ _

theorem noted_cellarRecord (s : State) {c : Nat} (hc : c < 512) (unit desc : Nat) : Noted s (cellarRecord s c unit desc) :=
  noted_deviceRecord (by decide) (by omega) s _ _ _ _

/-- What follows a change of HEALTH (R444). -/
theorem noted_healthStep (before s : State) : Noted s (healthStep before s) :=
  noted_ite (fun _ => Noted.refl s) fun _ => Noted.trans
    (noted_ite (fun _ => Noted.refl s) fun _ => noted_emit s _) (noted_raiseInt (by decide) (by decide) _ _)

end Sys2Proof.Machine
end

section
/-!
SUPPORT. Cores, and what a launch of an almanac entry comes to (R49, R50).
-/
namespace Sys2Proof.Machine

/-! ## Cores -/

@[simp] theorem core_setCore_same (s : State) (c : Nat) (k : Core) : core (setCore s c k) c = k := tget_tset_same _ _ _ _

theorem core_setCore_ne (s : State) {c d : Nat} (k : Core) (h : d ≠ c) : core (setCore s c k) d = core s d :=
  tget_tset_ne _ _ _ h _

@[simp] theorem core_updCore_same (s : State) (c : Nat) (f : Core → Core) : core (updCore s c f) c = f (core s c) :=
  core_setCore_same s c _

theorem core_updCore_ne (s : State) {c d : Nat} (f : Core → Core) (h : d ≠ c) : core (updCore s c f) d = core s d :=
  core_setCore_ne s _ h

theorem otherCores_updCore (s : State) (c : Nat) (f : Core → Core) : otherCores c s (updCore s c f) :=
  fun _ hd => core_updCore_ne s f hd

theorem otherCores_trans {c : Nat} {s t u : State} (h : otherCores c s t) (k : otherCores c t u) : otherCores c s u :=
  fun d hd => (k d hd).trans (h d hd)

theorem otherCores_of_cores {s t : State} (h : t.cores = s.cores) (c : Nat) : otherCores c s t :=
  fun d _ => by rw [core, h, ← core]

theorem Noted.otherCores {s t : State} (h : Noted s t) (c : Nat) : otherCores c s t := otherCores_of_cores h.cores c

theorem reg_updCore (s : State) (c : Nat) (f : Core → Core) (b : Block) (i off : Nat) : reg (updCore s c f) b i off = reg s b i off :=
  rfl

/-! ## Banks -/

@[simp] theorem bank_setBank_same (a : Almanac) (b : Bool) (k : Bank) : (a.setBank b k).bank b = k := by
  cases b <;> rfl

/-! ## 64-bit counters -/

theorem reg64_addReg64_same (s : State) (b : Block) (i lo k : Nat) :
    reg64 (addReg64 s b i lo k) b i lo = reg64 s b i lo + BitVec.ofNat 64 k := reg64_setReg64_same s b i lo _

theorem noted_addReg64 (s : State) {b : Block} {i lo : Nat} (k : Nat) (h : tallied (regKey b i lo) = true)
    (h4 : tallied (regKey b i (lo + 4)) = true) : Noted s (addReg64 s b i lo k) :=
  (noted_setReg s _ h).trans (noted_setReg _ _ h4)

/-- A pair of registers of which neither half was written. -/
theorem reg64_setReg_ne (s : State) {b b' : Block} {i i' lo off : Nat} (v : Word) (h : regKey b' i' lo ≠ regKey b i off)
    (h4 : regKey b' i' (lo + 4) ≠ regKey b i off) : reg64 (setReg s b i off v) b' i' lo = reg64 s b' i' lo := by
  rw [reg64, reg_setReg_ne _ _ _ _ _ _ _ _ h, reg_setReg_ne _ _ _ _ _ _ _ _ h4, ← reg64]

/-! ## A launch (R49, R50, R61) -/

/-- The launch has been counted and its slip noted in SLIP_MAX (R50). -/
def countLaunch (s : State) (c : Nat) (e : QWord) : State :=
  let s1 := countActivity (addReg64 s .core c Off.coreAlmLaunchLo 1) (c / 128) 46 1
  if (reg s1 .core c Off.coreAlmSlipMax).toNat < (slipNow s (core s c).alm e).toNat
  then setReg s1 .core c Off.coreAlmSlipMax (det (min (slipNow s (core s c).alm e).toNat (2 ^ 32 - 1))) else s1

theorem tallied_core {c off : Nat} (hc : c < 512) (h : off ∈ tallyOffs .core) : tallied (regKey .core c off) = true := by
  have hoff : ∀ x ∈ tallyOffs .core, x < 4096 ∧ x % 4 = 0 := by decide
  rw [tallied_regKey hc (hoff _ h).1 (hoff _ h).2]
  exact List.elem_eq_true_of_mem h

theorem countLaunch_eq (s : State) (c : Nat) (e : QWord) : countLaunch s c e =
    { s with regs := (countLaunch s c e).regs, activity := (countLaunch s c e).activity } := by
  rw [countLaunch]; split <;> rfl

theorem noted_countLaunch (s : State) {c : Nat} (hc : c < 512) (e : QWord) : Noted s (countLaunch s c e) := by
  have hcount : Noted s (countActivity (addReg64 s .core c Off.coreAlmLaunchLo 1) (c / 128) 46 1) :=
    (noted_addReg64 s 1 (tallied_core hc (by decide)) (tallied_core hc (by decide))).trans (noted_countActivity _ _ _ _)
  exact noted_ite (fun _ => hcount.trans (noted_setReg _ _ (tallied_core hc (by decide)))) fun _ => hcount

/-- ALM_LAUNCH has counted one more. -/
theorem reg64_countLaunch (s : State) (c : Nat) (e : QWord) :
    reg64 (countLaunch s c e) .core c Off.coreAlmLaunchLo = reg64 s .core c Off.coreAlmLaunchLo + 1 := by
  have hadd := reg64_addReg64_same s .core c Off.coreAlmLaunchLo 1
  rw [countLaunch]
  split
  · rw [reg64_setReg_ne _ _ (regKey_ne_off (by decide)) (regKey_ne_off (by decide))]; exact hadd
  · exact hadd

theorem reg_countLaunch_late (s : State) (c : Nat) (e : QWord) :
    reg (countLaunch s c e) .core c Off.coreAlmLateCount = reg s .core c Off.coreAlmLateCount := by
  have hadd : reg (countActivity (addReg64 s .core c Off.coreAlmLaunchLo 1) (c / 128) 46 1) .core c Off.coreAlmLateCount
      = reg s .core c Off.coreAlmLateCount :=
    reg_setReg64_ne s _ _ _ _ _ _ _ (regKey_ne_off (by decide)) (regKey_ne_off (by decide))
  rw [countLaunch]
  split
  · rw [reg_setReg_ne _ _ _ _ _ _ _ _ (regKey_ne_off (by decide))]; exact hadd
  · exact hadd

/-- A launch on time is counted, and that is all. -/
theorem noteLaunch_onTime {s : State} {c : Nat} {e : QWord} (h : onTime s c e) : noteLaunch s c e = countLaunch s c e := by
  have hlate : ¬(entSlack e ≠ 0xFFFF ∧ entSlack e < (slipNow s (core s c).alm e).toNat) := by
    rcases h with h | h
    · exact fun hn => hn.1 h
    · exact fun hn => absurd hn.2 (by omega)
  exact if_neg hlate

/-- A late launch after the activation's first is counted and counts LATE. -/
theorem noteLaunch_late {s : State} {c : Nat} {e : QWord} (h : ¬ onTime s c e) (hw : (core s c).alm.lateWritten = true) :
    noteLaunch s c e = incReg (countLaunch s c e) .core c Off.coreAlmLateCount := by
  have hlate : entSlack e ≠ 0xFFFF ∧ entSlack e < (slipNow s (core s c).alm e).toNat := by
    rw [onTime, not_or] at h
    exact ⟨h.1, by omega⟩
  exact (if_pos hlate).trans (if_pos hw)

theorem noted_noteLaunch_onTime {s : State} {c : Nat} (hc : c < 512) {e : QWord} (h : onTime s c e) :
    Noted s (noteLaunch s c e) := by
  rw [noteLaunch_onTime h]; exact noted_countLaunch s hc e

/-- What the launch rule comes to where the head entry launches: `act`, if the unit has room. -/
theorem launch_of_launches {s : State} {c : Nat} {op : Op6} {e : QWord} (h : launches s c op e) (ok : Core → QWord → Bool)
    (act : State → QWord → State) :
    launch s c op ok act = if ok (core s c) e then act (noteLaunch s c e) e else s := by
  obtain ⟨hready, hforeign, hwait⟩ := h
  simp only [launch, hready, hforeign, hwait, Bool.true_and]
  rfl

/-! ## The head -/

@[simp] theorem advance_frames (a : Almanac) (t : DWord) : (a.advance t).frames = (Machine.advance a.frames (a.head + 1)).1 := rfl
@[simp] theorem advance_head (a : Almanac) (t : DWord) : (a.advance t).head = (Machine.advance a.frames (a.head + 1)).2 := rfl
@[simp] theorem advance_headSince (a : Almanac) (t : DWord) : (a.advance t).headSince = t := rfl

/-- The head moves past its entry where the core's loops and head are as before and no time has passed. -/
theorem movedOn_advanceHead {c : Nat} {s u : State} (hf : (core u c).alm.frames = (core s c).alm.frames)
    (hh : (core u c).alm.head = (core s c).alm.head) (ht : u.time = s.time) : movedOn c s (advanceHead u c) := by
  simp only [movedOn, advanceHead, core_updCore_same, advance_head, advance_frames, advance_headSince, hf, hh, ht, and_self]

end Sys2Proof.Machine
end

section
/-!
PROOFS. Entries that launch into a unit.
-/
namespace Sys2Proof.Machine

/-! ## MATRIX, VECTOR, SEED and HIST (R41, R117, R123, R141, R178) -/

/-- A descriptor's read is one of memory; the read is made opaque, so that no proof term computes with it. -/
theorem noted_readDesc (s : State) (c desc : Nat) : Noted s (readDesc s c desc).1 := by
  have hread : ∀ a, Noted s (readMem s 0 a 64).1 := fun a => noted_readMem s 0 a 64
  unfold readDesc
  obtain ⟨read, hr⟩ : ∃ f, f = readMem s 0 := exists_eq
  rw [← hr] at hread ⊢
  cases descOffset (core s c) desc with
  | none => exact Noted.refl s
  | some o => exact hread _

/-- Why a descriptor as read is refused, 0 where it passes its check (R123, R141). -/
def descReason (check : BitVec 512 → Nat) (img : Option (BitVec 512)) (bad : Bool) : Nat :=
  match img with
  | none => 0x01
  | some d => if bad then 0x02 else check d

/-- A descriptor has been read, and one that is refused recorded and counted at `off`. -/
def descRead (s : State) (c : Nat) (check : BitVec 512 → Nat) (unit desc off : Nat) : State :=
  let r := readDesc s c desc
  if descReason check r.2.1 r.2.2 = 0 then r.1
  else incReg (descFault r.1 c (descReason check r.2.1 r.2.2) unit desc) .core c off

theorem noted_descRead (s : State) {c off : Nat} (hc : c < 512) (ho : off ∈ tallyOffs .core) (check : BitVec 512 → Nat)
    (unit desc : Nat) : Noted s (descRead s c check unit desc off) :=
  (noted_readDesc s c desc).trans (noted_ite (fun _ => Noted.refl _) fun _ =>
    (noted_coreRecord _ hc _ _ _).trans (noted_incReg _ (tallied_core hc ho)))

/-- An entry ends: the core, its almanac as before, is changed by `f` and moves its head. -/
theorem core_advanceHead_updCore {c : Nat} {s u : State} (hu : Noted s u) (f : Core → Core) :
    core (advanceHead (updCore u c f) c) c = { f (core s c) with alm := (f (core s c)).alm.advance s.time } := by
  rw [advanceHead, core_updCore_same, core_updCore_same, hu.core]
  exact congrArg (fun t => { f (core s c) with alm := (f (core s c)).alm.advance t }) hu.time

theorem movedOn_advanceHead_updCore {c : Nat} {s u : State} (hu : Noted s u) {f : Core → Core} (hf : ∀ k, (f k).alm = k.alm) :
    movedOn c s (advanceHead (updCore u c f) c) := by
  refine movedOn_advanceHead ?_ ?_ hu.time <;> rw [core_updCore_same, hf, hu.core]

/-- MATRIX that launches with room in the array, the cellar not in reset: its descriptor is read, checked and made pending. -/
theorem exec_matrix {c : Fin 512} {s : State} {e : QWord} (hl : launches s c .matrix e) (hroom : (core s c).mxPend = none)
    (hbusy : cellarBusy (noteLaunch s c e) (c.val / 128) = false) :
    exec (.matrix c) s = .next (advanceHead
      (updCore (descRead (noteLaunch s c e) c mxCheck 0x01 (entArg e 0 16) Off.coreMxFaultCount) c (fun k =>
        let r := readDesc (noteLaunch s c e) c (entArg e 0 16)
        { k with mxPend := some ⟨entArg e 0 16, r.2.1.getD 0, descReason mxCheck r.2.1 r.2.2, entArg e 16 8,
            resident (noteLaunch s c e), false⟩ })) c) := by
  have hexec : exec (.matrix c) s = .next (launch s c .matrix _ _) := rfl
  rw [hexec, launch_of_launches hl, hroom]
  simp only [Option.isNone_none, if_true, hbusy, Bool.false_eq_true, if_false, descRead]
  rcases readDesc (noteLaunch s c e) c (entArg e 0 16) with ⟨s1, img, bad⟩
  rfl

/-- VECTOR likewise. -/
theorem exec_vector {c : Fin 512} {s : State} {e : QWord} (hl : launches s c .vector e) (hroom : (core s c).vxPend = none)
    (hbusy : cellarBusy (noteLaunch s c e) (c.val / 128) = false) :
    exec (.vector c) s = .next (advanceHead
      (updCore (descRead (noteLaunch s c e) c vxCheck 0x02 (entArg e 0 16) Off.coreVxFaultCount) c (fun k =>
        let r := readDesc (noteLaunch s c e) c (entArg e 0 16)
        { k with vxPend := some ⟨entArg e 0 16, r.2.1.getD 0, descReason vxCheck r.2.1 r.2.2, entArg e 16 8,
            resident (noteLaunch s c e), k.histSel⟩ })) c) := by
  have hexec : exec (.vector c) s = .next (launch s c .vector _ _) := rfl
  rw [hexec, launch_of_launches hl, hroom]
  simp only [Option.isNone_none, if_true, hbusy, Bool.false_eq_true, if_false, descRead]
  rcases readDesc (noteLaunch s c e) c (entArg e 0 16) with ⟨s1, img, bad⟩
  rfl

/-- SEED behind a pending descriptor waits for it. -/
theorem exec_seed_pending {c : Fin 512} {s : State} {e : QWord} {p : VecPend} (hl : launches s c .seed e)
    (hp : (core (noteLaunch s c e) c).vxPend = some p) :
    exec (.seed c) s = .next (advanceHead (updCore (noteLaunch s c e) c (fun k => { k with seedAfter := some (entArg e 0 48) })) c) := by
  have hexec : exec (.seed c) s = .next (launch s c .seed _ _) := rfl
  rw [hexec, launch_of_launches hl]
  simp only [if_true, hp, Option.isSome_some]

theorem exec_hist {c : Fin 512} {s : State} {e : QWord} (hl : launches s c .hist e) :
    exec (.hist c) s = .next (advanceHead (updCore (noteLaunch s c e) c (fun k =>
      { k with
        histSel := entArg e 0 3
        hist := if entArg e 3 1 = 1 then k.hist.filter (fun p => p.1 / 128 != entArg e 0 3) else k.hist })) c) := by
  have hexec : exec (.hist c) s = .next (launch s c .hist _ _) := rfl
  rw [hexec, launch_of_launches hl]
  rfl

/-- A table without the entries that a test of their keys drops. -/
theorem tget_filter_key {α : Type} (d : α) (p : Nat → Bool) (k : Nat) : ∀ t : Table α,
    tget d k (t.filter (fun e => p e.1)) = if p k then tget d k t else d
  | [] => by simp [tget]
  | (i, v) :: t => by
    have ih := tget_filter_key d p k t
    by_cases hi : k = i
    · subst hi
      by_cases hp : p k = true <;> simp [hp, tget, ih]
    · by_cases hp : p i = true <;> simp [hp, tget, hi, ih]

/-- Clearing a histogram slot zeroes its bins and leaves those of the others (R178). -/
theorem tget_clearHist (h : Table Word) (slot k : Nat) {b : Nat} (hb : b < 128) (clear : Prop) [Decidable clear] :
    tget 0 (128 * k + b) (if clear then h.filter (fun p => p.1 / 128 != slot) else h)
      = if clear ∧ k = slot then 0 else tget 0 (128 * k + b) h := by
  have hdiv : (128 * k + b) / 128 = k := by omega
  by_cases hc : clear
  · rw [if_pos hc, tget_filter_key 0 (fun n => n / 128 != slot), hdiv]
    by_cases hk : k = slot <;> simp [hc, hk]
  · simp [hc]

/-- Settles O6, entry by entry: each ends as its unit's core with the head moved past it. -/
theorem unitEntriesLaunch : Obligations.UnitEntriesLaunch := by
  refine ⟨fun c s e hl ht hroom hcellar => ?_, fun c s e hl ht hroom hcellar => ?_, fun c s e p hl ht hp => ?_,
    fun c s e hl ht => ?_⟩
  all_goals have hn : Noted s (noteLaunch s c e) := noted_noteLaunch_onTime c.isLt ht
  · have hu := hn.trans (noted_descRead _ c.isLt (off := Off.coreMxFaultCount) (by decide) mxCheck 0x01 (entArg e 0 16))
    refine ⟨_, exec_matrix hl hroom (by rw [hn.cellarBusy (by omega), hcellar]), ?_, movedOn_advanceHead_updCore hu fun _ => rfl⟩
    rw [core_advanceHead_updCore hu]
    exact ⟨_, rfl, rfl, rfl, hn.resident⟩
  · have hu := hn.trans (noted_descRead _ c.isLt (off := Off.coreVxFaultCount) (by decide) vxCheck 0x02 (entArg e 0 16))
    refine ⟨_, exec_vector hl hroom (by rw [hn.cellarBusy (by omega), hcellar]), ?_, movedOn_advanceHead_updCore hu fun _ => rfl⟩
    rw [core_advanceHead_updCore hu]
    exact ⟨_, rfl, rfl, rfl, hn.resident, rfl⟩
  · refine ⟨_, exec_seed_pending hl (by rw [hn.core, hp]), ?_, ?_, movedOn_advanceHead_updCore hn fun _ => rfl⟩ <;>
      rw [core_advanceHead_updCore hn]
  · refine ⟨_, exec_hist hl, ?_, ?_, movedOn_advanceHead_updCore hn fun _ => rfl⟩ <;> rw [core_advanceHead_updCore hn]
    exact fun k b hb => tget_clearHist _ _ k hb _

end Sys2Proof.Machine
end

section
/-!
PROOFS. HALT, LOOP and SWITCH, the end of a halted core, and faults.
-/
namespace Sys2Proof.Machine

/-! ## What a launch on time and a fault leave -/

theorem countLaunch_sameMemory (s : State) (c : Nat) (e : QWord) : sameMemory s (countLaunch s c e) := by
  rw [countLaunch_eq]; exact fun _ => ⟨rfl, rfl⟩

theorem core_countLaunch (s : State) (c : Nat) (e : QWord) (d : Nat) : core (countLaunch s c e) d = core s d := by
  rw [countLaunch_eq]; rfl

theorem otherCores_updCore_countLaunch (s : State) (c : Nat) (e : QWord) (f : Core → Core) :
    otherCores c s (updCore (countLaunch s c e) c f) :=
  otherCores_trans (fun d _ => core_countLaunch s c e d) (otherCores_updCore _ c f)

theorem noted_noteBuckets (before after : State) : Noted after (noteBuckets before after) :=
  noted_ite (fun _ => noted_sendMsix _ _ _) fun _ => Noted.refl _

/-- What a fault leaves: the core as before with STATE FAULT and its reason, records, and a message (R60, R61). -/
theorem noted_almFault (s : State) {c : Nat} (hc : c < 512) (reason slot : Nat) :
    Noted (updCore s c (fun k => { k with alm := { k.alm with state := .fault, faultReason := reason } })) (almFault s c reason slot) :=
  (noted_noteBuckets _ _).trans (noted_coreEvent _ hc _ _ _)

theorem almFault_core (s : State) {c : Nat} (hc : c < 512) (reason slot : Nat) :
    core (almFault s c reason slot) c = { core s c with alm := { (core s c).alm with state := .fault, faultReason := reason } } := by
  rw [(noted_almFault s hc reason slot).core, core_updCore_same]

theorem almFault_faults (s : State) {c : Nat} (hc : c < 512) (reason slot : Nat) :
    (core (almFault s c reason slot) c).alm.state = .fault ∧ (core (almFault s c reason slot) c).alm.faultReason = reason := by
  rw [almFault_core s hc]; exact ⟨rfl, rfl⟩

theorem almFault_otherCores (s : State) {c : Nat} (hc : c < 512) (reason slot : Nat) : otherCores c s (almFault s c reason slot) :=
  otherCores_trans (otherCores_updCore s c _) ((noted_almFault s hc reason slot).otherCores c)

/-! ## Gates that a switch finds dirty (R78) -/

theorem gateCheck_clean {s : State} {c : Nat} (slot : Nat) (h : dirtyGates (core s c) (resident s) = []) : gateCheck s c slot = s := by
  rw [gateCheck, h]; rfl

theorem noted_gateCheck (s : State) {c : Nat} (hc : c < 512) (slot : Nat) : Noted s (gateCheck s c slot) :=
  noted_foldl _ s fun _ _ _ => (noted_coreRecord _ hc _ _ _).trans (noted_incReg _ (tallied_core hc (by decide)))

/-! ## The entries -/

/-- HALT that launches at no held boundary stops further launches (R51). -/
theorem exec_halt {c : Fin 512} {s : State} {e : QWord} (hl : launches s c .halt e) (hb : boundaryHeld s = false) :
    exec (.halt c) s = .next (updCore (noteLaunch s c e) c (fun k => { k with alm := { k.alm with halting := true } })) := by
  have hexec : exec (.halt c) s = .next (launch s c .halt _ _) := rfl
  rw [hexec, launch_of_launches hl, hb]
  rfl

/-- A core's LOOP at its head opens a level (R52). -/
def openLoop (e : QWord) (now : DWord) (k : Core) : Core :=
  { k with alm := { k.alm with
      frames := ⟨k.alm.head + 1, entArg e 16 9, entArg e 0 16, 0, entArg e 25 23, entValue e, entId e % 2 == 1⟩ :: k.alm.frames
      head := k.alm.head + 1, headSince := now, timeoutFired := false } }

theorem exec_loop {c : Fin 512} {s : State} {e : QWord} (hl : launches s c .loop e) :
    exec (.loop c) s = .next (updCore (noteLaunch s c e) c (openLoop e (noteLaunch s c e).time)) := by
  have hexec : exec (.loop c) s = .next (launch s c .loop _ _) := rfl
  rw [hexec, launch_of_launches hl]
  rfl

/-- SWITCH that launches with no switch pending moves on (R359). -/
theorem exec_switch {c : Fin 512} {s : State} {e : QWord} (hl : launches s c .switch e) (hs : s.switch.phase = .idle) :
    exec (.switch c) s
      = .next (advanceHead (gateCheck (noteLaunch s c e) c (core (noteLaunch s c e) c).alm.slot) c) := by
  have hexec : exec (.switch c) s = .next (launch s c .switch _ _) := if_pos hs
  rw [hexec, launch_of_launches hl]
  rfl

/-- HALTED once nothing of the core is in flight (R51, R479). -/
theorem exec_halted {c : Fin 512} {s : State} (hh : (core s c).alm.halting = true)
    (hr : (core s c).alm.state = .running ∨ (core s c).alm.state = .starved) (hops : (core s c).ops = [])
    (hmr : (core s c).mxRuns = []) (hmp : (core s c).mxPend = none) (hvr : (core s c).vxRuns = []) (hvp : (core s c).vxPend = none) :
    exec (.halted c) s = .next (raiseInt (gateCheck
      (noteBuckets s (updCore s c (fun k => { k with alm := { k.alm with state := .halted } }))) c (core s c).alm.slot) .core c 0) := by
  refine if_pos ?_
  rw [hops, hmr, hvr]
  exact ⟨hh, hr, rfl, rfl, hmp, rfl, hvp⟩

/-- A slip of 2³¹ ticks or more faults (R50). -/
theorem exec_slipRange {c : Fin 512} {s : State} {e : QWord} (he : (core s c).alm.headEntry = some e)
    (hh : (core s c).alm.halting = false) (hr : (core s c).alm.state = .running ∨ (core s c).alm.state = .starved)
    (hlo : 2 ^ 31 ≤ (slipNow s (core s c).alm e).toNat) (hhi : (slipNow s (core s c).alm e).toNat < 2 ^ 63) :
    exec (.slipRange c) s = .next (almFault s c 0x0A (core s c).alm.slot) := by
  have hexec : exec (.slipRange c) s = execSlipRange c s := rfl
  rw [hexec, execSlipRange]
  simp only [he]
  exact if_pos ⟨hr, hh, hlo, hhi⟩

/-- Settles O9, command by command, from what each comes to. -/
theorem haltLoopSwitchLaunch : Obligations.HaltLoopSwitchLaunch := by
  refine ⟨fun c s e hl ht hb => ?_, fun c s e hl ht => ?_, fun c s e hl ht hs hd => ?_,
    fun c s hh hr hops hmr hmp hvr hvp => ?_, fun c s e he hh hr hlo hhi => ?_, fun c s e hl ht hw => ?_⟩
  · refine ⟨_, exec_halt hl hb, ?_⟩
    rw [noteLaunch_onTime ht]
    refine ⟨?_, ?_, reg64_countLaunch s c e, otherCores_updCore_countLaunch s c e _, countLaunch_sameMemory s c e⟩ <;>
      rw [core_updCore_same, core_countLaunch]
  · refine ⟨_, exec_loop hl, ?_⟩
    rw [noteLaunch_onTime ht]
    refine ⟨?_, ?_, reg64_countLaunch s c e, otherCores_updCore_countLaunch s c e _, countLaunch_sameMemory s c e⟩ <;>
      rw [core_updCore_same, core_countLaunch, openLoop]
  · have hn := noted_countLaunch s c.isLt e
    refine ⟨_, exec_switch hl hs, ?_⟩
    rw [noteLaunch_onTime ht, gateCheck_clean _ (by rw [hn.core, hn.resident, hd])]
    exact ⟨movedOn_advanceHead (by rw [hn.core]) (by rw [hn.core]) hn.time, reg64_countLaunch s c e,
      otherCores_updCore_countLaunch s c e _, countLaunch_sameMemory s c e⟩
  · have hn := ((noted_noteBuckets s (updCore s c (fun k => { k with alm := { k.alm with state := .halted } }))).trans
      (noted_gateCheck _ c.isLt (core s c).alm.slot)).trans (noted_raiseInt (b := .core) (by decide) c.isLt _ 0)
    refine ⟨_, exec_halted hh hr hops hmr hmp hvr hvp, ?_, otherCores_trans (otherCores_updCore s c _) (hn.otherCores c)⟩
    rw [hn.core, core_updCore_same]
  · refine ⟨_, exec_slipRange he hh hr hlo hhi, ?_⟩
    obtain ⟨hstate, hreason⟩ := almFault_faults s c.isLt 0x0A (core s c).alm.slot
    exact ⟨hstate, hreason, almFault_otherCores s c.isLt _ _⟩
  · refine ⟨_, exec_loop hl, ?_⟩
    rw [noteLaunch_late ht hw]
    refine ⟨?_, ?_, ?_, ?_⟩
    · rw [reg_updCore, incReg, reg_setReg_same, reg_countLaunch_late]
    · exact (reg64_setReg_ne _ _ (regKey_ne_off (by decide)) (regKey_ne_off (by decide))).trans (reg64_countLaunch s c e)
    · rw [core_updCore_same]
      show (core (countLaunch s c e) c).alm.head + 1 = _
      rw [core_countLaunch]
    · rw [countLaunch_eq]
      exact ⟨_, _, _, rfl⟩

end Sys2Proof.Machine
end

section
/-!
SUPPORT. Reads of memory see the memories, the keys and the tables of the fabric, and no word that a record writes: states alike in
these read alike.
-/
namespace Sys2Proof.Machine

/-- Reads and translations find the same in `s` and in `t`. -/
structure ReadsAlike (s t : State) : Prop where
  mem : t.mem = s.mem
  chk : t.chk = s.chk
  keyDraws : t.keyDraws = s.keyDraws
  terrier : t.terrier = s.terrier
  terrierOld : t.terrierOld = s.terrierOld
  words : ∀ k, tallied k = false → tget (regDefault k) k t.regs = tget (regDefault k) k s.regs

theorem ReadsAlike.rf {s t : State} (h : ReadsAlike s t) {b : Block} {i off : Nat} (hk : tallied (regKey b i off) = false) (lo w : Nat) :
    rf t b i off lo w = rf s b i off lo w := congrArg (fun v : Word => fld v.toNat lo w) (h.words _ hk)

theorem ReadsAlike.rbit {s t : State} (h : ReadsAlike s t) {b : Block} {i off : Nat} (hk : tallied (regKey b i off) = false) (k : Nat) :
    rbit t b i off k = rbit s b i off k := congrArg (fun v : Word => v.toNat.testBit k) (h.words _ hk)

/-- Records and accesses on either side that leave the memories alike leave the states alike. -/
theorem ReadsAlike.of_noted {s t s' t' : State} (h : ReadsAlike s t) (hs : Noted s s') (ht : Noted t t') (hm : t'.mem = s'.mem)
    (hc : t'.chk = s'.chk) : ReadsAlike s' t' := by
  have hkeys (u v : State) (hn : Noted u v) : v.keyDraws = u.keyDraws := (congrArg State.keyDraws hn.fields :)
  have hterr (u v : State) (hn : Noted u v) : v.terrier = u.terrier := (congrArg State.terrier hn.fields :)
  have hold (u v : State) (hn : Noted u v) : v.terrierOld = u.terrierOld := (congrArg State.terrierOld hn.fields :)
  exact ⟨hm, hc, by rw [hkeys _ _ ht, hkeys _ _ hs, h.keyDraws], by rw [hterr _ _ ht, hterr _ _ hs, h.terrier],
    by rw [hold _ _ ht, hold _ _ hs, h.terrierOld], fun k hk => by rw [ht.words k hk, hs.words k hk, h.words k hk]⟩

theorem ReadsAlike.rawWord {s t : State} (h : ReadsAlike s t) (w : Nat) : rawWord t w = rawWord s w := by
  rw [Machine.rawWord, h.mem, h.chk, ← Machine.rawWord]

theorem ReadsAlike.offline {s t : State} (h : ReadsAlike s t) {a : Nat} {p : Place} (hp : placeOf a = some p) :
    p.offline t = p.offline s := by
  by_cases hk : p.kind = .granary
  · obtain ⟨hunit, hoff⟩ := placeOf_granary_bounds hp hk
    have hword : ∀ x ∈ tallyOffs .stack, x < Off.stackOfflineFp ∨ Off.stackOfflineFp + 16 ≤ x := by decide
    have hkey : tallied (regKey .stack p.unit (Off.stackOfflineFp + 4 * (p.offset / 2 ^ 26 / 32))) = false := by
      rw [tallied_regKey (by omega) (by simp only [Off.stackOfflineFp]; omega) (by simp only [Off.stackOfflineFp]; omega)]
      rw [List.contains_eq_mem, decide_eq_false_iff_not]
      intro hm
      have := hword _ hm
      omega
    rw [Place.offline, footprintOffline, h.rbit hkey, ← footprintOffline, ← Place.offline]
  · have hgran : (p.kind == .granary) = false := beq_eq_false_iff_ne.2 hk
    rw [Place.offline, Place.offline, hgran]; rfl

theorem ReadsAlike.decryptWord {s t : State} (h : ReadsAlike s t) (p : Place) (w slot data : Nat) :
    decryptWord t p w slot data = decryptWord s p w slot data := by
  rw [Machine.decryptWord, Machine.decryptWord, slotKey, slotKey, h.keyDraws]

/-- States alike read a codeword alike, and are alike afterwards. -/
theorem ReadsAlike.readWord {s t : State} (h : ReadsAlike s t) (slot w : Nat) :
    ReadsAlike (readWord s slot w).1 (readWord t slot w).1 ∧ (readWord t slot w).2 = (readWord s slot w).2 := by
  have hunread (p : Place) (hu : p.unit < 512) : ReadsAlike (memUncorrectable s p) (memUncorrectable t p) := by
    obtain ⟨hm, hc⟩ := memEq_memUncorrectable s p
    obtain ⟨hm', hc'⟩ := memEq_memUncorrectable t p
    exact h.of_noted (noted_memUncorrectable s hu) (noted_memUncorrectable t hu) (by rw [hm', hm, h.mem]) (by rw [hc', hc, h.chk])
  unfold Machine.readWord
  cases hp : placeOf (16 * w) with
  | none => exact ⟨h, rfl⟩
  | some p =>
    have hu := placeOf_unit_lt hp
    simp only [h.offline hp, h.rawWord]
    by_cases ho : p.offline s = true
    · simp only [ho, if_true]
      exact ⟨hunread p hu, trivial⟩
    · simp only [ho, Bool.false_eq_true, if_false]
      cases decodeWord (Machine.rawWord s w) with
      | clean => exact ⟨h, by rw [h.decryptWord]⟩
      | corrected v =>
        obtain ⟨hm, hc⟩ := memEq_memCorrected s p w v
        obtain ⟨hm', hc'⟩ := memEq_memCorrected t p w v
        refine ⟨h.of_noted (noted_memCorrected s hu w v) (noted_memCorrected t hu w v) ?_ ?_,
          congrArg (fun d => (d, true)) (h.decryptWord p w slot (v % 2 ^ 128))⟩
        · rw [hm', hm, setRawWord, setRawWord, h.mem]
        · rw [hc', hc, setRawWord, setRawWord, h.chk]
      | uncorrectable => exact ⟨hunread p hu, rfl⟩

theorem readWords_succ (s : State) (slot n w : Nat) : readWords s slot (n + 1) w =
    ((readWords (readWord s slot w).1 slot n (w + 1)).1,
      (readWord s slot w).2.1 + 2 ^ 128 * (readWords (readWord s slot w).1 slot n (w + 1)).2.1,
      (readWord s slot w).2.2 && (readWords (readWord s slot w).1 slot n (w + 1)).2.2) := rfl

theorem ReadsAlike.readWords : ∀ (n : Nat) {s t : State}, ReadsAlike s t → ∀ slot w,
    ReadsAlike (readWords s slot n w).1 (readWords t slot n w).1 ∧ (readWords t slot n w).2 = (readWords s slot n w).2
  | 0, _, _, h, _, _ => ⟨h, rfl⟩
  | n + 1, s, t, h, slot, w => by
    obtain ⟨h1, e1⟩ := h.readWord slot w
    obtain ⟨h2, e2⟩ := readWords n h1 slot (w + 1)
    rw [readWords_succ, readWords_succ, e1, e2]
    exact ⟨h2, rfl⟩

theorem ReadsAlike.readMem {s t : State} (h : ReadsAlike s t) (slot a n : Nat) :
    ReadsAlike (readMem s slot a n).1 (readMem t slot a n).1 ∧ (readMem t slot a n).2 = (readMem s slot a n).2 := by
  unfold Machine.readMem
  by_cases hn : n = 0
  · simp only [hn, if_true]; exact ⟨h, trivial⟩
  · simp only [hn, if_false]
    obtain ⟨h1, e1⟩ := h.readWords ((a + n - 1) / 16 - a / 16 + 1) slot (a / 16)
    exact ⟨h1, congrArg (fun r : Nat × Bool => (fld r.1 (8 * (a % 16)) (8 * n), r.2)) e1⟩

/-! ## Translations and segments (R44, R46, R54, R55) -/

theorem ReadsAlike.terrierEntry {s t : State} (h : ReadsAlike s t) (die i : Nat) : terrierEntry t die i = terrierEntry s die i := by
  rw [Machine.terrierEntry, Machine.terrierEntry, h.terrier, h.terrierOld]

theorem tallied_context {ctx off : Nat} (hc : ctx < 512) (ho : off < 4096) (ha : off % 4 = 0) (hn : off ∉ headerTallies) :
    tallied (regKey .context ctx off) = false := by
  rw [tallied_regKey hc ho ha, List.contains_eq_mem, decide_eq_false_iff_not]
  exact hn

theorem ReadsAlike.translate {s t : State} (h : ReadsAlike s t) {ctx : Nat} (hc : ctx < 512) (die a n : Nat) (perm : Option Perm) :
    translate t die ctx a n perm = translate s die ctx a n perm := by
  unfold Machine.translate
  rw [h.rf (tallied_context hc (by decide) (by decide) (by decide)), h.rf (tallied_context hc (by decide) (by decide) (by decide))]
  simp only [h.terrierEntry]

theorem ReadsAlike.tablePlace {s t : State} (h : ReadsAlike s t) {ctx : Nat} (hc : ctx < 512) (d a n : Nat) :
    tablePlace t ctx d a n = tablePlace s ctx d a n := by
  have hmeasured : inMeasured t ctx a = inMeasured s ctx a := by
    unfold inMeasured
    rw [h.rbit (tallied_context hc (by decide) (by decide) (by decide)), h.rf (tallied_context hc (by decide) (by decide) (by decide)),
      h.rf (tallied_context hc (by decide) (by decide) (by decide))]
  have hnode : thisNode t = thisNode s := h.rf (by decide) 0 14
  have hhere : translateHere t d ctx a n none = translateHere s d ctx a n none := by
    unfold translateHere
    rw [h.translate hc, hnode]
  unfold Machine.tablePlace
  rw [hmeasured, hhere]

theorem ReadsAlike.schedulePlace {s t : State} (h : ReadsAlike s t) {ctx : Nat} (hc : ctx < 512) (d a n : Nat) :
    schedulePlace t ctx d a n = schedulePlace s ctx d a n := by
  unfold Machine.schedulePlace
  rw [h.tablePlace hc]

theorem readEntries_succ (s : State) (slot n w : Nat) : readEntries s slot (n + 1) w =
    ((readEntries (readWord s slot w).1 slot n (w + 1)).1,
      (BitVec.ofNat 128 (readWord s slot w).2.1, (readWord s slot w).2.2) :: (readEntries (readWord s slot w).1 slot n (w + 1)).2) :=
  rfl

theorem ReadsAlike.readEntries : ∀ (n : Nat) {s t : State}, ReadsAlike s t → ∀ slot w,
    (readEntries t slot n w).2 = (readEntries s slot n w).2
  | 0, _, _, _, _, _ => rfl
  | n + 1, s, t, h, slot, w => by
    obtain ⟨h1, e1⟩ := h.readWord slot w
    rw [readEntries_succ, readEntries_succ, e1, readEntries n h1 slot (w + 1)]

theorem noted_readEntries : ∀ (n : Nat) (s : State) (slot w : Nat), Noted s (readEntries s slot n w).1
  | 0, s, _, _ => Noted.refl s
  | n + 1, s, slot, w => (noted_readWord s slot w).trans (noted_readEntries n _ slot (w + 1))

/-- States alike load the same bank; the reads are made opaque, so that no proof term computes with them. -/
theorem ReadsAlike.loadBank {s t : State} (h : ReadsAlike s t) {ctx : Nat} (hc : ctx < 512) (c addr : Nat) :
    (loadBank t ctx c addr).2 = (loadBank s ctx c addr).2 := by
  have hplace : ∀ {u v : State}, ReadsAlike u v → ∀ d a n, Machine.schedulePlace v ctx d a n = Machine.schedulePlace u ctx d a n :=
    fun huv => huv.schedulePlace hc
  have hread : ∀ {u v : State}, ReadsAlike u v → ∀ slot a n, ReadsAlike (Machine.readMem u slot a n).1 (Machine.readMem v slot a n).1
      ∧ (Machine.readMem v slot a n).2 = (Machine.readMem u slot a n).2 := fun huv => huv.readMem
  have hentries : ∀ {u v : State}, ReadsAlike u v → ∀ n slot w,
      (Machine.readEntries v slot n w).2 = (Machine.readEntries u slot n w).2 := fun huv n => huv.readEntries n
  unfold Machine.loadBank
  obtain ⟨place, hp⟩ : ∃ f, f = Machine.schedulePlace := exists_eq
  obtain ⟨read, hr⟩ : ∃ f, f = Machine.readMem := exists_eq
  obtain ⟨entries, he⟩ : ∃ f, f = Machine.readEntries := exists_eq
  rw [← hp, ← hr, ← he]
  rw [← hp] at hplace
  rw [← hr] at hread
  rw [← he] at hentries
  by_cases ha : addr % 16 ≠ 0
  · rw [if_pos ha, if_pos ha]
  · rw [if_neg ha, if_neg ha, hplace h]
    cases place s ctx (c / 128) addr 16 with
    | none => rfl
    | some w =>
      obtain ⟨h1, e1⟩ := hread h w.key w.addr 16
      rcases hs : read s w.key w.addr 16 with ⟨s1, v, ok⟩
      rcases ht : read t w.key w.addr 16 with ⟨t1, v', ok'⟩
      rw [hs, ht] at h1 e1
      cases e1
      simp only [hs, ht]
      split
      · rfl
      · split
        · rfl
        · rw [hplace h1]
          cases place s1 ctx (c / 128) addr (16 * (hdrLength (BitVec.ofNat 128 v) + 1)) with
          | none => rfl
          | some w' =>
            have e2 := hentries h1 (hdrLength (BitVec.ofNat 128 v)) w'.key (w'.addr / 16 + 1)
            rcases hs2 : entries s1 w'.key (hdrLength (BitVec.ofNat 128 v)) (w'.addr / 16 + 1) with ⟨s2, l⟩
            rcases ht2 : entries t1 w'.key (hdrLength (BitVec.ofNat 128 v)) (w'.addr / 16 + 1) with ⟨t2, l'⟩
            rw [hs2, ht2] at e2
            cases e2
            simp only [hs2, ht2]
            cases entriesFault (hdrLength (BitVec.ofNat 128 v)) 0 [] l <;> rfl

/-- Loading a bank reads memory, and that is all. -/
theorem noted_loadBank (s : State) (ctx c addr : Nat) : Noted s (loadBank s ctx c addr).1 := by
  have hread : ∀ u slot a n, Noted u (Machine.readMem u slot a n).1 := fun u => noted_readMem u
  have hentries : ∀ u slot n w, Noted u (Machine.readEntries u slot n w).1 := fun u slot n w => noted_readEntries n u slot w
  unfold Machine.loadBank
  obtain ⟨read, hr⟩ : ∃ f, f = Machine.readMem := exists_eq
  obtain ⟨entries, he⟩ : ∃ f, f = Machine.readEntries := exists_eq
  rw [← hr, ← he]
  rw [← hr] at hread
  rw [← he] at hentries
  by_cases ha : addr % 16 ≠ 0
  · rw [if_pos ha]; exact Noted.refl s
  · rw [if_neg ha]
    cases schedulePlace s ctx (c / 128) addr 16 with
    | none => exact Noted.refl s
    | some w =>
      have h1 := hread s w.key w.addr 16
      rcases hs : read s w.key w.addr 16 with ⟨s1, v, ok⟩
      rw [hs] at h1
      simp only [hs]
      split
      · exact h1
      · split
        · exact h1
        · cases schedulePlace s1 ctx (c / 128) addr (16 * (hdrLength (BitVec.ofNat 128 v) + 1)) with
          | none => exact h1
          | some w' =>
            have h2 := hentries s1 w'.key (hdrLength (BitVec.ofNat 128 v)) (w'.addr / 16 + 1)
            rcases hs2 : entries s1 w'.key (hdrLength (BitVec.ofNat 128 v)) (w'.addr / 16 + 1) with ⟨s2, l⟩
            rw [hs2] at h2
            simp only [hs2]
            cases entriesFault (hdrLength (BitVec.ofNat 128 v)) 0 [] l <;> exact h1.trans h2

end Sys2Proof.Machine
end

section
/-!
PROOFS. The banks of a core.
-/
namespace Sys2Proof.Machine

/-! ## Activation (R45, R46, R48) -/

/-- The almanac with bank `b` active and its first entry at the head, before the refill that follows. -/
def activated (a : Almanac) (b : Bool) (now : DWord) : Almanac :=
  { a with
    active := some b, head := 0, frames := [], choice := none, lateWritten := false, starveWritten := false
    state := .running, skip := false, commit := none, headSince := now, timeoutFired := false }

theorem activate_eq (s : State) (c : Nat) (b : Bool) :
    activate s c b = updCore s c (fun k => { k with alm := refillAfterSwap (activated k.alm b s.time) b }) := rfl

/-- The refill that follows an activation loads the other bank, and touches nothing of the almanac but that bank and the refill. -/
theorem refillAfterSwap_eq (a : Almanac) (b : Bool) : ∃ k r, refillAfterSwap a b = { a.setBank (!b) k with refill := r } := by
  rw [refillAfterSwap]
  split
  · exact ⟨_, _, rfl⟩
  · refine ⟨a.bank (!b), a.refill, ?_⟩
    cases b <;> rfl

/-- What the almanac shows once bank `b` has become active. -/
structure ShowsActivated (t : State) (c : Nat) (a : Almanac) (b : Bool) (now : DWord) : Prop where
  state : (core t c).alm.state = .running
  active : (core t c).alm.active = some b
  head : (core t c).alm.head = 0
  frames : (core t c).alm.frames = []
  headSince : (core t c).alm.headSince = now
  epoch : (core t c).alm.epoch = a.epoch
  entries : ((core t c).alm.bank b).entries = (a.bank b).entries

theorem activate_shows (s : State) (c : Nat) (b : Bool) : ShowsActivated (activate s c b) c (core s c).alm b s.time := by
  obtain ⟨k, r, hk⟩ := refillAfterSwap_eq (activated (core s c).alm b s.time) b
  have hcore : (core (activate s c b) c).alm = { (activated (core s c).alm b s.time).setBank (!b) k with refill := r } := by
    rw [activate_eq, core_updCore_same, ← hk]
  constructor <;> rw [hcore] <;> cases b <;> rfl

/-! ## REFILL_COMPLETE (R45, R46) -/

/-- A refill that completes, the cellar not in reset, ends with the bank it loads. -/
theorem exec_refillComplete {c : Fin 512} {s : State} {r : Refill} (hr : (core s c).alm.refill = some r)
    (hclock : coreClocked s c = true) (hcellar : cellarBusy s (c.val / 128) = false) :
    exec (.refillComplete c) s = .next (finishRefill (loadBank (throttleRefill s (resident s) c r.addr) (resident s) c r.addr).1 c r
      (loadBank (throttleRefill s (resident s) c r.addr) (resident s) c r.addr).2) := by
  have hexec : exec (.refillComplete c) s = execRefillComplete c s := rfl
  rw [hexec, execRefillComplete]
  simp only [hr, clocked, hclock, hcellar, if_true, Bool.false_eq_true, if_false]

theorem noted_throttleRefill (s : State) (ctx c addr : Nat) : Noted s (throttleRefill s ctx c addr) := by
  unfold throttleRefill
  cases schedulePlace s ctx (c / 128) addr 16 with
  | none => exact Noted.refl s
  | some t => exact noted_throttleAccess s t.addr _

/-- The beats that the throttle holds change no byte (R233). -/
theorem memEq_throttleAccess (s : State) (a n : Nat) : memEq s (throttleAccess s a n) := by
  have hheld : ∀ u f k, memEq u (noteHeld u f k) := fun u f k =>
    memEq_ite (memEq.trans (t := setThrottle (addReg u .stack (f / 128) Off.stackHotOverlapCount k) f
      { throttle u f with count := 0, recordAt := u.time.toNat + 1 }) ⟨rfl, rfl⟩ (memEq_deviceRecord _ _ _ _ _ _ _)) ⟨rfl, rfl⟩
  have hstep : ∀ u f, memEq u (if (freshWord u).2.toNat % ((a + n - 1) / 16 - a / 16 + 2) = 0 then (freshWord u).1
      else noteHeld (freshWord u).1 f ((freshWord u).2.toNat % ((a + n - 1) / 16 - a / 16 + 2))) := fun u f =>
    memEq_ite ⟨rfl, rfl⟩ (memEq.trans (t := (freshWord u).1) ⟨rfl, rfl⟩ (hheld _ _ _))
  have hfold : ∀ (l : List Nat) (u : State), memEq u (l.foldl (fun s f =>
      if (freshWord s).2.toNat % ((a + n - 1) / 16 - a / 16 + 2) = 0 then (freshWord s).1
      else noteHeld (freshWord s).1 f ((freshWord s).2.toNat % ((a + n - 1) / 16 - a / 16 + 2))) u) := by
    intro l
    induction l with
    | nil => exact fun u => ⟨rfl, rfl⟩
    | cons f l ih => exact fun u => (hstep u f).trans (ih _)
  exact hfold _ s

theorem memEq_throttleRefill (s : State) (ctx c addr : Nat) : memEq s (throttleRefill s ctx c addr) := by
  unfold throttleRefill
  cases schedulePlace s ctx (c / 128) addr 16 with
  | none => exact ⟨rfl, rfl⟩
  | some t => exact memEq_throttleAccess s t.addr _

theorem resident_lt (s : State) : resident s < 32 := fld_lt _ 0 5

/-- The throttle changes nothing of the bank that a refill loads. -/
theorem loadBank_throttleRefill (s : State) (c addr : Nat) :
    (loadBank (throttleRefill s (resident s) c addr) (resident s) c addr).2 = (loadBank s (resident s) c addr).2 := by
  obtain ⟨hm, hc⟩ := memEq_throttleRefill s (resident s) c addr
  have halike : ReadsAlike s s := ⟨rfl, rfl, rfl, rfl, rfl, fun _ _ => rfl⟩
  exact (halike.of_noted (Noted.refl s) (noted_throttleRefill s _ c addr) hm hc).loadBank
    ((resident_lt s).trans (by decide)) c addr

/-! ## SEGMENT (R48, R60) -/

theorem exec_segment {c : Fin 512} {s : State} {e : QWord} (hl : launches s c .segment e) (hb : boundaryHeld s = false)
    {b : Bool} (hidle : b = !((core s c).alm.active == some true)) :
    exec (.segment c) s = match ((core s c).alm.bank b).status with
      | .loading => .next s
      | .empty => .next (almFault (noteLaunch s c e) c 0x09 (core s c).alm.slot)
      | .invalid => .next (almFault (noteLaunch s c e) c ((core s c).alm.bank b).reason
          (failSlot b ((core s c).alm.bank b) (core s c).alm.slot))
      | .ready => .next (activate (updCore (noteLaunch s c e) c (fun k => { k with alm := { (k.alm.setBank (!b) .empty) with
          epoch := k.alm.epoch + BitVec.ofNat 64 (entArg e 0 48) } })) c b) := by
  obtain ⟨hready, hforeign, hwait⟩ := hl
  subst hidle
  have hexec : exec (.segment c) s = execSegment c s := rfl
  rw [hexec, execSegment]
  simp only [hready, hforeign, hwait, hb, Bool.not_true, Bool.or_self, Bool.false_eq_true, if_false] <;> rfl

/-- ALMANAC_STARVED of a running core whose other bank still loads (R48, R61). -/
theorem exec_almanacStarved {c : Fin 512} {s : State} {e : QWord} (n : BitVec 9) (hl : launches s c .segment e)
    (hrun : (core s c).alm.state = .running)
    (hload : ((core s c).alm.bank (!((core s c).alm.active == some true))).status = .loading) :
    exec (.almanacStarved c n) s = .next (coreEvent (incReg (updCore s c (fun k =>
      { k with alm := { k.alm with state := .starved, starveWritten := true } })) .core c Off.coreAlmStarveCount)
        c 0x02 (det ((core s c).alm.slot * 2 ^ 22 + n.toNat)) 2) := by
  obtain ⟨hready, hforeign, hwait⟩ := hl
  have hexec : exec (.almanacStarved c n) s = execAlmanacStarved c n s := rfl
  rw [hexec, execAlmanacStarved]
  simp only [hready]
  exact if_pos ⟨hrun, hforeign, hwait, hload⟩

/-- Settles O7: a refill's end and a SEGMENT activate a bank, a bank that loads starves its core, an empty one faults it. -/
theorem banksTurn : Obligations.BanksTurn := by
  refine ⟨fun c s s1 r bank hr hactive hclock hcellar hload hstatus => ?_, fun c s e hl ht hb hstatus => ?_,
    fun c s e n hl hrun hload => ?_, fun c s e hl hb hstatus => ?_⟩
  · have hn := (noted_throttleRefill s (resident s) c r.addr).trans
      (noted_loadBank (throttleRefill s (resident s) c r.addr) (resident s) c r.addr)
    have hbank : (loadBank (throttleRefill s (resident s) c r.addr) (resident s) c r.addr).2 = bank := by
      rw [loadBank_throttleRefill, hload]
    refine ⟨_, exec_refillComplete hr hclock hcellar, ?_⟩
    rw [hbank]
    generalize (loadBank (throttleRefill s (resident s) c r.addr) (resident s) c r.addr).1 = u at hn
    have hend : finishRefill u c r bank
        = activate (updCore u c (fun k => { k with alm := { (k.alm.setBank r.bank bank) with refill := none } })) c r.bank := by
      have hnone : ¬ ((core u c).alm.active.isSome = true) := by rw [hn.core, hactive]; exact Bool.false_ne_true
      exact (if_neg hnone).trans (if_pos hstatus)
    rw [hend]
    have h := activate_shows (updCore u c (fun k => { k with alm := { (k.alm.setBank r.bank bank) with refill := none } })) c r.bank
    refine ⟨h.state, h.active, h.head, h.headSince.trans hn.time, h.entries.trans ?_⟩
    rw [core_updCore_same]
    exact congrArg Bank.entries (bank_setBank_same _ _ _)
  · have hexec := exec_segment hl hb rfl
    rw [hstatus, noteLaunch_onTime ht] at hexec
    refine ⟨_, hexec, ?_⟩
    have h := activate_shows (updCore (countLaunch s c e) c (fun k => { k with alm :=
      { (k.alm.setBank (!(!((core s c).alm.active == some true))) .empty) with
        epoch := k.alm.epoch + BitVec.ofNat 64 (entArg e 0 48) } })) c (!((core s c).alm.active == some true))
    refine ⟨h.epoch.trans ?_, h.active, h.head, h.frames, h.state, ?_, ?_⟩
    · rw [core_updCore_same, core_countLaunch]
    · exact otherCores_trans (otherCores_updCore_countLaunch s c e _) (otherCores_updCore _ c _)
    · exact countLaunch_sameMemory s c e
  · have hn := (noted_incReg (updCore s c (fun k => { k with alm := { k.alm with state := .starved, starveWritten := true } }))
      (tallied_core c.isLt (off := Off.coreAlmStarveCount) (by decide))).trans
        (noted_coreEvent _ c.isLt 0x02 (det ((core s c).alm.slot * 2 ^ 22 + n.toNat)) 2)
    refine ⟨_, exec_almanacStarved n hl hrun hload, ?_, ?_, otherCores_trans (otherCores_updCore s c _) (hn.otherCores c)⟩ <;>
      rw [hn.core, core_updCore_same]
  · have hexec := exec_segment hl hb rfl
    rw [hstatus] at hexec
    exact ⟨_, hexec, almFault_faults _ c.isLt _ _⟩

end Sys2Proof.Machine
end

section
/-!
PROOFS. VARIANT takes its bucket's segment.
-/
namespace Sys2Proof.Machine

/-- The core counts one more bucket of slot `b` consumed (R56). -/
def consumeBucket (b n : Nat) (k : Core) : Core :=
  { k with alm := { k.alm with consumed := tset 0 b (BitVec.ofNat 16 (n + 1)) k.alm.consumed } }

/-- The core has chosen the segment at `addr`: its head moves on, and the other bank begins to load from it (R55). -/
def chooseSegment (addr : Nat) (now : DWord) (k : Core) : Core :=
  { k with alm := startRefill { k.alm.advance now with choice := some addr } (!(k.alm.active == some true)) addr }

theorem startRefill_eq (a : Almanac) (b : Bool) (addr : Nat) :
    ∃ k0 k1, startRefill a b addr = { a with bank0 := k0, bank1 := k1, refill := some ⟨b, addr⟩ }
      ∧ ((startRefill a b addr).bank b).status = .loading := by
  cases b <;> exact ⟨_, _, rfl, rfl⟩

/-- How far the ring word read lies ahead of the bucket that VARIANT takes next (R57). -/
def ringAhead (s : State) (c : Nat) (e : QWord) : Nat :=
  (fld (ringWord s (resident s) (entArg e 0 4) (tget 0 (entArg e 0 4) (core s c).alm.consumed).toNat).toNat 16 16 + 2 ^ 17
    - (tget 0 (entArg e 0 4) (core s c).alm.consumed).toNat - 1) % 2 ^ 16

/-- VARIANT that launches with the next bucket in its ring and a VALID word in its table. -/
theorem exec_variant {c : Fin 512} {s s2 s3 : State} {e : QWord} {w : Nat} {t0 : Target} (hl : launches s c .variant e)
    (hahead : ringAhead s c e = 0) (hbusy : cellarBusy s (c.val / 128) = false)
    (hs2 : noteBuckets (noteLaunch s c e) (updCore (noteLaunch s c e) c
      (consumeBucket (entArg e 0 4) (tget 0 (entArg e 0 4) (core s c).alm.consumed).toNat)) = s2)
    (hplace : tablePlace s2 (resident s) (c.val / 128) ((core s c).heldVtab + 128 * entArg e 4 16
      + 8 * fld (ringWord s (resident s) (entArg e 0 4) (tget 0 (entArg e 0 4) (core s c).alm.consumed).toNat).toNat 0 4) 8 = some t0)
    (hreset : addrReset s t0.addr = false) (hread : readMem s2 t0.key t0.addr 8 = (s3, w, true)) (hvalid : w.testBit 63 = true) :
    exec (.variant c) s = .next (updCore s3 c (chooseSegment (fld w 0 48) s3.time)) := by
  obtain ⟨hready, hforeign, hwait⟩ := hl
  subst hs2
  have hexec : exec (.variant c) s = execVariant c s := rfl
  rw [hexec, execVariant]
  unfold ringAhead at hahead
  unfold consumeBucket at hplace hread
  simp only [hready, hforeign, hwait, hahead, hbusy, hplace, hread, hreset, hvalid, Bool.not_true, Bool.false_eq_true, if_false,
    ne_eq, not_true_eq_false]
  rfl

/-- A ring word overwritten faults (R57, R60). -/
theorem exec_variant_overwritten {c : Fin 512} {s : State} {e : QWord} (hl : launches s c .variant e)
    (hlo : 1 ≤ ringAhead s c e) (hhi : ringAhead s c e ≤ 0x7FFF) :
    exec (.variant c) s = .next (almFault s c 0x08 (core s c).alm.slot) := by
  obtain ⟨hready, hforeign, hwait⟩ := hl
  have hexec : exec (.variant c) s = execVariant c s := rfl
  rw [hexec, execVariant]
  unfold ringAhead at hlo hhi
  simp only [hready, hforeign, hwait, Bool.not_true, Bool.false_eq_true, if_false]
  exact if_pos ⟨hlo, hhi⟩

/-- Settles O8: the core has consumed the bucket before the segment is chosen, and the table's read leaves it as it is. -/
theorem variantChooses : Obligations.VariantChooses := by
  refine ⟨fun c s s3 e w t0 => ?_, fun c s e => ?_⟩
  · intro b n ring s1 s2 hl ht hahead hbusy hplace hreset hread hvalid
    have hlaunch : Noted s s1 := noted_noteLaunch_onTime c.isLt ht
    have hafter : Noted (updCore s1 c (consumeBucket b n)) s3 := by
      refine (noted_noteBuckets s1 _).trans (?_ : Noted s2 s3)
      have hn := noted_readMem s2 t0.key t0.addr 8
      rwa [hread] at hn
    have hcore : core s3 c = consumeBucket b n (core s c) := by rw [hafter.core, core_updCore_same, hlaunch.core]
    have htime : s3.time = s.time := hafter.time.trans hlaunch.time
    refine ⟨_, exec_variant hl hahead hbusy rfl hplace hreset hread hvalid, ?_⟩
    have halm : (core (updCore s3 c (chooseSegment (fld w 0 48) s3.time)) c).alm
        = startRefill { (consumeBucket b n (core s c)).alm.advance s.time with choice := some (fld w 0 48) }
            (!((core s c).alm.active == some true)) (fld w 0 48) := by
      rw [core_updCore_same, hcore, htime]; rfl
    obtain ⟨k0, k1, hbanks, hloading⟩ := startRefill_eq
      { (consumeBucket b n (core s c)).alm.advance s.time with choice := some (fld w 0 48) }
      (!((core s c).alm.active == some true)) (fld w 0 48)
    refine ⟨?_, ?_, ?_, by rw [halm]; exact hloading, ?_, ?_, ?_⟩ <;> rw [halm, hbanks]
    · exact (congrArg BitVec.toNat (tget_tset_same _ _ _ _)).trans (BitVec.toNat_ofNat _ _)
    all_goals rfl
  · intro b n ahead hl hlo hhi
    exact ⟨_, exec_variant_overwritten hl hlo hhi, almFault_faults s c.isLt _ _⟩

end Sys2Proof.Machine
end

section
/-!
SUPPORT. Ports and their link-local messages, and the state of the Bell (R35, R256, R257).
-/
namespace Sys2Proof.Machine

/-! ## Ports -/

@[simp] theorem portOf_updPort_same (s : State) (p : Nat) (f : Port → Port) : portOf (updPort s p f) p = f (portOf s p) :=
  tget_tset_same _ _ _ _

theorem portOf_updPort_ne (s : State) {p q : Nat} (f : Port → Port) (h : q ≠ p) : portOf (updPort s p f) q = portOf s q :=
  tget_tset_ne _ _ _ h _

theorem otherPorts_updPort (s : State) (p : Nat) (f : Port → Port) : otherPorts p s (updPort s p f) :=
  fun _ hq => portOf_updPort_ne s f hq

theorem otherPorts_trans {p : Nat} {s t u : State} (h : otherPorts p s t) (k : otherPorts p t u) : otherPorts p s u :=
  fun q hq => (k q hq).trans (h q hq)

/-! ## Link-local messages (R256, R257) -/

theorem sendLocal_active {s : State} {p : Nat} (h : portState s p = Link.active) (v : Nat) :
    sendLocal s p v = updPort s p (fun k => queueSlot k ⟨3, true, BitVec.ofNat 128 v⟩) := if_pos h

theorem sendLocal_idle {s : State} {p : Nat} (h : portState s p ≠ Link.active) (v : Nat) : sendLocal s p v = s := if_neg h

theorem sendLocal_regs (s : State) (p v : Nat) : (sendLocal s p v).regs = s.regs := by
  rw [sendLocal]; split <;> rfl

theorem sendLocal_time (s : State) (p v : Nat) : (sendLocal s p v).time = s.time := by
  rw [sendLocal]; split <;> rfl

theorem otherPorts_sendLocal (s : State) (p v : Nat) : otherPorts p s (sendLocal s p v) := by
  rw [sendLocal]
  split
  · exact otherPorts_updPort s p _
  · exact fun _ _ => rfl

theorem localQueued_queueSlot {t : State} {p : Nat} {k : Port} (v : Nat)
    (h : portOf t p = queueSlot k ⟨3, true, BitVec.ofNat 128 v⟩) : localQueued t p v (tget [] 3 k.tx) := by
  rw [localQueued, h]; exact tget_tset_same _ _ _ _

theorem localQueued_sendLocal {s : State} {p : Nat} (h : portState s p = Link.active) (v : Nat) :
    localQueued (sendLocal s p v) p v (tget [] 3 (portOf s p).tx) := by
  rw [sendLocal_active h]; exact localQueued_queueSlot v (portOf_updPort_same _ _ _)

/-- A message has been sent by each ACTIVE port of a list. -/
theorem sendLocal_foldl (v : Nat) : ∀ (l : List Nat) (s : State), l.Nodup →
    (∀ p, portOf (l.foldl (fun s p => sendLocal s p v) s) p
      = if p ∈ l ∧ portState s p = Link.active then queueSlot (portOf s p) ⟨3, true, BitVec.ofNat 128 v⟩ else portOf s p)
    ∧ (l.foldl (fun s p => sendLocal s p v) s).time = s.time ∧ (l.foldl (fun s p => sendLocal s p v) s).regs = s.regs
  | [], s, _ => ⟨fun p => by simp, rfl, rfl⟩
  | q :: l, s, hl => by
    obtain ⟨hq, hnodup⟩ := List.nodup_cons.1 hl
    obtain ⟨hports, htime, hregs⟩ := sendLocal_foldl v l (sendLocal s q v) hnodup
    have hstate : ∀ p, portState (sendLocal s q v) p = portState s p := fun p => rf_of_regs (sendLocal_regs s q v) _ _ _ _ _
    refine ⟨fun p => ?_, htime.trans (sendLocal_time s q v), hregs.trans (sendLocal_regs s q v)⟩
    rw [List.foldl_cons, hports, hstate]
    by_cases hp : p = q
    · subst hp
      by_cases ha : portState s p = Link.active
      · simp [hq, ha, sendLocal_active]
      · simp [ha, sendLocal_idle]
    · rw [otherPorts_sendLocal s q v p hp]
      simp [hp]

/-- Taking a port's first link-local message changes that port's messages and the room it gives, and nothing else. -/
theorem takeLocal_eq {s s1 : State} {p type : Nat} {msg : LocalMsg} (h : takeLocal s p type = some (msg, s1)) :
    ∃ ports locals freed, s1 = { s with ports := ports }
      ∧ portOf s1 p = { portOf s p with locals := locals, freed := freed } ∧ otherPorts p s s1 := by
  unfold takeLocal at h
  split at h
  · rename_i m rest hm
    split_ifs at h
    cases h
    refine ⟨_, rest, tset 0 3 ((tget 0 3 (portOf s p).freed + 1) % 2 ^ 16) (portOf s p).freed, rfl, ?_, otherPorts_trans (otherPorts_updPort s p _) (otherPorts_updPort _ p _)⟩
    rw [freeSlots, portOf_updPort_same, portOf_updPort_same]
  · cases h

/-! ## The state of the Bell (R35, R37) -/

/-- The Bell's state, role, time, what it has to slew, and the frames that it has had are as before, and so are the cores. -/
structure BellKept (s t : State) : Prop where
  time : t.time = s.time
  slew : t.bellSlew = s.bellSlew
  run : t.bellRun = s.bellRun
  offset : t.bellOffset = s.bellOffset
  frameAt : t.bellFrameAt = s.bellFrameAt
  cores : t.cores = s.cores
  status : reg t .bell 0 Off.status = reg s .bell 0 Off.status
  ctrl : reg t .bell 0 Off.ctrl = reg s .bell 0 Off.ctrl

theorem BellKept.refl (s : State) : BellKept s s := ⟨rfl, rfl, rfl, rfl, rfl, rfl, rfl, rfl⟩

theorem BellKept.trans {s t u : State} (h : BellKept s t) (k : BellKept t u) : BellKept s u :=
  ⟨k.time.trans h.time, k.slew.trans h.slew, k.run.trans h.run, k.offset.trans h.offset, k.frameAt.trans h.frameAt,
    k.cores.trans h.cores, k.status.trans h.status, k.ctrl.trans h.ctrl⟩

theorem BellKept.state {s t : State} (h : BellKept s t) : bellState t = bellState s := by
  rw [bellState, rf, h.status, ← rf, ← bellState]

theorem BellKept.rbit_ctrl {s t : State} (h : BellKept s t) (k : Nat) : rbit t .bell 0 Off.ctrl k = rbit s .bell 0 Off.ctrl k := by
  rw [rbit, h.ctrl, ← rbit]

theorem Noted.bellKept {s t : State} (h : Noted s t) : BellKept s t :=
  ⟨(congrArg State.time h.fields :), (congrArg State.bellSlew h.fields :), (congrArg State.bellRun h.fields :),
    (congrArg State.bellOffset h.fields :), (congrArg State.bellFrameAt h.fields :), (congrArg State.cores h.fields :),
    h.reg (by decide), h.reg (by decide)⟩

theorem bellKept_dropPulse (s : State) : BellKept s (dropPulse s) := by
  rw [dropPulse]
  split
  · exact ⟨rfl, rfl, rfl, rfl, rfl, rfl, rfl, rfl⟩
  · exact BellKept.refl s

theorem bellKept_bellRecord (s : State) (code : Nat) : BellKept s (bellRecord s code) :=
  (noted_contextRecord (by decide) (by decide) s _ _ _ _ _).bellKept

/-- The Bell's page shows a state, and nothing is left to slew. -/
def showState (s : State) (st : Nat) : State := { setRf s .bell 0 Off.status 4 3 st with bellSlew := 0 }

/-- What entering another state comes to: the page shows it and nothing is left to slew; a message, and a pulse's end. -/
theorem bellKept_setBellState {s : State} {st : Nat} (h : bellState s ≠ st) : BellKept (showState s st) (setBellState s st) := by
  rw [setBellState, if_neg h]
  exact (noted_raiseInt (by decide) (by decide) _ 0).bellKept.trans (bellKept_dropPulse _)

theorem bellState_showState (s : State) {st : Nat} (h : st < 8) : bellState (showState s st) = st :=
  (rf_setRf_same s .bell 0 Off.status 4 3 st (by decide)).trans (Nat.mod_eq_of_lt h)

/-- After it the Bell is in the state entered, whatever it was in. -/
theorem bellState_setBellState (s : State) {st : Nat} (h : st < 8) : bellState (setBellState s st) = st := by
  by_cases hs : bellState s = st
  · rw [setBellState, if_pos hs, hs]
  · rw [(bellKept_setBellState hs).state, bellState_showState s h]

theorem ctrl_showState (s : State) (st : Nat) : reg (showState s st) .bell 0 Off.ctrl = reg s .bell 0 Off.ctrl :=
  reg_setRf_ne s .bell .bell 0 0 _ _ _ _ _ (regKey_ne_off (by decide))

end Sys2Proof.Machine
end

section
/-!
PROOFS. The Bell's frames, its delay exchanges and what a BELL_SYNC does.
-/
namespace Sys2Proof.Machine

/-! ## Frames and exchanges (R33, R259, R260) -/

theorem exec_bellFrameTimer {s s1 : State} (ht : s.time.toNat % 2 ^ 14 = 0) (hb : bellServes s = true) (hf : fireOnce s 0 = some s1) :
    exec .bellFrameTimer s
      = .next ((bitsOf 32 (reg s .bell 0 Off.bellChildMask).toNat).foldl (fun s p => sendLocal s p 0xF0) s1) := by
  have hexec : exec .bellFrameTimer s = execBellFrameTimer s := rfl
  rw [hexec, execBellFrameTimer, if_pos ⟨ht, hb⟩]
  simp only [hf]

theorem fireOnce_eq {s s1 : State} {id : Nat} (h : fireOnce s id = some s1) : ∃ f, s1 = { s with fired := f } := by
  unfold fireOnce at h
  split_ifs at h
  cases h
  exact ⟨_, rfl⟩

/-- The parent port has a new XID, asked now. -/
def askDelay (xid : Nat) (now : DWord) (k : Port) : Port := { k with xid := xid, request := some (xid, stampOf now 0) }

theorem exec_delayReqTimer {s s1 : State} (ht : s.time.toNat % 2 ^ 14 = 2 ^ 13) (hg : isGrandmaster s = false)
    (hp : parentEn s = true) (ha : portState s (parentPort s) = Link.active) (hf : fireOnce s 1 = some s1) :
    exec .delayReqTimer s = .next (sendLocal (updPort s1 (parentPort s)
      (askDelay (((portOf s (parentPort s)).xid + 1) % 2 ^ 16) s.time)) (parentPort s)
        (0xF1 + ((portOf s (parentPort s)).xid + 1) % 2 ^ 16 * 2 ^ 16)) := by
  have hexec : exec .delayReqTimer s = execDelayReqTimer s := rfl
  rw [hexec, execDelayReqTimer, if_pos ⟨ht, by rw [hg]; rfl, hp, ha⟩]
  simp only [hf]
  rfl

theorem exec_delayReq {p : Fin 32} {s s1 : State} {msg : LocalMsg} (ht : takeLocal s p 0xF1 = some (msg, s1))
    (hb : bellServes s = true) (hc : rbit s .bell 0 Off.bellChildMask p = true) :
    exec (.delayReq p) s = .next (sendLocal s1 p (0xF2 + msg.frac.toNat * 2 ^ 8 + fld msg.slot.toNat 16 16 * 2 ^ 16
      + msg.time.toNat * 2 ^ 64)) := by
  have hexec : exec (.delayReq p) s = execDelayReq p s := rfl
  rw [hexec, execDelayReq]
  simp only [ht, hb, hc, Bool.and_self, if_true]

/-- The exchanges of a port once another has completed. -/
def exchanged (k : Port) (msg : LocalMsg) (t1 : Nat) : List Nat :=
  ((msg.time.toNat * 256 + msg.frac.toNat - t1 - fld msg.slot.toNat 32 32) :: k.delays).take 8

/-- Its request is answered. -/
def answered (delays : List Nat) (k : Port) : Port := { k with request := none, delays := delays }

theorem exec_delayResp {p : Fin 32} {s s1 : State} {msg : LocalMsg} {xid t1 : Nat} (ht : takeLocal s p 0xF2 = some (msg, s1))
    (hr : (portOf s p).request = some (xid, t1)) (hx : fld msg.slot.toNat 16 16 = xid) :
    exec (.delayResp p) s = .next (setReg
      (updPort s1 p (answered (exchanged (portOf s p) msg t1)))
      .port p Off.portBellDelay (det (meanDelay (exchanged (portOf s p) msg t1)))) := by
  have hexec : exec (.delayResp p) s = execDelayResp p s := rfl
  rw [hexec, execDelayResp]
  simp only [ht, hr, hx, ne_eq, not_true_eq_false, if_false]
  rfl

/-! ## BELL_SYNC (R34, R35) -/

/-- A valid frame with offset `off` has come: it is noted, and shown. -/
def frameSeen (s : State) (off : Int) : State :=
  setReg { s with bellOffset := off, bellFrameAt := s.time } .bell 0 Off.bellOffset (offsetTicks off)

theorem setReg_frameSeen (s : State) (off : Int) :
    setReg { s with bellOffset := off, bellFrameAt := s.time } .bell 0 Off.bellOffset (offsetTicks off) = frameSeen s off := rfl

theorem bellState_frameSeen (s : State) (off : Int) : bellState (frameSeen s off) = bellState s :=
  rf_setReg_ne _ .bell .bell 0 0 _ _ _ _ _ (regKey_ne_off (by decide))

/-- A frame while ACQUIRING, within 2 ticks, makes the run longer; the fourth locks the Bell. -/
theorem bellFrame_acquiring {s : State} {off : Int} (arrived since : Nat) (h : bellState s = Bell.acquiring)
    (hw : within off 2 = true) : bellFrame s off arrived since
      = if 4 ≤ (frameSeen s off).bellRun + 1
        then slewOff (bellLock { frameSeen s off with bellRun := (frameSeen s off).bellRun + 1 }) off
        else correctTime { frameSeen s off with bellRun := (frameSeen s off).bellRun + 1 } (since + (((arrived : Int) - off) / 256).toNat) := by
  have hfree : ¬ bellState s = Bell.free := by rw [h]; decide
  unfold bellFrame
  simp only [setReg_frameSeen, if_pos (Or.inr h : bellState s = Bell.free ∨ bellState s = Bell.acquiring), if_neg hfree, hw, if_true]

/-- A frame while LOCKED is slewed off, or sends the Bell ADRIFT. -/
theorem bellFrame_locked {s : State} (off : Int) (arrived since : Nat) (h : bellState s = Bell.locked) :
    bellFrame s off arrived since
      = if within off 256 then slewOff (frameSeen s off) off else bellAdrift (frameSeen s off) := by
  have hnot : ¬(bellState s = Bell.free ∨ bellState s = Bell.acquiring) := by rw [h]; decide
  have hover : ¬(bellState s = Bell.holdover ∧ within off 2 = true) := by rw [h]; exact fun hc => absurd hc.1 (by decide)
  unfold bellFrame
  simp only [setReg_frameSeen, if_neg hnot, if_neg hover, if_pos (Or.inl h : bellState s = Bell.locked ∨ bellState s = Bell.holdover)]
  cases within off 256 <;> rfl

theorem exec_bellSync {p : Fin 32} {s s1 : State} {msg : LocalMsg} (ht : takeLocal s p 0xF0 = some (msg, s1)) (hp : bellParent s p) :
    exec (.bellSync p) s
      = .next (bellFrame s1 (syncOffset s p msg) (stampOf msg.time msg.frac.toNat) (s.time - msg.time).toNat) := by
  obtain ⟨hg, hen, hport, hdelays⟩ := hp
  have hvalid : ¬(isGrandmaster s = true ∨ (!parentEn s) = true ∨ parentPort s ≠ p ∨ (portOf s p).delays.length < 8) := by
    simp [hg, hen, hport, hdelays]
  have hexec : exec (.bellSync p) s = execBellSync p s := rfl
  rw [hexec, execBellSync]
  simp only [ht]
  exact if_neg hvalid

/-- On a port that is not the parent the frame is discarded. -/
theorem exec_bellSync_elsewhere {p : Fin 32} {s s1 : State} {msg : LocalMsg} (ht : takeLocal s p 0xF0 = some (msg, s1))
    (hp : parentPort s ≠ p) : exec (.bellSync p) s = .next s1 := by
  have hexec : exec (.bellSync p) s = execBellSync p s := rfl
  rw [hexec, execBellSync]
  simp only [ht]
  exact if_pos (Or.inr (Or.inr (Or.inl hp)))

/-- Taking a message leaves the Bell. -/
theorem bellKept_takeLocal {s s1 : State} {p type : Nat} {msg : LocalMsg} (h : takeLocal s p type = some (msg, s1)) : BellKept s s1 := by
  obtain ⟨ports, locals, freed, rfl, -⟩ := takeLocal_eq h
  exact ⟨rfl, rfl, rfl, rfl, rfl, rfl, rfl, rfl⟩

/-- The Bell locks from another state. -/
theorem bellLock_shows {s : State} (h : bellState s ≠ Bell.locked) : BellKept (showState s Bell.locked) (bellLock s) := by
  rw [bellLock, if_neg h]
  exact (bellKept_setBellState h).trans (bellKept_bellRecord _ _)

/-- The Bell goes ADRIFT from another state. -/
theorem bellAdrift_shows {s : State} (h : bellState s ≠ Bell.adrift) :
    BellKept (showState (setRbit s .bell 0 Off.ctrl 3 false) Bell.adrift) (bellAdrift s) := by
  have hs : bellState (setRbit s .bell 0 Off.ctrl 3 false) ≠ Bell.adrift := by
    rwa [bellState, setRbit, rf_setRf_ne _ _ _ _ _ _ _ _ _ _ _ _ (regKey_ne_off (by decide)), ← bellState]
  exact (bellKept_setBellState hs).trans (bellKept_bellRecord _ _)

theorem exec_bellHoldover {s : State} (h : bellState s = Bell.locked) (ht : s.bellFrameAt.toNat + 4 * 2 ^ 14 ≤ s.time.toNat) :
    exec .bellHoldover s = .next (bellRecord (setBellState s Bell.holdover) 0x04) := if_pos ⟨h, ht⟩

theorem mem_bitsOf {w n p : Nat} : p ∈ bitsOf w n ↔ p < w ∧ n.testBit p = true := by
  rw [bitsOf, List.mem_filter, List.mem_range]

/-- Settles O45, command by command. -/
theorem bellFollows : Obligations.BellFollows := by
  refine ⟨fun s s1 ht hb hf => ?_, fun s s1 ht hg hp ha hf => ?_, fun p s s1 msg ht hb hc ha => ?_,
    fun p s s1 msg xid t1 ht hr hx => ?_, fun p s s1 msg ht hp hs hw => ?_, fun p s s1 msg ht hp hs => ?_,
    fun p s s1 msg ht hp => ?_, fun s hs ht => ?_⟩
  · refine ⟨_, exec_bellFrameTimer ht hb hf, ?_⟩
    obtain ⟨f, rfl⟩ := fireOnce_eq hf
    obtain ⟨hports, htime, hregs⟩ := sendLocal_foldl 0xF0 (bitsOf 32 (reg s .bell 0 Off.bellChildMask).toNat)
      { s with fired := f } (List.nodup_range.filter _)
    refine ⟨fun p hp32 => ?_, htime, hregs⟩
    have hmem : p ∈ bitsOf 32 (reg s .bell 0 Off.bellChildMask).toNat ∧ portState { s with fired := f } p = Link.active
        ↔ rbit s .bell 0 Off.bellChildMask p = true ∧ portState s p = Link.active :=
      and_congr_left fun _ => mem_bitsOf.trans (and_iff_right hp32)
    have hport := hports p
    rw [if_congr hmem rfl rfl] at hport
    split
    · rename_i hsends
      rw [if_pos hsends] at hport
      exact localQueued_queueSlot _ hport
    · rename_i hkeeps
      rwa [if_neg hkeeps] at hport
  · refine ⟨_, exec_delayReqTimer ht hg hp ha hf, ?_⟩
    obtain ⟨f, rfl⟩ := fireOnce_eq hf
    generalize ((portOf s (parentPort s)).xid + 1) % 2 ^ 16 = xid
    generalize parentPort s = p at ha
    have hport : portOf (sendLocal (updPort { s with fired := f } p (askDelay xid s.time)) p (0xF1 + xid * 2 ^ 16)) p
        = queueSlot (askDelay xid s.time (portOf s p)) ⟨3, true, BitVec.ofNat 128 (0xF1 + xid * 2 ^ 16)⟩ := by
      rw [sendLocal_active (by exact ha), portOf_updPort_same, portOf_updPort_same]
      rfl
    have hqueued := localQueued_queueSlot _ hport
    refine ⟨hqueued, ?_, otherPorts_trans (otherPorts_updPort _ _ _) (otherPorts_sendLocal _ _ _)⟩
    rw [hport]
    exact congrArg (fun n => some (xid, n)) (Nat.add_zero _)
  · obtain ⟨ports, locals, freed, rfl, hport, hothers⟩ := takeLocal_eq ht
    refine ⟨_, exec_delayReq ht hb hc, ?_, otherPorts_trans hothers (otherPorts_sendLocal _ _ _)⟩
    have hqueued := localQueued_sendLocal (s := { s with ports := ports }) (p := p) ha
      (0xF2 + msg.frac.toNat * 2 ^ 8 + fld msg.slot.toNat 16 16 * 2 ^ 16 + msg.time.toNat * 2 ^ 64)
    rwa [hport] at hqueued
  · obtain ⟨ports, locals, freed, rfl, hport, hothers⟩ := takeLocal_eq ht
    have hsame : portOf (setReg (updPort { s with ports := ports } p (answered (exchanged (portOf s p) msg t1)))
        .port p Off.portBellDelay (det (meanDelay (exchanged (portOf s p) msg t1)))) p
        = answered (exchanged (portOf s p) msg t1) (portOf { s with ports := ports } p) := portOf_updPort_same _ _ _
    refine ⟨_, exec_delayResp ht hr hx, ?_, ?_, ?_,
      otherPorts_trans hothers (otherPorts_updPort _ p (answered (exchanged (portOf s p) msg t1)))⟩
    · rw [hsame]; rfl
    · rw [hsame]; rfl
    · rw [reg_setReg_same, hsame]; rfl
  · have hk := bellKept_takeLocal ht
    refine ⟨_, exec_bellSync ht hp, ?_⟩
    have hrun : (frameSeen s1 (syncOffset s p msg)).bellRun = s.bellRun := hk.run
    rw [bellFrame_acquiring _ _ (hk.state.trans hs) hw, hrun]
    have hnot : bellState { frameSeen s1 (syncOffset s p msg) with bellRun := s.bellRun + 1 } = Bell.acquiring :=
      (bellState_frameSeen s1 _).trans (hk.state.trans hs)
    by_cases hfour : 3 ≤ s.bellRun
    · rw [if_pos (show 4 ≤ s.bellRun + 1 by omega), if_pos hfour]
      have hlock := bellLock_shows (s := { frameSeen s1 (syncOffset s p msg) with bellRun := s.bellRun + 1 })
        (by rw [hnot]; decide)
      exact ⟨hlock.run, hlock.offset, hlock.state.trans (bellState_showState _ (by decide))⟩
    · rw [if_neg (show ¬ 4 ≤ s.bellRun + 1 by omega), if_neg hfour, correctTime]
      split <;> exact ⟨rfl, rfl, hnot⟩
  · have hk := bellKept_takeLocal ht
    have hlocked : bellState (frameSeen s1 (syncOffset s p msg)) = Bell.locked :=
      (bellState_frameSeen s1 _).trans (hk.state.trans hs)
    refine ⟨_, exec_bellSync ht hp, ?_⟩
    rw [bellFrame_locked _ _ _ (hk.state.trans hs)]
    by_cases hw : within (syncOffset s p msg) 256 = true
    · rw [if_pos hw, if_pos hw, if_pos hw]
      exact ⟨rfl, hk.time, hk.time, hlocked, rfl⟩
    · rw [if_neg hw, if_neg hw, if_neg hw]
      have hadrift := bellAdrift_shows (s := frameSeen s1 (syncOffset s p msg)) (by rw [hlocked]; decide)
      exact ⟨hadrift.offset, hadrift.frameAt.trans hk.time, hadrift.time.trans hk.time,
        hadrift.state.trans (bellState_showState _ (by decide)), hadrift.slew⟩
  · have hk := bellKept_takeLocal ht
    exact ⟨_, exec_bellSync_elsewhere ht hp, rfl, hk.offset, hk.state⟩
  · have hk := (bellKept_setBellState (s := s) (st := Bell.holdover) (by rw [hs]; decide)).trans (bellKept_bellRecord _ 0x04)
    exact ⟨_, exec_bellHoldover hs ht, hk.state.trans (bellState_showState _ (by decide)), hk.time, hk.cores⟩

end Sys2Proof.Machine
end

section
/-!
PROOFS. BELLTIME by pins and by software.
-/
namespace Sys2Proof.Machine

theorem Noted.reg64 {s t : State} (h : Noted s t) {b : Block} {i lo : Nat} (hlo : tallied (regKey b i lo) = false)
    (hhi : tallied (regKey b i (lo + 4)) = false) : reg64 t b i lo = reg64 s b i lo := by
  rw [Machine.reg64, h.reg hlo, h.reg hhi, ← Machine.reg64]

theorem reservedSet_defined {b : Block} {off : Nat} {v : Word} (h : v &&& ~~~(definedMask b off) = 0) : reservedSet b off v = false := by
  rw [reservedSet, h]; simp

/-! ## BELL_IN (R38) -/

/-- How far the nearest BELLTIME whose bits [19:0] are 0 lies behind one whose bits are `e`. -/
def pinOffset (e : Nat) : Int := if e < 2 ^ 19 then (e : Int) else (e : Int) - 1048576

/-- BELL_IN has captured BELLTIME. -/
def captured (s : State) : State := raiseInt (setReg64 s .bell 0 Off.bellInCaptureLo s.time) .bell 0 1

theorem exec_bellInEdge (s : State) : exec .bellInEdge s
    = .next (if sourcePin s then { captured s with bellSlew := -(pinOffset (s.time.toNat % 2 ^ 20) * 5120000) } else captured s) := rfl

theorem pinOffset_eq (e : Nat) : -(pinOffset e * 5120000) = -(5120000 * ((e : Int) - if e < 2 ^ 19 then 0 else 2 ^ 20)) := by
  rw [pinOffset]
  split <;> omega

theorem captured_only (s : State) : onlyRegs s (captured s) :=
  onlyRegs_trans (onlyRegs_trans (setReg_only s _ _ _ _) (setReg_only _ _ _ _ _)) (raiseInt_only _ _ _ _)

theorem reg64_captured (s : State) : reg64 (captured s) .bell 0 Off.bellInCaptureLo = s.time :=
  ((noted_raiseInt (by decide) (by decide) _ 1).reg64 (by decide) (by decide)).trans (reg64_setReg64_same _ _ _ _ _)

/-! ## STEP_ALLOW (R35, R454) -/

/-- Fields stored one after the other are their bits stored together. -/
theorem store_store (r v m n : Word) :
    (((r &&& ~~~m) ||| (v &&& m)) &&& ~~~n) ||| (v &&& n) = (r &&& ~~~(m ||| n)) ||| (v &&& (m ||| n)) := by
  ext i hi
  simp only [BitVec.getElem_or, BitVec.getElem_and, BitVec.getElem_not]
  cases r[i] <;> cases v[i] <;> cases m[i] <;> cases n[i] <;> rfl

/-- Setting bits by a write changes those that the write reaches. -/
theorem store_or (r x m : Word) : (r &&& ~~~m) ||| ((r ||| x) &&& m) = r ||| (x &&& m) := by
  ext i hi
  simp only [BitVec.getElem_or, BitVec.getElem_and, BitVec.getElem_not]
  cases r[i] <;> cases x[i] <;> cases m[i] <;> rfl

theorem regFields_bellCtrl : regFields .bell Off.ctrl = [⟨8, 24, 8, .wo, 0, 0⟩, ⟨8, 0, 1, .rw, 0, 126⟩, ⟨8, 1, 1, .rw, 0, 126⟩,
    ⟨8, 2, 1, .rw, 0, 126⟩, ⟨8, 3, 1, .rw, 0, 126⟩, ⟨8, 4, 5, .rw, 0, 126⟩, ⟨8, 9, 1, .rw, 0, 126⟩] := by decide

/-- A write of BELL.CTRL with STEP_ALLOW besides what it shows sets STEP_ALLOW. -/
theorem storeReg_stepAllow (s : State) :
    storeReg s .bell 0 Off.ctrl (reg s .bell 0 Off.ctrl ||| 8) = setReg s .bell 0 Off.ctrl (reg s .bell 0 Off.ctrl ||| 8) := by
  have hstore : ∀ (l : Bool) (r v : Word), storeFields .bell Off.ctrl l r v = (r &&& ~~~0x3FF#32) ||| (v &&& 0x3FF#32) := by
    intro l r v
    have hfold : storeFields .bell Off.ctrl l r v = (((((((((((r &&& ~~~1#32) ||| (v &&& 1#32)) &&& ~~~2#32) ||| (v &&& 2#32)) &&&
        ~~~4#32) ||| (v &&& 4#32)) &&& ~~~8#32) ||| (v &&& 8#32)) &&& ~~~0x1F0#32) ||| (v &&& 0x1F0#32)) &&& ~~~0x200#32)
        ||| (v &&& 0x200#32) := by
      rw [storeFields, regFields_bellCtrl]; rfl
    rw [hfold, store_store, store_store, store_store, store_store, store_store]
    rfl
  have hinst : regInstance s .bell 0 Off.ctrl = 0 := rfl
  rw [storeReg]
  simp only [hinst, hstore, store_or]
  rfl

/-- The write is none of a reserved bit, nor of a bit that a resident context holds. -/
theorem stepAllow_defined {r : Word} (h : r &&& ~~~(definedMask .bell Off.ctrl) = 0) :
    (r ||| 8) &&& ~~~(definedMask .bell Off.ctrl) = 0 := by
  have h8 : (8 : Word) &&& ~~~(definedMask .bell Off.ctrl) = 0 := by rw [definedMask, regFields_bellCtrl]; decide
  have hbits : (r ||| 8) &&& ~~~(definedMask .bell Off.ctrl)
      = (r &&& ~~~(definedMask .bell Off.ctrl)) ||| (8 &&& ~~~(definedMask .bell Off.ctrl)) := by
    generalize ~~~(definedMask .bell Off.ctrl) = m
    ext i hi
    simp only [BitVec.getElem_or, BitVec.getElem_and, Bool.and_or_distrib_right]
  rw [hbits, h, h8]
  rfl

theorem stepAllow_unheld (r : Word) : ((r ||| 8) ^^^ r) &&& 0x3F3 = 0 := by
  have hbits : ((r ||| 8) ^^^ r) &&& 0x3F3 = (8 &&& 0x3F3) &&& ~~~r := by
    ext i hi
    simp only [BitVec.getElem_or, BitVec.getElem_and, BitVec.getElem_not, BitVec.getElem_xor]
    cases r[i] <;> cases (8 : Word)[i] <;> cases (0x3F3 : Word)[i] <;> rfl
  have hzero : (8 : Word) &&& 0x3F3 = 0 := by decide
  rw [hbits, hzero]
  exact BitVec.zero_and

theorem rbit_setReg_same (s : State) (b : Block) (i off k : Nat) (v : Word) : rbit (setReg s b i off v) b i off k = v.getLsbD k := by
  rw [rbit, reg_setReg_same, BitVec.testBit_toNat]

/-- A write of STEP_ALLOW reaches the Bell's control. -/
theorem hostStore_stepAllow {s : State} (h : hostReady s .bell) (hd : reg s .bell 0 Off.ctrl &&& ~~~(definedMask .bell Off.ctrl) = 0) :
    hostStore s .bell 0 Off.ctrl (reg s .bell 0 Off.ctrl ||| 8)
      = healthStep s (bellControl (setReg s .bell 0 Off.ctrl (reg s .bell 0 Off.ctrl ||| 8))) := by
  have hmask := stepAllow_defined hd
  have hr := reservedSet_defined hmask
  have he : regExists .bell Off.ctrl = true := by rw [regExists, regFields_bellCtrl]; rfl
  have hctrl : writeReg s .bell 0 Off.ctrl (reg s .bell 0 Off.ctrl ||| 8) = writeBellCtrl s (reg s .bell 0 Off.ctrl ||| 8) := by
    rw [writeReg, if_neg (by simp [he]), if_neg (by decide), if_neg (not_not.2 hmask), if_neg (by decide), if_pos rfl]
    rfl
  rw [hostStore_open h 0 hr, hctrl, writeBellCtrl, stepAllow_unheld, if_neg (fun hc => hc.2 rfl), storeReg_stepAllow]

/-- A follower that is ADRIFT with STEP_ALLOW set begins to acquire. -/
theorem bellControl_acquires {s : State} (hg : isGrandmaster s = false) (hp : parentEn s = true) (hs : bellState s = Bell.adrift)
    (ha : rbit s .bell 0 Off.ctrl 3 = true) : bellControl s = dropPulse (bellAcquire s) := by
  have hstay : ¬((!parentEn s || bellState s == Bell.grandmaster) = true) := by rw [hp, hs]; decide
  have hacquire : bellState s = Bell.adrift ∧ rbit s .bell 0 Off.ctrl 3 = true := ⟨hs, ha⟩
  unfold bellControl
  simp only [hg, if_neg hstay, if_pos hacquire, Bool.false_eq_true, if_false]

/-- The Bell starts to acquire from another state. -/
theorem bellAcquire_shows {s : State} (h : bellState s ≠ Bell.acquiring) :
    BellKept (showState { setRbit s .bell 0 Off.ctrl 3 false with bellRun := 0 } Bell.acquiring) (bellAcquire s) := by
  have hs : bellState { setRbit s .bell 0 Off.ctrl 3 false with bellRun := 0 } = bellState s :=
    rf_setRf_ne s .bell .bell 0 0 Off.ctrl Off.status 3 1 _ 4 3 (regKey_ne_off (by decide))
  exact bellKept_setBellState (by rwa [hs])

/-! ## SET_HI (R38, R455) -/

theorem regFields_bellSetHi : regFields .bell Off.bellSetHi = [⟨0x11C, 0, 32, .rw, 0, 126⟩] := by decide

theorem hostStore_setHi {s : State} (h : hostReady s .bell) (v : Word) :
    hostStore s .bell 0 Off.bellSetHi v = healthStep s (writeSetHi s v) := by
  have hmask : v &&& ~~~(definedMask .bell Off.bellSetHi) = 0 := by
    have hall : ~~~(definedMask .bell Off.bellSetHi) = 0 := by rw [definedMask, regFields_bellSetHi]; decide
    rw [hall]
    exact BitVec.and_zero
  have hr := reservedSet_defined hmask
  have he : regExists .bell Off.bellSetHi = true := by rw [regExists, regFields_bellSetHi]; rfl
  rw [hostStore_open h 0 hr, writeReg_writePage s he hmask (by decide) (by decide)]
  rfl

/-- What BELLTIME is set to. -/
theorem reg64_setHi (s : State) (v : Word) :
    (reg64 (setReg s .bell 0 Off.bellSetHi v) .bell 0 Off.bellSetLo).toNat = v.toNat * 2 ^ 32 + (reg s .bell 0 Off.bellSetLo).toNat := by
  have hlo : reg (setReg s .bell 0 Off.bellSetHi v) .bell 0 Off.bellSetLo = reg s .bell 0 Off.bellSetLo :=
    reg_setReg_ne _ _ _ _ _ _ _ _ (regKey_ne_off (by decide))
  have hhi : reg (setReg s .bell 0 Off.bellSetHi v) .bell 0 (Off.bellSetLo + 4) = v := reg_setReg_same _ _ _ _ _
  rw [reg64, hlo, hhi, BitVec.append_eq, BitVec.toNat_append, Nat.shiftLeft_eq]
  generalize hr : reg s .bell 0 Off.bellSetLo = r
  rw [Nat.mul_comm, Nat.two_pow_add_eq_or_of_lt r.isLt]

/-- A grandmaster with no context resident is brought to what is set. -/
theorem writeSetHi_corrects {s : State} (hres : resident s = 0) (hg : isGrandmaster s = true) (v : Word) :
    writeSetHi s v = correctTime (setReg s .bell 0 Off.bellSetHi v) (v.toNat * 2 ^ 32 + (reg s .bell 0 Off.bellSetLo).toNat) := by
  rw [writeSetHi, if_neg (not_not.2 hres), hg]
  exact congrArg (correctTime _) (reg64_setHi s v)

/-- A follower refuses it. -/
theorem writeSetHi_refuses {s : State} (hres : resident s = 0) (hg : isGrandmaster s = false) (v : Word) :
    writeSetHi s v = refuse s .bell 0 0x40 Off.bellSetHi := by
  rw [writeSetHi, if_neg (not_not.2 hres), hg]
  rfl

/-- Settles O46, means by means. -/
theorem bellPinsAndSoftware : Obligations.BellPinsAndSoftware := by
  refine ⟨fun s hh hl => ⟨_, if_pos ⟨hh, hl⟩, rfl⟩, fun s ht he hs hn => ⟨_, if_pos ⟨ht, he, hs, hn⟩, rfl⟩,
    fun s began hb ht => ?_, fun s => ?_, fun s hr hs hg hp hd => ?_, fun v s hr hres hg => ?_, fun v s hr hres hg => ?_⟩
  · have hexec : exec .bellOutPulseEnd s = execBellOutPulseEnd s := rfl
    refine ⟨emit { s with bellPulse := none } (.bellOut false), ?_, rfl⟩
    rw [hexec, execBellOutPulseEnd]
    simp only [hb]
    exact if_pos ht
  · refine ⟨_, exec_bellInEdge s, ?_⟩
    obtain ⟨r, o, m, hu⟩ := captured_only s
    have hreg := reg64_captured s
    rw [hu] at hreg ⊢
    by_cases hpin : sourcePin s = true
    · rw [if_pos hpin]
      exact ⟨hreg, ⟨r, o, m, rfl⟩, fun hc => absurd (hpin.symm.trans hc) (by decide), fun _ => pinOffset_eq _⟩
    · rw [if_neg hpin]
      exact ⟨hreg, ⟨r, o, m, rfl⟩, fun _ => rfl, fun hc => absurd hc hpin⟩
  · have hexec : exec .stepAllow s = .next (hostStore s .bell 0 Off.ctrl (reg s .bell 0 Off.ctrl ||| 8)) := rfl
    rw [hostStore_stepAllow hr hd] at hexec
    have hbit : ∀ k, rbit (setReg s .bell 0 Off.ctrl (reg s .bell 0 Off.ctrl ||| 8)) .bell 0 Off.ctrl k
        = (rbit s .bell 0 Off.ctrl k || (8 : Word).getLsbD k) := fun k => by
      rw [rbit_setReg_same, BitVec.getLsbD_or, rbit, BitVec.testBit_toNat]
    have hstate : bellState (setReg s .bell 0 Off.ctrl (reg s .bell 0 Off.ctrl ||| 8)) = Bell.adrift :=
      (rf_setReg_ne s .bell .bell 0 0 _ _ _ _ _ (regKey_ne_off (by decide))).trans hs
    rw [bellControl_acquires ((hbit 0).trans (by rw [show rbit s .bell 0 Off.ctrl 0 = false from hg]; rfl))
      ((hbit 9).trans (by rw [show rbit s .bell 0 Off.ctrl 9 = true from hp]; rfl)) hstate ((hbit 3).trans (Bool.or_true _))] at hexec
    have hk := ((bellAcquire_shows (by rw [hstate]; decide)).trans (bellKept_dropPulse _)).trans (noted_healthStep s _).bellKept
    refine ⟨_, hexec, hk.state.trans (bellState_showState _ (by decide)), ?_, hk.run, hk.time⟩
    rw [hk.rbit_ctrl, rbit, ctrl_showState, ← rbit]
    exact rbit_setRbit_same _ .bell 0 Off.ctrl 3 false (by decide)
  · have hexec : exec (.setHi v) s = .next (hostStore s .bell 0 Off.bellSetHi v) := rfl
    rw [hostStore_setHi hr, writeSetHi_corrects hres hg] at hexec
    have hlt : v.toNat * 2 ^ 32 + (reg s .bell 0 Off.bellSetLo).toNat < 2 ^ 64 := by
      have hv := v.isLt
      have hlo := (reg s .bell 0 Off.bellSetLo).isLt
      omega
    generalize v.toNat * 2 ^ 32 + (reg s .bell 0 Off.bellSetLo).toNat = target at hexec hlt ⊢
    have hn := noted_healthStep s (correctTime (setReg s .bell 0 Off.bellSetHi v) target)
    obtain ⟨u, hu⟩ : ∃ u, u = correctTime (setReg s .bell 0 Off.bellSetHi v) target := exists_eq
    have htime : (healthStep s u).time = u.time := by rw [hu]; exact hn.time
    have hheld : (healthStep s u).timeHeld = u.timeHeld := by rw [hu]; exact (congrArg State.timeHeld hn.fields :)
    have hleft : (healthStep s u).holdLeft = u.holdLeft := by rw [hu]; exact (congrArg State.holdLeft hn.fields :)
    refine ⟨_, hexec, ?_⟩
    rw [← hu]
    beta_reduce
    rw [htime, hheld, hleft, hu]
    by_cases hle : s.time.toNat ≤ target
    · rw [if_pos hle, correctTime, if_pos (show (setReg s .bell 0 Off.bellSetHi v).time.toNat ≤ target from hle)]
      exact ⟨(BitVec.toNat_ofNat target 64).trans (Nat.mod_eq_of_lt hlt), rfl⟩
    · rw [if_neg hle, correctTime, if_neg (show ¬ (setReg s .bell 0 Off.bellSetHi v).time.toNat ≤ target from hle)]
      exact ⟨rfl, rfl, rfl⟩
  · have hexec : exec (.setHi v) s = .next (hostStore s .bell 0 Off.bellSetHi v) := rfl
    rw [hostStore_setHi hr, writeSetHi_refuses hres hg, healthStep_refuse] at hexec
    have honly := refuse_only s .bell 0 0x40 Off.bellSetHi
    obtain ⟨r, o, m, hu⟩ := refuse_only s .bell 0 0x40 Off.bellSetHi
    exact ⟨_, hexec, (congrArg State.time hu :), refuse_code s .bell 0 0x40 Off.bellSetHi, honly⟩

end Sys2Proof.Machine
end

section
/-!
PROOFS. Doorbell pages and event queues.
-/
namespace Sys2Proof.Machine

/-! ## Writes of a doorbell page (R56, R406) -/

/-- A register that one field fills has no reserved bit. -/
theorem definedMask_full {b : Block} {off : Nat} {f : FieldDesc} (hf : f ∈ regFields b off)
    (hm : BitVec.ofNat 32 f.mask = BitVec.allOnes 32) : definedMask b off = BitVec.allOnes 32 := by
  have hfold : ∀ (l : List FieldDesc) (a : Word), f ∈ l ∨ a = BitVec.allOnes 32 →
      l.foldl (fun a f => a ||| BitVec.ofNat 32 f.mask) a = BitVec.allOnes 32 := by
    intro l
    induction l with
    | nil => exact fun a h => h.resolve_left (List.not_mem_nil)
    | cons g l ih =>
      intro a h
      refine ih _ ?_
      rcases h with h | h
      · rcases List.mem_cons.1 h with rfl | h
        · exact Or.inr (by beta_reduce; rw [hm, BitVec.or_allOnes])
        · exact Or.inl h
      · exact Or.inr (by beta_reduce; rw [h, BitVec.allOnes_or])
  exact hfold _ 0 (Or.inl hf)

theorem reservedSet_full {b : Block} {off : Nat} (h : definedMask b off = BitVec.allOnes 32) (v : Word) :
    reservedSet b off v = false :=
  reservedSet_defined (by rw [h, BitVec.not_allOnes]; exact BitVec.and_zero)

theorem reservedSet_ring {k : Nat} (h : k < 128) (v : Word) : reservedSet .doorbell (4 * k) v = false := by
  have hmem : (⟨4 * k, 0, 32, .rw, 0, 88⟩ : FieldDesc) ∈ regFields .doorbell (4 * k) := by
    have hring : (⟨4 * k, 0, 32, .rw, 0, 88⟩ : FieldDesc) ∈ RegMap.arr 0 128 32 .rw 88 :=
      List.mem_map.2 ⟨k, List.mem_range.2 h, by rw [Nat.zero_add]⟩
    have hfields : RegMap.fields .doorbell = RegMap.arr 0 128 32 .rw 88 ++ RegMap.arr 0x200 16 16 .ro 88 ++ RegMap.doorbell0 := rfl
    rw [regFields, hfields]
    exact List.mem_filter.2 ⟨List.mem_append_left _ (List.mem_append_left _ hring), beq_self_eq_true (4 * k)⟩
  have hmask : BitVec.ofNat 32 ((2 ^ 32 - 1) * 2 ^ 0) = BitVec.allOnes 32 := by decide
  exact reservedSet_full (definedMask_full hmem hmask) v

/-- A write of a context's page, once the device has come up, that sets no reserved bit. -/
theorem doorbellWrite_open {s : State} {ctx off : Nat} {v : Word} (hctx : ctx ≠ 0) (hr : reservedSet .doorbell off v = false)
    (hd : dawnDone s = true) (f : State → State) : doorbellWrite s ctx off v f = f s := by
  rw [doorbellWrite, if_neg hctx, hr]
  exact if_pos hd

theorem doorbellWrite_reserved {s : State} {ctx off : Nat} {v : Word} (hctx : ctx ≠ 0) (hr : reservedSet .doorbell off v = true)
    (f : State → State) : doorbellWrite s ctx off v f = refuseDoorbell s ctx 0x01 := by
  rw [doorbellWrite, if_neg hctx, if_pos hr]

theorem refuseDoorbell_only (s : State) (ctx code : Nat) : onlyRegs s (refuseDoorbell s ctx code) :=
  onlyRegs_trans (setReg_only s _ _ _ _) (setReg_only _ _ _ _ _)

/-- A refused write shows its code in EVQ_STATUS and changes no other register, nor whether the queue is enabled. -/
theorem refuseDoorbell_code (s : State) (ctx code : Nat) :
    rf (refuseDoorbell s ctx code) .doorbell ctx Off.doorbellEvqStatus 8 8 = code % 2 ^ 8 :=
  rf_setRf_same _ _ _ _ _ _ _ (by decide)

theorem refuseDoorbell_reg (s : State) {ctx off : Nat} (code : Nat) (h : off / 4 ≠ Off.doorbellEvqStatus / 4) :
    reg (refuseDoorbell s ctx code) .doorbell ctx off = reg s .doorbell ctx off := by
  have hkey := regKey_ne_off (b := .doorbell) (i := ctx) h
  exact (reg_setRf_ne _ .doorbell .doorbell ctx ctx _ _ _ _ _ hkey).trans (reg_setRf_ne _ .doorbell .doorbell ctx ctx _ _ _ _ _ hkey)

theorem evqEnabled_refuseDoorbell (s : State) (ctx code : Nat) : evqEnabled (refuseDoorbell s ctx code) ctx = evqEnabled s ctx := by
  rw [evqEnabled, refuseDoorbell, rbit_setRf_field _ _ _ _ _ (by decide) (by decide), setRbit,
    rbit_setRf_field _ _ _ _ _ (by decide) (by decide), ← evqEnabled]

/-! ## EVQ_CFG (R407) -/

theorem regFields_evqCfg : regFields .doorbell Off.doorbellEvqCfg
    = [⟨0x408, 0, 5, .rwl, 0, 88⟩, ⟨0x408, 8, 1, .rw, 0, 88⟩, ⟨0x408, 16, 16, .rw, 0x40, 88⟩] := by decide

theorem fld_eq_zero_iff {n lo w : Nat} : fld n lo w = 0 ↔ ∀ i < w, n.testBit (lo + i) = false := by
  constructor
  · intro h i hi
    have hbit := testBit_fld n lo w i
    rw [h, Nat.zero_testBit] at hbit
    simpa [hi] using hbit.symm
  · intro h
    refine Nat.eq_of_testBit_eq fun i => ?_
    rw [testBit_fld, Nat.zero_testBit]
    by_cases hi : i < w
    · simp [h i hi]
    · simp [hi]

/-- Enabling a queue sets a reserved bit of EVQ_CFG where the value itself does. -/
theorem evqCfg_defined_iff (v : Word) : (v ||| 0x100) &&& ~~~(definedMask .doorbell Off.doorbellEvqCfg) = 0
    ↔ fld v.toNat 5 3 = 0 ∧ fld v.toNat 9 7 = 0 := by
  have hmask : ~~~(definedMask .doorbell Off.doorbellEvqCfg) = 0xFEE0#32 := by rw [definedMask, regFields_evqCfg]; decide
  have hones : ∀ i < 32, (0xFEE0#32).getLsbD i = true → (0x100#32).getLsbD i = false ∧ (5 ≤ i ∧ i < 8 ∨ 9 ≤ i ∧ i < 16) := by decide
  have hset : ∀ i, (5 ≤ i ∧ i < 8 ∨ 9 ≤ i ∧ i < 16) → i < 32 ∧ (0xFEE0#32).getLsbD i = true := by
    have hall : ∀ i < 32, (5 ≤ i ∧ i < 8 ∨ 9 ≤ i ∧ i < 16) → (0xFEE0#32).getLsbD i = true := by decide
    exact fun i hi => ⟨by omega, hall i (by omega) hi⟩
  have hbit : ∀ i, ((v ||| 0x100) &&& 0xFEE0#32).getLsbD i = (v.toNat.testBit i && (0xFEE0#32).getLsbD i) := by
    intro i
    rw [BitVec.getLsbD_and, BitVec.getLsbD_or, BitVec.testBit_toNat]
    by_cases hi : i < 32
    · cases hm : (0xFEE0#32).getLsbD i with
      | false => simp
      | true => simp [(hones i hi hm).1]
    · have hm : (0xFEE0#32).getLsbD i = false := BitVec.getLsbD_of_ge _ _ (by omega)
      rw [hm, Bool.and_false, Bool.and_false]
  rw [hmask, fld_eq_zero_iff, fld_eq_zero_iff]
  constructor
  · intro h
    have hclear : ∀ i, (5 ≤ i ∧ i < 8 ∨ 9 ≤ i ∧ i < 16) → v.toNat.testBit i = false := by
      intro i hi
      have hb := hbit i
      rw [h, (hset i hi).2, Bool.and_true] at hb
      exact hb.symm.trans BitVec.getLsbD_zero
    exact ⟨fun i hi => hclear _ (by omega), fun i hi => hclear _ (by omega)⟩
  · rintro ⟨hlow, hhigh⟩
    refine BitVec.eq_of_getLsbD_eq fun i hi => ?_
    refine (hbit i).trans (Eq.trans ?_ BitVec.getLsbD_zero.symm)
    rw [Bool.and_eq_false_iff]
    cases hm : (0xFEE0#32).getLsbD i with
    | false => exact Or.inr rfl
    | true =>
      left
      rcases (hones i hi hm).2 with h | h
      · obtain ⟨j, rfl⟩ := Nat.exists_eq_add_of_le h.1
        exact hlow j (by omega)
      · obtain ⟨j, rfl⟩ := Nat.exists_eq_add_of_le h.1
        exact hhigh j (by omega)

theorem reservedSet_evqCfg (v : Word) :
    reservedSet .doorbell Off.doorbellEvqCfg (v ||| 0x100) = true ↔ fld v.toNat 5 3 ≠ 0 ∨ fld v.toNat 9 7 ≠ 0 := by
  have he : regExists .doorbell Off.doorbellEvqCfg = true := by rw [regExists, regFields_evqCfg]; rfl
  have hi : (Block.doorbell.instanced && Off.doorbellEvqCfg == Off.sel) = false := rfl
  rw [reservedSet, he, hi, Bool.not_false, Bool.true_and, Bool.true_and, bne_iff_ne, Ne, evqCfg_defined_iff, not_and_or]

/-- The bit that enables a queue is in no other field. -/
theorem fld_enable (v : Word) {lo w : Nat} (h : 8 < lo ∨ lo + w ≤ 8) : fld (v ||| 0x100).toNat lo w = fld v.toNat lo w := by
  refine Nat.eq_of_testBit_eq fun i => ?_
  rw [testBit_fld, testBit_fld]
  by_cases hi : i < w
  · have hbit : (0x100 : Nat).testBit (lo + i) = false := by
      rw [show (0x100 : Nat) = 2 ^ 8 from rfl, Nat.testBit_two_pow_of_ne (by omega)]
    have hor : (v ||| 0x100).toNat = v.toNat ||| 0x100 := BitVec.toNat_or _ _
    rw [hor, Nat.testBit_or, hbit, Bool.or_false]
  · simp [hi]

theorem testBit_enable (v : Word) : (v ||| 0x100).toNat.testBit 8 = true := by
  have hor : (v ||| 0x100).toNat = v.toNat ||| 0x100 := BitVec.toNat_or _ _
  rw [hor, Nat.testBit_or]
  exact Bool.or_true _

/-- The queue's log2 size once it is enabled: kept where it was enabled before (R407). -/
def heldLog (s : State) (ctx log : Nat) : Nat := if evqEnabled s ctx then rf s .doorbell ctx Off.doorbellEvqCfg 0 5 else log

/-- The queue is enabled with a configuration. -/
def enableEvq (s : State) (ctx : Nat) (v : Word) : State :=
  setRbit (setReg s .doorbell ctx Off.doorbellEvqCfg (det (setFld v.toNat 0 5 (heldLog s ctx (fld v.toNat 0 5)))))
    .doorbell ctx Off.doorbellEvqStatus 0 true

/-- What an EVQ_ENABLE comes to once it may be heard. -/
theorem writeEvqCfg_enable {s : State} {ctx : Nat} {v : Word} (hctx : ctx ≠ 0) (hd : dawnDone s = true) (h5 : fld v.toNat 5 3 = 0)
    (h9 : fld v.toNat 9 7 = 0) : writeEvqCfg s ctx (v ||| 0x100)
      = if evqEnableCheck s ctx (fld v.toNat 0 5) ≠ 0 then refuseDoorbell s ctx (evqEnableCheck s ctx (fld v.toNat 0 5))
        else enableEvq s ctx (v ||| 0x100) := by
  have hr : reservedSet .doorbell Off.doorbellEvqCfg (v ||| 0x100) = false := by
    rw [Bool.eq_false_iff, Ne, reservedSet_evqCfg, h5, h9]; simp
  rw [writeEvqCfg, doorbellWrite_open hctx hr hd]
  simp only [fld_enable v (show 8 < 0 ∨ 0 + 5 ≤ 8 by decide), testBit_enable, true_and]
  rw [enableEvq, heldLog, fld_enable v (show 8 < 0 ∨ 0 + 5 ≤ 8 by decide)]

theorem evqEnabled_enableEvq (s : State) (ctx : Nat) (v : Word) : evqEnabled (enableEvq s ctx v) ctx = true :=
  rbit_setRbit_same _ _ _ _ _ _ (by decide)

theorem enableEvq_only (s : State) (ctx : Nat) (v : Word) : onlyRegs s (enableEvq s ctx v) :=
  onlyRegs_trans (setReg_only s _ _ _ _) (setReg_only _ _ _ _ _)

theorem heldLog_lt (s : State) (ctx : Nat) (v : Word) : heldLog s ctx (fld v.toNat 0 5) < 2 ^ 5 := by
  rw [heldLog]
  split
  · exact fld_lt _ 0 5
  · exact fld_lt _ 0 5

/-- EVQ_CFG of an enabled queue. -/
theorem cfg_enableEvq (s : State) (ctx : Nat) (v : Word) : (reg (enableEvq s ctx v) .doorbell ctx Off.doorbellEvqCfg).toNat
    = setFld v.toNat 0 5 (heldLog s ctx (fld v.toNat 0 5)) := by
  rw [enableEvq, setRbit, reg_setRf_ne _ _ _ _ _ _ _ _ _ _ (regKey_ne_off (by decide)), reg_setReg_same, det, BitVec.toNat_ofNat]
  exact Nat.mod_eq_of_lt (setFld_lt _ _ _ _ v.isLt (by decide))

/-- The check's codes (R407). -/
theorem evqEnableCheck_lt (s : State) (ctx log : Nat) : evqEnableCheck s ctx log < 2 ^ 8 := by
  rw [evqEnableCheck, evqCheck]
  split_ifs <;> decide

/-! ## EVQ_HEAD and messages (R407, R408) -/

theorem writeEvqHead_open {s : State} {ctx : Nat} (hctx : ctx ≠ 0) (hd : dawnDone s = true) (v : Word) : writeEvqHead s ctx v
    = if 2 ^ rf s .doorbell ctx Off.doorbellEvqCfg 0 5 < (reg s .doorbell ctx Off.doorbellEvqTail - v).toNat
      then refuseDoorbell s ctx 0x02 else setReg s .doorbell ctx Off.doorbellEvqHead v := by
  have hfull : definedMask .doorbell Off.doorbellEvqHead = BitVec.allOnes 32 := by decide
  rw [writeEvqHead, doorbellWrite_open hctx (reservedSet_full hfull v) hd]

theorem exec_evqMessage {ctx : Fin 32} {s : State} {last : Word} {sent : DWord} (hctx : ctx.val ≠ 0)
    (hl : tget (0, 0) ctx.val s.evqSent = (last, sent)) (ht : reg s .doorbell ctx Off.doorbellEvqTail ≠ last)
    (hdue : sent.toNat + rf s .doorbell ctx Off.doorbellEvqCfg 16 16 ≤ s.time.toNat) :
    exec (.evqMessage ctx) s = .next (sendMsix { s with
      evqSent := tset (0, 0) ctx.val (reg s .doorbell ctx Off.doorbellEvqTail, s.time) s.evqSent } ctx 0) := by
  have hexec : exec (.evqMessage ctx) s = execEvqMessage ctx s := rfl
  rw [hexec, execEvqMessage]
  simp only [hl]
  exact if_pos ⟨hctx, ht, hdue⟩

/-- A VF's message is sent, or pending where its vector is masked (R403). -/
theorem sendMsix_shows (s : State) (fn v : Nat) :
    (if tget false (64 * fn + v) s.msixOpen then
        (sendMsix s fn v).outputs = s.outputs ++ [.msix fn v] ∧ (sendMsix s fn v).msixPending = s.msixPending
      else (sendMsix s fn v).outputs = s.outputs ∧ tget false (64 * fn + v) (sendMsix s fn v).msixPending = true)
    ∧ (sendMsix s fn v).evqSent = s.evqSent ∧ (sendMsix s fn v).regs = s.regs := by
  rw [sendMsix]
  split
  · exact ⟨⟨rfl, rfl⟩, rfl, rfl⟩
  · exact ⟨⟨rfl, tget_tset_same false (64 * fn + v) true s.msixPending⟩, rfl, rfl⟩

/-! ## The doorbell commands -/

section
variable {s : State} {ide : Bool} (h : ideBlocked s ide = false)
include h

theorem exec_doorbell (ctx : Fin 32) (slot : Fin 16) (word : Fin 8) (v : Word) :
    exec (.doorbell ctx slot word v ide) s = .next (writeRing s ctx.val slot.val word.val v) :=
  if_neg (Bool.eq_false_iff.1 h)

theorem exec_evqEnable (ctx : Fin 32) (v : Word) : exec (.evqEnable ctx v ide) s = .next (writeEvqCfg s ctx.val (v ||| 0x100)) :=
  if_neg (Bool.eq_false_iff.1 h)

theorem exec_evqHeadWrite (ctx : Fin 32) (v : Word) : exec (.evqHeadWrite ctx v ide) s = .next (writeEvqHead s ctx.val v) :=
  if_neg (Bool.eq_false_iff.1 h)

end

/-- Settles O54, access by access. -/
theorem doorbellsAndQueues : Obligations.DoorbellsAndQueues := by
  refine ⟨fun ctx slot word v ide s hide hctx hd => ?_, fun ctx slot word v s hide => ⟨_, if_pos hide, unsupported_notServed s _⟩,
    fun ctx v ide s hide hctx hd h5 h9 hc => ?_, fun ctx v ide s hide hctx hd h5 h9 hc => ?_,
    fun ctx v ide s hide hctx hres => ?_, fun ctx v ide s hide hctx hd => ?_, fun ctx s last sent hctx hl ht hdue => ?_⟩
  · have hoff : 0x20 * slot.val + 4 * word.val = 4 * (8 * slot.val + word.val) := by omega
    refine ⟨_, exec_doorbell hide ctx slot word v, ?_⟩
    rw [writeRing, doorbellWrite_open hctx (by rw [hoff]; exact reservedSet_ring (by omega) v) hd]
    exact ⟨reg_setReg_same _ _ _ _ _, setReg_otherRegs s _ _ _ _, rfl⟩
  · refine ⟨_, exec_evqEnable hide ctx v, ?_⟩
    rw [writeEvqCfg_enable hctx hd h5 h9, if_neg (not_not.2 hc)]
    refine ⟨evqEnabled_enableEvq s _ _, ?_, ?_, enableEvq_only s _ _⟩
    · have hlog := heldLog_lt s ctx (v ||| 0x100)
      rw [rf, cfg_enableEvq, fld_setFld_same, Nat.mod_eq_of_lt hlog, heldLog, fld_enable v (by decide)]
    · rw [rf, cfg_enableEvq, fld_setFld_ne _ _ (by decide), fld_enable v (by decide)]
  · refine ⟨_, exec_evqEnable hide ctx v, ?_⟩
    rw [writeEvqCfg_enable hctx hd h5 h9, if_pos hc]
    exact ⟨evqEnabled_refuseDoorbell s _ _, refuseDoorbell_reg s _ (by decide),
      (refuseDoorbell_code s _ _).trans (Nat.mod_eq_of_lt (evqEnableCheck_lt s _ _)), refuseDoorbell_only s _ _⟩
  · refine ⟨_, exec_evqEnable hide ctx v, ?_⟩
    rw [writeEvqCfg, doorbellWrite_reserved hctx ((reservedSet_evqCfg v).2 hres)]
    exact ⟨refuseDoorbell_reg s _ (by decide), refuseDoorbell_code s _ _, refuseDoorbell_only s _ _⟩
  · refine ⟨_, exec_evqHeadWrite hide ctx v, ?_⟩
    rw [writeEvqHead_open hctx hd]
    by_cases hfull : (reg s .doorbell ctx Off.doorbellEvqTail - v).toNat ≤ 2 ^ rf s .doorbell ctx Off.doorbellEvqCfg 0 5
    · rw [if_neg (Nat.not_lt.2 hfull), if_pos hfull]
      exact ⟨reg_setReg_same _ _ _ _ _, reg_setReg_ne _ _ _ _ _ _ _ _ (regKey_ne_off (by decide)), setReg_only s _ _ _ _⟩
    · rw [if_pos (Nat.not_le.1 hfull), if_neg hfull]
      exact ⟨refuseDoorbell_reg s _ (by decide), refuseDoorbell_reg s _ (by decide), refuseDoorbell_only s _ _⟩
  · refine ⟨_, exec_evqMessage hctx hl ht hdue, ?_⟩
    obtain ⟨hsent, hat, hregs⟩ := sendMsix_shows { s with
      evqSent := tset (0, 0) ctx.val (reg s .doorbell ctx Off.doorbellEvqTail, s.time) s.evqSent } ctx 0
    exact ⟨hsent, by rw [hat]; exact tget_tset_same _ _ _ _, hregs⟩

end Sys2Proof.Machine
end

section
/-!
SUPPORT. The start of a context and the measurement of its schedule (R45, R376).
-/
namespace Sys2Proof.Machine

/-! ## Steps that note and change cores -/

/-- `t` is `s` with some cores changed, after records and memory accesses. -/
def NotedButCores (s t : State) : Prop := Noted { s with cores := t.cores } t

theorem Noted.withCores {s t : State} (h : Noted s t) (cs : Table Core) : Noted { s with cores := cs } { t with cores := cs } :=
  ⟨congrArg (fun x : State => { x with cores := cs }) h.fields, h.words⟩

theorem Noted.butCores {s t : State} (h : Noted s t) : NotedButCores s t := h.withCores t.cores

theorem NotedButCores.trans {s t u : State} (h : NotedButCores s t) (k : NotedButCores t u) : NotedButCores s u :=
  Noted.trans (Noted.withCores h u.cores) k

theorem NotedButCores.reg {s t : State} (h : NotedButCores s t) {b : Block} {i off : Nat} (hk : tallied (regKey b i off) = false) :
    reg t b i off = reg s b i off := Noted.reg h hk

theorem NotedButCores.rbit {s t : State} (h : NotedButCores s t) {b : Block} {i off : Nat} (hk : tallied (regKey b i off) = false)
    (k : Nat) : rbit t b i off k = rbit s b i off k := Noted.rbit h hk k

theorem NotedButCores.reg64 {s t : State} (h : NotedButCores s t) {b : Block} {i lo : Nat} (hlo : tallied (regKey b i lo) = false)
    (hhi : tallied (regKey b i (lo + 4)) = false) : reg64 t b i lo = reg64 s b i lo := Noted.reg64 h hlo hhi

theorem notedButCores_updCore (s : State) (c : Nat) (f : Core → Core) : NotedButCores s (updCore s c f) := ⟨rfl, fun _ _ => rfl⟩

theorem notedButCores_almFault (s : State) {c : Nat} (hc : c < 512) (reason slot : Nat) : NotedButCores s (almFault s c reason slot) :=
  (notedButCores_updCore s c _).trans (noted_almFault s hc reason slot).butCores

theorem notedButCores_seedCore (s : State) (c n : Nat) : NotedButCores s (seedCore s c n) := notedButCores_updCore s c _

/-- STATUS of a page is no word that a record writes, whatever the instance. -/
theorem tallied_status (b : Block) (i : Nat) : tallied (regKey b i Off.status) = false := by
  have hnone : ∀ b : Block, (tallyOffs b).contains Off.status = false := by intro b; cases b <;> decide
  rw [tallied, regKey_word b i (by decide) (by decide)]
  exact hnone _

/-! ## The root table (R45) -/

theorem noted_codewords (key n : Nat) (s : State) (w : Nat) : Noted s (codewords s key n w).1 := by
  induction n generalizing s w with
  | zero => exact Noted.refl s
  | succ n ih =>
    rw [codewords]
    exact (noted_readWord s key w).trans (ih _ (w + 1))

theorem noted_rootTable (s : State) (key a : Nat) : Noted s (rootTable s key a).1 := by
  have h := noted_codewords key (if a % 16 = 0 then 256 else 257) s (a / 16)
  unfold rootTable
  generalize codewords s key (if a % 16 = 0 then 256 else 257) (a / 16) = r at h ⊢
  exact h

/-- The table's read is made opaque, so that no proof term computes with it. -/
theorem noted_readRoot (s : State) (ctx : Nat) : Noted s (readRoot s ctx).1 := by
  have hread : ∀ key a, Noted s (rootTable s key a).1 := noted_rootTable s
  unfold readRoot
  obtain ⟨table, ht⟩ : ∃ f, f = rootTable s := exists_eq
  rw [← ht] at hread ⊢
  cases translateHere s 4 ctx (almRoot s ctx) 4096 none with
  | none => exact Noted.refl s
  | some t =>
    by_cases hr : addrReset s t.addr = true
    · simp only [hr, if_true]; exact Noted.refl s
    · simp only [hr]; exact hread t.key t.addr

/-! ## One core's start (R45, R60) -/

theorem seedCore_core (s : State) (c n : Nat) : (core (seedCore s c n) c).alm = (core s c).alm
    ∧ (core (seedCore s c n) c).flags = (core s c).flags ∧ (core (seedCore s c n) c).gates = (core s c).gates := by
  rw [seedCore, core_updCore_same]
  exact ⟨rfl, rfl, rfl⟩

theorem startCore_keeps (s : State) (ctx : Nat) (outside : Bool) {c : Nat} (hc : c < 512) (w : Nat × Bool) :
    NotedButCores s (startCore s ctx outside c w) ∧ otherCores c s (startCore s ctx outside c w) := by
  have hreset : Noted s (if addrReset s (almRoot s ctx) then cellarRecord s c 0x05 0 else s) :=
    noted_ite (fun _ => noted_cellarRecord s hc _ _) fun _ => Noted.refl s
  unfold startCore
  split
  · exact ⟨(hreset.butCores.trans (notedButCores_updCore _ c _)).trans (notedButCores_almFault _ hc _ _),
      otherCores_trans (hreset.otherCores c) (otherCores_trans (otherCores_updCore _ c _) (almFault_otherCores _ hc _ _))⟩
  · split
    · exact ⟨notedButCores_updCore s c _, otherCores_updCore s c _⟩
    · split
      · exact ⟨((notedButCores_updCore s c _).trans (notedButCores_seedCore _ c 0)).trans (notedButCores_almFault _ hc _ _),
          otherCores_trans (otherCores_updCore s c _) (otherCores_trans (otherCores_updCore _ c _) (almFault_otherCores _ hc _ _))⟩
      · exact ⟨(notedButCores_updCore s c _).trans (notedButCores_seedCore _ c 0),
          otherCores_trans (otherCores_updCore s c _) (otherCores_updCore _ c _)⟩

/-- A VALID root word starts its core. -/
theorem startCore_valid (s : State) (ctx c : Nat) {w : Nat} (hv : w.testBit 63 = true) (hz : fld w 48 15 = 0) :
    startCore s ctx false c (w, true) = seedCore (updCore s c (fun k => startedCore s ctx c k (some (fld w 0 48)))) c 0 := by
  have hbit : bitAt w 63 = true := hv
  unfold startCore
  simp only [hbit, hz, Bool.not_true, Bool.false_eq_true, if_false, ne_eq, not_true_eq_false, or_self]

/-- A core whose root word is not VALID stays IDLE. -/
theorem startCore_idle (s : State) (ctx : Nat) (outside : Bool) (c : Nat) {w : Nat} (hv : w.testBit 63 = false) :
    startCore s ctx outside c (w, true) = updCore s c (fun k => { k with alm := .reset }) := by
  have hbit : bitAt w 63 = false := hv
  unfold startCore
  simp only [hbit, Bool.not_true, Bool.not_false, Bool.false_eq_true, if_false, if_true]

/-- Steps each of which is one core's: each core's own step finds that core as it was. -/
theorem foldl_core {f : State → Nat → State} : ∀ (l : List Nat) (s : State), l.Nodup →
    (∀ c ∈ l, ∀ u, NotedButCores u (f u c) ∧ otherCores c u (f u c)) →
    NotedButCores s (l.foldl f s) ∧ (∀ c, c ∉ l → core (l.foldl f s) c = core s c)
      ∧ ∀ c ∈ l, ∃ u, NotedButCores s u ∧ core u c = core s c ∧ core (l.foldl f s) c = core (f u c) c
  | [], s, _, _ => ⟨(Noted.refl s).butCores, fun _ _ => rfl, fun _ h => absurd h List.not_mem_nil⟩
  | a :: l, s, hl, hf => by
    obtain ⟨ha, hnodup⟩ := List.nodup_cons.1 hl
    obtain ⟨hstep, hothers⟩ := hf a (List.mem_cons_self ..) s
    obtain ⟨hall, hout, hin⟩ := foldl_core l (f s a) hnodup fun c hc u => hf c (List.mem_cons_of_mem _ hc) u
    refine ⟨hstep.trans hall, fun c hc => ?_, fun c hc => ?_⟩
    · obtain ⟨hca, hcl⟩ := not_or.1 (fun h => hc (List.mem_cons.2 h))
      exact (hout c hcl).trans (hothers c hca)
    · by_cases hca : c = a
      · subst hca
        exact ⟨s, (Noted.refl s).butCores, rfl, hout c ha⟩
      · obtain ⟨u, hu, hcore, hend⟩ := hin c ((List.mem_cons.1 hc).resolve_left hca)
        exact ⟨u, hstep.trans hu, hcore.trans (hothers c hca), hend⟩

/-! ## The start of a context (R45) -/

theorem noted_writeSigma (s : State) (ctx slot : Nat) : Noted s (writeSigma s ctx slot) :=
  noted_foldl _ s fun _ _ u => (noted_writeMem u _ _ _ _).trans (noted_writeMem _ _ _ _ _)

theorem noted_writeTables (s : State) (ctx : Nat) : Noted s (writeTables s ctx) :=
  noted_foldl _ s fun k _ u => noted_writeSigma u ctx k

/-- Clearing a context's ring words writes registers of its doorbell page. -/
theorem clearRings_eq (s : State) (ctx : Nat) : ∃ r, clearRings s ctx = { s with regs := r } := by
  have hfold : ∀ (l : List Nat) (u : State), ∃ r, l.foldl (fun s k => setReg s .doorbell ctx (4 * k) 0) u = { u with regs := r } := by
    intro l
    induction l with
    | nil => exact fun u => ⟨_, rfl⟩
    | cons k l ih => exact fun u => ih (setReg u .doorbell ctx (4 * k) 0)
  exact hfold _ s

theorem reg_clearRings (s : State) (ctx off : Nat) (ho : off < 4096) : reg (clearRings s ctx) .context ctx off = reg s .context ctx off := by
  have hfold : ∀ (l : List Nat) (u : State), (∀ k ∈ l, k < 128) →
      reg (l.foldl (fun s k => setReg s .doorbell ctx (4 * k) 0) u) .context ctx off = reg u .context ctx off := by
    intro l
    induction l with
    | nil => exact fun u _ => rfl
    | cons k l ih =>
      intro u hl
      have hk := hl k (List.mem_cons_self ..)
      refine (ih _ fun j hj => hl j (List.mem_cons_of_mem _ hj)).trans (reg_setReg_ne _ _ _ _ _ _ _ _ ?_)
      simp only [regKey, Block.id]; omega
  exact hfold _ s fun k hk => List.mem_range.1 hk

/-- One core takes its root word of a list. -/
def takeRoot (ctx : Nat) (l : List (Nat × Bool)) (s : State) (c : Nat) : State :=
  startCore s ctx (outsideSchedule s ctx (almRoot s ctx)) c (l.getD c (0, false))

/-- The cores of a context have taken their root words. -/
def coresStarted (s : State) (ctx : Nat) (l : List (Nat × Bool)) : State :=
  (List.range 512).foldl (takeRoot ctx l) s

theorem coresStarted_steps (s : State) (ctx : Nat) (l : List (Nat × Bool)) :
    NotedButCores s (coresStarted s ctx l) ∧ ∀ c < 512, ∃ u, NotedButCores s u ∧ core u c = core s c
      ∧ core (coresStarted s ctx l) c = core (takeRoot ctx l u c) c := by
  obtain ⟨hall, -, hin⟩ := foldl_core (List.range 512) s List.nodup_range fun c hc u =>
    startCore_keeps u ctx (outsideSchedule u ctx (almRoot u ctx)) (List.mem_range.1 hc) (l.getD c (0, false))
  exact ⟨hall, fun c hc => hin c (List.mem_range.2 hc)⟩

theorem dropWanted_eq (s : State) (ctx : Nat) : ∃ b, dropWanted s ctx = { s with harvestWanted := b } := by
  rw [dropWanted]
  split
  · exact ⟨_, rfl⟩
  · exact ⟨s.harvestWanted, rfl⟩

/-- The cores of a context after its start, its doorbell page and its step as before. -/
def rooted (s : State) (ctx : Nat) (root : Option (List (Nat × Bool))) : State :=
  match root with
  | none => dropWanted s ctx
  | some l => coresStarted (dropWanted s ctx) ctx l

/-- Its step begins, and its doorbell page is cleared. -/
def stepBegun (s : State) (ctx : Nat) : State := setStepState (clearRings s ctx) ctx Step.idle

theorem startContext_eq (s : State) (ctx : Nat) (root : Option (List (Nat × Bool))) : startContext s ctx root
    = writeTables { stepBegun (rooted s ctx root) ctx with
        started := (stepBegun (rooted s ctx root) ctx).started ||| BitVec.ofNat 32 (2 ^ ctx) } ctx := by
  cases root with
  | none => rfl
  | some l => rfl

theorem rooted_keeps (s : State) (ctx : Nat) (root : Option (List (Nat × Bool))) :
    ∃ b, NotedButCores { s with harvestWanted := b } (rooted s ctx root) := by
  obtain ⟨b, hb⟩ := dropWanted_eq s ctx
  refine ⟨b, ?_⟩
  cases root with
  | none => rw [rooted, hb]; exact (Noted.refl _).butCores
  | some l => rw [rooted, hb]; exact (coresStarted_steps _ ctx l).1

/-- What a start leaves, and the step it begins with. -/
structure Started (s t : State) (ctx : Nat) : Prop where
  started : t.started = s.started ||| BitVec.ofNat 32 (2 ^ ctx)
  measuring : t.measuring = s.measuring
  measurements : t.measurements = s.measurements
  terrier : t.terrier = s.terrier
  status : reg t .context ctx Off.status = reg s .context ctx Off.status

theorem startContext_started (s : State) (ctx : Nat) (root : Option (List (Nat × Bool))) : Started s (startContext s ctx root) ctx := by
  obtain ⟨b, hu⟩ := rooted_keeps s ctx root
  rw [startContext_eq]
  generalize rooted s ctx root = u at hu ⊢
  obtain ⟨r, hr⟩ := clearRings_eq u ctx
  have hring := reg_clearRings u ctx Off.status (by decide)
  unfold stepBegun
  rw [hr] at hring ⊢
  have hn := noted_writeTables { setStepState { u with regs := r } ctx Step.idle with
    started := (setStepState { u with regs := r } ctx Step.idle).started ||| BitVec.ofNat 32 (2 ^ ctx) } ctx
  generalize writeTables _ ctx = t at hn ⊢
  have hstarted : u.started = s.started := (congrArg State.started hu.fields :)
  refine ⟨?_, ?_, ?_, ?_, ?_⟩
  · rw [← hstarted]; exact (congrArg State.started hn.fields :)
  · exact (congrArg State.measuring hn.fields :).trans (congrArg State.measuring hu.fields :)
  · exact (congrArg State.measurements hn.fields :).trans (congrArg State.measurements hu.fields :)
  · exact (congrArg State.terrier hn.fields :).trans (congrArg State.terrier hu.fields :)
  · have hstep : reg (setStepState { u with regs := r } ctx Step.idle) .context ctx Off.status = reg { u with regs := r } .context ctx Off.status :=
      reg_setRf_ne _ .context .context ctx ctx _ _ _ _ _ (regKey_ne_off (by decide))
    exact (((hn.reg (tallied_status _ _)).trans hstep).trans hring).trans (hu.reg (tallied_status _ _))

theorem startContext_step (s : State) {ctx : Nat} (hc : ctx < 512) (root : Option (List (Nat × Bool))) :
    stepState (startContext s ctx root) ctx = Step.idle := by
  have hstep := rf_setRf_same (clearRings (rooted s ctx root) ctx) .context ctx Off.contextStepStatus 0 3 Step.idle (by decide)
  rw [startContext_eq, stepState, (noted_writeTables _ ctx).rf (tallied_context hc (by decide) (by decide) (by decide))]
  unfold stepBegun
  generalize clearRings (rooted s ctx root) ctx = u at hstep ⊢
  exact hstep

theorem startContext_cores (s : State) (ctx : Nat) (root : Option (List (Nat × Bool))) :
    (startContext s ctx root).cores = (rooted s ctx root).cores := by
  rw [startContext_eq, (noted_writeTables _ ctx).cores]
  obtain ⟨r, hr⟩ := clearRings_eq (rooted s ctx root) ctx
  rw [stepBegun, hr]
  rfl

end Sys2Proof.Machine
end

section
/-!
PROOFS. ALM_GO starts a context, and measured starts.
-/
namespace Sys2Proof.Machine

/-! ## A write of ALM_GO (R45, R461) -/

theorem regFields_almGo : regFields .context Off.contextAlmGo = [⟨0x100, 0, 1, .wo, 0, 0⟩] := by decide

/-- A host's ALM_GO of context `c` reaches the write's checks. -/
theorem exec_almGo {s : State} {c : Nat} (h : hostReady s .context) (hs : shownInstance s .context = c) (hc : c ≠ 0) :
    exec .almGo s = .next (healthStep s (writeAlmGo s c 1)) := by
  have hexec : exec .almGo s = .next (hostStore s .context (shownInstance s .context) Off.contextAlmGo 1) := rfl
  have hmask : (1 : Word) &&& ~~~(definedMask .context Off.contextAlmGo) = 0 := by
    rw [definedMask, regFields_almGo]; decide
  have he : regExists .context Off.contextAlmGo = true := by rw [regExists, regFields_almGo]; rfl
  rw [hexec, hs, hostStore_open h c (reservedSet_defined hmask),
    writeReg_writePage s he hmask (fun hz => hc hz.2) (by decide)]
  rfl

/-- One whose first checks pass reads the root table. -/
theorem writeAlmGo_checked {s : State} {c : Nat} (hc : c ≠ 0) (hcheck : almGoCheck s c = 0) {s1 : State} {l : List (Nat × Bool)}
    (hroot : readRoot s c = (s1, some l)) (hmaps : mapsOffline s1 c = false) (hnames : namesOffline s1 l = false) :
    writeAlmGo s c 1 = if measures s1 c then setRbit { s1 with measuring := some c } .context c Off.status 1 true
      else startContext s1 c (some l) := by
  have hv : ¬ 2 ≤ (1 : Word).toNat := by decide
  have hz : ¬ (1 : Word) = 0 := by decide
  unfold writeAlmGo
  simp only [if_neg hc, if_neg hv, if_neg hz, if_neg (not_not.2 hcheck), hroot, hmaps, Option.map_some, Option.getD_some, hnames,
    Bool.or_self, Bool.false_eq_true, if_false]

theorem writeAlmGo_refused {s : State} {c : Nat} (hc : c ≠ 0) (hcheck : almGoCheck s c ≠ 0) :
    writeAlmGo s c 1 = refuse s .context c (almGoCheck s c) Off.contextAlmGo := by
  rw [writeAlmGo, if_neg hc, if_neg (by decide), if_neg (by decide), if_pos hcheck]

theorem almGoCheck_lt (s : State) (c : Nat) : almGoCheck s c < 2 ^ 8 := by
  rw [almGoCheck]
  split_ifs <;> decide

theorem shownInstance_lt (s : State) (b : Block) : shownInstance s b < 512 := by
  rw [shownInstance]
  split
  · exact fld_lt _ 0 9
  · decide

/-! ## The cores of a start that is not measured -/

/-- The word of ALM_EPOCH0 is read by each core's start as the write found it. -/
theorem reg64_epoch {s t : State} (h : NotedButCores s t) {c : Nat} (hc : c < 512) :
    reg64 t .context c Off.contextAlmEpoch0Lo = reg64 s .context c Off.contextAlmEpoch0Lo :=
  h.reg64 (tallied_context hc (by decide) (by decide) (by decide)) (tallied_context hc (by decide) (by decide) (by decide))

/-- Each core of a start that is not measured takes its root word alone. -/
theorem core_startContext {s1 : State} {c : Nat} (hc : c < 512) (hm : measures s1 c = false) (l : List (Nat × Bool)) {k : Nat}
    (hk : k < 512) : ∃ u, core u k = core s1 k
      ∧ reg64 u .context c Off.contextAlmEpoch0Lo = reg64 s1 .context c Off.contextAlmEpoch0Lo
      ∧ core (startContext s1 c (some l)) k = core (startCore u c false k (l.getD k (0, false))) k := by
  obtain ⟨b, hb⟩ := dropWanted_eq s1 c
  obtain ⟨u, hu, hcore, hend⟩ := (coresStarted_steps (dropWanted s1 c) c l).2 k hk
  rw [hb] at hu hcore
  have hout : outsideSchedule u c (almRoot u c) = false := by
    have hmeasures : measures u c = false :=
      (hu.rbit (tallied_context hc (by decide) (by decide) (by decide)) 0).trans hm
    rw [outsideSchedule, hmeasures]; rfl
  refine ⟨u, hcore, reg64_epoch hu hc, ?_⟩
  have hrooted : rooted s1 c (some l) = coresStarted (dropWanted s1 c) c l := rfl
  rw [core, startContext_cores, ← core, hrooted, hend, takeRoot, hout]

/-- A core that its root word starts. -/
theorem core_startCore_valid (u : State) (c k : Nat) {w : Nat} (hv : w.testBit 63 = true) (hz : fld w 48 15 = 0) :
    (core (startCore u c false k (w, true)) k).alm.state = .running
    ∧ (core (startCore u c false k (w, true)) k).alm.refill = some ⟨false, fld w 0 48⟩
    ∧ (core (startCore u c false k (w, true)) k).alm.epoch = reg64 u .context c Off.contextAlmEpoch0Lo
    ∧ (core (startCore u c false k (w, true)) k).flags = []
    ∧ (core (startCore u c false k (w, true)) k).gates = (core u k).gates := by
  rw [startCore_valid u c k hv hz]
  obtain ⟨halm, hflags, hgates⟩ := seedCore_core (updCore u k (fun x => startedCore u c k x (some (fld w 0 48)))) k 0
  rw [halm, hflags, hgates, core_updCore_same]
  exact ⟨rfl, rfl, rfl, rfl, rfl⟩

/-! ## The measurement (R376) -/

theorem noted_entryBytes (s : State) (e : QWord) : Noted s (entryBytes s e).1 := by
  have hread : ∀ k a n, Noted s (readMem s k a n).1 := noted_readMem s
  unfold entryBytes
  obtain ⟨read, hr⟩ : ∃ f, f = readMem s := exists_eq
  rw [← hr] at hread ⊢
  split
  · exact hread _ _ _
  · exact Noted.refl s

/-- The bytes of one entry are hashed after those before. -/
def hashEntry (x : State × List Byte) (i : Nat) : State × List Byte :=
  let (s1, l) := entryBytes x.1 (tget 0 i x.1.terrier)
  (s1, x.2 ++ l)

theorem noted_hashEntries : ∀ (is : List Nat) (x : State × List Byte), Noted x.1 (is.foldl hashEntry x).1
  | [], x => Noted.refl x.1
  | i :: is, x => (noted_entryBytes x.1 (tget 0 i x.1.terrier)).trans (noted_hashEntries is (hashEntry x i))

/-- Measuring entries changes the Terrier, and what is kept of it. -/
theorem measureEntries_eq (ctx : Nat) : ∀ (is : List Nat) (s : State),
    ∃ m t, is.foldl (fun s i => measureEntry s ctx i) s = { s with measured := m, terrier := t }
  | [], s => ⟨s.measured, s.terrier, rfl⟩
  | i :: is, s => by
    obtain ⟨m0, t0, h0⟩ : ∃ m t, measureEntry s ctx i = { s with measured := m, terrier := t } := ⟨_, _, rfl⟩
    obtain ⟨m, t, h⟩ := measureEntries_eq ctx is { s with measured := m0, terrier := t0 }
    refine ⟨m, t, ?_⟩
    rw [List.foldl_cons, h0, h]

/-- W, A and D of an entry measured are cleared, and those cleared before stay so. -/
theorem measureEntry_cleared (s : State) (ctx i j : Nat) (h : j = i ∨ tfld (tget 0 j s.terrier) 81 3 = 0) :
    tfld (tget 0 j (measureEntry s ctx i).terrier) 81 3 = 0 := by
  by_cases hj : j = i
  · subst hj
    have hclear : (measureEntry s ctx j).terrier
        = tset 0 j (BitVec.ofNat 128 (setFld (tget 0 j s.terrier).toNat 81 3 0)) s.terrier := rfl
    rw [hclear, tget_tset_same, tfld, BitVec.toNat_ofNat, Nat.mod_eq_of_lt (setFld_lt _ _ _ _ (BitVec.isLt _) (by decide)), fld_setFld_same,
      Nat.zero_mod]
  · have hkeep : tget 0 j (measureEntry s ctx i).terrier = tget 0 j s.terrier := tget_tset_ne _ _ _ hj _
    rw [hkeep]
    exact h.resolve_left hj

theorem measureEntries_cleared (ctx j : Nat) : ∀ (is : List Nat) (s : State), j ∈ is ∨ tfld (tget 0 j s.terrier) 81 3 = 0 →
    tfld (tget 0 j (is.foldl (fun s i => measureEntry s ctx i) s).terrier) 81 3 = 0
  | [], _, h => h.resolve_left List.not_mem_nil
  | i :: is, s, h => by
    refine measureEntries_cleared ctx j is (measureEntry s ctx i) ?_
    rcases h with h | h
    · rcases List.mem_cons.1 h with rfl | h
      · exact Or.inr (measureEntry_cleared s ctx _ _ (Or.inl rfl))
      · exact Or.inl h
    · exact Or.inr (measureEntry_cleared s ctx i j (Or.inr h))

/-- The four schedule entries of a context. -/
def schedEntries (s : State) (ctx : Nat) : List Nat := (List.range 4).map (fun k => schedFirst s ctx + k)

theorem measureSchedule_eq (s : State) (ctx : Nat) : ∃ u bytes, Noted s u ∧ measureSchedule s ctx
    = (schedEntries s ctx).foldl (fun s i => measureEntry s ctx i) { u with measurements := tset 0 ctx (sha384 bytes) u.measurements } := by
  have hhashed := noted_hashEntries (schedEntries s ctx) (s, [])
  refine ⟨_, ((schedEntries s ctx).foldl hashEntry (s, [])).2, hhashed, ?_⟩
  unfold measureSchedule hashEntry
  rw [← schedEntries]

theorem measureSchedule_measuring (s : State) (ctx : Nat) : (measureSchedule s ctx).measuring = s.measuring := by
  obtain ⟨u, bytes, hu, h⟩ := measureSchedule_eq s ctx
  obtain ⟨m, t, hentries⟩ := measureEntries_eq ctx (schedEntries s ctx)
    { u with measurements := tset 0 ctx (sha384 bytes) u.measurements }
  rw [h, hentries]
  exact (congrArg State.measuring hu.fields :)

theorem measureSchedule_cleared (s : State) (ctx : Nat) {k : Nat} (hk : k < 4) :
    tfld (tget 0 (schedFirst s ctx + k) (measureSchedule s ctx).terrier) 81 3 = 0 := by
  obtain ⟨u, bytes, -, h⟩ := measureSchedule_eq s ctx
  rw [h]
  exact measureEntries_cleared ctx _ _ _ (Or.inl (List.mem_map.2 ⟨k, List.mem_range.2 hk, rfl⟩))

/-- The measurement of context `c` is complete, and its STATUS shows it. -/
def measureDone (s : State) (c : Nat) : State :=
  setRbit (measureSchedule { s with measuring := none } c) .context c Off.status 1 false

theorem measureDone_keeps (s : State) (c : Nat) : (measureDone s c).measuring = (measureSchedule { s with measuring := none } c).measuring
    ∧ (measureDone s c).measurements = (measureSchedule { s with measuring := none } c).measurements
    ∧ (measureDone s c).terrier = (measureSchedule { s with measuring := none } c).terrier := by
  unfold measureDone
  obtain ⟨u, hu⟩ : ∃ u, u = measureSchedule { s with measuring := none } c := exists_eq
  rw [← hu]
  exact ⟨rfl, rfl, rfl⟩

theorem exec_measureDone {s : State} {c : Nat} (h : s.measuring = some c) : exec .measureDone s
    = .next (if ctxState (measureDone s c) c ≠ Ctx.resident then measureDone s c
      else startContext (readRoot (measureDone s c) c).1 c (readRoot (measureDone s c) c).2) := by
  have hexec : exec .measureDone s = execMeasureDone s := rfl
  rw [hexec, execMeasureDone]
  simp only [h]
  rw [← measureDone]
  generalize measureDone s c = u
  by_cases hc : ctxState u c ≠ Ctx.resident
  · rw [if_pos hc, if_pos hc]
  · rw [if_neg hc, if_neg hc]

/-- What a start after a measurement keeps of it. -/
theorem started_readRoot (u : State) (c : Nat) (root : Option (List (Nat × Bool))) :
    let t := startContext (readRoot u c).1 c root
    t.measuring = u.measuring ∧ t.measurements = u.measurements ∧ t.terrier = u.terrier
      ∧ reg t .context c Off.status = reg u .context c Off.status := by
  have hn := noted_readRoot u c
  generalize (readRoot u c).1 = v at hn ⊢
  have hs := startContext_started v c root
  exact ⟨hs.measuring.trans (congrArg State.measuring hn.fields :), hs.measurements.trans (congrArg State.measurements hn.fields :),
    hs.terrier.trans (congrArg State.terrier hn.fields :), hs.status.trans (hn.reg (tallied_status _ _))⟩

/-- Settles O33, case by case of the write, and the measurement's end. -/
theorem contextsStart : Obligations.ContextsStart := by
  refine ⟨fun s s1 c l hr hs hc hcheck hroot hmaps hnames hm => ?_, fun s s1 c l hr hs hc hcheck hroot hmaps hnames hm => ?_,
    fun s c hr hs hc hlt hcheck => ?_, fun s c hmeasuring => ?_⟩
  · have hlt : c < 512 := hs ▸ shownInstance_lt s .context
    have hread : Noted s s1 := by have h := noted_readRoot s c; rwa [hroot] at h
    have hexec := exec_almGo hr hs hc
    rw [writeAlmGo_checked hc hcheck hroot hmaps hnames, hm, if_neg Bool.false_ne_true] at hexec
    have hh := noted_healthStep s (startContext s1 c (some l))
    refine ⟨_, hexec, ?_, ?_, fun k w hk hw hv hz => ?_, fun k w hk hw hv => ?_⟩
    · rw [stepState, hh.rf (tallied_context hlt (by decide) (by decide) (by decide)), ← stepState, startContext_step s1 hlt]
    · exact ((congrArg State.started hh.fields :).trans (startContext_started s1 c (some l)).started).trans
        (congrArg (· ||| BitVec.ofNat 32 (2 ^ c)) (congrArg State.started hread.fields :))
    · obtain ⟨u, hcore, hepoch, hend⟩ := core_startContext hlt hm l hk
      rw [hw] at hend
      obtain ⟨hstate, hrefill, hep, hflags, hgates⟩ := core_startCore_valid u c k hv hz
      rw [hh.core, hend]
      refine ⟨hstate, hrefill, (hep.trans hepoch).trans (reg64_epoch hread.butCores hlt), hflags, ?_⟩
      rw [hgates, hcore, hread.core]
    · obtain ⟨u, -, -, hend⟩ := core_startContext hlt hm l hk
      rw [hh.core, hend, hw, startCore_idle u c false k hv, core_updCore_same]
  · have hexec := exec_almGo hr hs hc
    rw [writeAlmGo_checked hc hcheck hroot hmaps hnames, hm, if_pos rfl] at hexec
    have hh := noted_healthStep s (setRbit { s1 with measuring := some c } .context c Off.status 1 true)
    refine ⟨_, hexec, (congrArg State.measuring hh.fields :), ?_, hh.cores⟩
    rw [hh.rbit (tallied_status _ _), rbit_setRbit_same _ _ _ _ _ _ (by decide)]
  · have hexec := exec_almGo hr hs hc
    rw [writeAlmGo_refused hc hcheck, healthStep_refuse] at hexec
    exact ⟨_, hexec, refuse_refused s _ _ _ _, (refuse_code s _ _ _ _).trans (Nat.mod_eq_of_lt (almGoCheck_lt s c)),
      refuse_offset s _ _ _ _, refuse_only s _ _ _ _⟩
  · refine ⟨_, exec_measureDone hmeasuring, ?_⟩
    have hbit : rbit (measureDone s c) .context c Off.status 1 = false := rbit_setRbit_same _ _ _ _ _ _ (by decide)
    obtain ⟨hnone, hwritten, hentries⟩ := measureDone_keeps s c
    rw [measureSchedule_measuring] at hnone
    have hclear : ∀ k, k < 4 → tfld (tget 0 (schedFirst s c + k) (measureDone s c).terrier) 81 3 = 0 := by
      rw [hentries]
      exact fun k hk => measureSchedule_cleared { s with measuring := none } c hk
    generalize measureDone s c = u at hbit hnone hclear hwritten ⊢
    by_cases hres : ctxState u c ≠ Ctx.resident
    · rw [if_pos hres]
      exact ⟨hnone, hbit, hwritten, hclear⟩
    · rw [if_neg hres]
      obtain ⟨hmeas, hments, hterrier, hstatus⟩ := started_readRoot u c (readRoot u c).2
      refine ⟨hmeas.trans hnone, ?_, hments.trans hwritten, ?_⟩
      · rw [rbit, hstatus, ← rbit, hbit]
      · rw [hterrier]; exact hclear

end Sys2Proof.Machine
end

section
/-!
SUPPORT. What the rows of a MOVE and the beats that waited change: memory, records and cores (R194 to R201, R340).
-/
namespace Sys2Proof.Machine

/-! ## Reads and writes of codewords -/

theorem noted_readBad (slot n : Nat) (s : State) (w : Nat) : Noted s (readBad s slot n w).1 := by
  induction n generalizing s w with
  | zero => exact Noted.refl s
  | succ n ih =>
    rw [readBad]
    exact (noted_readWord s slot w).trans (ih _ (w + 1))

theorem noted_readRow (s : State) (slot a n : Nat) : Noted s (readRow s slot a n).1 := by
  have hread := noted_readBad slot ((a + n - 1) / 16 - a / 16 + 1) s (a / 16)
  rw [readRow]
  split
  · exact Noted.refl s
  · exact hread

theorem noted_rmwWord (s : State) (slot w : Nat) (f : Nat → Bool → Nat) : Noted s (rmwWord s slot w f) :=
  (noted_readWord s slot w).trans (noted_storeWord _ slot w _)

theorem noted_accWord (s : State) (slot w : Nat) (t : Elem) (scale : Option Nat) (ys : List (Option Word)) :
    Noted s (accWord s slot w t scale ys).1 := by
  unfold accWord
  dsimp only
  exact (noted_readWord s slot w).trans (noted_storeWord _ slot w _)

theorem noted_setOvf (s : State) (slot a j : Nat) : Noted s (setOvf s slot a j) := by
  unfold setOvf
  exact noted_rmwWord s slot _ _

theorem notedButCores_histRecord (s : State) (c slot : Nat) (ws : List Word) : NotedButCores s (histRecord s c slot ws) :=
  notedButCores_updCore s c _

/-! ## The rows of a MOVE (R194, R195) -/

theorem noted_freeOverlap (dsts : List (Nat × Nat)) (a v n : Nat) (s : State) : Noted s (freeOverlap s dsts a v n).1 := by
  induction n with
  | zero => exact Noted.refl s
  | succ n ih =>
    rw [freeOverlap]
    dsimp only
    split
    · exact ih.trans (noted_freshWord _)
    · exact ih

theorem noted_readSource (s : State) (o : Op) (r : Nat) : Noted s (readSource s o r).1 := by
  unfold readSource
  dsimp only
  split
  · exact (noted_readRow s _ _ _).trans (noted_freeOverlap _ _ _ _ _)
  · exact noted_readRow s _ _ _

theorem noted_readScales (s : State) (o : Op) (r : Nat) : Noted s (readScales s o r).1 := by
  unfold readScales
  dsimp only
  exact noted_readRow s _ _ _

theorem noted_zeroFlags (s : State) (slot a n : Nat) : Noted s (zeroFlags s slot a n) :=
  noted_foldl _ s fun _ _ u => noted_ite (fun _ => noted_storeWord u slot _ 0) fun _ => noted_rmwWord u slot _ _

theorem noted_fillRow (s : State) (o : Op) (r : Nat) : Noted s (fillRow s o r) :=
  noted_ite (fun _ => (noted_writeMem s _ _ _ _).trans (noted_zeroFlags _ _ _ _)) fun _ => noted_writeMem s _ _ _ _

theorem noted_accRow (key : Nat) (t : Elem) (blk : Nat) (scales : Option (List Nat)) (a n src i : Nat) (s : State) :
    Noted s (accRow s key t blk scales a n src i).1 := by
  induction i with
  | zero => exact Noted.refl s
  | succ i ih =>
    rw [accRow]
    dsimp only
    exact ih.trans (noted_accWord _ _ _ _ _ _)

theorem notedButCores_accumulateRow (s : State) (c : Nat) (o : Op) (r : Nat) : NotedButCores s (accumulateRow s c o r).1 := by
  have hsource := noted_readSource s o r
  unfold accumulateRow
  dsimp only
  split
  · exact (((hsource.trans (noted_readScales _ o r)).trans (noted_accRow _ _ _ _ _ _ _ _ _)).trans
      (noted_foldl _ _ fun j _ u => noted_setOvf u _ _ j)).butCores.trans (notedButCores_histRecord _ _ _ _)
  · exact (hsource.trans (noted_accRow _ _ _ _ _ _ _ _ _)).butCores.trans (notedButCores_histRecord _ _ _ _)

theorem notedButCores_convertRow (s : State) (c : Nat) (o : Op) (r : Nat) : NotedButCores s (convertRow s c o r).1 := by
  have hsource := noted_readSource s o r
  unfold convertRow
  dsimp only
  split
  · exact (hsource.butCores.trans (notedButCores_histRecord _ _ _ _)).trans
      ((noted_writeMem _ _ _ _ _).trans (noted_writeMem _ _ _ _ _)).butCores
  · split
    · exact ((hsource.trans (noted_readScales _ o r)).trans (noted_writeMem _ _ _ _ _)).butCores
    · exact (hsource.trans (noted_writeMem _ _ _ _ _)).butCores

theorem noted_relayoutRow (s : State) (o : Op) (r : Nat) : Noted s (relayoutRow s o r).1 := by
  have hsource := noted_readSource s o r
  unfold relayoutRow
  dsimp only
  split
  · exact (hsource.trans (noted_writeMem _ _ _ _ _)).trans (noted_writeMem _ _ _ _ _)
  · exact (hsource.trans (noted_readScales _ o r)).trans (noted_writeMem _ _ _ _ _)

theorem notedButCores_moveRow (s : State) (c : Nat) (o : Op) (r : Nat) : NotedButCores s (moveRow s c o r).1 := by
  unfold moveRow
  split
  · exact ((noted_readSource s o r).trans (noted_writeMem _ _ _ _ _)).butCores
  · exact (noted_fillRow s o r).butCores
  · exact notedButCores_accumulateRow s c o r
  · exact notedButCores_convertRow s c o r
  · exact (noted_relayoutRow s o r).butCores

theorem notedButCores_moveRows (c : Nat) (o : Op) (n : Nat) (s : State) : NotedButCores s (moveRows s c o n).1 := by
  induction n with
  | zero => exact (Noted.refl s).butCores
  | succ n ih =>
    rw [moveRows]
    exact ih.trans (notedButCores_moveRow _ c o n)

/-- A MOVE that is stopped has written some of its rows. -/
theorem notedButCores_stopMove (s : State) (c : Nat) (o : Op) : NotedButCores s (stopMove s c o) := by
  unfold stopMove
  split
  · exact (Noted.refl s).butCores
  · exact (noted_freshWord s).butCores.trans (notedButCores_moveRows c o _ _)

/-! ## Beats that waited (R340, R344) -/

/-- `t` is `s` after beats have been performed, held or left waiting. -/
def Beaten (s t : State) : Prop := Noted { s with cores := t.cores, waiting := t.waiting } t

theorem NotedButCores.beaten {s t : State} (h : NotedButCores s t) : Beaten s t := by
  have hw : t.waiting = s.waiting := (congrArg State.waiting h.fields :)
  rw [Beaten, hw]
  exact h

theorem Beaten.trans {s t u : State} (h : Beaten s t) (k : Beaten t u) : Beaten s u := by
  refine Noted.trans ?_ k
  exact ⟨congrArg (fun x : State => { x with cores := u.cores, waiting := u.waiting }) h.fields, h.words⟩

theorem noted_accBeat (s : State) (key w fmt scale addends mask : Nat) : Noted s (accBeat s key w fmt scale addends mask).1 :=
  noted_accWord s key w _ _ _

theorem notedButCores_performBeat (s : State) (b : HeldBeat) : NotedButCores s (performBeat s b) := by
  cases b with
  | read addr key flip =>
    exact ((noted_setRawWord s _ _).trans (noted_readWord _ key.val _)).butCores
  | write addr key data mask => exact (noted_writeWord s key.val _ _ _).butCores
  | accumulate core slot addr key fmt scale addends mask flags block =>
    unfold performBeat
    dsimp only
    exact ((noted_accBeat s _ _ _ _ _ _).trans (noted_ite (fun _ => noted_setOvf _ _ _ _) fun _ => Noted.refl _)).butCores.trans
      (notedButCores_histRecord _ _ _ _)

theorem noted_holdBeat (s : State) {f : Nat} (hf : f < 512) (b : HeldBeat) : Noted s (holdBeat s f b) :=
  (noted_setThrottle s f _).trans (noted_noteHeld _ hf 1)

theorem beaten_waiting (s : State) (w : List HeldBeat) : Beaten s { s with waiting := w } := Noted.refl _

theorem beaten_submitBeat (s : State) (b : HeldBeat) : Beaten s (submitBeat s b) := by
  have hperform : ∀ u, Beaten u (performBeat u b) := fun u => (notedButCores_performBeat u b).beaten
  unfold submitBeat
  split
  · exact (Noted.refl s).butCores.beaten
  · rename_i p hp
    split
    · exact (Noted.refl s).butCores.beaten
    · split
      · exact beaten_waiting s _
      · split
        · exact (noted_touchPages s _).butCores.beaten.trans (beaten_waiting _ _)
        · split
          · rename_i f hf
            have hlt : f < 512 := placeFootprint_lt (Option.bind_eq_some_iff.2 ⟨p, hp, hf⟩)
            split
            · split
              · exact (noted_holdBeat s hlt b).butCores.beaten
              · exact (noted_setThrottle s f _).butCores.beaten.trans (hperform _)
            · exact hperform s
          · exact hperform s

theorem beaten_foldl {α : Type} {f : State → α → State} (hf : ∀ u x, Beaten u (f u x)) : ∀ (l : List α) (s : State),
    Beaten s (l.foldl f s)
  | [], s => (Noted.refl s).butCores.beaten
  | x :: l, s => (hf s x).trans (beaten_foldl hf l (f s x))

theorem beaten_resubmit (s : State) : Beaten s (resubmit s) :=
  ((beaten_waiting s []).trans (beaten_foldl beaten_submitBeat s.waiting _)).trans (noted_drainRings _).butCores.beaten

end Sys2Proof.Machine
end

section
/-!
SUPPORT. What the work of a context, of a harvest and of a migration cannot reach: the Bell's state, the rails and the partitions'
states (R361, R365).
-/
namespace Sys2Proof.Machine

/-! ## The relation -/

/-- The time, the rails, PART_STATE and the Bell's STATUS are as before. -/
structure Apart (s t : State) : Prop where
  time : t.time = s.time
  rails : t.railOut = s.railOut
  parts : reg t .global 0 Off.globalPartState = reg s .global 0 Off.globalPartState
  bell : reg t .bell 0 Off.status = reg s .bell 0 Off.status

theorem Apart.refl (s : State) : Apart s s := ⟨rfl, rfl, rfl, rfl⟩

theorem Apart.trans {s t u : State} (h : Apart s t) (k : Apart t u) : Apart s u :=
  ⟨k.time.trans h.time, k.rails.trans h.rails, k.parts.trans h.parts, k.bell.trans h.bell⟩

theorem Apart.partState {s t : State} (h : Apart s t) (q : Nat) : partState t q = partState s q := by
  rw [Machine.partState, rf, h.parts, ← rf, ← Machine.partState]

theorem Apart.bellState {s t : State} (h : Apart s t) : bellState t = bellState s := by
  rw [Machine.bellState, rf, h.bell, ← rf, ← Machine.bellState]

theorem Noted.apart {s t : State} (h : Noted s t) : Apart s t :=
  ⟨h.time, (congrArg State.railOut h.fields :), h.reg (by decide), h.reg (by decide)⟩

theorem Beaten.apart {s t : State} (h : Beaten s t) : Apart s t :=
  ⟨(congrArg State.time h.fields :), (congrArg State.railOut h.fields :), Noted.reg h (by decide), Noted.reg h (by decide)⟩

theorem NotedButCores.apart {s t : State} (h : NotedButCores s t) : Apart s t := h.beaten.apart

theorem apart_foldl {α : Type} {f : State → α → State} (hf : ∀ u x, Apart u (f u x)) : ∀ (l : List α) (s : State), Apart s (l.foldl f s)
  | [], s => Apart.refl s
  | x :: l, s => (hf s x).trans (apart_foldl hf l (f s x))

theorem apart_ite {s t u : State} {p : Prop} [Decidable p] (h : p → Apart s t) (k : ¬ p → Apart s u) : Apart s (if p then t else u) := by
  split
  · exact h ‹_›
  · exact k ‹_›

/-! ## Registers -/

theorem apart_setReg {b : Block} {i off : Nat} (s : State) (v : Word)
    (hp : regKey .global 0 Off.globalPartState ≠ regKey b i off) (hb : regKey .bell 0 Off.status ≠ regKey b i off) :
    Apart s (setReg s b i off v) :=
  ⟨rfl, rfl, reg_setReg_ne s _ _ _ _ _ _ v hp, reg_setReg_ne s _ _ _ _ _ _ v hb⟩

section
variable {b : Block} (h : 3 ≤ b.id)
include h

/-- Every other page lies behind GLOBAL's and the Bell's, whatever the instance. -/
theorem apart_setReg_page (s : State) (i off : Nat) (v : Word) : Apart s (setReg s b i off v) := by
  have hglobal : Block.global.id = 0 := rfl
  have hbell : Block.bell.id = 2 := rfl
  refine apart_setReg s v ?_ ?_ <;> simp only [regKey, hglobal, hbell, Off.globalPartState, Off.status] <;> omega

theorem apart_raiseInt_page (s : State) (i k : Nat) : Apart s (raiseInt s b i k) :=
  (apart_setReg_page h s i _ _).trans (noted_msixOnRise _ _ _ _).apart

theorem apart_countRecord_page (s : State) (i code : Nat) (detail : Word) : Apart s (countRecord s b i code detail) := by
  have hcount : Apart s (incReg (setRbit s b i Off.err (code - 1) true) b i Off.eventCount) :=
    (apart_setReg_page h s i _ _).trans (apart_setReg_page h _ i _ _)
  unfold countRecord
  dsimp only
  exact (apart_ite (fun _ => (hcount.trans (apart_setReg_page h _ i _ _)).trans (apart_setReg_page h _ i _ _)) fun _ => hcount).trans
    (apart_setReg_page h _ i _ _)

theorem apart_deviceRecord_page (s : State) (i cls code unit : Nat) (detail : Word) :
    Apart s (deviceRecord s b i cls code unit detail) :=
  ((apart_countRecord_page h s i code detail).trans (noted_msixOnRise _ _ _ _).apart).trans (noted_devqPush _ _).apart

end

/-- A core's record, whatever number the core has. -/
theorem apart_coreRecord (s : State) (c cls code : Nat) (detail : Word) : Apart s (coreRecord s c cls code detail) :=
  apart_ite (fun _ => (apart_deviceRecord_page (by decide) s c cls code c detail).trans (noted_evqPush _ _ _).apart)
    fun _ => apart_deviceRecord_page (by decide) s c cls code c detail

/-! ## A harvest, a refill and a migration that end (R345, R348, R349) -/

theorem apart_noteStall (s : State) (page : Nat) : Apart s (noteStall s page) := by
  have htouch : Apart s { s with touches := tset 0 page 0 s.touches } := ⟨rfl, rfl, rfl, rfl⟩
  unfold noteStall
  dsimp only
  split
  · exact htouch.trans (apart_setReg_page (by decide) _ 0 _ _)
  · exact htouch

/-- A definition by what it abbreviates as a function: its own equation is none that the kernel can check, for it would compute where
a page lies. The place and the accesses are made opaque for the same reason. -/
theorem apart_setCopyBit (s : State) (p : Nat) (v : Bool) : Apart s (setCopyBit s p v) := by
  have hread : ∀ u a, Apart u (readMem u 0 a 1).1 := fun u a => (noted_readMem u 0 a 1).apart
  have hwrite : ∀ u a x, Apart u (writeMem u 0 a 1 x) := fun u a x => (noted_writeMem u 0 a 1 x).apart
  have hcopy : ∀ l, Apart s { s with copyPages := l } := fun _ => ⟨rfl, rfl, rfl, rfl⟩
  have hdef : @setCopyBit = @setCopyBit := rfl
  conv at hdef => rhs; delta setCopyBit
  rw [hdef]
  obtain ⟨place, hp⟩ : ∃ f, f = localPage := exists_eq
  obtain ⟨read, hr⟩ : ∃ f, f = readMem := exists_eq
  obtain ⟨write, hw⟩ : ∃ f, f = writeMem := exists_eq
  rw [← hr] at hread ⊢
  rw [← hw] at hwrite ⊢
  rw [← hp]
  beta_reduce
  cases place p with
  | none => exact hcopy _
  | some x => exact ((hcopy _).trans (hread _ _)).trans (hwrite _ _ _)

theorem apart_setLanding (s : State) (p n : Nat) : Apart s (setLanding s p n) := by
  have hwrite : ∀ u a x, Apart u (writeMem u 0 a 2 x) := fun u a x => (noted_writeMem u 0 a 2 x).apart
  have hland : Apart s { s with landings := tset 0 p n s.landings } := ⟨rfl, rfl, rfl, rfl⟩
  have hdef : @setLanding = @setLanding := rfl
  conv at hdef => rhs; delta setLanding
  rw [hdef]
  obtain ⟨place, hp⟩ : ∃ f, f = localPage := exists_eq
  obtain ⟨write, hw⟩ : ∃ f, f = writeMem := exists_eq
  rw [← hw] at hwrite ⊢
  rw [← hp]
  beta_reduce
  cases place p with
  | none => exact hland
  | some x => exact hland.trans (hwrite _ _ _)

theorem apart_harvestDone (s : State) (ctx status kind : Nat) (refill : Bool) (ks : List Nat) :
    Apart s (harvestDone s ctx status kind refill ks) := (noted_deviceEvent (by decide) (by decide) s _ _ _ _ _).apart

theorem apart_refillAborted (s : State) (st ctx reason kind left : Nat) : Apart s (refillAborted s st ctx reason kind left) :=
  ((apart_setReg_page (by decide) s 0 _ _).trans (apart_setReg_page (by decide) _ 0 _ _)).trans
    (noted_deviceEvent (by decide) (by decide) _ _ _ _ _ _).apart

theorem apart_harvestAbort (s : State) (status : Nat) : Apart s (harvestAbort s status) := by
  unfold harvestAbort
  split
  · exact Apart.refl s
  · dsimp only
    refine Apart.trans ?_ (beaten_resubmit _).apart
    refine Apart.trans ?_ (apart_harvestDone _ _ _ _ _ _)
    have hstalls := apart_foldl apart_noteStall (s.touches.map Prod.fst) s
    generalize (s.touches.map Prod.fst).foldl noteStall s = u at hstalls ⊢
    have hbits := apart_foldl (f := fun s p => setCopyBit s p false) (fun u p => apart_setCopyBit u p false) u.copyPages u
    exact (hstalls.trans hbits).trans ⟨rfl, rfl, rfl, rfl⟩

theorem apart_refillAbort (s : State) (reason : Nat) : Apart s (refillAbort s reason) := by
  unfold refillAbort
  split
  · exact Apart.refl s
  · dsimp only
    refine Apart.trans ?_ (apart_refillAborted _ _ _ _ _ _)
    exact (apart_foldl (fun u p => apart_setLanding u p 0) (s.landings.map Prod.fst) s).trans ⟨rfl, rfl, rfl, rfl⟩

theorem apart_serveAbort (s : State) (reason : Nat) : Apart s (serveAbort s reason) := by
  unfold serveAbort
  split
  · exact Apart.refl s
  · refine Apart.trans ?_ (apart_refillAborted _ _ _ _ _ _)
    exact ⟨rfl, rfl, rfl, rfl⟩

theorem apart_endMemoryWork (s : State) : Apart s (endMemoryWork s) :=
  ((apart_harvestAbort s 2).trans (apart_ite (fun _ => apart_refillAbort _ 8) fun _ => Apart.refl _)).trans (apart_serveAbort _ 8)

/-! ## The resident context forced off (R361, R365) -/

theorem apart_updCore (s : State) (c : Nat) (f : Core → Core) : Apart s (updCore s c f) := ⟨rfl, rfl, rfl, rfl⟩

theorem apart_ownerLostWaiter (s : State) (c : Nat) : Apart s (ownerLostWaiter s c) := by
  unfold ownerLostWaiter
  dsimp only
  split
  · exact Apart.refl s
  · exact apart_ite (fun _ => apart_coreRecord s c _ _ _) fun _ => Apart.refl s

theorem apart_switchOut (s : State) : Apart s (switchOut s) :=
  Apart.trans (t := { s with switch := { s.switch with phase := .draining } }) ⟨rfl, rfl, rfl, rfl⟩
    (apart_foldl (fun u c => (apart_updCore u c applyArrivals).trans (apart_ownerLostWaiter _ c)) _ _)

theorem apart_abandonCores (s : State) (cs : List Nat) : Apart s (abandonCores s cs) :=
  (apart_foldl (fun u c => apart_foldl (fun v o => (notedButCores_stopMove v c o).apart) (core u c).ops u) cs s).trans ⟨rfl, rfl, rfl, rfl⟩

theorem apart_setCtxState (s : State) (c st : Nat) : Apart s (setCtxState s c st) :=
  apart_ite (fun _ => Apart.refl s) fun _ => (apart_setReg_page (by decide) s c _ _).trans (apart_raiseInt_page (by decide) _ c 1)

theorem apart_endSwitch (s : State) : Apart s (endSwitch s) :=
  Apart.trans (t := { s with switch := ⟨.idle, 0, 0, .context⟩, powerStep := powerAfter s }) ⟨rfl, rfl, rfl, rfl⟩
    ((apart_setReg _ _ (by decide) (by decide)).trans (noted_raiseInt (by decide) (by decide) _ 3).apart)

theorem apart_dropImage (s : State) (ctx : Nat) : Apart s (dropImage s ctx) :=
  Apart.trans (t := { s with
    saved := s.saved.filter (fun e => e.1 / 512 != ctx), savedDraw := s.savedDraw.filter (fun e => e.1 != ctx) })
    ⟨rfl, rfl, rfl, rfl⟩ (apart_setReg_page (by decide) _ ctx _ _)

theorem apart_forcedGone (s : State) : Apart s (forcedGone s) := by
  unfold forcedGone
  dsimp only
  refine Apart.trans ?_ (apart_endSwitch _)
  refine Apart.trans ?_ (apart_dropImage _ _)
  refine Apart.trans ?_ (apart_setCtxState _ _ _)
  refine Apart.trans (t := leaveCores (closeContext s (resident s))) ⟨rfl, rfl, rfl, rfl⟩ ?_
  exact apart_setReg _ _ (by decide) (by decide)

theorem apart_forceResident (s : State) (ds : List Nat) : Apart s (forceResident s ds) := by
  unfold forceResident
  dsimp only
  refine Apart.trans ?_ (apart_ite (fun _ => apart_forcedGone _) fun _ => Apart.refl _)
  refine Apart.trans ?_ (apart_setReg _ _ (by decide) (by decide))
  refine Apart.trans ?_ (Apart.trans (apart_foldl (fun u c => apart_updCore u c leftCore) _ _) ⟨rfl, rfl, rfl, rfl⟩)
  refine Apart.trans ?_ (apart_abandonCores _ _)
  refine apart_ite (fun _ => Apart.refl s) fun _ => Apart.trans ?_ (apart_switchOut _)
  exact apart_ite (fun _ => Apart.refl s) fun _ => apart_deviceRecord_page (by decide) s _ _ _ _ _

theorem apart_dropWanted (s : State) (ctx : Nat) : Apart s (dropWanted s ctx) := by
  obtain ⟨b, hb⟩ := dropWanted_eq s ctx
  rw [hb]
  exact ⟨rfl, rfl, rfl, rfl⟩

theorem apart_cancelEntry (waiting : Bool) (s : State) : Apart s (cancelEntry waiting s) := by
  cases waiting with
  | false => exact Apart.refl s
  | true =>
    exact ((apart_setReg s _ (by decide) (by decide)).trans (apart_setReg _ _ (by decide) (by decide))).trans ⟨rfl, rfl, rfl, rfl⟩

theorem apart_forceOff (s : State) (ds : List Nat) : Apart s (forceOff s ds) := by
  unfold forceOff
  dsimp only
  refine Apart.trans ?_ (apart_cancelEntry _ _)
  refine apart_ite (fun _ => (apart_forceResident s ds).trans (apart_dropWanted _ _)) fun _ => ?_
  exact apart_ite (fun _ => (apart_setCtxState s _ _).trans (apart_endSwitch _)) fun _ => Apart.refl s

/-! ## The context is off, or on its way off -/

/-- No context is resident, or the one that was still has work to end. -/
def OffOrLeaving (s : State) : Prop := resident s = 0 ∨ forcedWaits s = true

theorem OffOrLeaving.of_same {s t : State} (h : OffOrLeaving s) (hr : reg t .global 0 Off.globalRun = reg s .global 0 Off.globalRun)
    (hs : t.switch = s.switch) : OffOrLeaving t := by
  rw [OffOrLeaving, resident, rf, hr, forcedWaits, hs, ← rf, ← resident, ← forcedWaits]
  exact h

end Sys2Proof.Machine
end

section
/-!
PROOFS. Partitions that go DOWN in service, and requests for a power state.
-/
namespace Sys2Proof.Machine

/-! ## The context is off, or on its way off (R361, R365) -/

/-- GLOBAL.RUN is no register of a page behind GLOBAL's. -/
theorem run_setReg_page {b : Block} (h : 3 ≤ b.id) (s : State) (i off : Nat) (v : Word) :
    reg (setReg s b i off v) .global 0 Off.globalRun = reg s .global 0 Off.globalRun := by
  have hglobal : Block.global.id = 0 := rfl
  refine reg_setReg_ne s _ _ _ _ _ _ v ?_
  simp only [regKey, hglobal, Off.globalRun]; omega

theorem run_setCtxState (s : State) (c st : Nat) : reg (setCtxState s c st) .global 0 Off.globalRun = reg s .global 0 Off.globalRun := by
  rw [setCtxState]
  split
  · rfl
  · exact ((noted_msixOnRise _ _ _ _).reg (by decide)).trans
      ((run_setReg_page (by decide) _ c _ _).trans (run_setReg_page (by decide) s c _ _))

theorem resident_of_run {s t : State} (h : reg t .global 0 Off.globalRun = reg s .global 0 Off.globalRun) : resident t = resident s := by
  rw [resident, rf, h, ← rf, ← resident]

/-- The end of a switch leaves what is resident. -/
theorem resident_endSwitch (s : State) : resident (endSwitch s) = resident s :=
  ((noted_raiseInt (by decide) (by decide) _ 3).rf (by decide) 0 5).trans
    (rf_setRf_field _ .global 0 Off.globalRun _ (by decide) (by decide))

theorem resident_setCtxState (s : State) (c st : Nat) : resident (setCtxState s c st) = resident s :=
  resident_of_run (run_setCtxState s c st)

theorem resident_dropImage (s : State) (c : Nat) : resident (dropImage s c) = resident s :=
  resident_of_run (run_setReg_page (by decide) _ c _ _)

theorem resident_forcedGone (s : State) : resident (forcedGone s) = 0 := by
  unfold forcedGone
  dsimp only
  rw [resident_endSwitch, resident_dropImage, resident_setCtxState]
  generalize leaveCores (closeContext s (resident s)) = u
  exact rf_setRf_same u .global 0 Off.globalRun 0 5 0 (by decide)

/-- The switch leads to no image and waits for what is in flight. -/
def leaveLost (s : State) : State :=
  setRbit { s with switch := ⟨.draining, 0, s.switch.since, .lost⟩ } .global 0 Off.globalRun 17 true

theorem forcedWaits_leaveLost (s : State) : forcedWaits (leaveLost s) = true := rfl

theorem forceResident_eq (s : State) (ds : List Nat) : ∃ u, forceResident s ds = forcedEnd (leaveLost u) := ⟨_, rfl⟩

theorem offOrLeaving_forceResident (s : State) (ds : List Nat) : OffOrLeaving (forceResident s ds) := by
  obtain ⟨u, hu⟩ := forceResident_eq s ds
  rw [hu, forcedEnd]
  split
  · exact Or.inl (resident_forcedGone _)
  · exact Or.inr (forcedWaits_leaveLost u)

theorem OffOrLeaving.dropWanted {s : State} (h : OffOrLeaving s) (ctx : Nat) : OffOrLeaving (dropWanted s ctx) := by
  obtain ⟨b, hb⟩ := dropWanted_eq s ctx
  rw [hb]
  exact h.of_same rfl rfl

theorem OffOrLeaving.cancelEntry {s : State} (h : OffOrLeaving s) (waiting : Bool) : OffOrLeaving (cancelEntry waiting s) := by
  cases waiting with
  | false => exact h
  | true =>
    have hkey : regKey .global 0 Off.globalRun ≠ regKey .global 0 Off.globalPower := by decide
    have hrun : reg (setRf (setRf s .global 0 Off.globalPower 4 3 0) .global 0 Off.globalPower 0 2 0) .global 0 Off.globalRun
        = reg s .global 0 Off.globalRun := by
      rw [reg_setRf_ne _ _ _ _ _ _ _ _ _ _ hkey, reg_setRf_ne _ _ _ _ _ _ _ _ _ _ hkey]
    exact h.of_same hrun rfl

/-- After a context has been forced off none is resident, or it is leaving. -/
theorem offOrLeaving_forceOff (s : State) (ds : List Nat) : OffOrLeaving (forceOff s ds) := by
  unfold forceOff
  dsimp only
  refine OffOrLeaving.cancelEntry ?_ _
  split
  · exact (offOrLeaving_forceResident s ds).dropWanted _
  · rename_i hnone
    have hzero : resident s = 0 := not_not.1 hnone
    split
    · exact Or.inl ((resident_endSwitch _).trans ((resident_setCtxState s _ _).trans hzero))
    · exact Or.inl hzero

theorem OffOrLeaving.noted {s t : State} (h : OffOrLeaving s) (hn : Noted s t) : OffOrLeaving t :=
  h.of_same (hn.reg (by decide)) (congrArg State.switch hn.fields :)

/-! ## A partition DOWN (R364, R471) -/

theorem setPartState_down (s : State) (n : Nat) : setPartState s n 3
    = setRf (setRf s .global 0 Off.globalPartState (2 * n) 2 3) .granary n Off.granaryState 0 2 2 := rfl

theorem reg_setPartState_down (s : State) (n : Nat) {b : Block} {off : Nat} (hb : b.id < 3) (ho : off < 4096)
    (h : regKey b 0 off ≠ regKey .global 0 Off.globalPartState) : reg (setPartState s n 3) b 0 off = reg s b 0 off := by
  have hgranary : Block.granary.id = 9 := rfl
  rw [setPartState_down, reg_setRf_ne _ .granary b n 0 _ _ _ _ _ (by simp only [regKey, hgranary]; omega),
    reg_setRf_ne _ .global b 0 0 _ _ _ _ _ h]

theorem partState_setPartState_down (s : State) {n q : Nat} (hn : n < 4) :
    partState (setPartState s n 3) q = if q = n then 3 else partState s q := by
  have hgranary : Block.granary.id = 9 := rfl
  have hglobal : Block.global.id = 0 := rfl
  rw [setPartState_down, partState, rf_setRf_ne _ .granary .global n 0 _ _ _ _ _ _ _
    (by simp only [regKey, hgranary, hglobal, Off.globalPartState]; omega)]
  split
  · rename_i hq
    subst hq
    exact rf_setRf_same s .global 0 Off.globalPartState _ 2 3 (by omega)
  · exact rf_setRf_field s .global 0 Off.globalPartState 3 (by omega) (by omega)

theorem OffOrLeaving.setPartState {s : State} (h : OffOrLeaving s) (n : Nat) : OffOrLeaving (setPartState s n 3) :=
  h.of_same (reg_setPartState_down s n (by decide) (by decide) (by decide)) rfl

/-! ## RAIL_FAULT (R493) -/

/-- What a rail's fault ends: the work in the die's memories, its context, and the beats that wait. -/
def railWorkEnded (s : State) (n : Nat) : State := dropDieBeats (forceOff (endMemoryWork s) [n]) n

theorem exec_railFault {die : Fin 4} {s : State} (hp : partState s die.val = 0) (hd : dawnDone s = true) : exec (.railFault die) s
    = .next (healthStep s (setPartState { railWorkEnded s die.val with
        railOut := (railWorkEnded s die.val).railOut ||| BitVec.ofNat 32 (2 ^ die.val) } die.val 3)) := by
  refine if_neg ?_
  rw [hp, hd]
  simp

theorem apart_dropDieBeats (s : State) (n : Nat) : Apart s (dropDieBeats s n) := ⟨rfl, rfl, rfl, rfl⟩

theorem OffOrLeaving.dropDieBeats {s : State} (h : OffOrLeaving s) (n : Nat) : OffOrLeaving (dropDieBeats s n) := h.of_same rfl rfl

theorem apart_railWorkEnded (s : State) (n : Nat) : Apart s (railWorkEnded s n) :=
  ((apart_endMemoryWork s).trans (apart_forceOff _ [n])).trans (apart_dropDieBeats _ n)

theorem offOrLeaving_railWorkEnded (s : State) (n : Nat) : OffOrLeaving (railWorkEnded s n) :=
  (offOrLeaving_forceOff (endMemoryWork s) [n]).dropDieBeats n

theorem railGated_or (s : State) {n : Nat} (hn : n < 4) (r : Word) :
    railGated { s with railOut := r ||| BitVec.ofNat 32 (2 ^ n) } n = true := by
  have hbit : (2 ^ n).testBit n = true := Nat.testBit_two_pow_self
  rw [railGated, BitVec.testBit_toNat, BitVec.getLsbD_or, BitVec.getLsbD_ofNat, hbit]
  simp only [Bool.and_true, Bool.or_eq_true, decide_eq_true_eq]
  omega

/-! ## REFCLK_LOSS (R35, R494) -/

/-- The Bell has lost the reference clock: it goes to HOLDOVER unless it is FREE. -/
def refclkBell (s : State) : State :=
  if bellState s = Bell.free ∨ bellState s = Bell.holdover then s else bellRecord (setBellState s Bell.holdover) 0x04

theorem exec_refclkLoss {s : State} (h : s.refclkLost = false) : exec .refclkLoss s
    = .next (healthStep s (setPartitions { forceOff (refclkBell s) (List.range 4) with refclkLost := true } 3)) := by
  refine if_neg ?_
  rw [h]
  exact Bool.false_ne_true

theorem bellState_refclkBell (s : State) : bellState (refclkBell s) = if bellState s = Bell.free then Bell.free else Bell.holdover := by
  rw [refclkBell]
  by_cases hfree : bellState s = Bell.free
  · rw [if_pos (Or.inl hfree), if_pos hfree, hfree]
  · rw [if_neg hfree]
    by_cases hhold : bellState s = Bell.holdover
    · rw [if_pos (Or.inr hhold), hhold]
    · rw [if_neg (not_or.2 ⟨hfree, hhold⟩), (bellKept_bellRecord _ _).state]
      exact bellState_setBellState s (by decide)

theorem setPartitions_down (s : State) :
    setPartitions s 3 = setPartState (setPartState (setPartState (setPartState s 0 3) 1 3) 2 3) 3 3 := rfl

theorem partState_setPartitions_down (s : State) {q : Nat} (hq : q < 4) : partState (setPartitions s 3) q = 3 := by
  simp only [setPartitions_down, partState_setPartState_down _ (show 0 < 4 by decide), partState_setPartState_down _ (show 1 < 4 by decide),
    partState_setPartState_down _ (show 2 < 4 by decide), partState_setPartState_down _ (show 3 < 4 by decide)]
  obtain rfl | rfl | rfl | rfl : q = 0 ∨ q = 1 ∨ q = 2 ∨ q = 3 := by omega
  all_goals rfl

theorem bellState_setPartState_down (s : State) (n : Nat) : bellState (setPartState s n 3) = bellState s := by
  rw [bellState, rf, reg_setPartState_down s n (by decide) (by decide) (by decide), ← rf, ← bellState]

theorem bellState_setPartitions_down (s : State) : bellState (setPartitions s 3) = bellState s := by
  simp only [setPartitions_down, bellState_setPartState_down]

theorem OffOrLeaving.setPartitions {s : State} (h : OffOrLeaving s) : OffOrLeaving (setPartitions s 3) := by
  rw [setPartitions_down]
  exact (((h.setPartState 0).setPartState 1).setPartState 2).setPartState 3

end Sys2Proof.Machine
end

section
/-!
PROOFS. Requests for a power state, and the ends of an entry of DUSK and of the exit from it.
-/
namespace Sys2Proof.Machine

/-! ## GLOBAL.POWER (R426, R431) -/

theorem powerState_setPowerState (s : State) {v : Nat} (h : v < 8) : powerState (setPowerState s v) = v :=
  (rf_setRf_same s .global 0 Off.globalPower 4 3 v (by decide)).trans (Nat.mod_eq_of_lt h)

theorem powerReq_setPowerState (s : State) (v : Nat) : powerReq (setPowerState s v) = powerReq s :=
  rf_setRf_field s .global 0 Off.globalPower v (by decide) (by decide)

theorem run_setPower (s : State) (lo w v : Nat) :
    reg (setRf s .global 0 Off.globalPower lo w v) .global 0 Off.globalRun = reg s .global 0 Off.globalRun :=
  reg_setRf_ne s .global .global 0 0 _ _ _ _ _ (regKey_ne_off (by decide))

/-- A power state is asked for. -/
def requested (s : State) (req : Nat) : State := setRf s .global 0 Off.globalPower 0 2 req

theorem powerState_requested (s : State) (req : Nat) : powerState (requested s req) = powerState s :=
  rf_setRf_field s .global 0 Off.globalPower req (by decide) (by decide)

theorem powerReq_requested (s : State) {req : Nat} (h : req < 4) : powerReq (requested s req) = req :=
  (rf_setRf_same s .global 0 Off.globalPower 0 2 req (by decide)).trans (Nat.mod_eq_of_lt h)

theorem resident_requested (s : State) (req : Nat) : resident (requested s req) = resident s :=
  resident_of_run (run_setPower s 0 2 req)

theorem resident_setPowerState (s : State) (v : Nat) : resident (setPowerState s v) = resident s :=
  resident_of_run (run_setPower s 4 3 v)

theorem regFields_power : regFields .global Off.globalPower = [⟨0x114, 0, 2, .rw, 0, 120⟩, ⟨0x114, 4, 3, .ro, 0, 120⟩] := by decide

theorem power_defined : (1 : Word) &&& ~~~(definedMask .global Off.globalPower) = 0
    ∧ (2 : Word) &&& ~~~(definedMask .global Off.globalPower) = 0 ∧ (0 : Word) &&& ~~~(definedMask .global Off.globalPower) = 0 := by
  rw [definedMask, regFields_power]; decide

section
variable {s : State} {v : Word} {req : Nat} (hv : v &&& ~~~(definedMask .global Off.globalPower) = 0) (hreq : fld v.toNat 0 2 = req)
  (hc : powerCheck s req = 0) (hne : req ≠ powerState s)
include hv hreq hc hne

/-- A request that passes its checks, for another state, begins an entry. -/
theorem writePower_entry (h : powerState s = 0 ∨ (powerState s = 1 ∧ req = 2)) : writePower s v = beginEntry (requested s req) req := by
  subst hreq
  unfold writePower
  dsimp only
  rw [if_neg (not_not.2 hv), if_neg (not_not.2 hc), if_neg hne, if_pos h]
  rfl

/-- Or an exit. -/
theorem writePower_exit (h : ¬(powerState s = 0 ∨ (powerState s = 1 ∧ req = 2))) : writePower s v = beginExit (requested s req) := by
  subst hreq
  unfold writePower
  dsimp only
  rw [if_neg (not_not.2 hv), if_neg (not_not.2 hc), if_neg hne, if_neg h]
  rfl

end

/-- With no context resident an entry takes its own step next. -/
theorem beginEntry_alone {s : State} (h : resident s = 0) (req : Nat) :
    beginEntry s req = { setPowerState s 3 with powerStep := req } := by
  have hnone : ¬ resident (setPowerState s 3) ≠ 0 := by rw [resident_setPowerState, h]; exact not_not.2 rfl
  unfold beginEntry
  exact if_neg hnone

/-- A resident context is first asked to switch out. -/
theorem beginEntry_resident {s : State} (h : resident s ≠ 0) : beginEntry s 1
    = { setRbit (setPowerState s 3) .global 0 Off.globalRun 17 true with switch := ⟨.requested, 0, s.time, .dusk⟩ } := by
  have hsome : resident (setPowerState s 3) ≠ 0 := by rwa [resident_setPowerState]
  have hswitch : beginEntry s 1 = beginSwitch (setPowerState s 3) 0 .dusk := by
    unfold beginEntry
    exact if_pos hsome
  rw [hswitch, beginSwitch, if_neg hsome]
  rfl

/-- What an entry begun from `s` shows. -/
theorem entry_shows (s : State) {req : Nat} (h : req < 4) : powerState (setPowerState (requested s req) 3) = 3
    ∧ powerReq (setPowerState (requested s req) 3) = req :=
  ⟨powerState_setPowerState _ (by decide), (powerReq_setPowerState _ 3).trans (powerReq_requested s h)⟩

/-- The switch that an entry asks for leaves POWER and what is resident. -/
theorem switch_shows (s : State) (g : Switch) : powerState { s with switch := g } = powerState s
    ∧ powerReq { s with switch := g } = powerReq s ∧ resident { s with switch := g } = resident s := ⟨rfl, rfl, rfl⟩

theorem switchBit_shows (s : State) :
    powerState (setRbit s .global 0 Off.globalRun 17 true) = powerState s
    ∧ powerReq (setRbit s .global 0 Off.globalRun 17 true) = powerReq s
    ∧ resident (setRbit s .global 0 Off.globalRun 17 true) = resident s :=
  ⟨rf_setRf_ne s .global .global 0 0 Off.globalRun Off.globalPower 17 1 _ 4 3 (regKey_ne_off (by decide)),
    rf_setRf_ne s .global .global 0 0 Off.globalRun Off.globalPower 17 1 _ 0 2 (regKey_ne_off (by decide)),
    rf_setRf_field s .global 0 Off.globalRun _ (by decide) (by decide)⟩

/-! ## The steps (R426, R427) -/

theorem healthStep_only (before s : State) : onlyRegs s (healthStep before s) := by
  rw [healthStep]
  split
  · exact onlyRegs_refl s
  · refine onlyRegs_trans ?_ (raiseInt_only _ _ _ _)
    split
    · exact onlyRegs_refl s
    · exact emit_only s _

/-- POWER.STATE has been reached: a message, where it was asked for. -/
theorem powerReached_noted (s : State) (st : Nat) : Noted (setPowerState { s with powerStep := 0 } st) (powerReached s st)
    ∧ onlyRegs (setPowerState { s with powerStep := 0 } st) (powerReached s st) := by
  unfold powerReached
  dsimp only
  split
  · exact ⟨noted_raiseInt (by decide) (by decide) _ 2, raiseInt_only _ _ _ _⟩
  · exact ⟨Noted.refl _, onlyRegs_refl _⟩

theorem powerReached_only (s : State) (st : Nat) : onlyRegs { s with powerStep := 0 } (powerReached s st) :=
  onlyRegs_trans (setReg_only _ _ _ _ _) (powerReached_noted s st).2

/-- What a state reached shows. -/
theorem powerReached_shows (s : State) {st : Nat} (h : st < 8) :
    powerState (powerReached s st) = st ∧ powerReq (powerReached s st) = powerReq s ∧ (powerReached s st).powerStep = 0 := by
  obtain ⟨hn, -⟩ := powerReached_noted s st
  exact ⟨(hn.rf (by decide) 4 3).trans (powerState_setPowerState _ h),
    (hn.rf (by decide) 0 2).trans (powerReq_setPowerState { s with powerStep := 0 } st), (congrArg State.powerStep hn.fields :)⟩

theorem exec_powerTransitionDone {s : State} (ht : tripped s = false) :
    exec .powerTransitionDone s = .next (healthStep s (powerStepDone s)) :=
  if_neg (Bool.eq_false_iff.1 ht)

theorem powerStepDone_dusk {s : State} (h : s.powerStep = 1) : powerStepDone s = powerReached s 1 := by
  unfold powerStepDone
  rw [h]
  rfl

theorem powerStepDone_night {s : State} (h : s.powerStep = 2) : powerStepDone s = powerReached (enterNight s) 2 := by
  unfold powerStepDone
  rw [h]
  rfl

/-- The exit from DUSK ends once no bond self-test runs. -/
theorem powerStepDone_run {s : State} (h : s.powerStep = 4) (ht : anyTest s = false) :
    powerStepDone s = nextEntry (resubmit (powerReached s 0)) := by
  rw [powerStepDone, h]
  exact if_neg (Bool.eq_false_iff.1 ht)

theorem healthStep_power (before s : State) :
    powerState (healthStep before s) = powerState s ∧ (healthStep before s).powerStep = s.powerStep := by
  have hn := noted_healthStep before s
  exact ⟨hn.rf (by decide) 4 3, (congrArg State.powerStep hn.fields :)⟩

/-- The beats that waited leave POWER. -/
theorem resubmit_power (s : State) : powerState (resubmit s) = powerState s ∧ powerReq (resubmit s) = powerReq s
    ∧ (resubmit s).powerStep = s.powerStep := by
  have hn := beaten_resubmit s
  exact ⟨Noted.rf hn (by decide) 4 3, Noted.rf hn (by decide) 0 2, (congrArg State.powerStep hn.fields :)⟩

theorem nextEntry_run {s : State} (h : powerReq s = 0) : nextEntry s = s := if_pos h

end Sys2Proof.Machine
end

section
/-!
SUPPORT. Resets of pages and of ports (R421, R439): what the registers of a page read after its reset, and what the reset of a port
leaves of the others.
-/
namespace Sys2Proof.Machine

/-! ## Tables -/

/-- A read of a table mapped, where the entries that are not listed stay as they are. -/
theorem tget_tmap {α : Type} [DecidableEq α] (d : Nat → α) (f : Nat → α → α) {k : Nat} (h : f k (d k) = d k) :
    ∀ t : Table α, tget (d k) k (tmap d f t) = f k (tget (d k) k t)
  | [] => h.symm
  | (i, v) :: t => by
    show tget (d k) k (tset (d i) i (f i v) (tmap d f t)) = f k (if k = i then v else tget (d k) k t)
    split
    · rename_i hk
      subst hk
      exact tget_tset_same _ _ _ _
    · rename_i hk
      exact (tget_tset_ne _ _ _ hk _).trans (tget_tmap d f h t)

theorem core_map (s : State) (f : Core → Core) (h : f Core.reset = Core.reset) (c : Nat) :
    core { s with cores := tmap (fun _ => Core.reset) (fun _ k => f k) s.cores } c = f (core s c) :=
  tget_tmap (fun _ => Core.reset) (fun _ k => f k) h s.cores

/-! ## Pages -/

/-- A reset leaves a register that holds its reset value. -/
theorem resetRegWord_reset (b : Block) (k : ResetKind) (off : Nat) : resetRegWord b k off (resetWord b off) = resetWord b off := by
  ext j
  rw [resetRegWord, BitVec.getElem_or, BitVec.getElem_and, BitVec.getElem_and, BitVec.getElem_not]
  cases (resetWord b off)[j] <;> cases (survivesMask b k off)[j] <;> rfl

/-- A register of a page in the scope of a reset is reset, and every other is as before. -/
theorem reg_resetPages (s : State) (scope : Block → Nat → Bool) (k : ResetKind) (whole : Bool) {b : Block} {i off : Nat}
    (hi : i < 512) (ho : off < 4096) (ha : off % 4 = 0) (hsel : off ≠ Off.sel) :
    reg (resetPages s scope k whole) b i off = if scope b i then resetRegWord b k off (reg s b i off) else reg s b i off := by
  have hpage : Block.ofId (regKey b i off / 1024 / 512) = b := by rw [regKey_page b hi ho, ofId_id]
  have hinst : regKey b i off / 1024 % 512 = i := by simp only [regKey]; omega
  have hword : 4 * (regKey b i off % 1024) = off := regKey_word b i ho ha
  have hdefault : regDefault (regKey b i off) = resetWord b off := by rw [regDefault, hpage, hword]
  unfold reg resetPages resetRegs
  rw [tget_tmap]
  · dsimp only
    rw [hpage, hinst, hword, if_neg (fun h => hsel h.1)]
  · dsimp only
    rw [hpage, hinst, hword, if_neg (fun h => hsel h.1), hdefault, resetRegWord_reset, ite_self]

/-! ## A port reset -/

/-- `t` differs from `s` at port `p` alone, as far as memory, the cores and the states of ports go. -/
structure AtPort (p : Nat) (s t : State) : Prop where
  mem : memEq s t
  cores : t.cores = s.cores
  ports : otherPorts p s t
  status : ∀ q, q < 512 → q ≠ p → reg t .port q Off.portStatus = reg s .port q Off.portStatus

variable {p : Nat}

theorem AtPort.refl (s : State) : AtPort p s s := ⟨⟨rfl, rfl⟩, rfl, fun _ _ => rfl, fun _ _ _ => rfl⟩

theorem AtPort.trans {s t u : State} (h : AtPort p s t) (k : AtPort p t u) : AtPort p s u :=
  ⟨h.mem.trans k.mem, k.cores.trans h.cores, otherPorts_trans h.ports k.ports,
    fun q hq hp => (k.status q hq hp).trans (h.status q hq hp)⟩

theorem atPort_ite {s t u : State} {c : Prop} [Decidable c] (h : AtPort p s t) (k : AtPort p s u) : AtPort p s (if c then t else u) := by
  split
  · exact h
  · exact k

theorem tallied_portStatus {q : Nat} (hq : q < 512) : tallied (regKey .port q Off.portStatus) = false := by
  rw [tallied_regKey hq (by decide) (by decide)]; decide

theorem Noted.atPort {s t : State} (h : Noted s t) (hm : memEq s t) : AtPort p s t :=
  ⟨hm, h.cores, fun q _ => congrArg (tget Port.reset q) (congrArg State.ports h.fields :), fun _ hq _ => h.reg (tallied_portStatus hq)⟩

theorem atPort_setReg_port (s : State) {off : Nat} (ho : off < 4096) (v : Word) : AtPort p s (setReg s .port p off v) :=
  ⟨memEq_setReg s _ _ _ _, rfl, fun _ _ => rfl, fun q _ hqp => by
    refine reg_setReg_ne _ _ _ _ _ _ _ _ ?_
    simp only [regKey, Off.portStatus]
    omega⟩

theorem atPort_updPort (s : State) (f : Port → Port) : AtPort p s (updPort s p f) :=
  ⟨⟨rfl, rfl⟩, rfl, otherPorts_updPort s p f, fun _ _ _ => rfl⟩

theorem memEq_deviceEvent (s : State) (b : Block) (i cls code unit : Nat) (detail : Word) (ks : List Nat) :
    memEq s (deviceEvent s b i cls code unit detail ks) := by
  have hbits : ∀ (l : List Nat) (u : State), memEq u (l.foldl (fun s k => setRbit s b i Off.intStatus k true) u) := by
    intro l
    induction l with
    | nil => exact fun _ => ⟨rfl, rfl⟩
    | cons k l ih => exact fun u => (memEq_setRbit u b i _ k true).trans (ih _)
  exact (((memEq_countRecord s b i code detail).trans (hbits ks _)).trans (memEq_msixOnRise _ _ _ _)).trans (memEq_devqPush _ _)

theorem atPort_deviceEvent (s : State) {b : Block} {i : Nat} (hb : b ≠ .doorbell) (hi : i < 512) (cls code unit : Nat) (detail : Word)
    (ks : List Nat) : AtPort p s (deviceEvent s b i cls code unit detail ks) :=
  (noted_deviceEvent hb hi s cls code unit detail ks).atPort (memEq_deviceEvent s b i cls code unit detail ks)

theorem atPort_portLoss (s : State) (p count : Nat) : AtPort p s (portLoss s p count) := by
  have hbit : AtPort p s (setRbit s .lanemap 0 Off.lanemapLoss p true) :=
    ⟨memEq_setRbit s _ _ _ _ _, rfl, fun _ _ => rfl, fun q hq _ => reg_setRf_ne _ _ _ _ _ _ _ _ _ _
      (regKey_ne_page (by decide) (by decide) (by decide) (by decide) hq)⟩
  exact hbit.trans (atPort_deviceEvent _ (by decide) (by decide) _ _ _ _ _)

theorem atPort_clearLinkRegs (s : State) (p : Nat) : AtPort p s (clearLinkRegs s p) :=
  atPort_setReg_port s (off := Off.portStatus) (by decide) _

theorem atPort_dropIngress (s : State) (p : Nat) : AtPort p s (dropIngress s p) :=
  ⟨⟨rfl, rfl⟩, rfl, fun _ _ => rfl, fun _ _ _ => rfl⟩

theorem atPort_setPortState (s : State) (hp : p < 512) (st : Nat) : AtPort p s (setPortState s p st) := by
  have hset : ∀ w, AtPort p s (updPort (setRf (setRf s .port p Off.portStatus 0 4 st) .port p Off.portStatus 4 4 w) p
      (fun k => { k with since := s.time })) := fun w =>
    ((atPort_setReg_port s (by decide) _).trans (atPort_setReg_port _ (by decide) _)).trans (atPort_updPort _ _)
  exact atPort_ite (hset _) ((hset _).trans ((noted_raiseInt (by decide) hp _ _).atPort (memEq_raiseInt _ _ _ _)))

theorem atPort_portDown (s : State) (hp : p < 512) (reason : Nat) : AtPort p s (portDown s p reason) := by
  have hlost := (atPort_deviceEvent (p := p) s (b := .port) (by decide) hp 0x05 0x02 p (det (reason * 2 ^ 24))
    (if portState s p != Link.down then [0] else [])).trans (atPort_portLoss _ p (portPackets s p))
  have hcleared := ((hlost.trans (atPort_clearLinkRegs _ p)).trans (atPort_dropIngress _ p)).trans (atPort_updPort _ Port.cleared)
  have hdown := hcleared.trans (atPort_setPortState _ hp Link.down)
  exact atPort_ite (hdown.trans (atPort_setPortState _ hp Link.detect)) hdown

/-- A port is as its reset leaves it (R245, R421). -/
def idlePort (s : State) (p : Nat) : Prop := portOf s p = Port.reset ∧ portState s p = Link.down

theorem AtPort.idle {s t : State} (h : AtPort p s t) {q : Nat} (hq : q < 512) (hqp : q ≠ p) (hi : idlePort s q) : idlePort t q :=
  ⟨(h.ports q hqp).trans hi.1, by rw [portState, rf, h.status q hq hqp]; exact hi.2⟩

/-- No bit of a port's state outlives its reset. -/
theorem resetRegWord_portStatus (v : Word) : resetRegWord .port .port Off.portStatus v = 0 := by
  have hmask : survivesMask .port .port Off.portStatus = 0 := by decide
  have hreset : resetWord .port Off.portStatus = 0 := by decide
  rw [resetRegWord, hmask, hreset]
  exact (congrArg (· ||| _) BitVec.and_zero).trans (by decide)

theorem atPort_resetPages_port (s : State) : AtPort p s (resetPages s (fun b i => b == .port && i == p) .port false) := by
  refine ⟨⟨rfl, rfl⟩, rfl, fun _ _ => rfl, fun q hq hqp => ?_⟩
  rw [reg_resetPages _ _ _ _ hq (by decide) (by decide) (by decide), if_neg (by simpa using hqp)]

theorem atPort_portReset (s : State) (hp : p < 512) : AtPort p s (portReset s p .port) :=
  
  have hdown : AtPort p s (if portState s p = Link.down then s else portDown s p 6) :=
    atPort_ite (AtPort.refl s) (atPort_portDown s hp 6)
  (hdown.trans (atPort_resetPages_port _)).trans (atPort_updPort _ fun _ => Port.reset)

theorem portState_resetPages_port (s : State) (hp : p < 512) :
    portState (resetPages s (fun b i => b == .port && i == p) .port false) p = Link.down := by
  rw [portState, rf, reg_resetPages _ _ _ _ hp (by decide) (by decide) (by decide), if_pos (by simp), resetRegWord_portStatus]
  rfl

theorem idlePort_portReset (s : State) (hp : p < 512) : idlePort (portReset s p .port) p :=
  ⟨portOf_updPort_same _ p _, portState_resetPages_port _ hp⟩

end Sys2Proof.Machine
end

section
/-!
PROOFS. The entry of NIGHT: what it keeps, and the ports that it leaves idle (R426, R427).
-/
namespace Sys2Proof.Machine

/-! ## What the entry of NIGHT keeps -/

/-- `t` has the memory and the gates of `s`, and every port that was idle is idle. -/
structure NightKept (s t : State) : Prop where
  mem : memEq s t
  gates : ∀ c, (core t c).gates = (core s c).gates
  idle : ∀ q, q < 512 → idlePort s q → idlePort t q

theorem NightKept.refl (s : State) : NightKept s s := ⟨⟨rfl, rfl⟩, fun _ => rfl, fun _ _ h => h⟩

theorem NightKept.trans {s t u : State} (h : NightKept s t) (k : NightKept t u) : NightKept s u :=
  ⟨h.mem.trans k.mem, fun c => (k.gates c).trans (h.gates c), fun q hq hi => k.idle q hq (h.idle q hq hi)⟩

theorem nightKept_foldl {f : State → Nat → State} : ∀ (l : List Nat) (s : State), (∀ x ∈ l, ∀ u, NightKept u (f u x)) →
    NightKept s (l.foldl f s)
  | [], s, _ => NightKept.refl s
  | x :: l, s, h => (h x (List.mem_cons_self ..) s).trans (nightKept_foldl l _ fun y hy => h y (List.mem_cons_of_mem _ hy))

/-- What leaves the cores, the ports and their states leaves all of it. -/
theorem nightKept_of_same {s t : State} (hm : memEq s t) (hc : t.cores = s.cores) (hp : t.ports = s.ports)
    (hr : ∀ q, q < 512 → reg t .port q Off.portStatus = reg s .port q Off.portStatus) : NightKept s t :=
  ⟨hm, fun c => congrArg (fun cs => (tget Core.reset c cs).gates) hc, fun q hq hi =>
    ⟨(congrArg (tget Port.reset q) hp).trans hi.1, by rw [portState, rf, hr q hq]; exact hi.2⟩⟩

theorem Noted.nightKept {s t : State} (h : Noted s t) (hm : memEq s t) : NightKept s t :=
  nightKept_of_same hm h.cores (congrArg State.ports h.fields :) fun _ hq => h.reg (tallied_portStatus hq)

theorem onlyRegs_memEq {s t : State} (h : onlyRegs s t) : memEq s t := by
  obtain ⟨_, _, _, rfl⟩ := h; exact ⟨rfl, rfl⟩

theorem nightKept_setReg (s : State) {b : Block} {i off : Nat} (hb : b.id ≠ Block.port.id) (hi : i < 512) (ho : off < 4096) (v : Word) :
    NightKept s (setReg s b i off v) :=
  nightKept_of_same (memEq_setReg s b i off v) rfl rfl fun _ hq =>
    reg_setReg_ne _ _ _ _ _ _ _ _ (regKey_ne_page hb.symm ho (by decide) hi hq)

/-! ## The steps of the entry -/

theorem nightKept_portReset (s : State) {p : Nat} (hp : p < 512) : NightKept s (portReset s p .port) := by
  have hat := atPort_portReset s hp
  refine ⟨hat.mem, fun c => congrArg (fun cs => (tget Core.reset c cs).gates) hat.cores, fun q hq hi => ?_⟩
  by_cases hqp : q = p
  · subst hqp
    exact idlePort_portReset s hp
  · exact hat.idle hq hqp hi

/-- Resets of ports one after another leave each of them idle. -/
theorem idlePort_portResets (l : List Nat) : ∀ s : State, (∀ x ∈ l, x < 512) → ∀ p ∈ l,
    idlePort (l.foldl (fun s p => portReset s p .port) s) p := by
  induction l with
  | nil => exact fun _ _ p hp => absurd hp List.not_mem_nil
  | cons x l ih =>
    intro s hl p hp
    have hx : x < 512 := hl x (List.mem_cons_self ..)
    have hrest : ∀ y ∈ l, y < 512 := fun y hy => hl y (List.mem_cons_of_mem _ hy)
    show idlePort (l.foldl (fun s p => portReset s p .port) (portReset s x .port)) p
    by_cases h : p ∈ l
    · exact ih _ hrest p h
    · obtain rfl : p = x := (List.mem_cons.1 hp).resolve_right h
      exact (nightKept_foldl l _ fun y hy u => nightKept_portReset u (hrest y hy)).idle p hx (idlePort_portReset s hx)

/-- The core pages go to their reset values. -/
theorem nightKept_resetCorePages (s : State) : NightKept s (resetPages s (fun b _ => b == .core) .partition false) := by
  refine nightKept_of_same ⟨rfl, rfl⟩ rfl rfl fun q hq => ?_
  rw [reg_resetPages _ _ _ _ hq (by decide) (by decide) (by decide), if_neg (by decide)]

/-- The cores lose all but their gates. -/
theorem nightKept_coresLeft (s : State) :
    NightKept s { s with cores := tmap (fun _ => Core.reset) (fun _ k => leftCore k) s.cores } :=
  ⟨⟨rfl, rfl⟩, fun c => (congrArg Core.gates (core_map s leftCore rfl c) :), fun _ _ h => h⟩

theorem nightKept_dropPackets (s : State) : NightKept s { s with routers := [], inbox := [], chunks := [], transit := [] } :=
  nightKept_of_same ⟨rfl, rfl⟩ rfl rfl fun _ _ => rfl

theorem nightKept_setGranaries (s : State) (v : Nat) : NightKept s (setGranaries s v) := by
  refine nightKept_foldl _ s fun d hd u => ?_
  have hd4 : d < 4 := List.mem_range.1 hd
  split
  · exact NightKept.refl u
  · exact nightKept_setReg u (by decide) (by omega) (by decide) _

theorem nightKept_updSoc (s : State) (d : Nat) (f : Soc → Soc) : NightKept s (updSoc s d f) :=
  nightKept_of_same ⟨rfl, rfl⟩ rfl rfl fun _ _ => rfl

theorem nightKept_emit (s : State) (o : Output) : NightKept s (emit s o) := (noted_emit s o).nightKept ⟨rfl, rfl⟩

theorem nightKept_setVolt (s : State) (d p : Nat) (upward : Bool) : NightKept s (setVolt s d p upward) :=
  ((nightKept_updSoc s d _).trans (nightKept_emit _ _)).trans (nightKept_emit _ _)

theorem nightKept_moveTo (s : State) (d p : Nat) : NightKept s (moveTo s d p) := by
  unfold moveTo
  dsimp only
  split_ifs
  · exact NightKept.refl s
  · exact (nightKept_updSoc s d _).trans (nightKept_setVolt _ d p true)
  · exact (nightKept_updSoc s d _).trans (nightKept_setVolt _ d p false)
  · exact NightKept.refl s

/-- What follows the resets of the ports. -/
theorem enterNight_kept (s : State) : NightKept ((List.range 32).foldl (fun s p => portReset s p .port) s) (enterNight s) := by
  unfold enterNight
  generalize (List.range 32).foldl (fun s p => portReset s p .port) s = u
  have hleft := ((nightKept_resetCorePages u).trans (nightKept_coresLeft _)).trans (nightKept_dropPackets _)
  exact (hleft.trans (nightKept_setGranaries _ 1)).trans (nightKept_foldl _ _ fun d _ u => nightKept_moveTo u d 0)

theorem nightKept_powerReached (s : State) (st : Nat) : NightKept s (powerReached s st) := by
  have hstep : NightKept s { s with powerStep := 0 } := nightKept_of_same ⟨rfl, rfl⟩ rfl rfl fun _ _ => rfl
  obtain ⟨hn, honly⟩ := powerReached_noted s st
  exact (hstep.trans (nightKept_setReg _ (b := .global) (i := 0) (off := Off.globalPower) (by decide) (by decide) (by decide) _)).trans
    (hn.nightKept (onlyRegs_memEq honly))

theorem nightKept_healthStep (before s : State) : NightKept s (healthStep before s) :=
  (noted_healthStep before s).nightKept (onlyRegs_memEq (healthStep_only before s))

/-- The step that enters NIGHT keeps the memory and the gates, and leaves every port idle. -/
theorem night_kept (s : State) : NightKept s (healthStep s (powerReached (enterNight s) 2))
    ∧ ∀ p, p < 32 → idlePort (healthStep s (powerReached (enterNight s) 2)) p := by
  have hsmall : ∀ x ∈ List.range 32, x < 512 := fun x hx => (List.mem_range.1 hx).trans (by decide)
  have hports : NightKept s ((List.range 32).foldl (fun s p => portReset s p .port) s) :=
    nightKept_foldl _ s fun x hx u => nightKept_portReset u (hsmall x hx)
  have hafter := ((enterNight_kept s).trans (nightKept_powerReached _ 2)).trans (nightKept_healthStep s _)
  exact ⟨hports.trans hafter, fun p hp => hafter.idle p (by omega) (idlePort_portResets _ s hsmall p (List.mem_range.2 hp))⟩

end Sys2Proof.Machine
end

section
/-!
PROOFS. Loss of rails and of the clock, and the states of power (R35, R364, R426, R427, R485, R493, R494).
-/
namespace Sys2Proof.Machine

/-! ## Loss of a rail and of the clock -/

/-- The power of a die's memories is gone. -/
def railOff (s : State) (n : Nat) : State := { s with railOut := s.railOut ||| BitVec.ofNat 32 (2 ^ n) }

theorem partState_railOff (s : State) (n q : Nat) : partState (railOff s n) q = partState s q := rfl

theorem OffOrLeaving.railOff {s : State} (h : OffOrLeaving s) (n : Nat) : OffOrLeaving (railOff s n) := h.of_same rfl rfl

theorem railGated_railOff (s : State) {n : Nat} (hn : n < 4) : railGated (railOff s n) n = true := railGated_or s hn s.railOut

/-- The partition's state shows neither in the rails nor in the time. -/
theorem setPartState_down_only (s : State) (n : Nat) : onlyRegs s (setPartState s n 3) := ⟨_, _, _, rfl⟩

theorem railOut_of_onlyRegs {s t : State} (h : onlyRegs s t) : t.railOut = s.railOut ∧ t.time = s.time := by
  obtain ⟨_, _, _, rfl⟩ := h; exact ⟨rfl, rfl⟩

/-- The device's state after the fault of a rail. -/
def railLost (s : State) (n : Nat) : State := setPartState (railOff (railWorkEnded s n) n) n 3

theorem railLost_shows (s : State) {n : Nat} (hn : n < 4) : (railLost s n).time = s.time ∧ OffOrLeaving (railLost s n)
    ∧ railGated (railLost s n) n = true ∧ ∀ q, partState (railLost s n) q = if q = n then 3 else partState s q := by
  have hapart := apart_railWorkEnded s n
  have hoff := ((offOrLeaving_railWorkEnded s n).railOff n).setPartState n
  unfold railLost
  generalize railWorkEnded s n = u at hapart hoff ⊢
  obtain ⟨hrails, htime⟩ := railOut_of_onlyRegs (setPartState_down_only (railOff u n) n)
  refine ⟨htime.trans hapart.time, hoff, ?_, fun q => ?_⟩
  · exact (congrArg (fun r : Word => r.toNat.testBit n) hrails).trans (railGated_railOff u hn)
  · rw [partState_setPartState_down _ hn, partState_railOff]
    exact if_congr Iff.rfl rfl (hapart.partState q)

/-- A partition's state and what is shown of the rails outlive the report of HEALTH. -/
theorem partState_healthStep (before s : State) (q : Nat) : partState (healthStep before s) q = partState s q :=
  (noted_healthStep before s).apart.partState q

theorem offOrLeaving_healthStep (before : State) {s : State} (h : OffOrLeaving s) : OffOrLeaving (healthStep before s) :=
  h.noted (noted_healthStep before s)

theorem answers_railFault {die : Fin 4} {s : State} (hp : partState s die.val = 0) (hd : dawnDone s = true) :
    Answers (.railFault die) s (fun t => partState t die.val = 3 ∧ (resident t = 0 ∨ forcedWaits t = true)
      ∧ railGated t die.val = true
      ∧ (∀ q, q < 4 → q ≠ die.val → partState t q = partState s q) ∧ t.time = s.time) := by
  obtain ⟨htime, hoff, hgated, hparts⟩ := railLost_shows s die.isLt
  have hn := noted_healthStep s (railLost s die.val)
  refine ⟨healthStep s (railLost s die.val), exec_railFault hp hd, ?_, offOrLeaving_healthStep s hoff, ?_, fun q _ hq => ?_, ?_⟩
  · rw [partState_healthStep, hparts, if_pos rfl]
  · exact (congrArg (fun r : Word => r.toNat.testBit die.val) hn.apart.rails).trans hgated
  · rw [partState_healthStep, hparts, if_neg hq]
  · exact hn.time.trans htime

/-- The device's state after the clock is lost. -/
def clockLost (s : State) : State := setPartitions { forceOff (refclkBell s) (List.range 4) with refclkLost := true } 3

theorem clockLost_shows (s : State) : (clockLost s).refclkLost = true ∧ OffOrLeaving (clockLost s)
    ∧ (∀ q, q < 4 → partState (clockLost s) q = 3)
    ∧ bellState (clockLost s) = if bellState s = Bell.free then Bell.free else Bell.holdover := by
  have hoff : OffOrLeaving { forceOff (refclkBell s) (List.range 4) with refclkLost := true } :=
    (offOrLeaving_forceOff (refclkBell s) (List.range 4)).of_same rfl rfl
  refine ⟨rfl, hoff.setPartitions, fun q hq => partState_setPartitions_down _ hq, ?_⟩
  calc bellState (clockLost s) = bellState (forceOff (refclkBell s) (List.range 4)) := bellState_setPartitions_down _
    _ = bellState (refclkBell s) := (apart_forceOff _ _).bellState
    _ = _ := bellState_refclkBell s

theorem answers_refclkLoss {s : State} (h : s.refclkLost = false) :
    Answers .refclkLoss s (fun t => t.refclkLost = true ∧ (∀ q, q < 4 → partState t q = 3)
      ∧ (resident t = 0 ∨ forcedWaits t = true)
      ∧ bellState t = (if bellState s = Bell.free then Bell.free else Bell.holdover)) := by
  obtain ⟨hlost, hoff, hparts, hbell⟩ := clockLost_shows s
  have hn := noted_healthStep s (clockLost s)
  exact ⟨healthStep s (clockLost s), exec_refclkLoss h, (congrArg State.refclkLost hn.fields :).trans hlost,
    fun q hq => (partState_healthStep s _ q).trans (hparts q hq), offOrLeaving_healthStep s hoff, hn.apart.bellState.trans hbell⟩

/-! ## Requests -/

theorem onlyRegs_powerStep {s t : State} (h : onlyRegs s t) (n : Nat) : onlyRegs { s with powerStep := n } { t with powerStep := n } := by
  obtain ⟨r, o, m, rfl⟩ := h; exact ⟨r, o, m, rfl⟩

/-- An entry of DUSK or NIGHT with no context resident. -/
theorem answers_entryAlone {i : Instr} {s : State} {req : Nat} (h : req < 4)
    (hexec : exec i s = .next { setPowerState (requested s req) 3 with powerStep := req }) :
    Answers i s (fun t => powerState t = 3 ∧ t.powerStep = req ∧ powerReq t = req ∧ onlyRegs { s with powerStep := req } t) := by
  obtain ⟨hstate, hreq⟩ := entry_shows s h
  exact ⟨_, hexec, hstate, rfl, hreq, onlyRegs_powerStep (onlyRegs_trans (setReg_only s _ _ _ _) (setReg_only _ _ _ _ _)) req⟩

theorem exec_duskAlone {s : State} (hc : powerCheck s 1 = 0) (hs : powerState s = 0) (hr : resident s = 0) :
    exec .powerDusk s = .next { setPowerState (requested s 1) 3 with powerStep := 1 } := by
  have hentry : writePower s 1 = beginEntry (requested s 1) 1 :=
    writePower_entry power_defined.1 (by decide) hc (by rw [hs]; decide) (Or.inl hs)
  exact congrArg Host.Outcome.next (hentry.trans (beginEntry_alone ((resident_requested s 1).trans hr) 1))

theorem exec_nightAlone {s : State} (hc : powerCheck s 2 = 0) (hs : powerState s = 0 ∨ powerState s = 1) (hr : resident s = 0) :
    exec .powerNight s = .next { setPowerState (requested s 2) 3 with powerStep := 2 } := by
  have hentry : writePower s 2 = beginEntry (requested s 2) 2 :=
    writePower_entry power_defined.2.1 (by decide) hc (by omega) (hs.imp_right fun h => ⟨h, rfl⟩)
  exact congrArg Host.Outcome.next (hentry.trans (beginEntry_alone ((resident_requested s 2).trans hr) 2))

/-- A context resident is switched out first. -/
theorem answers_duskResident {s : State} (hc : powerCheck s 1 = 0) (hs : powerState s = 0) (hr : resident s ≠ 0) :
    Answers .powerDusk s (fun t => powerState t = 3 ∧ t.switch = ⟨.requested, 0, s.time, .dusk⟩ ∧ powerReq t = 1
      ∧ resident t = resident s) := by
  have hentry : writePower s 1 = beginEntry (requested s 1) 1 :=
    writePower_entry power_defined.1 (by decide) hc (by rw [hs]; decide) (Or.inl hs)
  have hasked := hentry.trans (beginEntry_resident (s := requested s 1) (by rwa [resident_requested]))
  obtain ⟨hstate, hreq⟩ := entry_shows s (req := 1) (by decide)
  obtain ⟨hbitState, hbitReq, hbitRes⟩ := switchBit_shows (setPowerState (requested s 1) 3)
  obtain ⟨hswState, hswReq, hswRes⟩ := switch_shows (setRbit (setPowerState (requested s 1) 3) .global 0 Off.globalRun 17 true)
    ⟨.requested, 0, s.time, .dusk⟩
  exact ⟨_, congrArg Host.Outcome.next hasked, (hswState.trans hbitState).trans hstate, rfl, (hswReq.trans hbitReq).trans hreq,
    ((hswRes.trans hbitRes).trans (resident_setPowerState _ 3)).trans (resident_requested s 1)⟩

theorem beginExit_shows (s : State) : powerState (beginExit s) = 4 ∧ (beginExit s).powerStep = (if powerState s = 1 then 3 else 5)
    ∧ powerReq (beginExit s) = powerReq s ∧ onlyRegs { s with powerStep := (beginExit s).powerStep } (beginExit s) :=
  ⟨powerState_setPowerState s (v := 4) (by decide), rfl, powerReq_setPowerState s 4,
    onlyRegs_powerStep (setReg_only s .global 0 Off.globalPower _) _⟩

/-- From DUSK or NIGHT the exit begins. -/
theorem answers_exit {s : State} (hs : powerState s = 1 ∨ powerState s = 2) (hc : powerCheck s 0 = 0) :
    Answers .powerRun s (fun t => powerState t = 4 ∧ t.powerStep = (if powerState s = 1 then 3 else 5) ∧ powerReq t = 0
      ∧ sameMemory s t) := by
  have hexit : writePower s 0 = beginExit (requested s 0) :=
    writePower_exit power_defined.2.2 (by decide) hc (by omega) (by omega)
  obtain ⟨hstate, hstep, hreq, honly⟩ := beginExit_shows (requested s 0)
  obtain ⟨hmem, hchk⟩ := onlyRegs_memEq honly
  rw [powerState_requested] at hstep
  exact ⟨_, congrArg Host.Outcome.next hexit, hstate, hstep, hreq.trans (powerReq_requested s (by decide)),
    fun a => ⟨congrArg (cellAt a) hmem, congrArg (cellAt a) hchk⟩⟩

/-! ## Ends of steps -/

theorem answers_duskReached {s : State} (ht : tripped s = false) (hstep : s.powerStep = 1) :
    Answers .powerTransitionDone s (fun t => powerState t = 1 ∧ t.powerStep = 0 ∧ onlyRegs { s with powerStep := 0 } t) := by
  obtain ⟨hstate, -, hdone⟩ := powerReached_shows s (st := 1) (by decide)
  obtain ⟨hs, hd⟩ := healthStep_power s (powerReached s 1)
  refine ⟨healthStep s (powerReached s 1), ?_, hs.trans hstate, hd.trans hdone,
    onlyRegs_trans (powerReached_only s 1) (healthStep_only s _)⟩
  rw [exec_powerTransitionDone ht, powerStepDone_dusk hstep]

theorem answers_nightReached {s : State} (ht : tripped s = false) (hstep : s.powerStep = 2) :
    Answers .powerTransitionDone s (fun t => powerState t = 2 ∧ t.powerStep = 0 ∧ sameMemory s t
      ∧ (∀ c, (core t c).gates = (core s c).gates) ∧ ∀ p, p < 32 → portOf t p = Port.reset ∧ portState t p = Link.down) := by
  obtain ⟨hstate, -, hdone⟩ := powerReached_shows (enterNight s) (st := 2) (by decide)
  obtain ⟨hs, hd⟩ := healthStep_power s (powerReached (enterNight s) 2)
  obtain ⟨⟨⟨hmem, hchk⟩, hgates, -⟩, hports⟩ := night_kept s
  refine ⟨healthStep s (powerReached (enterNight s) 2), ?_, hs.trans hstate, hd.trans hdone, fun a => ?_, hgates, hports⟩
  · rw [exec_powerTransitionDone ht, powerStepDone_night hstep]
  · exact ⟨congrArg (cellAt a) hmem, congrArg (cellAt a) hchk⟩

theorem answers_runReached {s : State} (ht : tripped s = false) (hstep : s.powerStep = 4) (htest : anyTest s = false)
    (hreq : powerReq s = 0) : Answers .powerTransitionDone s (fun t => powerState t = 0 ∧ t.powerStep = 0) := by
  obtain ⟨hstate, hreq', hdone⟩ := powerReached_shows s (st := 0) (by decide)
  obtain ⟨hbeatState, hbeatReq, hbeatStep⟩ := resubmit_power (powerReached s 0)
  have hrun : powerStepDone s = resubmit (powerReached s 0) := by
    rw [powerStepDone_run hstep htest, nextEntry_run ((hbeatReq.trans hreq').trans hreq)]
  obtain ⟨hs, hd⟩ := healthStep_power s (resubmit (powerReached s 0))
  refine ⟨healthStep s (resubmit (powerReached s 0)), ?_, (hs.trans hbeatState).trans hstate, (hd.trans hbeatStep).trans hdone⟩
  rw [exec_powerTransitionDone ht, hrun]

/-- Settles O25: one lemma for each command; what a fault or the loss of the clock forces off is `OffOrLeaving`, and NIGHT is entered
by steps that each keep memory and gates and leave an idle port idle. -/
theorem powerAndService : Obligations.PowerAndService := by
  unfold Obligations.PowerAndService
  refine ⟨fun _ _ => answers_railFault, fun _ => answers_refclkLoss, fun s h => ?_,
    fun _ hc hs hr => answers_entryAlone (by decide) (exec_duskAlone hc hs hr), fun _ => answers_duskResident,
    fun _ hc hs hr => answers_entryAlone (by decide) (exec_nightAlone hc hs hr), fun _ => answers_exit,
    fun _ => answers_duskReached, fun _ => answers_nightReached, fun _ => answers_runReached⟩
  exact ⟨_, if_neg (Bool.eq_false_iff.1 h), rfl⟩

end Sys2Proof.Machine
end

section
/-!
SUPPORT. What a record in the device queue and the answer to an arrival or signal leave of the cores, and gates and flags written.
-/
namespace Sys2Proof.Machine

/-! ## Answers that touch the device alone -/

theorem onlyDevice_cores {s t : State} (h : onlyDevice s t) : t.cores = s.cores := by
  obtain ⟨r, o, m, q, rfl⟩ := h; rfl

theorem onlyDevice_transit {s t : State} (h : onlyDevice s t) : t.transit = s.transit := by
  obtain ⟨r, o, m, q, rfl⟩ := h; rfl

theorem onlyDevice_sameMemory {s t : State} (h : onlyDevice s t) : sameMemory s t := by
  obtain ⟨r, o, m, q, rfl⟩ := h; exact fun _ => ⟨rfl, rfl⟩

/-- A core's record of a class other than ALMANAC enters the device queue alone (R448). -/
theorem coreRecord_only (s : State) (c : Nat) {cls : Nat} (h : cls ≠ 0x02) (code : Nat) (detail : Word) :
    onlyDevice s (coreRecord s c cls code detail) := by
  rw [coreRecord, if_neg h]
  exact deviceRecord_only s _ _ _ _ _ _

theorem ownerLostSender_only (s : State) (c resp node target index : Nat) :
    onlyDevice s (ownerLostSender s c resp node target index) :=
  onlyDevice_trans (coreRecord_only s c (by decide) _ _) (onlyRegs_device (setReg_only _ _ _ _ _))

/-! ## Answers to arrivals and signals (R69, R84) -/

/-- What the answer to an arrival or signal leaves: those under way, and of each core all but its operations. -/
structure AnswerLeaves (s t : State) : Prop where
  transit : t.transit = s.transit
  core : ∀ c, ∃ l, core t c = { core s c with ops := l }

theorem answerLeaves_of_cores {s t : State} (ht : t.transit = s.transit) (hc : t.cores = s.cores) : AnswerLeaves s t :=
  ⟨ht, fun c => ⟨(core s c).ops, by rw [core, hc, ← core]⟩⟩

theorem answerLeaves_drop (s : State) (c id : Nat) : AnswerLeaves s (updCore s c (fun k => k.drop id)) := by
  refine ⟨rfl, fun d => ?_⟩
  by_cases hd : d = c
  · subst hd; exact ⟨_, core_updCore_same s d _⟩
  · exact ⟨_, core_updCore_ne s _ hd⟩

theorem AnswerLeaves.arrivals {s t : State} (h : AnswerLeaves s t) (c : Nat) : (Machine.core t c).arrivals = (Machine.core s c).arrivals := by
  obtain ⟨l, hl⟩ := h.core c; rw [hl]

theorem AnswerLeaves.flags {s t : State} (h : AnswerLeaves s t) (c : Nat) : (Machine.core t c).flags = (Machine.core s c).flags := by
  obtain ⟨l, hl⟩ := h.core c; rw [hl]

theorem answerLeaves_finishMessage (s : State) (c id status : Nat) (signal : Bool) (node target index : Nat) :
    AnswerLeaves s (finishMessage s c id status signal node target index) := by
  unfold finishMessage
  split
  · exact answerLeaves_of_cores rfl rfl
  · have hdrop := answerLeaves_drop s c id
    split
    · exact hdrop
    · have hlost := ownerLostSender_only (updCore s c (fun k => k.drop id)) c (lostFields signal status index).1 node target
        (lostFields signal status index).2
      refine ⟨(onlyDevice_transit hlost).trans hdrop.transit, fun d => ?_⟩
      obtain ⟨l, hl⟩ := hdrop.core d
      exact ⟨l, by rw [← hl]; exact congrArg (tget Core.reset d) (onlyDevice_cores hlost)⟩

theorem answerLeaves_answerTransit (s : State) (x : Transit) (status : Nat) : AnswerLeaves s (answerTransit s x status) := by
  unfold answerTransit
  split
  · exact answerLeaves_of_cores rfl rfl
  · exact answerLeaves_finishMessage s _ _ _ _ _ _ _

/-! ## Gates and flags (R66, R81) -/

@[simp] theorem gateOf_setGate_same (k : Core) (g : Nat) (v : Gate) : gateOf (k.setGate g v) g = v := tget_tset_same _ _ _ _

theorem gateOf_setGate_ne (k : Core) {g h : Nat} (v : Gate) (hne : h ≠ g) : gateOf (k.setGate g v) h = gateOf k h :=
  tget_tset_ne _ _ _ hne _

@[simp] theorem flag_bumpFlag_same (k : Core) (f : Nat) (poison : Bool) :
    tget 0 f (bumpFlag k f poison).flags = tget 0 f k.flags + 1 := tget_tset_same _ _ _ _

theorem flag_bumpFlag_ne (k : Core) {f f' : Nat} (poison : Bool) (h : f' ≠ f) :
    tget 0 f' (bumpFlag k f poison).flags = tget 0 f' k.flags := tget_tset_ne _ _ _ h _

end Sys2Proof.Machine
end

section
/-!
PROOFS. Arrivals count at gates, signals at flags, and GATE waits time out.
-/
namespace Sys2Proof.Machine

/-! ## Arrivals and signals reach their core (R69, R71, R84) -/

/-- The arrival or signal at `index` has left those under way, and its receive slot with it (R255). -/
def taken (s : State) (index : Nat) (x : Transit) : State := releaseTransit { s with transit := removeAt s.transit index } x

theorem taken_leaves (s : State) (index : Nat) (x : Transit) : (taken s index x).transit = removeAt s.transit index
    ∧ (taken s index x).cores = s.cores := by
  unfold taken releaseTransit
  split <;> exact ⟨rfl, rfl⟩

theorem core_taken (s : State) (index : Nat) (x : Transit) (c : Nat) : core (taken s index x) c = core s c :=
  congrArg (tget Core.reset c) (taken_leaves s index x).2

section
variable {index : Nat} {s : State} {x : Transit} (hl : linkOff s = false) (hx : s.transit[index]? = some x)
include hl hx

/-- An arrival that is accepted joins its core's queue (R69, R71). -/
theorem exec_arriveReceived_accepted (hsig : x.signal = false) (hst : arriveStatus s x.core x.index x.ctx = 0)
    (hroom : (core s x.core).arrivals.length < 64) : exec (.arriveReceived index) s
      = .next (answerTransit (updCore (taken s index x) x.core (fun k => { k with arrivals := k.arrivals ++ [x.index] })) x 0) := by
  have hexec : exec (.arriveReceived index) s = execArriveReceived index s := rfl
  have hfull : ¬(64 ≤ (core s x.core).arrivals.length) := by omega
  simp only [hexec, execArriveReceived, linkClocked, hl, hx, hsig, hst, hfull, Bool.false_eq_true, if_false, and_false, if_true]
  rfl

/-- A signal increments its flag where the sender's context is resident and runs, and is refused otherwise (R84). -/
theorem exec_signalReceived (hsig : x.signal = true) : exec (.signalReceived index) s
    = .next (if contextRuns s x.ctx && residentStaying s x.ctx
        then answerTransit (completeFlag (taken s index x) x.core x.index false) x 0 else answerTransit (taken s index x) x 1) := by
  have hexec : exec (.signalReceived index) s = execSignalReceived index s := rfl
  simp only [hexec, execSignalReceived, linkClocked, hl, hx, hsig, Bool.not_true, Bool.false_eq_true, if_false]
  split <;> rfl

end

/-! ## An arrival applied (R68, R71) -/

theorem exec_arrivalApply {c : Fin 512} {s : State} {g : Nat} {rest : List Nat} (h : (core s c).arrivals = g :: rest) :
    exec (.arrivalApply c) s = .next (updCore s c (fun k => ({ k with arrivals := rest }).setGate g (gateOf k g).arrive)) := by
  have hexec : exec (.arrivalApply c) s = execArrivalApply c s := rfl
  rw [hexec, execArrivalApply]
  simp only [h]

/-! ## GATE_TIMEOUT (R74, R75) -/

/-- The timeout of the head's GATE wait has fired. -/
def fireTimeout (k : Core) : Core := { k with alm := { k.alm with timeoutFired := true } }

/-- The core has recorded that its head's GATE wait took too long. -/
def timeoutRecorded (s : State) (c : Nat) (e : QWord) : State :=
  coreRecord (updCore s c fireTimeout) c 0x01 0x01
    (det ((core s c).alm.slot * 2 ^ 22 + entId e * 2 ^ 16 + (gateOf (core s c) (entId e)).arrived.toNat))

theorem exec_gateTimeout {c : Fin 512} {s : State} {e : QWord} (he : (core s c).alm.headEntry = some e)
    (hr : (core s c).alm.state = .running ∨ (core s c).alm.state = .starved) (hh : (core s c).alm.halting = false)
    (hf : (core s c).alm.timeoutFired = false) (hc : coreClocked s c = true) (hs : contextStays s = true)
    (hsig : entRemoteSignal e = false) (hop : entOp e ≠ 0x11) (hk : entKind e = 1)
    (hw : waitForeign (core s c) (resident s) e = false) (hw' : waitHolds (core s c) e = false)
    (ht : (gateOf (core s c) (entId e)).ticks ≠ 0)
    (hdue : timeoutStart (core s c).alm e + (gateOf (core s c) (entId e)).ticks.toNat ≤ s.time.toNat) :
    exec (.gateTimeout c) s = .next (incReg (timeoutRecorded s c e) .core c Off.coreGateTimeoutCount) := by
  have hexec : exec (.gateTimeout c) s = execGateTimeout c s := rfl
  rw [hexec, execGateTimeout]
  simp only [he]
  exact if_pos ⟨hr, hh, hf, hc, hs, hsig, hop, hk, hw, hw', ht, hdue⟩

/-- A timeout counted leaves every core as its firing does, and memory. -/
theorem timeoutRecorded_only (s : State) (c : Nat) (e : QWord) :
    onlyDevice (updCore s c fireTimeout) (incReg (timeoutRecorded s c e) .core c Off.coreGateTimeoutCount) :=
  onlyDevice_trans (coreRecord_only _ c (by decide) _ _) (onlyRegs_device (setReg_only _ _ _ _ _))

/-- The count of timeouts is none that a record writes. -/
theorem timeoutCount_timeoutRecorded (s : State) {c : Nat} (hc : c < 512) (e : QWord) :
    reg (timeoutRecorded s c e) .core c Off.coreGateTimeoutCount = reg s .core c Off.coreGateTimeoutCount := by
  have hk : tallied (regKey .core c Off.coreGateTimeoutCount) = false := by
    rw [tallied_regKey hc (by decide) (by decide)]; decide
  exact (noted_coreRecord _ hc _ _ _).reg hk

/-- Settles O12, command by command: what the answer leaves, and the core that counts. -/
theorem countersAdvance : Obligations.CountersAdvance := by
  unfold Obligations.CountersAdvance
  refine ⟨fun index s x hl hx hsig hst hroom => ?_, fun c s g rest h => ?_, fun index s x hl hx hsig hrun hstay => ?_,
    fun index s x hl hx hsig hrun => ?_, fun c s e he hr hh hf hc hs hsig hop hk hw hw' ht hdue => ?_⟩
  · have ha := answerLeaves_answerTransit (updCore (taken s index x) x.core (fun k => { k with arrivals := k.arrivals ++ [x.index] })) x 0
    refine ⟨_, exec_arriveReceived_accepted hl hx hsig hst hroom, ?_, ha.transit.trans (taken_leaves s index x).1⟩
    rw [ha.arrivals, core_updCore_same, core_taken]
  · refine ⟨_, exec_arrivalApply h, ?_, ?_, fun h hne => ?_, ?_, otherCores_updCore s c _, _, rfl⟩ <;> rw [core_updCore_same]
    · rfl
    · exact gateOf_setGate_same _ _ _
    · exact gateOf_setGate_ne _ _ hne
    · rfl
  · have ha := answerLeaves_answerTransit (completeFlag (taken s index x) x.core x.index false) x 0
    have hexec := exec_signalReceived hl hx hsig
    rw [hrun, hstay, Bool.and_self, if_pos rfl] at hexec
    refine ⟨_, hexec, ?_, fun f hf => ?_, ha.transit.trans (taken_leaves s index x).1⟩ <;>
      rw [ha.flags, completeFlag, core_updCore_same, core_taken]
    · exact flag_bumpFlag_same _ _ _
    · exact flag_bumpFlag_ne _ _ hf
  · have ha := answerLeaves_answerTransit (taken s index x) x 1
    have hexec := exec_signalReceived hl hx hsig
    rw [hrun, Bool.false_and, if_neg Bool.false_ne_true] at hexec
    refine ⟨_, hexec, fun c => ?_, ha.transit.trans (taken_leaves s index x).1⟩
    rw [ha.flags, core_taken]
  · have honly := timeoutRecorded_only s c e
    have hmem := onlyDevice_sameMemory honly
    have hcore : ∀ d, core (incReg (timeoutRecorded s c e) .core c Off.coreGateTimeoutCount) d = core (updCore s c fireTimeout) d :=
      fun d => congrArg (tget Core.reset d) (onlyDevice_cores honly)
    refine ⟨_, exec_gateTimeout he hr hh hf hc hs hsig hop hk hw hw' ht hdue, ?_, ?_, ?_, ?_, ?_,
      fun d hd => (hcore d).trans (core_updCore_ne s _ hd), hmem⟩
    · rw [hcore, core_updCore_same]; rfl
    · rw [incReg, reg_setReg_same, timeoutCount_timeoutRecorded s c.isLt]
    all_goals rw [hcore, core_updCore_same]; rfl

end Sys2Proof.Machine
end

section
/-!
SUPPORT. What leaves every core's flags as they are, and the end of an operation: its place freed, its flag counted.
-/
namespace Sys2Proof.Machine

/-! ## Flags that stay -/

/-- Every core's flags are as before. -/
def FlagsKept (s t : State) : Prop := ∀ c, (core t c).flags = (core s c).flags

theorem FlagsKept.trans {s t u : State} (h : FlagsKept s t) (k : FlagsKept t u) : FlagsKept s u := fun c => (k c).trans (h c)

theorem flagsKept_of_cores {s t : State} (h : t.cores = s.cores) : FlagsKept s t := fun c => by rw [core, h, ← core]

theorem Noted.flagsKept {s t : State} (h : Noted s t) : FlagsKept s t := flagsKept_of_cores h.cores

theorem flags_histAddAll (slot : Nat) : ∀ (ws : List Word) (k : Core), (histAddAll k slot ws).flags = k.flags
  | [], _ => rfl
  | w :: ws, k => flags_histAddAll slot ws (histAdd k slot w)

theorem flagsKept_histRecord (s : State) (c slot : Nat) (ws : List Word) : FlagsKept s (histRecord s c slot ws) := by
  intro d
  by_cases hd : d = c
  · subst hd; rw [histRecord, core_updCore_same, flags_histAddAll]
  · rw [histRecord, core_updCore_ne _ _ hd]

/-! ## The rows of a MOVE (R194, R195) -/

theorem flagsKept_accumulateRow (s : State) (c : Nat) (o : Op) (r : Nat) : FlagsKept s (accumulateRow s c o r).1 := by
  have hsource := noted_readSource s o r
  unfold accumulateRow
  dsimp only
  split
  · exact (((hsource.trans (noted_readScales _ o r)).trans (noted_accRow _ _ _ _ _ _ _ _ _)).trans
      (noted_foldl _ _ fun j _ u => noted_setOvf u _ _ j)).flagsKept.trans (flagsKept_histRecord _ _ _ _)
  · exact (hsource.trans (noted_accRow _ _ _ _ _ _ _ _ _)).flagsKept.trans (flagsKept_histRecord _ _ _ _)

theorem flagsKept_convertRow (s : State) (c : Nat) (o : Op) (r : Nat) : FlagsKept s (convertRow s c o r).1 := by
  have hsource := noted_readSource s o r
  unfold convertRow
  dsimp only
  split
  · exact (hsource.flagsKept.trans (flagsKept_histRecord _ _ _ _)).trans
      ((noted_writeMem _ _ _ _ _).trans (noted_writeMem _ _ _ _ _)).flagsKept
  · split
    · exact ((hsource.trans (noted_readScales _ o r)).trans (noted_writeMem _ _ _ _ _)).flagsKept
    · exact (hsource.trans (noted_writeMem _ _ _ _ _)).flagsKept

theorem flagsKept_moveRow (s : State) (c : Nat) (o : Op) (r : Nat) : FlagsKept s (moveRow s c o r).1 := by
  unfold moveRow
  split
  · exact ((noted_readSource s o r).trans (noted_writeMem _ _ _ _ _)).flagsKept
  · exact (noted_fillRow s o r).flagsKept
  · exact flagsKept_accumulateRow s c o r
  · exact flagsKept_convertRow s c o r
  · exact (noted_relayoutRow s o r).flagsKept

theorem flagsKept_moveRows (c : Nat) (o : Op) (n : Nat) (s : State) : FlagsKept s (moveRows s c o n).1 := by
  induction n with
  | zero => exact (Noted.refl s).flagsKept
  | succ n ih =>
    rw [moveRows]
    exact ih.trans (flagsKept_moveRow _ c o n)

theorem noted_throttleAll (l : List (Nat × Nat)) (s : State) : Noted s (throttleAll s l) :=
  noted_foldl l s fun x _ u => noted_throttleAccess u x.1 x.2

/-! ## The end of an operation (R82, R87, R201) -/

theorem op_drop (k : Core) (id : Nat) : (k.drop id).op id = none := by
  simp [Core.op, Core.drop]

/-- A residency tag advanced leaves operations and flags. -/
theorem advanceTag_keeps (s : State) (d index core' : Nat) (poison : Bool) (c : Nat) :
    (core (advanceTag s d index core' poison) c).ops = (core s c).ops
      ∧ (core (advanceTag s d index core' poison) c).flags = (core s c).flags := by
  rw [advanceTag]
  split
  · exact ⟨rfl, rfl⟩
  · by_cases hc : c = 128 * d + core'
    · subst hc; rw [core_updCore_same]; exact ⟨rfl, rfl⟩
    · rw [core_updCore_ne _ _ hc]; exact ⟨rfl, rfl⟩

/-- An operation's place is free, and its flag has counted. -/
def opFreed (s : State) (c : Nat) (o : Op) (poison : Bool) : State := completeFlag (updCore s c (fun k => k.drop o.id)) c o.flag poison

/-- The end of an operation frees its place and counts its flag; a tag that it names may follow. -/
theorem finishOp_cases (s : State) (c : Nat) (o : Op) (poison : Bool) (tag : Option (Nat × Nat)) :
    ∃ p, finishOp s c o poison tag = opFreed s c o p
      ∨ ∃ i t, finishOp s c o poison tag = advanceTag (opFreed s c o p) (c / 128) i t poison := by
  cases tag with
  | none => exact ⟨poison || false, Or.inl rfl⟩
  | some x => exact ⟨poison || coreOffline s (c / 128 * 128 + x.2), Or.inr ⟨x.1, x.2, rfl⟩⟩

theorem finishOp_core (s : State) (c : Nat) (o : Op) (poison : Bool) (tag : Option (Nat × Nat)) :
    ∃ p, (core (finishOp s c o poison tag) c).ops = ((core s c).drop o.id).ops
      ∧ (core (finishOp s c o poison tag) c).flags = (bumpFlag (core s c) o.flag p).flags := by
  obtain ⟨p, h⟩ := finishOp_cases s c o poison tag
  have hfreed : core (opFreed s c o p) c = bumpFlag ((core s c).drop o.id) o.flag p := by
    rw [opFreed, completeFlag, core_updCore_same, core_updCore_same]
  rcases h with h | ⟨i, t, h⟩
  · rw [h, hfreed]; exact ⟨p, rfl, rfl⟩
  · obtain ⟨hops, hflags⟩ := advanceTag_keeps (opFreed s c o p) (c / 128) i t poison c
    rw [h, hops, hflags, hfreed]; exact ⟨p, rfl, rfl⟩

/-- An operation ends where nothing before it on the way moved a flag. -/
theorem opEnded_finishOp {c : Fin 512} {s u : State} {id : Nat} {o : Op} (ho : (core s c).op id = some o) (hf : FlagsKept s u)
    (poison : Bool) (tag : Option (Nat × Nat)) : opEnded c id o s (finishOp u c o poison tag) := by
  have hid : o.id = id := by simpa using List.find?_some ho
  obtain ⟨p, hops, hflags⟩ := finishOp_core u c o poison tag
  refine ⟨?_, ?_, fun f hne => ?_⟩
  · rw [Core.op, hops, ← Core.op, hid, op_drop]
  · rw [hflags, flag_bumpFlag_same, hf]
  · rw [hflags, flag_bumpFlag_ne _ _ hne, hf]

theorem advanceTag_mem (s : State) (d i t : Nat) (poison : Bool) :
    (advanceTag s d i t poison).mem = s.mem ∧ (advanceTag s d i t poison).chk = s.chk := by
  rw [advanceTag]; split <;> exact ⟨rfl, rfl⟩

theorem finishOp_memEq (s : State) (c : Nat) (o : Op) (poison : Bool) (tag : Option (Nat × Nat)) :
    memEq s (finishOp s c o poison tag) := by
  obtain ⟨p, h | ⟨i, t, h⟩⟩ := finishOp_cases s c o poison tag
  · rw [h]; exact ⟨rfl, rfl⟩
  · rw [h]; exact memEq.trans ⟨rfl, rfl⟩ (advanceTag_mem (opFreed s c o p) _ i t poison)

end Sys2Proof.Machine
end

section
/-!
PROOFS. ARRIVE and SIGNAL launch, and operations complete at their flags.
-/
namespace Sys2Proof.Machine

/-! ## Entries that send (R69, R84, R87) -/

/-- An operation has taken the next in-flight place of core `c`, and the head has moved on. -/
def launched (s : State) (c : Nat) (o : Op) : State := advanceHead (setCore s c ((core s c).push o)) c

/-- What a launch on time leaves once its operation has taken its place. -/
theorem launched_shows {s u : State} (hn : Noted s u) (c : Nat) (o : Op) :
    (core (launched u c o) c).ops = (core s c).ops ++ [{ o with id := (core s c).nextOp }]
      ∧ (launched u c o).transit = s.transit ∧ movedOn c s (launched u c o) ∧ otherCores c s (launched u c o) := by
  refine ⟨?_, (congrArg State.transit hn.fields :), movedOn_advanceHead ?_ ?_ hn.time, fun d hd => ?_⟩
  · rw [launched, advanceHead, core_updCore_same, core_setCore_same, hn.core]; rfl
  · rw [core_setCore_same, hn.core]; rfl
  · rw [core_setCore_same, hn.core]; rfl
  · rw [launched, advanceHead, core_updCore_ne _ _ hd, core_setCore_ne _ _ hd, hn.core]

/-- An ARRIVE or SIGNAL leaves core `c`: for this device as `x`, under way at once, else as the transaction `m`, which waits for
its tag. -/
def sendMessage (s : State) (c : Nat) (kind : OpKind) (here : Bool) (m : Txn) (x : Transit) : State :=
  let o := Op.mk0 kind (resident s) (core s c).alm.slot 0
  let s1 := launched s c (if here then { o with started := true } else { o with todo := [m] })
  if here then { s1 with transit := s1.transit ++ [x] } else s1

theorem sendMessage_shows {s u : State} (hn : Noted s u) (c : Nat) (kind : OpKind) (here : Bool) (m : Txn) (x : Transit) :
    (∃ o, (core (sendMessage u c kind here m x) c).ops = (core s c).ops ++ [o] ∧ o.kind = kind ∧ o.id = (core s c).nextOp
        ∧ (here = false → o.todo.length = 1))
      ∧ (sendMessage u c kind here m x).transit = s.transit ++ (if here then [x] else [])
      ∧ movedOn c s (sendMessage u c kind here m x) ∧ otherCores c s (sendMessage u c kind here m x) := by
  cases here with
  | true =>
    obtain ⟨hops, htransit, hmoved, hothers⟩ := launched_shows hn c { Op.mk0 kind (resident u) (core u c).alm.slot 0 with started := true }
    exact ⟨⟨_, hops, rfl, rfl, fun h => absurd h (by decide)⟩, congrArg (· ++ [x]) htransit, hmoved, hothers⟩
  | false =>
    obtain ⟨hops, htransit, hmoved, hothers⟩ := launched_shows hn c { Op.mk0 kind (resident u) (core u c).alm.slot 0 with todo := [m] }
    exact ⟨⟨_, hops, rfl, rfl, fun _ => rfl⟩, htransit.trans (List.append_nil _).symm, hmoved, hothers⟩

/-- The arrival that an ARRIVE entry sends to a gate of this device. -/
def entryArrival (s : State) (c : Nat) (e : QWord) : Transit :=
  ⟨false, entArg e 25 9, entArg e 19 6, resident s, none, none, c, (core s c).nextOp⟩

/-- The increment that a SIGNAL entry sends to a flag of this device. -/
def entrySignal (s : State) (c : Nat) (e : QWord) : Transit :=
  ⟨true, entArg e 26 9, entArg e 18 8, resident s, none, none, c, (core s c).nextOp⟩

theorem Noted.entryArrival {s t : State} (h : Noted s t) (c : Nat) (e : QWord) : entryArrival t c e = entryArrival s c e := by
  rw [Machine.entryArrival, h.resident, h.core, ← Machine.entryArrival]

theorem Noted.entrySignal {s t : State} (h : Noted s t) (c : Nat) (e : QWord) : entrySignal t c e = entrySignal s c e := by
  rw [Machine.entrySignal, h.resident, h.core, ← Machine.entrySignal]

theorem exec_arrive {c : Fin 512} {s : State} {e : QWord} (hl : launches s c .arrive e) (hroom : hasRoom (core s c) = true) :
    exec (.arrive c) s = .next (sendMessage (noteLaunch s c e) c .arrive (entArg e 18 1 == 1)
      ⟨.arrive, entArg e 34 14, 0, 0, 0, 0, 0, entArg e 19 6 + 64 * entArg e 25 9, 0, 0⟩ (entryArrival (noteLaunch s c e) c e)) := by
  have hexec : exec (.arrive c) s = .next (launch s c .arrive _ _) := rfl
  rw [hexec, launch_of_launches hl, hroom]
  rfl

theorem exec_signal {c : Fin 512} {s : State} {e : QWord} (hl : launches s c .signal e) (hroom : hasRoom (core s c) = true) :
    exec (.signal c) s = .next (sendMessage (noteLaunch s c e) c .signal (entArg e 17 1 == 1)
      ⟨.signal, entArg e 35 13 + 2 ^ 13 * (entId e / 128), 0, 0, 0, 0, 0, entArg e 18 8 + 256 * entArg e 26 9, 0, 0⟩
      (entrySignal (noteLaunch s c e) c e)) := by
  have hexec : exec (.signal c) s = .next (launch s c .signal _ _) := rfl
  rw [hexec, launch_of_launches hl, hroom]
  rfl

/-- An entry that sends to this device or, its bit 0, to another node. -/
theorem sendMessage_bit {c : Nat} {s u : State} (hn : Noted s u) (kind : OpKind) (bit : Nat) (m : Txn) (x : Transit) :
    (∃ o, (core (sendMessage u c kind (bit == 1) m x) c).ops = (core s c).ops ++ [o] ∧ o.kind = kind ∧ o.id = (core s c).nextOp
        ∧ (bit = 0 → o.todo.length = 1))
      ∧ (sendMessage u c kind (bit == 1) m x).transit = s.transit ++ (if bit = 1 then [x] else [])
      ∧ movedOn c s (sendMessage u c kind (bit == 1) m x) ∧ otherCores c s (sendMessage u c kind (bit == 1) m x) := by
  obtain ⟨⟨o, hops, hkind, hid, htodo⟩, htransit, hmoved, hothers⟩ := sendMessage_shows hn c kind (bit == 1) m x
  refine ⟨⟨o, hops, hkind, hid, fun hb => htodo ?_⟩, ?_, hmoved, hothers⟩
  · rw [hb]; rfl
  · simpa using htransit

/-! ## MOVE_COMPLETE, ATOMIC_COMPLETE, REDUCE_COMPLETE (R194, R281, R311) -/

theorem exec_moveComplete {c : Fin 512} {s : State} {id : Nat} {o : Op} (ho : (core s c).op id = some o) (hk : o.kind = .move)
    (hc : coreClocked s c = true) (hm : moveServed (core s c) o = true) (ht : opTesting s o = false)
    (hp : heldPages s (opPages o) = []) : ∃ poison, exec (.moveComplete c id) s
      = .next (finishOp (moveRows (throttleAll s (opRanges o)) c o (Mv.rows o.image)).1 c o poison (tagOf o.image)) := by
  have hexec : exec (.moveComplete c id) s = execMoveComplete c id s := rfl
  have hgo : ¬(o.kind ≠ .move ∨ (!moveServed (core s c) o) = true ∨ (!coreClocked s c) = true ∨ opTesting s o = true) := by
    simp [hk, hm, hc, ht]
  rw [hexec, execMoveComplete]
  simp only [ho, if_neg hgo, hp, List.isEmpty_nil, if_true]
  exact ⟨_, rfl⟩

theorem noted_atomicMem (s : State) (key a n aop x y : Nat) : Noted s (atomicMem s key a n aop x y).1 := by
  have hread := noted_readMem s key a n
  unfold atomicMem
  dsimp only
  split
  · exact hread
  · split
    · exact hread.trans (noted_writeMem _ _ _ _ _)
    · exact hread

/-- What an ATOMIC reaches: its target, and where its old value goes (R281). -/
def atomicPlaces (o : Op) (x : Txn) : List (Nat × Nat) := (x.addr, x.len) :: (if At.ret o.image then [(x.place, x.len)] else [])

theorem atomicPlaces_pages (o : Op) (x : Txn) : (atomicPlaces o x).flatMap (fun y => pagesOf y.1 y.2)
    = pagesOf x.addr x.len ++ (if At.ret o.image then pagesOf x.place x.len else []) := by
  rw [atomicPlaces, List.flatMap_cons]
  split <;> simp

theorem atomicPlaces_waits {s : State} {o : Op} {x : Txn} (hw : addrWaits s x.addr = false)
    (hr : At.ret o.image = true → addrWaits s x.place = false) : (atomicPlaces o x).any (fun y => addrWaits s y.1) = false := by
  rw [atomicPlaces, List.any_cons, hw]
  split
  · simpa using hr ‹_›
  · rfl

/-- The local controller has performed the ATOMIC `x` of `o`, its old value stored where it asks for it (R281). -/
def atomicDone (s : State) (o : Op) (x : Txn) : State :=
  let r := atomicMem (throttleAll s (atomicPlaces o x)) x.key x.addr x.len (x.arg % 8) x.operand x.compare
  if At.ret o.image then writeMem r.1 0 x.place x.len r.2.1 else r.1

theorem noted_atomicDone (s : State) (o : Op) (x : Txn) : Noted s (atomicDone s o x) := by
  have hdone := (noted_throttleAll (atomicPlaces o x) s).trans
    (noted_atomicMem _ x.key x.addr x.len (x.arg % 8) x.operand x.compare)
  exact noted_ite (fun _ => hdone.trans (noted_writeMem _ _ _ _ _)) fun _ => hdone

theorem exec_atomicComplete {c : Fin 512} {s : State} {id : Nat} {o : Op} {x : Txn} {rest : List Txn} (ho : (core s c).op id = some o)
    (hk : o.kind = .atomic) (hs : o.started = true) (hx : o.todo = x :: rest)
    (hw : (atomicPlaces o x).any (fun y => addrWaits s y.1) = false)
    (hp : heldPages s ((atomicPlaces o x).flatMap (fun y => pagesOf y.1 y.2)) = []) :
    ∃ poison, exec (.atomicComplete c id) s = .next (finishOp (atomicDone s o x) c o poison none) := by
  have hexec : exec (.atomicComplete c id) s = execAtomicComplete c id s := rfl
  have hgo : ¬(o.kind ≠ .atomic ∨ o.started = false ∨ (atomicPlaces o x).any (fun y => addrWaits s y.1) = true) := by
    simp [hk, hs, hw]
  rw [atomicPlaces] at hgo hp
  rw [hexec, execAtomicComplete]
  simp only [ho, hx, if_neg hgo, hp, List.isEmpty_nil, Bool.not_true, Bool.false_eq_true, if_false]
  exact ⟨_, rfl⟩

/-! ## The scale step of a REDUCE (R170, R311) -/

theorem noted_halveBlock (s : State) (o : Op) (i : Nat) (hold : Bool) (j : Nat) : Noted s (halveBlock s o i hold j) := by
  unfold halveBlock
  dsimp only
  refine Noted.trans ?_ ((noted_readMem _ _ _ _).trans (noted_writeMem _ _ _ _ _))
  have hcode := noted_readMem s ((((o.places.getD i []).getD 1 (0, 0)).2)) (((o.places.getD i []).getD 1 (0, 0)).1 + j) 1
  refine noted_ite (fun _ => ?_) fun _ => hcode
  exact ((hcode.trans (noted_writeMem _ _ _ _ _)).trans (noted_readMem _ _ _ _)).trans (noted_writeMem _ _ _ _ _)

/-- The flagged blocks of a SUM's chunks have taken their scale step (R170). -/
def chunksHalved (s : State) (o : Op) (hold : Bool) (l : List (Nat × List Nat)) : State :=
  l.foldl (fun s x => x.2.foldl (fun s j => halveBlock s o x.1 hold j) s) s

/-- The `n` blocks that took a scale step are recorded and counted (R173). -/
def overflowCounted (s : State) (c n : Nat) (d : Word) : State :=
  if n = 0 then s else addReg (coreRecord s c 0x07 0x01 d) .core c Off.coreNumOvfCount n

/-- A page that differs between the members is recorded at the group (R326). -/
def diffRecorded (s : State) (g : Nat) : Option Nat → State
  | some p => deviceRecord s .group 0 0x06 0x02 g (det p)
  | none => s

theorem cores_chunksHalved (s : State) (o : Op) (hold : Bool) (l : List (Nat × List Nat)) : (chunksHalved s o hold l).cores = s.cores :=
  (noted_foldl _ _ fun x _ _ => noted_foldl _ _ fun j _ v => noted_halveBlock v o x.1 hold j : Noted s (chunksHalved s o hold l)).cores

theorem cores_overflowCounted (s : State) (c n : Nat) (d : Word) : (overflowCounted s c n d).cores = s.cores := by
  rw [overflowCounted]
  split
  · rfl
  · rw [addReg_cores]
    exact onlyDevice_cores (coreRecord_only s c (cls := 0x07) (by decide) 0x01 d)

theorem cores_diffRecorded (s : State) (g : Nat) (diff : Option Nat) : (diffRecorded s g diff).cores = s.cores := by
  cases diff with
  | none => rfl
  | some p => exact onlyDevice_cores (deviceRecord_only _ _ _ _ _ _ _)

/-- What a REDUCE leaves as it ends: its scale steps taken and counted, a differing page recorded. -/
def reduceDone (s : State) (c : Nat) (o : Op) : State :=
  let n := ((flaggedChunks s o).map (fun x => x.2.length)).sum
  diffRecorded (overflowCounted (chunksHalved s o (!(core s c).heldApply) (flaggedChunks s o)) c n
    (det (Rd.group o.image * 2 ^ 24 + min n 0xFFFFFF)))
    (Rd.group o.image) o.red.diff

theorem cores_reduceDone (s : State) (c : Nat) (o : Op) : (reduceDone s c o).cores = s.cores :=
  ((cores_diffRecorded _ _ _).trans (cores_overflowCounted _ _ _ _)).trans (cores_chunksHalved _ _ _ _)

theorem exec_reduceComplete {c : Fin 512} {s : State} {id : Nat} {o : Op} (ho : (core s c).op id = some o) (hk : o.kind = .reduce)
    (hturn : Rd.chunks o.image ≤ o.red.turn) (hleft : o.red.left = 0) (ht : opTesting s o = false)
    (hp : heldPages s (flaggedPages o (flaggedChunks s o)) = []) :
    exec (.reduceComplete c id) s = .next (finishOp (reduceDone s c o) c o o.poisoned none) := by
  have hexec : exec (.reduceComplete c id) s = execReduceComplete c id s := rfl
  have hgo : ¬(o.kind ≠ .reduce ∨ o.red.turn < Rd.chunks o.image ∨ o.red.left ≠ 0 ∨ opTesting s o = true) := by
    simp [hk, hturn, hleft, ht]
  rw [hexec, execReduceComplete]
  simp only [ho, if_neg hgo, hp, List.isEmpty_nil, Bool.not_true, Bool.false_eq_true, if_false, reduceDone, overflowCounted, chunksHalved]
  cases o.red.diff <;> simp only [diffRecorded]

/-! ## The obligation -/

/-- Settles O13, clause by clause: an entry that sends takes its place and is under way or waits for its tag; what a completion does to
memory and records moves no flag, and the end of the operation then frees its place and counts its flag once. -/
theorem arrivalsLaunchAndOperationsComplete : Obligations.ArrivalsLaunchAndOperationsComplete := by
  refine ⟨fun c s e hl ht hroom => ?arrive, fun c s e hl ht hroom => ?signal, fun c s id o ho hk hc hm ht hp => ?move,
    fun c s id o x rest ho hk hs hx hw hr hp => ?atomic, fun c s id o ho hk hturn hleft ht hp => ?reduce⟩
  case arrive =>
    have hn := noted_noteLaunch_onTime c.isLt ht
    refine ⟨_, exec_arrive hl hroom, ?_⟩
    rw [hn.entryArrival]
    exact sendMessage_bit hn .arrive (entArg e 18 1) _ (entryArrival s c e)
  case signal =>
    have hn := noted_noteLaunch_onTime c.isLt ht
    refine ⟨_, exec_signal hl hroom, ?_⟩
    rw [hn.entrySignal]
    exact sendMessage_bit hn .signal (entArg e 17 1) _ (entrySignal s c e)
  case move =>
    obtain ⟨poison, hexec⟩ := exec_moveComplete ho hk hc hm ht hp
    obtain ⟨hmem, hchk⟩ := finishOp_memEq (moveRows (throttleAll s (opRanges o)) c o (Mv.rows o.image)).1 c o poison (tagOf o.image)
    exact ⟨_, hexec, opEnded_finishOp ho ((noted_throttleAll _ s).flagsKept.trans (flagsKept_moveRows c o _ _)) _ _, hmem, hchk⟩
  case atomic =>
    rw [← atomicPlaces_pages] at hp
    obtain ⟨poison, hexec⟩ := exec_atomicComplete ho hk hs hx (atomicPlaces_waits hw hr) hp
    exact ⟨_, hexec, opEnded_finishOp ho (noted_atomicDone s o x).flagsKept _ _⟩
  case reduce =>
    exact ⟨_, exec_reduceComplete ho hk hturn hleft ht hp, opEnded_finishOp ho (flagsKept_of_cores (cores_reduceDone s c o)) _ _⟩

end Sys2Proof.Machine
end

section
/-!
SUPPORT. A write of a core's page whose effect is on the core alone, and the words of GATE_CFG, GATE_ARM and TALLY_CLEAR.
-/
namespace Sys2Proof.Machine

/-! ## GATE_CFG and TALLY_CLEAR as words (R66, R138) -/

theorem regFields_gateCfg : regFields .core Off.coreGateCfg
    = [⟨0x134, 0, 15, .rw, 0, 112⟩, ⟨0x134, 15, 1, .rw, 0, 112⟩, ⟨0x134, 16, 5, .rw, 0, 112⟩, ⟨0x134, 31, 1, .rw, 0, 112⟩] := by decide

theorem regFields_tallyClear : regFields .core Off.coreTallyClear = [⟨0x20C, 0, 16, .wo, 0, 0⟩] := by decide

/-- A word with its bits [30:21] clear sets no reserved bit of GATE_CFG. -/
theorem gateCfg_defined {w : Word} (h : fld w.toNat 21 10 = 0) : w &&& ~~~(definedMask .core Off.coreGateCfg) = 0 := by
  have hmask : ~~~(definedMask .core Off.coreGateCfg) = 0x7FE00000#32 := by rw [definedMask, regFields_gateCfg]; decide
  have hones : ∀ i < 32, (0x7FE00000#32).getLsbD i = true → 21 ≤ i ∧ i - 21 < 10 := by decide
  rw [fld_eq_zero_iff] at h
  rw [hmask]
  refine BitVec.eq_of_getLsbD_eq fun i hi => ?_
  refine (BitVec.getLsbD_and ..).trans (Eq.trans ?_ BitVec.getLsbD_zero.symm)
  rw [Bool.and_eq_false_iff]
  cases hm : (0x7FE00000#32).getLsbD i with
  | false => exact Or.inr rfl
  | true =>
    obtain ⟨hlow, hhigh⟩ := hones i hi hm
    have hbit := h _ hhigh
    rw [Nat.add_sub_cancel' hlow] at hbit
    exact Or.inl hbit

theorem tallyClear_defined {w : Word} (h : w.toNat < 2 ^ 16) : w &&& ~~~(definedMask .core Off.coreTallyClear) = 0 := by
  have hmask : definedMask .core Off.coreTallyClear = BitVec.ofNat 32 (2 ^ 16 - 1) := by rw [definedMask, regFields_tallyClear]; decide
  rw [hmask]
  exact and_not_ones_of_lt h

/-- The word that arms a gate: bits [30:0] as given, ARM 1 (R67). -/
def armWord (v : BitVec 31) : Word := det (v.toNat + 2 ^ 31)

/-- The word that disarms it: ARM 0. -/
def disarmWord (v : BitVec 31) : Word := det v.toNat

theorem armWord_toNat (v : BitVec 31) : (armWord v).toNat = 2 ^ 31 + v.toNat := by
  have hv := v.isLt
  rw [armWord, det, BitVec.toNat_ofNat]
  omega

theorem disarmWord_toNat (v : BitVec 31) : (disarmWord v).toNat = v.toNat := by
  have hv := v.isLt
  rw [disarmWord, det, BitVec.toNat_ofNat]
  omega

theorem fld_armWord (v : BitVec 31) {lo w : Nat} (h : lo + w ≤ 31) : fld (armWord v).toNat lo w = fld v.toNat lo w := by
  refine Nat.eq_of_testBit_eq fun i => ?_
  rw [testBit_fld, testBit_fld, armWord_toNat]
  by_cases hi : i < w
  · rw [Nat.testBit_two_pow_add_gt (by omega)]
  · simp [hi]

theorem testBit_armWord (v : BitVec 31) {i : Nat} (h : i < 31) : (armWord v).toNat.testBit i = v.toNat.testBit i := by
  rw [armWord_toNat, Nat.testBit_two_pow_add_gt h]

theorem arm_armWord (v : BitVec 31) : (armWord v).toNat.testBit 31 = true := by
  rw [armWord_toNat, Nat.testBit_two_pow_add_eq, Nat.testBit_lt_two_pow v.isLt]
  rfl

theorem arm_disarmWord (v : BitVec 31) : (disarmWord v).toNat.testBit 31 = false := by
  rw [disarmWord_toNat, Nat.testBit_lt_two_pow v.isLt]

/-! ## A host's write of a core's page (R14, R461) -/

/-- An update of one core's state changes no health. -/
theorem healthStep_updCore (s : State) (c : Nat) (f : Core → Core) : healthStep s (updCore s c f) = updCore s c f :=
  healthStep_of_otherRegs (keys := []) (fun _ _ _ _ => rfl) (by simp)

theorem hostStore_gateCfg {s : State} (h : hostReady s .core) (c : Nat) {w : Word} (hw : fld w.toNat 21 10 = 0) :
    hostStore s .core c Off.coreGateCfg w = healthStep s (writeGateCfg s c w) := by
  have hmask := gateCfg_defined hw
  have he : regExists .core Off.coreGateCfg = true := by rw [regExists, regFields_gateCfg]; rfl
  rw [hostStore_open h c (reservedSet_defined hmask), writeReg_writePage s he hmask (by simp) (by decide)]
  rfl

theorem hostStore_tallyClear {s : State} (h : hostReady s .core) (c : Nat) {w : Word} (hw : w.toNat < 2 ^ 16) :
    hostStore s .core c Off.coreTallyClear w = healthStep s (writeTallyClear s c w) := by
  have hmask := tallyClear_defined hw
  have he : regExists .core Off.coreTallyClear = true := by rw [regExists, regFields_tallyClear]; rfl
  rw [hostStore_open h c (reservedSet_defined hmask), writeReg_writePage s he hmask (by simp) (by decide)]
  rfl

/-! ## Slots of the Tally set to CLEAR (R134, R138) -/

@[simp] theorem slotState_setSlot_same (k : Core) (sl : Nat) (v : SlotState) : slotState (k.setSlot sl v) sl = v := tget_tset_same _ _ _ _

theorem slotState_setSlot_ne (k : Core) {sl j : Nat} (v : SlotState) (h : j ≠ sl) : slotState (k.setSlot sl v) j = slotState k j :=
  tget_tset_ne _ _ _ h _

/-- The slots of a list set to CLEAR. -/
def slotsCleared (l : List Nat) (k : Core) : Core := l.foldl (fun k sl => k.setSlot sl .clear) k

theorem slotState_slotsCleared (j : Nat) : ∀ (l : List Nat) (k : Core),
    slotState (slotsCleared l k) j = if j ∈ l then .clear else slotState k j
  | [], k => by simp [slotsCleared]
  | sl :: l, k => by
    have ih := slotState_slotsCleared j l (k.setSlot sl .clear)
    rw [slotsCleared, List.foldl_cons, ← slotsCleared, ih]
    by_cases hj : j = sl
    · subst hj; simp
    · simp [hj, slotState_setSlot_ne]

theorem tiles_slotsCleared : ∀ (l : List Nat) (k : Core), (slotsCleared l k).tiles = k.tiles
  | [], _ => rfl
  | sl :: l, k => tiles_slotsCleared l (k.setSlot sl .clear)

end Sys2Proof.Machine
end

section
/-!
PROOFS. GATE_ARM, GATE_DISARM and TALLY_CLEAR write a core's gates and Tally.
-/
namespace Sys2Proof.Machine

/-! ## GATE_ARM and GATE_DISARM (R66, R67) -/

/-- A gate as a write of GATE_CFG configures it. -/
def gateConfigured (gate : Gate) (w : Word) : Gate :=
  { gate with count := BitVec.ofNat 15 (fld w.toNat 0 15), phase0 := w.toNat.testBit 15, owner := BitVec.ofNat 5 (fld w.toNat 16 5),
              arm := w.toNat.testBit 31 }

section
variable {s : State} {c g : Nat} {w : Word} (hg : rf s .core c Off.coreGateSel 0 6 = g) (hw : fld w.toNat 21 10 = 0)
include hg hw

theorem writeGateCfg_armed (hlt : g < 48) (hcount : fld w.toNat 0 15 ≠ 0) (hold : contextRuns s (gateOf (core s c) g).owner.toNat = false)
    (hnew : contextRuns s (fld w.toNat 16 5) = false) (harm : w.toNat.testBit 31 = true) (hoff : coreOffline s c = false) :
    writeGateCfg s c w = updCore s c (fun k => k.setGate g { gateConfigured (gateOf (core s c) g) w with
      arrived := 0, phase := w.toNat.testBit 15, state := .armed }) := by
  unfold writeGateCfg
  simp [hg, hw, hcount, hold, hnew, hlt, harm, hoff, gateConfigured]

theorem writeGateCfg_idle (hlt : g < 48) (hold : contextRuns s (gateOf (core s c) g).owner.toNat = false)
    (hnew : contextRuns s (fld w.toNat 16 5) = false) (harm : w.toNat.testBit 31 = false) :
    writeGateCfg s c w = updCore s c (fun k => k.setGate g { gateConfigured (gateOf (core s c) g) w with state := .idle }) := by
  unfold writeGateCfg
  simp [hg, hw, hold, hnew, hlt, harm, gateConfigured]

theorem writeGateCfg_refused (hcount : fld w.toNat 0 15 ≠ 0) (hold : contextRuns s (gateOf (core s c) g).owner.toNat = true) :
    writeGateCfg s c w = refuse s .core c 0x08 Off.coreGateCfg := by
  unfold writeGateCfg
  simp [hg, hw, hcount, hold]
end

theorem exec_gateArm (v : BitVec 31) (s : State) :
    exec (.gateArm v) s = .next (hostStore s .core (shownInstance s .core) Off.coreGateCfg (armWord v)) := rfl

theorem exec_gateDisarm (v : BitVec 31) (s : State) :
    exec (.gateDisarm v) s = .next (hostStore s .core (shownInstance s .core) Off.coreGateCfg (disarmWord v)) := rfl

theorem exec_tallyClear (v : BitVec 32) (s : State) :
    exec (.tallyClear v) s = .next (hostStore s .core (shownInstance s .core) Off.coreTallyClear v) := rfl

theorem writeTallyClear_cleared {s : State} (c : Nat) {w : Word} (hw : w.toNat < 2 ^ 16) (hr : contextRuns s (resident s) = false) :
    writeTallyClear s c w = updCore s c (slotsCleared (bitsOf 16 w.toNat)) := by
  have hhigh : fld w.toNat 16 16 = 0 := by rw [fld, Nat.shiftRight_eq_div_pow, Nat.div_eq_of_lt hw]; rfl
  rw [writeTallyClear, if_neg (not_not.2 hhigh), hr, if_neg (by simp)]
  rfl

/-! ## The obligation -/

/-- Settles O36: each write passes the page's checks, and what it then does to the gate or the slots is one update of the core. -/
theorem gatesAndTallyWritten : Obligations.GatesAndTallyWritten := by
  refine ⟨fun v s c g h hi hg hlt hres hcount hold hnew hoff => ?arm, fun v s c g h hi hg hlt hres hold hnew => ?disarm,
    fun v s c g h hi hc hg hres hcount hold => ?refused, fun v s c h hi hv hr => ?tally⟩
  case arm =>
    have hw : fld (armWord v).toNat 21 10 = 0 := (fld_armWord v (by decide)).trans hres
    have hexec := exec_gateArm v s
    rw [hi, hostStore_gateCfg h c hw, writeGateCfg_armed hg hw hlt (by rwa [fld_armWord v (by decide)]) hold
      (by rwa [fld_armWord v (by decide)]) (arm_armWord v) hoff, healthStep_updCore, gateConfigured, arm_armWord,
      testBit_armWord v (by decide), fld_armWord v (by decide), fld_armWord v (by decide)] at hexec
    refine ⟨_, hexec, ?_, fun j hj => ?_, fun d hd => core_updCore_ne s _ hd, _, rfl⟩
    · rw [core_updCore_same, gateOf_setGate_same]
    · rw [core_updCore_same, gateOf_setGate_ne _ _ hj]
  case disarm =>
    have hword := disarmWord_toNat v
    have hw : fld (disarmWord v).toNat 21 10 = 0 := by rwa [hword]
    have hexec := exec_gateDisarm v s
    rw [hi, hostStore_gateCfg h c hw, writeGateCfg_idle hg hw hlt hold (by rwa [hword]) (arm_disarmWord v), healthStep_updCore] at hexec
    refine ⟨_, hexec, ?_, ?_, fun j hj => ?_, fun d hd => core_updCore_ne s _ hd, _, rfl⟩
    · rw [core_updCore_same, gateOf_setGate_same]
    · rw [core_updCore_same, gateOf_setGate_same]; rfl
    · rw [core_updCore_same, gateOf_setGate_ne _ _ hj]
  case refused =>
    have hw : fld (armWord v).toNat 21 10 = 0 := (fld_armWord v (by decide)).trans hres
    have hexec := exec_gateArm v s
    rw [hi, hostStore_gateCfg h c hw, writeGateCfg_refused hg hw (by rwa [fld_armWord v (by decide)]) hold, healthStep_refuse] at hexec
    obtain ⟨r, o, m, hregs⟩ := refuse_only s .core c 0x08 Off.coreGateCfg
    exact ⟨_, hexec, by rw [hregs], refuse_code s .core c 0x08 _, r, o, m, hregs⟩
  case tally =>
    have hexec := exec_tallyClear v s
    rw [hi, hostStore_tallyClear h c hv, writeTallyClear_cleared c hv hr, healthStep_updCore] at hexec
    refine ⟨_, hexec, fun k hk => ?_, ?_, fun d hd => core_updCore_ne s _ hd, _, rfl⟩
    · rw [core_updCore_same, slotState_slotsCleared]
      simp only [mem_bitsOf, hk, true_and]
    · rw [core_updCore_same, tiles_slotsCleared]

end Sys2Proof.Machine
end

section
/-!
SUPPORT. The states of contexts, and what a switch that begins or ends leaves as it was (R357, R359).
-/
namespace Sys2Proof.Machine

theorem core_of_cores {s t : State} (h : t.cores = s.cores) (c : Nat) : core t c = core s c := congrArg (tget Core.reset c) h

/-! ## CTX_STATE (R357) -/

/-- A context's state and whether an image of it is held lie in one register. -/
theorem ctxState_of_reg {s t : State} {c : Nat} (h : reg t .context c Off.contextCtxState = reg s .context c Off.contextCtxState) :
    ctxState t c = ctxState s c ∧ ctxSaved t c = ctxSaved s c := by
  rw [ctxState, ctxSaved, rf, rbit, h]
  exact ⟨rfl, rfl⟩

/-- Records and memory accesses leave both, whatever becomes of the cores. -/
theorem ctxReg_noted {s t : State} (h : NotedButCores s t) {c : Nat} (hc : c < 512) :
    reg t .context c Off.contextCtxState = reg s .context c Off.contextCtxState :=
  NotedButCores.reg h (tallied_context hc (by decide) (by decide) (by decide))

theorem ctxReg_raiseInt (s : State) (c k : Nat) :
    reg (raiseInt s .context c k) .context c Off.contextCtxState = reg s .context c Off.contextCtxState :=
  raiseInt_reg s .context c k .context c _ (regKey_ne_off (by decide))

theorem ctxState_setCtxState (s : State) (c : Nat) {st : Nat} (h : st < 8) : ctxState (setCtxState s c st) c = st := by
  rw [setCtxState]
  split
  · assumption
  · exact (ctxState_of_reg (ctxReg_raiseInt _ c 1)).1.trans ((rf_setRf_same s .context c _ 0 3 st (by decide)).trans (Nat.mod_eq_of_lt h))

theorem ctxSaved_setCtxState (s : State) (c st : Nat) : ctxSaved (setCtxState s c st) c = ctxSaved s c := by
  rw [setCtxState]
  split
  · rfl
  · exact (ctxState_of_reg (ctxReg_raiseInt _ c 1)).2.trans
      (rbit_setRf_field s .context c Off.contextCtxState st (Or.inr (by decide)) (by decide))

/-- Another context's state stays. -/
theorem ctxReg_setCtxState_ne (s : State) {c d : Nat} (st : Nat) (h : d ≠ c) :
    reg (setCtxState s c st) .context d Off.contextCtxState = reg s .context d Off.contextCtxState := by
  rw [setCtxState]
  split
  · rfl
  · rw [raiseInt_reg _ _ _ _ _ _ _ (regKey_ne_inst h (by decide) (by decide)),
      reg_setRf_ne _ _ _ _ _ _ _ _ _ _ (regKey_ne_inst h (by decide) (by decide))]

theorem setCtxState_only (s : State) (c st : Nat) : onlyRegs s (setCtxState s c st) := by
  rw [setCtxState]
  split
  · exact onlyRegs_refl s
  · exact onlyRegs_trans (setReg_only s _ _ _ _) (raiseInt_only _ _ _ _)

theorem ctxSaved_setSaved (s : State) (c : Nat) (v : Bool) : ctxSaved (setSaved s c v) c = v :=
  rbit_setRbit_same s .context c Off.contextCtxState 3 v (by decide)

theorem ctxState_setSaved (s : State) (c : Nat) (v : Bool) : ctxState (setSaved s c v) c = ctxState s c :=
  rf_setRf_field s .context c Off.contextCtxState (b2n v) (Or.inl (by decide)) (by decide)

theorem dropImage_shows (s : State) (c : Nat) : ctxState (dropImage s c) c = ctxState s c ∧ ctxSaved (dropImage s c) c = false
    ∧ (dropImage s c).cores = s.cores ∧ (dropImage s c).switch = s.switch :=
  ⟨ctxState_setSaved _ c false, ctxSaved_setSaved _ c false, rfl, rfl⟩

/-! ## GLOBAL.RUN (R378) -/

/-- A field of GLOBAL.RUN is in no context's page. -/
theorem ctxReg_setRun (s : State) {c : Nat} (hc : c < 512) (lo w x : Nat) :
    reg (setRf s .global 0 Off.globalRun lo w x) .context c Off.contextCtxState = reg s .context c Off.contextCtxState :=
  reg_setRf_ne s _ _ _ _ _ _ _ _ _ (regKey_ne_page (by decide) (by decide) (by decide) (by decide) hc)

theorem resident_setRun (s : State) {c : Nat} (h : c < 32) : resident (setRf s .global 0 Off.globalRun 0 5 c) = c :=
  (rf_setRf_same s .global 0 Off.globalRun 0 5 c (by decide)).trans (Nat.mod_eq_of_lt h)

/-! ## A switch that ends or turns to a restore (R357, R359) -/

/-- What a step that changes registers alone leaves of a switch. -/
theorem onlyRegs_leaves {s t : State} (h : onlyRegs s t) : t.switch = s.switch ∧ t.cores = s.cores ∧ t.saved = s.saved
    ∧ t.partWaiting = s.partWaiting := by
  obtain ⟨r, o, m, rfl⟩ := h
  exact ⟨rfl, rfl, rfl, rfl⟩

/-- No switch is under way, and what its end leads to comes next. -/
def switchEnded (s : State) : State := { s with switch := ⟨.idle, 0, 0, .context⟩, powerStep := powerAfter s }

theorem endSwitch_only (s : State) : onlyRegs (switchEnded s) (endSwitch s) :=
  onlyRegs_trans (setReg_only (switchEnded s) _ _ _ _) (raiseInt_only _ _ _ _)

theorem endSwitch_shows (s : State) : (endSwitch s).switch = ⟨.idle, 0, 0, .context⟩ ∧ (endSwitch s).cores = s.cores
    ∧ (endSwitch s).saved = s.saved ∧ (endSwitch s).partWaiting = s.partWaiting := by
  obtain ⟨hswitch, hcores, hsaved, hwaiting⟩ := onlyRegs_leaves (endSwitch_only s)
  exact ⟨hswitch, hcores, hsaved, hwaiting⟩

theorem ctxReg_endSwitch (s : State) {c : Nat} (hc : c < 512) :
    reg (endSwitch s) .context c Off.contextCtxState = reg s .context c Off.contextCtxState :=
  ((noted_raiseInt (by decide) (by decide) _ 3).reg (tallied_context hc (by decide) (by decide) (by decide))).trans
    (ctxReg_setRun _ hc 17 1 _)

/-- A restore that begins leaves cores, images and what is resident. -/
theorem beginRestore_shows (s : State) (c : Nat) : (beginRestore s c).switch = { s.switch with phase := .restoring, next := c }
    ∧ resident (beginRestore s c) = resident s ∧ (beginRestore s c).cores = s.cores ∧ (beginRestore s c).saved = s.saved
    ∧ ctxState (beginRestore s c) c = Ctx.restoring := by
  obtain ⟨r, o, m, h⟩ := setCtxState_only { s with switch := { s.switch with phase := .restoring, next := c } } c Ctx.restoring
  refine ⟨?_, resident_setCtxState _ c _, ?_, ?_, ctxState_setCtxState _ c (by decide)⟩ <;> rw [beginRestore, h]

theorem ctxReg_beginRestore_ne (s : State) {c d : Nat} (h : d ≠ c) :
    reg (beginRestore s c) .context d Off.contextCtxState = reg s .context d Off.contextCtxState :=
  ctxReg_setCtxState_ne _ _ h

end Sys2Proof.Machine
end

section
/-!
PROOFS. A context switch asked for (R359, R378).
-/
namespace Sys2Proof.Machine

theorem regFields_globalRun : regFields .global Off.globalRun
    = [⟨0x108, 0, 5, .ro, 0, 80⟩, ⟨0x108, 8, 5, .rw, 0, 112⟩, ⟨0x108, 16, 1, .wo, 0, 0⟩, ⟨0x108, 17, 1, .ro, 0, 0⟩] := by decide

/-- The word that asks for a switch to context `n`: NEXT and REQ. -/
def requestWord (n : Nat) : Word := det (n * 2 ^ 8 + 2 ^ 16)

theorem requestWord_fields {n : Nat} (h : n < 32) : fld (requestWord n).toNat 8 5 = n ∧ bitAt (requestWord n).toNat 16 = true
    ∧ requestWord n &&& ~~~(definedMask .global Off.globalRun) = 0 := by
  have hmask : ~~~(definedMask .global Off.globalRun) = 0xFFFCE0E0#32 := by rw [definedMask, regFields_globalRun]; decide
  have hall : ∀ n < 32, fld (requestWord n).toNat 8 5 = n ∧ bitAt (requestWord n).toNat 16 = true
    ∧ requestWord n &&& 0xFFFCE0E0#32 = 0 := by decide
  rw [hmask]
  exact hall n h

theorem exec_contextSwitchReq (n : BitVec 5) {s : State} (h : s.checks = []) :
    exec (.contextSwitchReq n) s = .next (healthStep s (writeRun s (requestWord n.toNat))) := by
  have hexec : exec (.contextSwitchReq n) s
      = .next (hostStore s .global (shownInstance s .global) Off.globalRun (requestWord n.toNat)) := rfl
  have hinst : shownInstance s .global = 0 := if_neg (by decide)
  obtain ⟨-, -, hmask⟩ := requestWord_fields n.isLt
  have he : regExists .global Off.globalRun = true := by rw [regExists, regFields_globalRun]; rfl
  rw [hexec, hinst, hostStore_open ⟨rfl, h⟩ 0 (reservedSet_defined hmask),
    writeReg_writePage s he hmask (by decide) (by decide), writePage, writeGlobal, if_neg (by decide), if_pos rfl]

/-- NEXT holds context `n`. -/
def nextSet (s : State) (n : Nat) : State := setRf s .global 0 Off.globalRun 8 5 n

theorem resident_nextSet (s : State) (n : Nat) : resident (nextSet s n) = resident s :=
  rf_setRf_field s .global 0 Off.globalRun n (Or.inl (by decide)) (by decide)

section
variable {s : State} {n : Nat} (hn : n < 32)
include hn

theorem writeRun_same (hz : n ≠ 0) (hr : n = resident s) : writeRun s (requestWord n) = nextSet s n := by
  obtain ⟨hnext, hreq, hmask⟩ := requestWord_fields hn
  unfold writeRun
  rw [hnext, hreq, if_neg (not_not.2 hmask), if_pos (Or.inr ⟨hz, hr⟩)]
  rfl

theorem writeRun_refused (hr : n ≠ resident s) (hc : switchCheck s n ≠ 0) :
    writeRun s (requestWord n) = refuse s .global 0 (switchCheck s n) Off.globalRun := by
  obtain ⟨hnext, hreq, hmask⟩ := requestWord_fields hn
  unfold writeRun
  rw [hnext, hreq, if_neg (not_not.2 hmask), if_neg (by simp [hr]), if_pos hc]

theorem writeRun_asked (hr : n ≠ resident s) (hc : switchCheck s n = 0) :
    writeRun s (requestWord n) = beginSwitch (nextSet s n) n .context := by
  obtain ⟨hnext, hreq, hmask⟩ := requestWord_fields hn
  unfold writeRun
  rw [hnext, hreq, if_neg (not_not.2 hmask), if_neg (by simp [hr]), if_neg (not_not.2 hc)]
  rfl
end

theorem switchCheck_lt (s : State) (n : Nat) : switchCheck s n < 2 ^ 8 := by
  rw [switchCheck]
  split_ifs <;> decide

/-- What follows a change of HEALTH leaves the switch, cores and what is resident. -/
theorem healthStep_shows (before s : State) : (healthStep before s).switch = s.switch ∧ resident (healthStep before s) = resident s
    ∧ (healthStep before s).cores = s.cores :=
  have h := noted_healthStep before s
  ⟨(congrArg State.switch h.fields :), h.resident, h.cores⟩

/-- The switch that is under way, set. -/
def setSwitch (s : State) (w : Switch) : State := { s with switch := w }

theorem setSwitch_leaves (s : State) (w : Switch) : resident (setSwitch s w) = resident s ∧ (setSwitch s w).cores = s.cores
    ∧ ∀ k, rbit (setSwitch s w) .global 0 Off.globalRun k = rbit s .global 0 Off.globalRun k := ⟨rfl, rfl, fun _ => rfl⟩

/-- A switch to context `n` is under way, and BUSY shows it. -/
def switchBegun (s : State) (n : Nat) (p : SwitchPhase) : State :=
  setSwitch (setRbit s .global 0 Off.globalRun 17 true) ⟨p, n, s.time, .context⟩

theorem switchBegun_shows (s : State) (n : Nat) (p : SwitchPhase) : (switchBegun s n p).switch = ⟨p, n, s.time, .context⟩
    ∧ resident (switchBegun s n p) = resident s ∧ (switchBegun s n p).cores = s.cores
    ∧ rbit (switchBegun s n p) .global 0 Off.globalRun 17 = true := by
  obtain ⟨hresident, hcores, hbits⟩ := setSwitch_leaves (setRbit s .global 0 Off.globalRun 17 true) ⟨p, n, s.time, .context⟩
  exact ⟨rfl, hresident.trans (switchBit_shows s).2.2, hcores.trans (setRbit_cores ..),
    (hbits 17).trans (rbit_setRbit_same s .global 0 Off.globalRun 17 true (by decide))⟩

theorem beginSwitch_resident {s : State} (h : resident s ≠ 0) (n : Nat) : beginSwitch s n .context = switchBegun s n .requested := by
  rw [beginSwitch, if_neg h, switchBegun, setSwitch]

theorem beginSwitch_alone {s : State} (h : resident s = 0) (n : Nat) :
    beginSwitch s n .context = beginRestore (switchBegun s n .restoring) n := by
  rw [beginSwitch, if_pos h, switchBegun, setSwitch]

theorem request_resident (n : BitVec 5) {s : State} (hk : s.checks = []) (hc : switchCheck s n.toNat = 0) (hr : n.toNat ≠ resident s)
    (hz : resident s ≠ 0) : Answers (.contextSwitchReq n) s (fun t => t.switch = ⟨.requested, n.toNat, s.time, .context⟩
      ∧ resident t = resident s ∧ rbit t .global 0 Off.globalRun 17 = true ∧ t.cores = s.cores) := by
  have hres := resident_nextSet s n.toNat
  have hexec := exec_contextSwitchReq n hk
  rw [writeRun_asked n.isLt hr hc, beginSwitch_resident (by rwa [hres])] at hexec
  obtain ⟨hswitch, hresident, hcores, hbusy⟩ := switchBegun_shows (nextSet s n.toNat) n.toNat .requested
  obtain ⟨hsame, hresSame, hcoresSame⟩ := healthStep_shows s (switchBegun (nextSet s n.toNat) n.toNat .requested)
  exact ⟨_, hexec, hsame.trans hswitch, hresSame.trans (hresident.trans hres),
    ((noted_healthStep _ _).rbit (by decide) 17).trans hbusy, hcoresSame.trans hcores⟩

theorem request_alone (n : BitVec 5) {s : State} (hk : s.checks = []) (hc : switchCheck s n.toNat = 0) (hz : resident s = 0) :
    Answers (.contextSwitchReq n) s (fun t => t.switch = ⟨.restoring, n.toNat, s.time, .context⟩
      ∧ ctxState t n.toNat = Ctx.restoring ∧ resident t = 0 ∧ t.cores = s.cores) := by
  have hne : n.toNat ≠ resident s := by
    rw [hz]
    rintro h
    rw [switchCheck, if_pos h] at hc
    cases hc
  have hlt : n.toNat < 512 := lt_trans n.isLt (by decide)
  have hres := resident_nextSet s n.toNat
  have hexec := exec_contextSwitchReq n hk
  rw [writeRun_asked n.isLt hne hc, beginSwitch_alone (hres.trans hz)] at hexec
  obtain ⟨hswitchBegun, hresBegun, hcoresBegun, -⟩ := switchBegun_shows (nextSet s n.toNat) n.toNat .restoring
  generalize switchBegun (nextSet s n.toNat) n.toNat .restoring = u at *
  obtain ⟨hswitch, hresident, hcores, -, hstate⟩ := beginRestore_shows u n.toNat
  obtain ⟨hsame, hresSame, hcoresSame⟩ := healthStep_shows s (beginRestore u n.toNat)
  refine ⟨_, hexec, ?_, ?_, hresSame.trans (hresident.trans (hresBegun.trans (hres.trans hz))),
    hcoresSame.trans (hcores.trans hcoresBegun)⟩
  · rw [hsame, hswitch, hswitchBegun]; rfl
  · exact (ctxState_of_reg (ctxReg_noted (noted_healthStep s _).butCores hlt)).1.trans hstate

theorem request_refused (n : BitVec 5) {s : State} (hk : s.checks = []) (hc : switchCheck s n.toNat ≠ 0) (hr : n.toNat ≠ resident s) :
    Answers (.contextSwitchReq n) s (fun t => rf t .global 0 Off.status 8 8 = switchCheck s n.toNat ∧ resident t = resident s
      ∧ onlyRegs s t) := by
  have hexec := exec_contextSwitchReq n hk
  rw [writeRun_refused n.isLt hr hc, healthStep_refuse] at hexec
  refine ⟨_, hexec, (refuse_code s .global 0 _ _).trans (Nat.mod_eq_of_lt (switchCheck_lt s _)), ?_, refuse_only s _ _ _ _⟩
  exact resident_of_run (refuse_otherRegs s .global 0 _ _ .global 0 Off.globalRun (by decide))

theorem request_same (n : BitVec 5) {s : State} (hk : s.checks = []) (hz : n.toNat ≠ 0) (hr : n.toNat = resident s) :
    Answers (.contextSwitchReq n) s (fun t => otherRegs [regKey .global 0 Off.globalRun] s t ∧ resident t = resident s
      ∧ onlyRegs s t) := by
  have hregs : otherRegs [regKey .global 0 Off.globalRun] s (nextSet s n.toNat) := setReg_otherRegs s _ _ _ _
  have hexec := exec_contextSwitchReq n hk
  rw [writeRun_same n.isLt hz hr, healthStep_of_otherRegs hregs (by decide)] at hexec
  exact ⟨_, hexec, hregs, resident_nextSet s _, setReg_only s _ _ _ _⟩

end Sys2Proof.Machine
end

section
/-!
PROOFS. A context switches out, its arrays stop, and one that is forced off leaves (R77, R361, R362, R365).
-/
namespace Sys2Proof.Machine

/-! ## Records leave GLOBAL.RUN (R378, R443) -/

/-- A record of a page behind GLOBAL's leaves GLOBAL.RUN, whichever its number. -/
theorem run_deviceRecord {b : Block} (hb : 3 ≤ b.id) (s : State) (i cls code unit : Nat) (d : Word) :
    reg (deviceRecord s b i cls code unit d) .global 0 Off.globalRun = reg s .global 0 Off.globalRun := by
  have hset : ∀ u off v, reg (setReg u b i off v) .global 0 Off.globalRun = reg u .global 0 Off.globalRun :=
    fun u off v => run_setReg_page hb u i off v
  have hcounted : reg (incReg (setRbit s b i Off.err (code - 1) true) b i Off.eventCount) .global 0 Off.globalRun
      = reg s .global 0 Off.globalRun := (hset _ _ _).trans (hset _ _ _)
  have hcount : reg (countRecord s b i code d) .global 0 Off.globalRun = reg s .global 0 Off.globalRun := by
    unfold countRecord
    refine (hset _ _ _).trans ?_
    split
    · exact ((hset _ _ _).trans (hset _ _ _)).trans hcounted
    · exact hcounted
  exact ((noted_devqPush _ _).reg (by decide)).trans (((noted_msixOnRise _ _ _ _).reg (by decide)).trans hcount)

/-! ## SWITCH_OUT and FORCED_OFF (R77, R361) -/

theorem arrivals_applyArrivals (k : Core) : (applyArrivals k).arrivals = [] := by
  have hfold : ∀ (l : List Nat) (k : Core), (l.foldl (fun k g => k.setGate g (gateOf k g).arrive) k).arrivals = k.arrivals := by
    intro l
    induction l with
    | nil => exact fun _ => rfl
    | cons g l ih => exact fun k => ih _
  exact hfold _ _

/-- The record for a head in a GATE wait leaves cores, the switch and GLOBAL.RUN. -/
theorem ownerLostWaiter_leaves (s : State) (c : Nat) : (ownerLostWaiter s c).cores = s.cores
    ∧ (ownerLostWaiter s c).switch = s.switch
    ∧ reg (ownerLostWaiter s c) .global 0 Off.globalRun = reg s .global 0 Off.globalRun := by
  unfold ownerLostWaiter
  dsimp only
  split
  · exact ⟨rfl, rfl, rfl⟩
  · generalize det _ = d
    split
    · have honly := coreRecord_only s c (cls := 0x01) (by decide) 0x02 d
      refine ⟨onlyDevice_cores honly, ?_, ?_⟩
      · obtain ⟨r, o, m, q, h⟩ := honly
        rw [h]
      · rw [coreRecord, if_neg (by decide)]
        exact run_deviceRecord (by decide) s c _ _ _ d
    · exact ⟨rfl, rfl, rfl⟩

/-- One core switches out. -/
def coreOut (s : State) (c : Nat) : State := ownerLostWaiter (updCore s c applyArrivals) c

theorem coreOut_leaves (s : State) (c : Nat) : (coreOut s c).switch = s.switch ∧ resident (coreOut s c) = resident s
    ∧ (core (coreOut s c) c).arrivals = [] ∧ otherCores c s (coreOut s c) := by
  obtain ⟨hcores, hswitch, hrun⟩ := ownerLostWaiter_leaves (updCore s c applyArrivals) c
  have hcore : ∀ d, core (coreOut s c) d = core (updCore s c applyArrivals) d := core_of_cores hcores
  refine ⟨hswitch, resident_of_run hrun, ?_, fun d hd => (hcore d).trans (core_updCore_ne s _ hd)⟩
  rw [hcore, core_updCore_same, arrivals_applyArrivals]

theorem coresOut_leaves : ∀ (l : List Nat) (s : State), (l.foldl coreOut s).switch = s.switch
    ∧ resident (l.foldl coreOut s) = resident s
    ∧ ∀ c, c ∈ l ∨ (core s c).arrivals = [] → (core (l.foldl coreOut s) c).arrivals = []
  | [], s => ⟨rfl, rfl, fun c h => h.resolve_left List.not_mem_nil⟩
  | a :: l, s => by
    obtain ⟨hswitch, hresident, hown, hothers⟩ := coreOut_leaves s a
    obtain ⟨hswitches, hresidents, harrivals⟩ := coresOut_leaves l (coreOut s a)
    refine ⟨hswitches.trans hswitch, hresidents.trans hresident, fun c hc => harrivals c ?_⟩
    by_cases hca : c = a
    · subst hca
      exact Or.inr hown
    · rw [hothers c hca]
      exact hc.imp_left fun h => (List.mem_cons.1 h).resolve_left hca

/-- A key that a table does not hold reads its default. -/
theorem tget_of_notMem {α : Type} (d : α) {k : Nat} : ∀ {t : Table α}, k ∉ t.map Prod.fst → tget d k t = d
  | [], _ => rfl
  | (j, v) :: t, h => by
    obtain ⟨hne, hrest⟩ := not_or.1 (fun hc => h (List.mem_cons.2 hc))
    rw [tget, if_neg hne, tget_of_notMem d hrest]

/-- The switch has come to a phase. -/
def atPhase (s : State) (p : SwitchPhase) : State := setSwitch s { s.switch with phase := p }

theorem switchOut_shows (s : State) : (switchOut s).switch.phase = .draining ∧ resident (switchOut s) = resident s
    ∧ ∀ c, (core (switchOut s) c).arrivals = [] := by
  obtain ⟨hswitch, hresident, harrivals⟩ := coresOut_leaves (s.cores.map Prod.fst) (atPhase s .draining)
  refine ⟨congrArg Switch.phase hswitch, hresident, fun c => harrivals c ?_⟩
  by_cases hc : c ∈ s.cores.map Prod.fst
  · exact Or.inl hc
  · have hreset : core s c = Core.reset := tget_of_notMem _ hc
    exact Or.inr (congrArg Core.arrivals hreset)

theorem exec_switchOut {s : State} (hp : s.switch.phase = .requested) (hn : notAtPoint s = []) :
    exec .switchOut s = .next (switchOut s) := if_pos ⟨hp, by rw [hn]; rfl⟩

theorem exec_forcedOff {s : State} (hp : s.switch.phase = .requested) (hn : notAtPoint s ≠ [])
    (ht : s.switch.since.toNat + 25000 ≤ s.time.toNat) : exec .forcedOff s
      = .next (switchOut (deviceRecord s .context (resident s) 0x09 0x02 (resident s) (det (notAtPoint s).length))) :=
  if_pos ⟨hp, fun h => hn (List.length_eq_zero_iff.1 h), ht⟩

/-! ## SAVE_START (R361, R362) -/

/-- What an array that stops leaves of its core. -/
def paused (k k' : Core) : Prop := k'.alm = k.alm ∧ k'.gates = k.gates ∧ k'.flags = k.flags ∧ k'.vec = k.vec
  ∧ k'.mxRuns.map MatrixRun.desc = k.mxRuns.map MatrixRun.desc

theorem paused_of_eq {k k' : Core} (h : k' = k) : paused k k' := h ▸ ⟨rfl, rfl, rfl, rfl, rfl⟩

theorem paused_trans {k k' k'' : Core} (h : paused k k') (h' : paused k' k'') : paused k k'' := by
  obtain ⟨halm, hgates, hflags, hvec, hruns⟩ := h
  obtain ⟨halm', hgates', hflags', hvec', hruns'⟩ := h'
  exact ⟨halm'.trans halm, hgates'.trans hgates, hflags'.trans hflags, hvec'.trans hvec, hruns'.trans hruns⟩

/-- The stopped state of an array takes the place of its run, and keeps its descriptor. -/
theorem paused_replace (k : Core) (r : MatrixRun) {r' : MatrixRun} (h : r'.desc = r.desc) :
    paused k { k with mxRuns := k.mxRuns.map (fun x => if x = r then r' else x) } := by
  refine ⟨rfl, rfl, rfl, rfl, ?_⟩
  rw [List.map_map]
  refine List.map_congr_left fun x _ => ?_
  show (if x = r then r' else x).desc = x.desc
  split
  · rw [h, ‹x = r›]
  · rfl

/-- What is read is made opaque here and below, so that no proof term computes with it. -/
theorem noted_readRows (s : State) (c base n i : Nat) : Noted s (readRows s c base n i).1 := by
  have hread : ∀ u a, Noted u (readMem u 0 a n).1 := fun u a => noted_readMem u 0 a n
  delta readRows readRows._f
  obtain ⟨read, hr⟩ : ∃ f, f = readMem := exists_eq
  obtain ⟨place, hp⟩ : ∃ f, f = larderAddr := exists_eq
  rw [← hr] at hread ⊢
  rw [← hp]
  induction i with
  | zero => exact Noted.refl s
  | succ i ih => exact ih.trans (hread _ _)

theorem noted_readOperands (s : State) (c : Nat) (d : BitVec 512) (j p : Nat) : Noted s (readOperands s c d j p).1 := by
  have hread : ∀ u a n, Noted u (readMem u 0 a n).1 := fun u a n => noted_readMem u 0 a n
  have hrows : ∀ u base n i, Noted u (readRows u c base n i).1 := fun u base n i => noted_readRows u c base n i
  unfold readOperands
  obtain ⟨read, hr⟩ : ∃ f, f = readMem := exists_eq
  obtain ⟨rows, hw⟩ : ∃ f, f = readRows := exists_eq
  obtain ⟨place, hp⟩ : ∃ f, f = larderAddr := exists_eq
  rw [← hr] at hread ⊢
  rw [← hw] at hrows ⊢
  rw [← hp]
  have hscale : ∀ (q : Prop) [Decidable q] (u : State) (base n i : Nat),
      Noted u (if q then rows u c base n i else (u, [], true)).1 := by
    intro q _ u base n i
    split
    · exact hrows u base n i
    · exact Noted.refl u
  exact ((((hrows s _ _ _).trans (hrows _ _ _ _)).trans (hscale _ _ _ _ _)).trans (hscale _ _ _ _ _)).trans (hread _ _ _)

theorem paused_pauseArray (s : State) (c d : Nat) : paused (core s d) (core (pauseArray s c) d) := by
  have hread : ∀ u image j p, Noted u (readOperands u c image j p).1 := fun u image j p => noted_readOperands u c image j p
  unfold pauseArray
  obtain ⟨read, hr⟩ : ∃ f, f = readOperands := exists_eq
  rw [← hr] at hread ⊢
  split
  · exact paused_of_eq rfl
  · rename_i r _
    dsimp only
    split
    · exact paused_of_eq rfl
    · generalize hu : read _ _ _ _ _ = x
      generalize List.map _ (List.range 4096) = acc
      have hx : Noted s x.1 := hu ▸ (noted_freshWord s).trans (hread _ _ _ _)
      have hcore : ∀ n e, core (addReg64 x.1 .core c Off.coreMxActiveLo n) e = core s e := fun n e =>
        core_of_cores ((addReg64_cores ..).trans hx.cores) e
      by_cases hd : d = c
      · subst hd
        rw [core_updCore_same, hcore]
        exact paused_replace (core s d) r rfl
      · rw [core_updCore_ne _ _ hd, hcore]
        exact paused_of_eq rfl

theorem paused_pauseArrays (d : Nat) : ∀ (l : List Nat) (s : State), paused (core s d) (core (l.foldl pauseArray s) d)
  | [], _ => paused_of_eq rfl
  | c :: l, s => paused_trans (paused_pauseArray s c d) (paused_pauseArrays d l (pauseArray s c))

/-- Every array has stopped. -/
def arraysPaused (s : State) : State := (s.cores.map Prod.fst).foldl pauseArray s

theorem beginSave_eq (s : State) : beginSave s
    = setCtxState (atPhase (arraysPaused s) .saving) (resident s) Ctx.saving := rfl

theorem beginSave_shows (s : State) : (beginSave s).switch.phase = .saving ∧ ctxState (beginSave s) (resident s) = Ctx.saving
    ∧ ∀ c, paused (core s c) (core (beginSave s) c) := by
  have hpaused : ∀ c, paused (core s c) (core (arraysPaused s) c) := fun c => paused_pauseArrays c (s.cores.map Prod.fst) s
  rw [beginSave_eq]
  generalize arraysPaused s = u at hpaused ⊢
  obtain ⟨hswitch, hcores, -, -⟩ := onlyRegs_leaves (setCtxState_only (atPhase u .saving) (resident s) Ctx.saving)
  refine ⟨congrArg Switch.phase hswitch, ctxState_setCtxState _ _ (by decide), fun c => ?_⟩
  rw [core_of_cores hcores]
  exact hpaused c

theorem exec_saveStart_saves {s : State} (hp : s.switch.phase = .draining) (hg : s.switch.goal ≠ .lost)
    (hd : s.cores.all (fun x => x.2.ops.isEmpty) = true) : exec .saveStart s = .next (beginSave s) := by
  have hexec : exec .saveStart s = execSaveStart s := rfl
  have hwaits : forcedWaits s = false := by
    rw [forcedWaits, hp, Bool.and_eq_false_iff]
    exact Or.inr (beq_eq_false_iff_ne.2 hg)
  rw [hexec, execSaveStart, hwaits, if_neg (by simp), if_pos ⟨hp, hd⟩]

/-! ## A context that was forced off leaves (R361, R365) -/

/-- The cores as a context leaves them. -/
theorem core_leaveCores (s : State) (c : Nat) : core (leaveCores s) c = leftCore (core s c) := core_map s leftCore rfl c

theorem forcedGone_shows (s : State) : resident (forcedGone s) = 0 ∧ ctxState (forcedGone s) (resident s) = Ctx.ready
    ∧ ctxSaved (forcedGone s) (resident s) = false ∧ forcedWaits (forcedGone s) = false
    ∧ (forcedGone s).partWaiting = s.partWaiting ∧ ∀ c, core (forcedGone s) c = leftCore (core s c) := by
  refine ⟨resident_forcedGone s, ?_⟩
  have hlt : resident s < 512 := (resident_lt s).trans (by decide)
  unfold forcedGone
  obtain ⟨u, hu⟩ : ∃ u, u = setRf (leaveCores (closeContext s (resident s))) .global 0 Off.globalRun 0 5 0 := exists_eq
  have hcore : ∀ c, core u c = leftCore (core s c) := fun c => by
    rw [hu, core_of_cores (setRf_cores ..), core_leaveCores]; rfl
  have hwaiting : u.partWaiting = s.partWaiting := by rw [hu]; rfl
  dsimp only
  rw [← hu]
  obtain ⟨-, hcoresSet, -, hwaitingSet⟩ := onlyRegs_leaves (setCtxState_only u (resident s) Ctx.ready)
  obtain ⟨hstate, hsaved, hcoresDrop, -⟩ := dropImage_shows (setCtxState u (resident s) Ctx.ready) (resident s)
  have hreg := ctxReg_endSwitch (dropImage (setCtxState u (resident s) Ctx.ready) (resident s)) hlt
  obtain ⟨hswitch, hcoresEnd, -, hwaitingEnd⟩ := endSwitch_shows (dropImage (setCtxState u (resident s) Ctx.ready) (resident s))
  refine ⟨?_, ?_, ?_, ?_, fun c => ?_⟩
  · rw [(ctxState_of_reg hreg).1, hstate, ctxState_setCtxState u _ (by decide)]
  · rw [(ctxState_of_reg hreg).2, hsaved]
  · rw [forcedWaits, hswitch]; rfl
  · exact hwaitingEnd.trans (hwaitingSet.trans hwaiting)
  · rw [core_of_cores hcoresEnd, core_of_cores hcoresDrop, core_of_cores hcoresSet, hcore]

theorem partitionGo_none {s : State} (hw : forcedWaits s = false) (hp : s.partWaiting = []) : partitionGo s = s := by
  rw [partitionGo, hw, hp]
  cases s
  cases hp
  rfl

theorem exec_saveStart_leaves {s : State} (hp : s.switch.phase = .draining) (hg : s.switch.goal = .lost)
    (hd : s.cores.all (fun x => x.2.ops.isEmpty) = true) (hw : s.partWaiting = []) : exec .saveStart s = .next (forcedGone s) := by
  have hexec : exec .saveStart s = execSaveStart s := rfl
  have hwaits : forcedWaits s = true := by rw [forcedWaits, hp, hg]; rfl
  obtain ⟨-, -, -, hgone, hwaiting, -⟩ := forcedGone_shows s
  rw [hexec, execSaveStart, hwaits, if_pos rfl, drained, hd, if_pos rfl, partitionGo_none hgone (hwaiting.trans hw)]

end Sys2Proof.Machine
end

section
/-!
PROOFS. The save of a context ends (R77, R357, R362).
-/
namespace Sys2Proof.Machine

/-! ## What a save writes (R362) -/

theorem noted_copyMem (s : State) (keyFrom src keyTo dst n : Nat) : Noted s (copyMem s keyFrom src keyTo dst n) :=
  (noted_readMem s keyFrom src n).trans (noted_writeMem _ keyTo dst n _)

theorem noted_freshBytes : ∀ (n : Nat) (s : State), Noted s (freshBytes s n).1
  | 0, s => Noted.refl s
  | n + 1, s => (noted_freshWord s).trans (noted_freshBytes n _)

/-- A step of a core, of a context, that notes. -/
def NotesEach (f : State → Nat → Nat → State) : Prop := ∀ s ctx c, Noted s (f s ctx c)

/-- What is drawn is made opaque as soon as the save's text is there, so that no proof term counts its bytes. -/
theorem notesEach_saveCore : NotesEach saveCore := by
  have hfresh : ∀ n u, Noted u (freshBytes u n).1 := noted_freshBytes
  have hcopy : ∀ (l : List (Nat × Nat × Nat)) (key base : Nat) (u : State),
      Noted u (l.foldl (fun s p => copyMem s 0 p.2.1 key (base + p.1) p.2.2) u) :=
    fun l key base u => noted_foldl l u fun p _ v => noted_copyMem v 0 p.2.1 key (base + p.1) p.2.2
  delta saveCore
  obtain ⟨fresh, hf⟩ : ∃ f, f = freshBytes := exists_eq
  rw [← hf] at hfresh ⊢
  intro s ctx c
  exact ((hcopy _ _ _ s).trans (hfresh _ _)).trans (noted_writeMem _ _ _ _ _)

/-- Every core's part has been written to its slot. -/
def coresSaved (s : State) (ctx : Nat) : State := (List.range 512).foldl (fun s c => saveCore s ctx c) s

theorem noted_coresSaved (s : State) (ctx : Nat) : Noted s (coresSaved s ctx) := noted_foldl _ s fun c _ u => notesEach_saveCore u ctx c

/-! ## The image (R362) -/

/-- Entries written one after another, each under its own key. -/
theorem tget_foldl_tset (f : Nat → Core) (base c : Nat) : ∀ (l : List Nat) (t : Table Core),
    c ∈ l ∨ tget Core.reset (base + c) t = f c →
    tget Core.reset (base + c) (l.foldl (fun t c => tset Core.reset (base + c) (f c) t) t) = f c
  | [], _, h => h.resolve_left List.not_mem_nil
  | a :: l, t, h => by
    refine tget_foldl_tset f base c l _ ?_
    by_cases hca : c = a
    · subst hca
      exact Or.inr (tget_tset_same _ _ _ _)
    · rw [tget_tset_ne _ _ _ (by omega)]
      exact h.imp_left fun hm => (List.mem_cons.1 hm).resolve_left hca

/-- The images once that of `ctx` has been replaced by the cores as they stand in `s`. -/
def imagesWith (s : State) (ctx : Nat) (old : Table Core) : Table Core :=
  (List.range 512).foldl (fun t c => tset Core.reset (512 * ctx + c) (savedCore (core s c) ctx) t)
    (old.filter (fun e => e.1 / 512 != ctx))

theorem image_imagesWith (s : State) (ctx : Nat) (old : Table Core) {c : Nat} (hc : c < 512) :
    tget Core.reset (512 * ctx + c) (imagesWith s ctx old) = savedCore (core s c) ctx :=
  tget_foldl_tset (fun c => savedCore (core s c) ctx) (512 * ctx) c _ _ (Or.inl (List.mem_range.2 hc))

/-! ## SAVE_DONE (R357, R362) -/

/-- The images of contexts, and the keys that they were written under, set. -/
def setImages (s : State) (images : Table Core) (draws : Table Nat) : State := { s with saved := images, savedDraw := draws }

theorem setImages_leaves (s : State) (images : Table Core) (draws : Table Nat) : (setImages s images draws).switch = s.switch
    ∧ (setImages s images draws).saved = images ∧ (setImages s images draws).cores = s.cores := ⟨rfl, rfl, rfl⟩

/-- The image lies in the slots, and the context has left the cores. -/
def imageHeld (s : State) (ctx : Nat) : State :=
  leaveCores (setImages (coresSaved s ctx) (imagesWith s ctx (coresSaved s ctx).saved)
    (tset 0 ctx (tget 0 (saveKey s ctx) s.keyDraws) (coresSaved s ctx).savedDraw))

theorem leaveCores_leaves (s : State) : (leaveCores s).switch = s.switch ∧ (leaveCores s).saved = s.saved := ⟨rfl, rfl⟩

theorem imageHeld_shows (s : State) (ctx : Nat) : (imageHeld s ctx).switch = s.switch
    ∧ (imageHeld s ctx).saved = imagesWith s ctx (coresSaved s ctx).saved
    ∧ ∀ c, core (imageHeld s ctx) c = leftCore (core s c) := by
  have hnoted := noted_coresSaved s ctx
  have hswitchSaved : (coresSaved s ctx).switch = s.switch := (congrArg State.switch hnoted.fields :)
  unfold imageHeld
  obtain ⟨hswitch, himages, hcores⟩ := setImages_leaves (coresSaved s ctx) (imagesWith s ctx (coresSaved s ctx).saved)
    (tset 0 ctx (tget 0 (saveKey s ctx) s.keyDraws) (coresSaved s ctx).savedDraw)
  obtain ⟨hswitchLeft, hsavedLeft⟩ := leaveCores_leaves (setImages (coresSaved s ctx) (imagesWith s ctx (coresSaved s ctx).saved)
    (tset 0 ctx (tget 0 (saveKey s ctx) s.keyDraws) (coresSaved s ctx).savedDraw))
  refine ⟨hswitchLeft.trans (hswitch.trans hswitchSaved), hsavedLeft.trans himages, fun c => ?_⟩
  rw [core_leaveCores, core_of_cores hcores, hnoted.core]

/-- The context is READY with its image, and none is resident. -/
def contextSaved (s : State) : State :=
  setRf (setSaved (setCtxState (imageHeld s (resident s)) (resident s) Ctx.ready) (resident s) true) .global 0 Off.globalRun 0 5 0

theorem contextSaved_shows (s : State) : ctxState (contextSaved s) (resident s) = Ctx.ready
    ∧ ctxSaved (contextSaved s) (resident s) = true ∧ resident (contextSaved s) = 0
    ∧ (contextSaved s).switch = s.switch
    ∧ (contextSaved s).saved = imagesWith s (resident s) (coresSaved s (resident s)).saved
    ∧ ∀ c, core (contextSaved s) c = leftCore (core s c) := by
  have hlt : resident s < 512 := (resident_lt s).trans (by decide)
  obtain ⟨hswitch, hsaved, hcore⟩ := imageHeld_shows s (resident s)
  unfold contextSaved
  generalize imageHeld s (resident s) = u at hswitch hsaved hcore ⊢
  obtain ⟨hstate, himage⟩ := ctxState_of_reg (ctxReg_setRun (setSaved (setCtxState u (resident s) Ctx.ready) (resident s) true) hlt 0 5 0)
  obtain ⟨hswitchLeft, hcoresLeft, hsavedLeft, -⟩ := onlyRegs_leaves (onlyRegs_trans (onlyRegs_trans
    (setCtxState_only u (resident s) Ctx.ready) (setReg_only _ .context (resident s) Off.contextCtxState _))
    (setReg_only _ .global 0 Off.globalRun _))
  refine ⟨?_, ?_, resident_setRun _ (by decide), hswitchLeft.trans hswitch, hsavedLeft.trans hsaved,
    fun c => (core_of_cores hcoresLeft c).trans (hcore c)⟩
  · rw [hstate, ctxState_setSaved, ctxState_setCtxState u _ (by decide)]
  · rw [himage, ctxSaved_setSaved]

/-- What follows leaves cores, images, what is resident and every context but the next. -/
theorem outgoingGone_leaves (s : State) : resident (outgoingGone s) = resident s ∧ (outgoingGone s).cores = s.cores
    ∧ (outgoingGone s).saved = s.saved
    ∧ ∀ c, c < 512 → s.switch.next ≠ c →
      reg (outgoingGone s) .context c Off.contextCtxState = reg s .context c Off.contextCtxState := by
  unfold outgoingGone
  dsimp only
  split
  · obtain ⟨-, hcores, hsaved, -⟩ := endSwitch_shows s
    exact ⟨resident_endSwitch s, hcores, hsaved, fun c hc _ => ctxReg_endSwitch s hc⟩
  · obtain ⟨-, hresident, hcores, hsaved, -⟩ := beginRestore_shows s s.switch.next
    exact ⟨hresident, hcores, hsaved, fun c _ hne => ctxReg_beginRestore_ne s (Ne.symm hne)⟩

theorem exec_saveDone {s : State} (hp : s.switch.phase = .saving) (ht : (List.range 4).any (bondTesting s) = false) :
    exec .saveDone s = .next (outgoingGone (contextSaved s)) := by
  have hexec : exec .saveDone s = execSaveDone s := rfl
  rw [hexec, execSaveDone, if_neg (by rw [hp, ht]; simp)]
  rfl

theorem saveDone_shows {s : State} (hp : s.switch.phase = .saving) (ht : (List.range 4).any (bondTesting s) = false)
    (hn : s.switch.next ≠ resident s) :
    Answers .saveDone s (fun t => ctxState t (resident s) = Ctx.ready ∧ ctxSaved t (resident s) = true ∧ resident t = 0
      ∧ (∀ c, c < 512 → tget Core.reset (512 * resident s + c) t.saved = savedCore (core s c) (resident s))
      ∧ ∀ c, (core t c).alm = .reset ∧ (core t c).ops = [] ∧ (core t c).gates = (core s c).gates) := by
  have hlt : resident s < 512 := (resident_lt s).trans (by decide)
  obtain ⟨hstate, himage, hresident, hswitch, hsaved, hcore⟩ := contextSaved_shows s
  refine ⟨_, exec_saveDone hp ht, ?_⟩
  generalize contextSaved s = u at *
  obtain ⟨hresLeft, hcoresLeft, hsavedLeft, hregs⟩ := outgoingGone_leaves u
  obtain ⟨hstateLeft, himageLeft⟩ := ctxState_of_reg (hregs (resident s) hlt (by rwa [hswitch]))
  refine ⟨hstateLeft.trans hstate, himageLeft.trans himage, hresLeft.trans hresident, fun c hc => ?_, fun c => ?_⟩
  · rw [hsavedLeft, hsaved, image_imagesWith s _ _ hc]
  · rw [core_of_cores hcoresLeft, hcore]
    exact ⟨rfl, rfl, rfl⟩

end Sys2Proof.Machine
end

section
/-!
SUPPORT. What a step command that takes effect leaves: what is resident, the context's state, the switch, and cores that stand IDLE
(R175, R317, R318).
-/
namespace Sys2Proof.Machine

/-! ## The relation -/

/-- What a step command that takes effect on context `ctx` leaves; a core that has not been started stays so. -/
structure StepKept (ctx : Nat) (s t : State) : Prop where
  run : reg t .global 0 Off.globalRun = reg s .global 0 Off.globalRun
  ctxReg : reg t .context ctx Off.contextCtxState = reg s .context ctx Off.contextCtxState
  switch : t.switch = s.switch
  idle : (∀ c, (core s c).alm = .reset) → ∀ c, (core t c).alm = .reset

theorem StepKept.refl (ctx : Nat) (s : State) : StepKept ctx s s := ⟨rfl, rfl, rfl, fun h => h⟩

theorem StepKept.trans {ctx : Nat} {s t u : State} (h : StepKept ctx s t) (k : StepKept ctx t u) : StepKept ctx s u :=
  ⟨k.run.trans h.run, k.ctxReg.trans h.ctxReg, k.switch.trans h.switch, fun hi => k.idle (h.idle hi)⟩

theorem Noted.stepKept {s t : State} (h : Noted s t) {ctx : Nat} (hc : ctx < 512) : StepKept ctx s t :=
  ⟨h.reg (by decide), ctxReg_noted h.butCores hc, (congrArg State.switch h.fields :), fun hi c => by rw [h.core]; exact hi c⟩

theorem stepKept_foldl {α : Type} {ctx : Nat} {f : State → α → State} (hf : ∀ u x, StepKept ctx u (f u x)) :
    ∀ (l : List α) (s : State), StepKept ctx s (l.foldl f s)
  | [], s => StepKept.refl ctx s
  | x :: l, s => (hf s x).trans (stepKept_foldl hf l (f s x))

/-- Another register of the context's page. -/
theorem stepKept_setReg (ctx : Nat) (s : State) {off : Nat} (v : Word) (h : Off.contextCtxState / 4 ≠ off / 4) :
    StepKept ctx s (setReg s .context ctx off v) :=
  ⟨run_setReg_page (by decide) s ctx off v, reg_setReg_ne s .context .context ctx ctx off _ v (regKey_ne_off h), rfl, fun hi => hi⟩

/-! ## Scale slots (R175) -/

/-- A chain of steps each of which notes, and carries a value along. -/
theorem noted_foldl_pair {α β : Type} {f : State × β → α → State × β} (h : ∀ x a, Noted x.1 (f x a).1) :
    ∀ (l : List α) (x : State × β), Noted x.1 (l.foldl f x).1
  | [], x => Noted.refl x.1
  | a :: l, x => (h x a).trans (noted_foldl_pair h l (f x a))

theorem noted_readAmax (s : State) (ctx slot : Nat) : Noted s (readAmax s ctx slot).1 := by
  have hread : ∀ u a n, Noted u (readMem u 0 a n).1 := fun u a n => noted_readMem u 0 a n
  unfold readAmax
  obtain ⟨read, hr⟩ : ∃ f, f = readMem := exists_eq
  obtain ⟨place, hp⟩ : ∃ f, f = tscaleAddr := exists_eq
  rw [← hr] at hread ⊢
  rw [← hp]
  refine noted_foldl_pair (fun x d => ?_) _ (s, 0)
  exact hread x.1 _ _

theorem noted_zeroAmax (s : State) (ctx : Nat) : Noted s (zeroAmax s ctx) :=
  noted_foldl _ s fun d _ u => noted_foldl _ u fun k _ v => noted_writeMem v 0 (tscaleAddr v ctx d k) 4 0

theorem stepKept_setTscale (ctx : Nat) (s : State) (slot : Nat) (v : TScale) : StepKept ctx s (setTscale s ctx slot v) :=
  ⟨rfl, rfl, rfl, fun h => h⟩

section
variable {ctx : Nat} (hc : ctx < 512)
include hc

theorem stepKept_updateTscale (s : State) (slot : Nat) : StepKept ctx s (updateTscale s ctx slot) := by
  have hread := (noted_readAmax s ctx slot).stepKept hc
  have hsigma : ∀ u, StepKept ctx u (writeSigma u ctx slot) := fun u => (noted_writeSigma u ctx slot).stepKept hc
  unfold updateTscale
  obtain ⟨sigma, hs⟩ : ∃ f, f = writeSigma := exists_eq
  obtain ⟨x, hx⟩ : ∃ x, x = readAmax s ctx slot := exists_eq
  rw [← hs] at hsigma ⊢
  rw [← hx] at hread ⊢
  dsimp only
  split
  · exact StepKept.refl ctx s
  · split
    · exact (hread.trans (stepKept_setReg ctx _ _ (by decide))).trans (hsigma _)
    · exact (hread.trans (stepKept_setTscale ctx _ slot _)).trans (hsigma _)

theorem stepKept_updateTscales (s : State) : StepKept ctx s (updateTscales s ctx) :=
  (stepKept_foldl (fun u k => stepKept_updateTscale hc u k) _ s).trans ((noted_zeroAmax _ ctx).stepKept hc)

end

/-! ## Decisions (R318, R319) -/

theorem stepKept_setReg64 (ctx : Nat) (s : State) {lo : Nat} (v : DWord) (h : Off.contextCtxState / 4 ≠ lo / 4)
    (h4 : Off.contextCtxState / 4 ≠ (lo + 4) / 4) : StepKept ctx s (setReg64 s .context ctx lo v) :=
  (stepKept_setReg ctx s _ h).trans (stepKept_setReg ctx _ _ h4)

/-- A counted COMMIT of a core is decided. -/
def commitDecided (drop : Bool) (k : Core) : Core :=
  { k with alm := { k.alm with commit := if (commitHead k).isSome then some drop else k.alm.commit } }

theorem alm_commitDecided {k : Core} (h : k.alm = .reset) (drop : Bool) : (commitDecided drop k).alm = .reset := by
  have hnone : commitHead k = none := by
    rw [commitHead, h]; rfl
  rw [commitDecided, hnone, h]
  rfl

theorem stepKept_updCore (ctx : Nat) (s : State) (c : Nat) {f : Core → Core} (hf : ∀ k, k.alm = .reset → (f k).alm = .reset) :
    StepKept ctx s (updCore s c f) := by
  refine ⟨rfl, rfl, rfl, fun hi d => ?_⟩
  by_cases hd : d = c
  · subst hd
    rw [core_updCore_same]
    exact hf _ (hi d)
  · rw [core_updCore_ne _ _ hd]
    exact hi d

/-- The group has left every drop list, and chunks may be reduced again. -/
def groupDropped (s : State) (ctx g : Nat) : State :=
  { s with
    cores := tmap (fun _ => Core.reset) (fun _ k => { k with drops := k.drops.filter (fun d => d.group != g) }) s.cores,
    closedChunks := s.closedChunks.filter (fun x => x.1 != ctx) }

theorem stepKept_groupDropped (s : State) (ctx g : Nat) : StepKept ctx s (groupDropped s ctx g) := by
  refine ⟨rfl, rfl, rfl, fun hi c => ?_⟩
  have hcore : core (groupDropped s ctx g) c = { core s c with drops := (core s c).drops.filter (fun d => d.group != g) } :=
    core_map s (fun k => { k with drops := k.drops.filter (fun d => d.group != g) }) rfl c
  rw [hcore]
  exact hi c

theorem askHarvest_cases (s : State) (ctx : Nat) (step : DWord) :
    askHarvest s ctx step = { s with harvestWanted := true } ∨ askHarvest s ctx step = s := ite_eq_or_eq _ _ _

theorem stepKept_askHarvest (s : State) (ctx : Nat) (step : DWord) : StepKept ctx s (askHarvest s ctx step) := by
  rcases askHarvest_cases s ctx step with h | h
  · rw [h]; exact ⟨rfl, rfl, rfl, fun hi => hi⟩
  · rw [h]; exact StepKept.refl ctx s

theorem stepKept_finishDecision (s : State) (ctx g : Nat) (drop : Bool) : StepKept ctx s (finishDecision s ctx g drop) := by
  have hregs : ∀ v w x, StepKept ctx s (setReg (setReg (setReg64 (setRbit (setReg64 s .context ctx Off.contextStepLo v)
      .context ctx Off.contextStepStatus 3 drop) .context ctx Off.contextStepDigestLo w) .context ctx Off.contextDivergeCount 0)
      .context ctx Off.contextDivergePage x) := fun v w x =>
    ((((stepKept_setReg64 ctx s v (by decide) (by decide)).trans (stepKept_setReg ctx _ _ (by decide))).trans
      (stepKept_setReg64 ctx _ w (by decide) (by decide))).trans (stepKept_setReg ctx _ 0 (by decide))).trans
      (stepKept_setReg ctx _ x (by decide))
  have hdecided : ∀ u (l : List (Nat × Core)), StepKept ctx u (l.foldl (fun s e => updCore s e.1 (commitDecided drop)) u) :=
    fun u l => stepKept_foldl (fun v e => stepKept_updCore ctx v e.1 fun _ hk => alm_commitDecided hk drop) l u
  exact ((((hregs _ _ _).trans (hdecided _ _)).trans (stepKept_groupDropped _ ctx g)).trans (stepKept_askHarvest _ ctx _)).trans
    (stepKept_setReg ctx _ _ (by decide))

theorem stepKept_applyStepCmd {ctx : Nat} (hc : ctx < 512) (s : State) (drop : Bool) : StepKept ctx s (applyStepCmd s ctx drop) := by
  have hstate : ∀ u st, StepKept ctx u (setStepState u ctx st) := fun u _ => stepKept_setReg ctx u _ (by decide)
  cases drop with
  | true => exact hstate s _
  | false => exact ((hstate s _).trans (stepKept_updateTscales hc _)).trans (stepKept_finishDecision _ ctx _ false)

theorem stepKept_resumeStepCmd {ctx : Nat} (hc : ctx < 512) (s : State) : StepKept ctx s (resumeStepCmd s ctx) := by
  unfold resumeStepCmd
  dsimp only
  split
  · exact StepKept.refl ctx s
  · exact (stepKept_setReg ctx s 0 (by decide)).trans (stepKept_applyStepCmd hc _ _)

end Sys2Proof.Machine
end

section
/-!
PROOFS. The restore of a context ends, and a context switch as a whole (R63, R64, R357, R362, R363).
-/
namespace Sys2Proof.Machine

/-! ## What a restore reads (R362) -/

/-- A step of a core that notes, whatever becomes of the core. -/
def RestoresEach (f : State → Nat → Nat → State) : Prop := ∀ s ctx c, c < 512 → NotedButCores s (f s ctx c)

theorem notedButCores_setCore (s : State) (c : Nat) (k : Core) : NotedButCores s (setCore s c k) := ⟨rfl, fun _ _ => rfl⟩

theorem noted_freeCore (s : State) : Noted s (freeCore s).1 := ⟨rfl, fun _ _ => rfl⟩

/-- A core's state comes from its image, or is free. -/
theorem noted_stateRead {p : Prop} [Decidable p] (s : State) (k : Core) : Noted s (if p then (s, k) else freeCore s).1 := by
  split
  · exact Noted.refl s
  · exact noted_freeCore s

/-- What is read is made opaque as soon as the restore's text is there, so that no proof term counts its codewords. -/
theorem restoresEach_restoreCore : RestoresEach restoreCore := by
  have hwords : ∀ u key n w, Noted u (codewords u key n w).1 := fun u key n w => noted_codewords key n u w
  have hcopy : ∀ (l : List (Nat × Nat × Nat)) (key base : Nat) (u : State),
      Noted u (l.foldl (fun s p => copyMem s key (base + p.1) 0 p.2.1 p.2.2) u) :=
    fun l key base u => noted_foldl l u fun p _ v => noted_copyMem v key (base + p.1) 0 p.2.1 p.2.2
  delta restoreCore
  obtain ⟨words, hw⟩ : ∃ f, f = codewords := exists_eq
  rw [← hw] at hwords ⊢
  intro s ctx c hc
  have hread : ∀ n w, Noted s (words ((saveParts s c).foldl (fun u p => copyMem u (saveKey s ctx) (saveSlot s ctx c + p.1) 0 p.2.1 p.2.2) s)
      (saveKey s ctx) n w).1 := fun n w => (hcopy _ _ _ s).trans (hwords _ _ n w)
  dsimp only
  split
  · exact NotedButCores.trans ((hread _ _).trans (noted_stateRead _ _)).butCores (notedButCores_setCore _ c _)
  · exact NotedButCores.trans (NotedButCores.trans ((hread _ _).trans (noted_stateRead _ _)).butCores (notedButCores_setCore _ c _))
      (notedButCores_almFault _ hc _ _)


/-- Every core's part has been read from its slot. -/
def coresRestored (s : State) (ctx : Nat) : State := (List.range 512).foldl (fun s c => restoreCore s ctx c) s

theorem notedButCores_foldl {f : State → Nat → State} : ∀ (l : List Nat) (s : State), (∀ c ∈ l, ∀ u, NotedButCores u (f u c)) →
    NotedButCores s (l.foldl f s)
  | [], s, _ => (Noted.refl s).butCores
  | a :: l, s, h => NotedButCores.trans (h a (List.mem_cons_self ..) s)
      (notedButCores_foldl l _ fun c hc => h c (List.mem_cons_of_mem _ hc))

theorem notedButCores_coresRestored (s : State) (ctx : Nat) : NotedButCores s (coresRestored s ctx) :=
  notedButCores_foldl _ s fun c hc u => restoresEach_restoreCore u ctx c (List.mem_range.1 hc)

/-! ## A fresh start (R65, R363) -/

theorem noted_zeroFill (s : State) (lo hi : Nat) : Noted s (zeroFill s lo hi) := ⟨rfl, fun _ _ => rfl⟩

theorem noted_wipeCellar (s : State) (keep : Bool) (d : Nat) : Noted s (wipeCellar s keep d) := by
  have hfill := noted_zeroFill
  unfold wipeCellar
  obtain ⟨fill, hf⟩ : ∃ f, f = zeroFill := exists_eq
  rw [← hf] at hfill ⊢
  exact ((hfill s _ _).trans (hfill _ _ _)).trans (hfill _ _ _)

theorem noted_wipeCellars (s : State) : Noted s (wipeCellars s) :=
  noted_foldl _ s fun d _ u => noted_wipeCellar u (regionHeld u) d

theorem notedButCores_leaveCores (s : State) : NotedButCores s (leaveCores s) := ⟨rfl, fun _ _ => rfl⟩

theorem notedButCores_freshStart (s : State) : NotedButCores s (freshStart s) :=
  NotedButCores.trans (noted_wipeCellars s).butCores (notedButCores_leaveCores _)

theorem alm_freshStart (s : State) (c : Nat) : (core (freshStart s) c).alm = .reset := by
  rw [freshStart, core_leaveCores]; rfl

/-! ## RESTORE_DONE (R357, R362, R363) -/

/-- The context's work lies on the cores: its image read back and dropped, or a fresh start. -/
def workPlaced (s : State) (ctx : Nat) : State :=
  if ctxSaved s ctx then dropImage (coresRestored (setRf s .global 0 Off.globalRun 0 5 ctx) ctx) ctx
  else freshStart (setRf s .global 0 Off.globalRun 0 5 ctx)

theorem workPlaced_shows (s : State) {ctx : Nat} (hc : ctx < 32) : resident (workPlaced s ctx) = ctx
    ∧ ctxSaved (workPlaced s ctx) ctx = false
    ∧ (ctxSaved s ctx = false → ∀ c, (core (workPlaced s ctx) c).alm = .reset) := by
  have hlt : ctx < 512 := hc.trans (by decide)
  have hrun := resident_setRun s hc
  have hset := (ctxState_of_reg (ctxReg_setRun s hlt 0 5 ctx)).2
  rw [workPlaced]
  generalize setRf s .global 0 Off.globalRun 0 5 ctx = u at hrun hset ⊢
  split
  · rename_i hsaved
    have hres := resident_of_run (NotedButCores.reg (notedButCores_coresRestored u ctx) (by decide))
    obtain ⟨-, hdropped, -, -⟩ := dropImage_shows (coresRestored u ctx) ctx
    refine ⟨(resident_dropImage _ ctx).trans (hres.trans hrun), hdropped, fun h => ?_⟩
    rw [h] at hsaved
    cases hsaved
  · rename_i hsaved
    have hres := resident_of_run (NotedButCores.reg (notedButCores_freshStart u) (by decide))
    refine ⟨hres.trans hrun, ?_, fun _ => alm_freshStart u⟩
    rw [(ctxState_of_reg (ctxReg_noted (notedButCores_freshStart u) hlt)).2, hset]
    exact Bool.eq_false_iff.2 hsaved

/-- The context is RESIDENT and no switch is under way. -/
def contextPlaced (s : State) (ctx : Nat) : State := endSwitch (setCtxState (workPlaced s ctx) ctx Ctx.resident)

theorem contextPlaced_shows (s : State) {ctx : Nat} (hc : ctx < 32) : resident (contextPlaced s ctx) = ctx
    ∧ ctxState (contextPlaced s ctx) ctx = Ctx.resident ∧ ctxSaved (contextPlaced s ctx) ctx = false
    ∧ (contextPlaced s ctx).switch.phase = .idle
    ∧ (ctxSaved s ctx = false → ∀ c, (core (contextPlaced s ctx) c).alm = .reset) := by
  obtain ⟨hresident, himage, hidle⟩ := workPlaced_shows s hc
  unfold contextPlaced
  generalize workPlaced s ctx = u at hresident himage hidle ⊢
  obtain ⟨-, hcores, -, -⟩ := onlyRegs_leaves (setCtxState_only u ctx Ctx.resident)
  obtain ⟨hswitchEnd, hcoresEnd, -, -⟩ := endSwitch_shows (setCtxState u ctx Ctx.resident)
  obtain ⟨hstate, hsaved⟩ := ctxState_of_reg (ctxReg_endSwitch (setCtxState u ctx Ctx.resident) (hc.trans (by decide)))
  refine ⟨?_, ?_, ?_, congrArg Switch.phase hswitchEnd, fun h c => ?_⟩
  · rw [resident_endSwitch, resident_setCtxState, hresident]
  · rw [hstate, ctxState_setCtxState u ctx (by decide)]
  · rw [hsaved, ctxSaved_setCtxState, himage]
  · rw [core_of_cores hcoresEnd, core_of_cores hcores]
    exact hidle h c

theorem exec_restoreDone {s : State} (hp : s.switch.phase = .restoring) (ht : (List.range 4).any (bondTesting s) = false)
    (hr : powerState s = 0) (htrip : tripped s = false) :
    exec .restoreDone s = .next (resumeStepCmd (contextPlaced s s.switch.next) s.switch.next) := by
  have hexec : exec .restoreDone s = execRestoreDone s := rfl
  have hgo : ¬(s.switch.phase ≠ .restoring ∨ (List.range 4).any (bondTesting s) = true ∨ powerState s ≠ 0 ∨ tripped s = true) := by
    rw [hp, ht, hr, htrip]; simp
  rw [hexec, execRestoreDone, if_neg hgo]
  rfl

theorem restoreDone_shows {s : State} (hp : s.switch.phase = .restoring) (ht : (List.range 4).any (bondTesting s) = false)
    (hr : powerState s = 0) (htrip : tripped s = false) (hc : s.switch.next < 32) :
    Answers .restoreDone s (fun t => resident t = s.switch.next ∧ ctxState t s.switch.next = Ctx.resident
      ∧ ctxSaved t s.switch.next = false ∧ t.switch.phase = .idle
      ∧ (ctxSaved s s.switch.next = false → ∀ c, (core t c).alm = .reset)) := by
  obtain ⟨hresident, hstate, hsaved, hphase, hidle⟩ := contextPlaced_shows s hc
  obtain ⟨hrun, hreg, hswitch, hkept⟩ := stepKept_resumeStepCmd (hc.trans (by decide)) (contextPlaced s s.switch.next)
  obtain ⟨hstateKept, hsavedKept⟩ := ctxState_of_reg hreg
  exact ⟨_, exec_restoreDone hp ht hr htrip, (resident_of_run hrun).trans hresident, hstateKept.trans hstate,
    hsavedKept.trans hsaved, (congrArg Switch.phase hswitch).trans hphase, fun h => hkept (hidle h)⟩

/-! ## The obligation -/

/-- Settles O37, phase by phase: the request, the switch-out, the save or the departure without an image, and the restore. -/
theorem contextsSwitch : Obligations.ContextsSwitch := by
  refine ⟨fun n s hk hc hr hz => request_resident n hk hc hr hz, fun n s hk hc hz => request_alone n hk hc hz,
    fun n s hk hc hr => request_refused n hk hc hr, fun n s hk hz hr => request_same n hk hz hr,
    fun s hp hn => ?out, fun s hp hn ht => ?forced, fun s hp hg hd => ?save, fun s hp hg hd hw _ => ?lost,
    fun s hp ht hn => saveDone_shows hp ht hn, fun s hp ht hr htrip hc => restoreDone_shows hp ht hr htrip hc⟩
  case out =>
    obtain ⟨hphase, hresident, harrivals⟩ := switchOut_shows s
    exact ⟨_, exec_switchOut hp hn, hphase, harrivals, hresident⟩
  case forced =>
    have hnoted := noted_deviceRecord (b := .context) (by decide) ((resident_lt s).trans (by decide)) s 0x09 0x02 (resident s)
      (det (notAtPoint s).length)
    obtain ⟨hphase, hresident, harrivals⟩ :=
      switchOut_shows (deviceRecord s .context (resident s) 0x09 0x02 (resident s) (det (notAtPoint s).length))
    exact ⟨_, exec_forcedOff hp hn ht, hphase, harrivals, hresident.trans hnoted.resident⟩
  case save =>
    obtain ⟨hphase, hstate, hpaused⟩ := beginSave_shows s
    exact ⟨_, exec_saveStart_saves hp hg hd, hphase, hstate, hpaused⟩
  case lost =>
    obtain ⟨hresident, hstate, hsaved, -, -, hcore⟩ := forcedGone_shows s
    refine ⟨_, exec_saveStart_leaves hp hg hd hw, hresident, hstate, hsaved, fun c => ?_⟩
    rw [hcore]
    exact ⟨rfl, rfl, rfl⟩

end Sys2Proof.Machine
end

section
/-!
PROOFS. The lane generators that a SEED sets (R116).
-/
namespace Sys2Proof.Machine

/-! ## The generator of a lane (R116) -/

/-- The seed of the resident context. -/
def contextSeed (s : State) : DWord := reg64 s .context (resident s) Off.contextSrSeedLo

/-- The lane's seed is written with a shift of the step number, as R116 has it. -/
theorem seedLane_eq_shift (seed : DWord) (n c l : Nat) : seedLane seed n c l
    = if seed ^^^ ((BitVec.ofNat 64 n : DWord) <<< 16) ^^^ BitVec.ofNat 64 (64 * c + l) = 0 then (1 : DWord)
      else seed ^^^ ((BitVec.ofNat 64 n : DWord) <<< 16) ^^^ BitVec.ofNat 64 (64 * c + l) := by
  have hshift : BitVec.ofNat 64 (n * 2 ^ 16) = (BitVec.ofNat 64 n : DWord) <<< 16 :=
    BitVec.eq_of_toNat_eq (by simp [Nat.shiftLeft_eq])
  rw [seedLane, hshift]

/-- A key among those set in turn, or that read so before, reads the value set for it. -/
theorem tget_foldl_tset_of_mem {α : Type} [DecidableEq α] (d : α) (f : Nat → α) {k : Nat} : ∀ {ks : List Nat} (t : Table α),
    k ∈ ks ∨ tget d k t = f k → tget d k (ks.foldl (fun t i => tset d i (f i) t) t) = f k
  | [], _, h => h.resolve_left List.not_mem_nil
  | i :: ks, t, h => by
    refine tget_foldl_tset_of_mem d f (tset d i (f i) t) ?_
    by_cases hi : k = i
    · subst hi; exact Or.inr (tget_tset_same d k _ t)
    · rw [tget_tset_ne d d _ hi]
      exact h.imp_left fun hk => (List.mem_cons.1 hk).resolve_left hi

/-- Seeding a core sets the generator of each of its lanes. -/
theorem gens_seedCore (s : State) (c n : Nat) {l : Nat} (hl : l < 64) :
    tget 0 l (core (seedCore s c n) c).vec.gens = seedLane (contextSeed s) n c l := by
  rw [seedCore, core_updCore_same]
  exact tget_foldl_tset_of_mem 0 (seedLane (contextSeed s) n c) _ (Or.inl (List.mem_range.2 hl))

/-- Records, memory accesses and changes of cores leave the seed of the resident context. -/
theorem NotedButCores.contextSeed {s t : State} (h : NotedButCores s t) : contextSeed t = contextSeed s := by
  have hresident : resident t = resident s := Noted.resident (s := { s with cores := t.cores }) h
  have hlt : resident s < 512 := (resident_lt s).trans (by decide)
  rw [Machine.contextSeed, hresident]
  exact h.reg64 (tallied_context hlt (by decide) (by decide) (by decide)) (tallied_context hlt (by decide) (by decide) (by decide))

/-! ## A SEED entry (R116, R117) -/

/-- SEED on an idle vector engine seeds its core at once. -/
theorem exec_seed_idle {c : Fin 512} {s : State} {e : QWord} (hl : launches s c .seed e)
    (hp : (core (noteLaunch s c e) c).vxPend = none) (hr : ∀ r ∈ (core (noteLaunch s c e) c).vxRuns, r.ended = true) :
    exec (.seed c) s = .next (advanceHead (seedCore (noteLaunch s c e) c (entArg e 0 48)) c) := by
  have hexec : exec (.seed c) s = .next (launch s c .seed _ _) := rfl
  have hbusy : (core (noteLaunch s c e) c).vxRuns.any (fun r => !r.ended) = false := by
    rw [List.any_eq_false]
    intro r hmem
    simp [hr r hmem]
  rw [hexec, launch_of_launches hl]
  simp only [if_true, hp, hbusy, Option.isSome_none, Bool.false_eq_true, if_false]

theorem vec_advanceHead (s : State) (c : Nat) : (core (advanceHead s c) c).vec = (core s c).vec := by
  rw [advanceHead, core_updCore_same]

/-- What a SEED that is on time comes to on an idle vector engine. -/
theorem seed_idle_shows {c : Fin 512} {s : State} {e : QWord} (hl : launches s c .seed e) (ht : onTime s c e)
    (hp : (core s c).vxPend = none) (hr : ∀ r ∈ (core s c).vxRuns, r.ended = true) :
    Answers (.seed c) s (fun t =>
      (∀ l, l < 64 → tget 0 l (core t c).vec.gens = seedLane (contextSeed s) (entArg e 0 48) c l)
      ∧ movedOn c s t ∧ otherCores c s t) := by
  have hn : Noted s (noteLaunch s c e) := noted_noteLaunch_onTime c.isLt ht
  obtain ⟨halm, -, -⟩ := seedCore_core (noteLaunch s c e) c (entArg e 0 48)
  rw [hn.core] at halm
  refine ⟨_, exec_seed_idle hl (by rwa [hn.core]) (by rwa [hn.core]), fun l hlane => ?_, ?_, ?_⟩
  · rw [vec_advanceHead, gens_seedCore _ _ _ hlane, hn.butCores.contextSeed]
  · exact movedOn_advanceHead (congrArg Almanac.frames halm) (congrArg Almanac.head halm) hn.time
  · exact otherCores_trans (hn.otherCores c) (otherCores_trans (otherCores_updCore _ c _) (otherCores_updCore _ c _))

/-! ## ALM_GO (R45, R116) -/

/-- A core whose root word is VALID is seeded with step number 0, whether it starts or faults on the rest of the word. -/
theorem gens_startCore_valid (u : State) (ctx : Nat) (outside : Bool) {k w : Nat} (hk : k < 512) (hv : w.testBit 63 = true)
    {j : Nat} (hj : j < 64) :
    tget 0 j (core (startCore u ctx outside k (w, true)) k).vec.gens = seedLane (contextSeed u) 0 k j := by
  have hbit : bitAt w 63 = true := hv
  have hseed : ∀ f : Core → Core,
      tget 0 j (core (seedCore (updCore u k f) k 0) k).vec.gens = seedLane (contextSeed u) 0 k j := fun f => by
    rw [gens_seedCore _ _ _ hj, (notedButCores_updCore u k f).contextSeed]
  unfold startCore
  simp only [hbit, Bool.not_true, Bool.false_eq_true, if_false]
  split
  · rw [almFault_core _ hk]
    exact hseed _
  · exact hseed _

/-- Each core of a context's start takes its root word, the others' words changing cores alone. -/
theorem startContext_takesRoot (s : State) (ctx : Nat) (l : List (Nat × Bool)) {k : Nat} (hk : k < 512) :
    ∃ u, contextSeed u = contextSeed s ∧ core (startContext s ctx (some l)) k = core (takeRoot ctx l u k) k := by
  obtain ⟨b, hb⟩ := dropWanted_eq s ctx
  obtain ⟨u, hu, -, hend⟩ := (coresStarted_steps (dropWanted s ctx) ctx l).2 k hk
  have hseed : contextSeed (dropWanted s ctx) = contextSeed s := by rw [hb]; rfl
  refine ⟨u, hu.contextSeed.trans hseed, ?_⟩
  rw [core, startContext_cores, ← core]
  exact hend

/-- The start of a context seeds every core whose root word is VALID. -/
theorem gens_startContext (s : State) (ctx : Nat) {l : List (Nat × Bool)} {k w : Nat} (hk : k < 512)
    (hw : l.getD k (0, false) = (w, true)) (hv : w.testBit 63 = true) {j : Nat} (hj : j < 64) :
    tget 0 j (core (startContext s ctx (some l)) k).vec.gens = seedLane (contextSeed s) 0 k j := by
  obtain ⟨u, hseed, hend⟩ := startContext_takesRoot s ctx l hk
  rw [hend, takeRoot, hw, gens_startCore_valid u ctx _ hk hv hj, hseed]

/-- Settles O34: by the formula of a seeded lane, of seeding, of a SEED entry and of ALM_GO. -/
theorem seedsSetGenerators : Obligations.SeedsSetGenerators := by
  unfold Obligations.SeedsSetGenerators
  intro seeded
  have hseeded : ∀ s n c l, seeded s n c l = seedLane (contextSeed s) n c l :=
    fun s n c l => (seedLane_eq_shift (contextSeed s) n c l).symm
  simp only [hseeded]
  refine ⟨fun s c n l hl => gens_seedCore s c n hl, fun c s e hl ht hp hr => seed_idle_shows hl ht hp hr,
    fun s s1 c l hr hs hc hcheck hroot hmaps hnames hm _ => ?_⟩
  have hexec := exec_almGo hr hs hc
  rw [writeAlmGo_checked hc hcheck hroot hmaps hnames, hm, if_neg Bool.false_ne_true] at hexec
  refine ⟨_, hexec, fun k j w hk hj hw hv => ?_⟩
  have hread : Noted s s1 := by have h := noted_readRoot s c; rwa [hroot] at h
  rw [(noted_healthStep s _).core, gens_startContext s1 c hk hw hv hj, hread.butCores.contextSeed]

end Sys2Proof.Machine
end

section
/-!
SUPPORT. What a completion leaves at its flag, and a change of one core alone (R81, R83).
-/
namespace Sys2Proof.Machine

/-- A flag that ends in error has its POISON bit set (R83). -/
theorem poison_bumpFlag (k : Core) {f : Nat} (hf : f < 256) : (bumpFlag k f true).flagPoison.getLsbD f = true := by
  simp only [bumpFlag, if_true, BitVec.getLsbD_or, BitVec.getLsbD_ofNat, Nat.testBit_two_pow_self, hf, decide_true, Bool.and_self,
    Bool.or_true]

/-- A change of one core is of nothing else. -/
theorem updCore_only (s : State) (c : Nat) (f : Core → Core) :
    otherCores c s (updCore s c f) ∧ ∃ k, updCore s c f = { s with cores := k } :=
  ⟨otherCores_updCore s c f, _, rfl⟩

end Sys2Proof.Machine
end

section
/-!
PROOFS. A MATRIX descriptor starts, drains, is pushed and completes.
-/
namespace Sys2Proof.Machine

/-! ## MATRIX_START (R132, R133, R136) -/

/-- The run of a MATRIX descriptor as its feed begins: nothing of it is done or drained. -/
def MatrixPend.run (p : MatrixPend) (scale : Word) (k : Core) : MatrixRun :=
  ⟨p.desc, p.image, p.flag, p.ctx, 2 ^ k.heldPromote, scale, 0, 0, [], false, false, false⟩

/-- With the array idle the pending descriptor feeds, whatever its scale. -/
theorem exec_matrixStart {c : Fin 512} {s : State} {p : MatrixPend} (hp : (core s c).mxPend = some p) (hr : p.refused = 0)
    (hruns : (core s c).mxRuns = []) (hc : coreIssues s c = true) (hs : slotState (core s c) (Mx.slot p.image) ≠ .emitted) :
    ∃ scale, exec (.matrixStart c) s
      = .next (updCore s c (fun k => { k with mxPend := none, mxRuns := k.mxRuns ++ [p.run scale (core s c)] })) := by
  have hexec : exec (.matrixStart c) s = execMatrixStart c s := rfl
  simp only [hexec, execMatrixStart, hp, hr, hruns, hc, hs, List.any_nil, ne_eq, not_true_eq_false, Bool.and_self, Bool.not_true,
    Bool.false_eq_true, or_self, if_false]
  exact ⟨_, rfl⟩

/-! ## PROMOTION_DRAIN (R128 to R134) -/

/-- What a row reads is made opaque, so that no proof term computes with it. -/
theorem noted_drainRow (s : State) (c sl m : Nat) (fresh overwrite : Bool) (st : Word) (row : Nat → Num) :
    Noted s (drainRow s c sl m fresh overwrite st row) := by
  have hread : ∀ a, Noted s (readMem s 0 a 256).1 := fun a => noted_readMem s 0 a 256
  unfold drainRow
  obtain ⟨read, hr⟩ : ∃ f, f = readMem s 0 := exists_eq
  rw [← hr] at hread ⊢
  dsimp only
  split
  · exact noted_writeMem _ _ _ _ _
  · exact (hread _).trans (noted_writeMem _ _ _ _ _)

theorem noted_drainTile (s : State) (c sl : Nat) (fresh overwrite : Bool) (st : Word) (v : Nat → Nat → Num) :
    ∀ n, Noted s (drainTile s c sl fresh overwrite st v n)
  | 0 => Noted.refl s
  | n + 1 => (noted_drainTile s c sl fresh overwrite st v n).trans (noted_drainRow _ c sl n fresh overwrite st (v n))

theorem noted_drainNan (s : State) (c sl : Nat) : Noted s (drainNan s c sl) :=
  noted_foldl _ s fun _ _ u => noted_writeMem u _ _ _ _

/-- A descriptor after one more interval: its k-blocks are done, its accumulators +0 again. -/
def MatrixRun.fed (r : MatrixRun) (bad : Bool) : MatrixRun :=
  { r with kdone := r.kdone + min r.promote (Mx.kb r.image - r.kdone), cycles := 0, acc := [], poisoned := bad }

/-- The end of an interval leaves the slot HELD where it was CLEAR, and replaces the descriptor's run (R134). -/
def intervalEnded (r r' : MatrixRun) (k : Core) : Core :=
  { k.setSlot (Mx.slot r.image) (if slotState k (Mx.slot r.image) = .clear then .held else slotState k (Mx.slot r.image)) with
    mxRuns := k.mxRuns.map (fun x => if x = r then r' else x) }

/-- What follows a drain, the NaN words of a failed descriptor and the counts, leaves every core. -/
theorem cores_intervalCounted {s u : State} (hu : Noted s u) (c sl n : Nat) (bad : Bool) :
    (countActivity (addReg64 (if bad then drainNan u c sl else u) .core c Off.coreMxActiveLo n) (c / 128) 16 1).cores = s.cores := by
  have hnan : Noted s (if bad then drainNan u c sl else u) := noted_ite (fun _ => hu.trans (noted_drainNan u c sl)) fun _ => hu
  generalize (if bad then drainNan u c sl else u) = v at hnan ⊢
  exact (addReg64_cores v .core c Off.coreMxActiveLo n).trans hnan.cores

/-- An interval's end reads operands, drains and counts, which leaves every core, and then changes its own core. -/
theorem exec_promotionDrain {c : Fin 512} {s : State} {r : MatrixRun} (hr : feeding (core s c) = some r)
    (hc : coreClocked s c = true) :
    ∃ u bad, u.cores = s.cores ∧ exec (.promotionDrain c) s = .next (updCore u c (intervalEnded r (r.fed bad))) := by
  have hexec : exec (.promotionDrain c) s = execPromotionDrain c s := rfl
  have hread : ∀ p, Noted s (readOperands s c r.image r.kdone p).1 := fun p => noted_readOperands s c r.image r.kdone p
  rw [hexec, execPromotionDrain]
  simp only [hr, clocked, hc, if_true]
  have hs1 := hread (min r.promote (Mx.kb r.image - r.kdone))
  generalize readOperands s c r.image r.kdone (min r.promote (Mx.kb r.image - r.kdone)) = x at hs1 ⊢
  obtain ⟨s1, o, ok⟩ := x
  refine ⟨_, r.poisoned || !ok, ?_, rfl⟩
  exact cores_intervalCounted (hs1.trans (noted_drainTile ..)) ..

/-! ## TILE_QUEUE_PUSH and MATRIX_COMPLETE (R82, R134) -/

/-- Past its k-blocks a descriptor has drained its last interval. -/
theorem drained_of_kb_le {r : MatrixRun} (h : Mx.kb r.image ≤ r.kdone) : r.drained = true := decide_eq_true h

/-- The descriptor's entry is last in the tile queue and its slot EMITTED (R134). -/
def pushTile (r : MatrixRun) (rest : List MatrixRun) (k : Core) : Core :=
  { k.setSlot (Mx.slot r.image) .emitted with
    mxRuns := { r with pushed := true } :: rest, tiles := k.tiles ++ [⟨Mx.slot r.image, r.desc⟩] }

theorem exec_tileQueuePush {c : Fin 512} {s : State} {r : MatrixRun} {rest : List MatrixRun} (hr : (core s c).mxRuns = r :: rest)
    (hm : Mx.mode r.image = 2) (hd : r.drained = true) (hp : r.pushed = false) (hc : coreClocked s c = true)
    (hroom : (core s c).tiles.length < 8) : exec (.tileQueuePush c) s = .next (updCore s c (pushTile r rest)) := by
  have hexec : exec (.tileQueuePush c) s = execTileQueuePush c s := rfl
  simp only [hexec, execTileQueuePush, hr, hm, hd, hp, hc, Nat.not_le.2 hroom, ne_eq, not_true_eq_false, Bool.not_true,
    Bool.false_eq_true, or_self, if_false]
  rfl

theorem exec_matrixComplete {c : Fin 512} {s : State} {r : MatrixRun} {rest : List MatrixRun} (hr : (core s c).mxRuns = r :: rest)
    (hd : r.drained = true) (hp : Mx.mode r.image = 2 → r.pushed = true) (hc : coreClocked s c = true) :
    exec (.matrixComplete c) s = .next (updCore s c (fun k => bumpFlag { k with mxRuns := rest } r.flag r.poisoned)) := by
  have hexec : exec (.matrixComplete c) s = execMatrixComplete c s := rfl
  rw [hexec, execMatrixComplete]
  simp only [hr]
  exact if_pos ⟨hd, Decidable.imp_iff_not_or.1 hp, hc⟩

theorem exec_matrixRefusedComplete {c : Fin 512} {s : State} {p : MatrixPend} (hp : (core s c).mxPend = some p) (hr : p.refused ≠ 0)
    (hruns : (core s c).mxRuns = []) (hc : coreClocked s c = true ∨ coreOffline s c = true) :
    exec (.matrixRefusedComplete c) s = .next (updCore s c (fun k => bumpFlag { k with mxPend := none } p.flag true)) := by
  have hexec : exec (.matrixRefusedComplete c) s = execMatrixRefusedComplete c s := rfl
  rw [hexec, execMatrixRefusedComplete]
  simp only [hp, hruns]
  exact if_pos ⟨hr, rfl, hc⟩

/-- Settles O14, command by command: a drain's reads and writes of memory leave every core, and each command changes its core
alone. -/
theorem matrixRuns : Obligations.MatrixRuns := by
  refine ⟨fun c s p hp hr hruns hc hs => ?start, fun c s r hr hk hc => ?drain, fun c s r rest hr hm hk hp hc hroom => ?push,
    fun c s r rest hr hk hp hc => ?complete, fun c s p hp hr hruns hc => ?refused⟩
  case start =>
    obtain ⟨scale, hexec⟩ := exec_matrixStart hp hr hruns hc hs
    refine ⟨_, hexec, ?_, ⟨p.run scale (core s c), ?_, rfl, rfl, rfl, rfl, rfl, rfl, rfl, rfl⟩, updCore_only s c _⟩ <;>
      rw [core_updCore_same]
    exact congrArg (· ++ [p.run scale (core s c)]) hruns
  case drain =>
    have hfeeds : feeding (core s c) = some r := by simp [feeding, hr, MatrixRun.drained, hk]
    obtain ⟨u, bad, hu, hexec⟩ := exec_promotionDrain hfeeds hc
    refine ⟨_, hexec, ⟨r.fed bad, ?_, rfl, ?_, rfl, rfl, rfl⟩, ?_, ?_,
      otherCores_trans (otherCores_of_cores hu c) (otherCores_updCore u c _)⟩
    · rw [core_updCore_same, core_of_cores hu, intervalEnded, hr, List.map_singleton, if_pos rfl]
    · show r.kdone + min r.promote (Mx.kb r.image - r.kdone) ≤ Mx.kb r.image
      omega
    · rw [core_updCore_same, core_of_cores hu]
      exact slotState_setSlot_same _ _ _
    · rw [core_updCore_same, core_of_cores hu]
      rfl
  case push =>
    refine ⟨_, exec_tileQueuePush hr hm (drained_of_kb_le hk) hp hc hroom, ?_, ?_, ?_, updCore_only s c _⟩ <;>
      rw [core_updCore_same]
    · rfl
    · exact slotState_setSlot_same (core s c) (Mx.slot r.image) .emitted
    · rfl
  case complete =>
    refine ⟨_, exec_matrixComplete hr (drained_of_kb_le hk) hp hc, ?_, ?_, fun f hf => ?_, fun hp => ?_, updCore_only s c _⟩ <;>
      rw [core_updCore_same]
    · rfl
    · exact flag_bumpFlag_same _ _ _
    · exact flag_bumpFlag_ne _ _ hf
    · rw [hp]; rfl
  case refused =>
    refine ⟨_, exec_matrixRefusedComplete hp hr hruns hc, ?_, ?_, fun hf => ?_, updCore_only s c _⟩ <;> rw [core_updCore_same]
    · rfl
    · exact flag_bumpFlag_same _ _ _
    · exact poison_bumpFlag _ hf

end Sys2Proof.Machine
end

section
/-!
PROOFS. A VECTOR descriptor starts, loads, or is refused.
-/
namespace Sys2Proof.Machine

/-- The run of a VECTOR descriptor as it starts, its loop levels those that the engine holds (R140, R142). -/
def VecPend.run (p : VecPend) (k : Core) : VecRun :=
  ⟨p.desc, p.image, p.flag, p.ctx, p.hist, Vx.kind p.image == 1, Vx.start p.image, k.vec.loops, Vx.tile p.image,
    false, false, false, false, false⟩

/-- A0 to A7 of a RUN's descriptor (R142). -/
def runBases (d : BitVec 512) (a : Table Word) : Table Word :=
  (List.range 8).foldl (fun t n => tset 0 n (BitVec.ofNat 32 (df d (64 + 32 * n) 32)) t) a

/-- The pending descriptor has become the last run (R117, R142). -/
def startRun (p : VecPend) (k : Core) : Core :=
  { k with
    vxPend := none, vxRuns := k.vxRuns ++ [p.run k]
    vec := { k.vec with a := if Vx.kind p.image == 1 then k.vec.a else runBases p.image k.vec.a }
    seedBefore := k.seedAfter, seedAfter := none }

theorem exec_vectorStart {c : Fin 512} {s : State} {p : VecPend} (hp : (core s c).vxPend = some p) (hr : p.refused = 0)
    (hfree : (core s c).vxRuns = [] ∨ ∃ r, (core s c).vxRuns = [r] ∧ r.ended = true) (hc : coreIssues s c = true) :
    exec (.vectorStart c) s = .next (updCore s c (startRun p)) := by
  have hexec : exec (.vectorStart c) s = execVectorStart c s := rfl
  rcases hfree with hruns | ⟨r, hruns, hended⟩
  · simp only [hexec, execVectorStart, hp, hr, hruns, hc, ne_eq, not_true_eq_false, Bool.not_true, Bool.false_eq_true, or_self,
      if_false]
    rfl
  · simp only [hexec, execVectorStart, hp, hr, hruns, hended, hc, ne_eq, not_true_eq_false, Bool.not_true, Bool.false_eq_true, or_self,
      if_false]
    rfl

/-- A RUN that starts loads A0 to A7 from its descriptor. -/
theorem addr_startRun {p : VecPend} (k : Core) {n : Nat} (hk : Vx.kind p.image ≠ 1) (hn : n < 8) :
    (startRun p k).vec.addr n = df p.image (64 + 32 * n) 32 := by
  have ha : (startRun p k).vec.a = runBases p.image k.vec.a := if_neg (by simpa using hk)
  have hget : tget 0 n (runBases p.image k.vec.a) = BitVec.ofNat 32 (df p.image (64 + 32 * n) 32) :=
    tget_foldl_tset_of_mem 0 (fun n => BitVec.ofNat 32 (df p.image (64 + 32 * n) 32)) _ (Or.inl (List.mem_range.2 hn))
  rw [VecState.addr, ha, hget, BitVec.toNat_ofNat]
  exact Nat.mod_eq_of_lt (fld_lt _ _ _)

/-- The instructions of a LOAD, from the bytes read, written at START (R142). -/
def loadProgram (d : BitVec 512) (v : Nat) (prog : Table DWord) : Table DWord :=
  (List.range (Vx.count d)).foldl (fun t i => tset 0 (Vx.start d + i) (BitVec.ofNat 64 (fld v (64 * i) 64)) t) prog

/-- Keys from `b` on, set in turn. -/
theorem tget_foldl_tset_from {α : Type} [DecidableEq α] (d : α) (f : Nat → α) (b : Nat) {i n : Nat} (h : i < n) (t : Table α) :
    tget d (b + i) ((List.range n).foldl (fun t j => tset d (b + j) (f j) t) t) = f i := by
  have hset := tget_foldl_tset_of_mem d (fun k => f (k - b)) t (Or.inl (List.mem_map_of_mem (f := (b + ·)) (List.mem_range.2 h)))
  simpa only [List.foldl_map, Nat.add_sub_cancel_left] using hset

theorem inst_loadProgram (v : VecState) (d : BitVec 512) (x : Nat) {i : Nat} (h : i < Vx.count d) :
    { v with prog := loadProgram d x v.prog }.inst (Vx.start d + i) = fld x (64 * i) 64 := by
  rw [VecState.inst, loadProgram, tget_foldl_tset_from 0 (fun i => BitVec.ofNat 64 (fld x (64 * i) 64)) _ h, BitVec.toNat_ofNat,
    Nat.mod_eq_of_lt (fld_lt _ _ _)]

/-- A LOAD whose codewords were all read has ended (R142). -/
def loadRun (r : VecRun) (rest : List VecRun) (v : Nat) (k : Core) : Core :=
  bumpFlag { k with vec := { k.vec with prog := loadProgram r.image v k.vec.prog }, vxRuns := rest, seedBefore := none } r.flag false

theorem exec_loadComplete {c : Fin 512} {s s1 : State} {r : VecRun} {rest : List VecRun} {v : Nat}
    (hr : (core s c).vxRuns = r :: rest) (hl : r.load = true) (hc : coreClocked s c = true) (hs : (core s c).seedBefore = none)
    (hread : readMem s 0 (larderAddr c + Vx.src r.image) (8 * Vx.count r.image) = (s1, v, true)) :
    exec (.loadComplete c) s = .next (updCore s1 c (loadRun r rest v)) := by
  have hexec : exec (.loadComplete c) s = execLoadComplete c s := rfl
  simp only [hexec, execLoadComplete, hr, hl, hread, hs, clocked, hc, seedHeld, Bool.not_true, Bool.false_eq_true, if_false, if_true]
  rfl

theorem exec_vectorRefusedComplete {c : Fin 512} {s : State} {p : VecPend} (hp : (core s c).vxPend = some p) (hr : p.refused ≠ 0)
    (hruns : (core s c).vxRuns = []) (hs : (core s c).seedAfter = none) (hc : coreClocked s c = true) :
    exec (.vectorRefusedComplete c) s
      = .next (updCore s c (fun k => bumpFlag { k with vxPend := none, seedAfter := none } p.flag true)) := by
  have hexec : exec (.vectorRefusedComplete c) s = execVectorRefusedComplete c s := rfl
  rw [hexec, execVectorRefusedComplete]
  simp only [hp, hruns, hs]
  exact if_pos ⟨hr, rfl, Or.inl hc⟩

/-- Settles O15, command by command: a start and a refused completion change their core alone, and a LOAD's read of memory leaves
every core. -/
theorem vectorStartsAndLoads : Obligations.VectorStartsAndLoads := by
  refine ⟨fun c s p hp hr hfree hc => ?start, fun c s s1 r rest v hr hl hc hs hread => ?load,
    fun c s p hp hr hruns hs hc => ?refused⟩
  case start =>
    refine ⟨_, exec_vectorStart hp hr hfree hc, ?_, ⟨p.run (core s c), ?_⟩, fun hk n hn => ?_, ?_, updCore_only s c _⟩ <;>
      rw [core_updCore_same]
    · rfl
    · exact ⟨rfl, rfl, rfl, rfl, rfl, rfl, rfl, rfl⟩
    · exact addr_startRun _ hk hn
    · rfl
  case load =>
    have hcore : core s1 c = core s c := by
      have hn := noted_readMem s 0 (larderAddr c + Vx.src r.image) (8 * Vx.count r.image)
      rw [hread] at hn
      exact hn.core c
    refine ⟨_, exec_loadComplete hr hl hc hs hread, ?_, fun i hi => ?_, ?_⟩ <;> rw [core_updCore_same, hcore]
    · rfl
    · exact inst_loadProgram _ _ _ hi
    · exact flag_bumpFlag_same _ _ _
  case refused =>
    refine ⟨_, exec_vectorRefusedComplete hp hr hruns hs hc, ?_, ?_, fun hf => ?_, otherCores_updCore s c _⟩ <;>
      rw [core_updCore_same]
    · rfl
    · exact flag_bumpFlag_same _ _ _
    · exact poison_bumpFlag _ hf

end Sys2Proof.Machine
end

section
/-!
PROOFS. Tiles are taken and released, and a vector run completes.
-/
namespace Sys2Proof.Machine

/-- The run that takes the head entry of the tile queue, which A15 then shows (R142, R144). -/
def takeTile (r : VecRun) (x : TileEntry) (k : Core) : Core :=
  { k.setRun { r with needTile := false, held := true } with
    vec := { k.vec with a := tset 0 15 (BitVec.ofNat 32 (0x40000000 + 256 * x.slot)) k.vec.a } }

theorem exec_tileTake {c : Fin 512} {s : State} {r : VecRun} {x : TileEntry} {rest : List TileEntry}
    (hr : (core s c).vxRuns.getLast? = some r) (hn : r.needTile = true) (hh : holder (core s c) = none)
    (ht : (core s c).tiles = x :: rest) (hc : coreIssues s c = true) :
    exec (.tileTake c) s = .next (updCore s c (takeTile r x)) := by
  have hexec : exec (.tileTake c) s = execTileTake c s := rfl
  simp only [hexec, execTileTake, hr, hn, hh, ht, hc, Option.isSome_none, Bool.not_true, Bool.or_false, Bool.false_eq_true, if_false]
  rfl

theorem exec_tileRelease {c : Fin 512} {s : State} {r : VecRun} (hh : holder (core s c) = some r) (ht : r.trel = true)
    (hc : coreClocked s c = true) : exec (.tileRelease c) s = .next (updCore s c releaseTile) := by
  have hexec : exec (.tileRelease c) s = execTileRelease c s := rfl
  simp only [hexec, execTileRelease, hh, ht, clocked, hc, if_true]

/-- No run holds a tile once the holder has released its own. -/
theorem holder_releaseTile (k : Core) : holder (releaseTile k) = none := by
  unfold releaseTile
  cases hh : holder k with
  | none => exact hh
  | some r =>
    refine List.find?_eq_none.mpr fun y hy => ?_
    obtain ⟨x, -, rfl⟩ := List.mem_map.mp hy
    split <;> simp_all

/-- A tile released frees the head of the queue and clears its slot (R134, R145). -/
theorem releaseTile_shows {k : Core} {r : VecRun} {x : TileEntry} {rest : List TileEntry} (hh : holder k = some r)
    (ht : k.tiles = x :: rest) : (releaseTile k).tiles = rest ∧ slotState (releaseTile k) x.slot = .clear
      ∧ (releaseTile k).flags = k.flags := by
  simp only [releaseTile, hh, ht, List.tail_cons]
  exact ⟨trivial, slotState_setSlot_same k x.slot .clear, rfl⟩

theorem exec_vectorComplete {c : Fin 512} {s : State} {r : VecRun} {rest : List VecRun} (hr : (core s c).vxRuns = r :: rest)
    (hl : r.load = false) (he : r.ended = true) (hh : r.held = false) (hc : coreClocked s c = true) :
    exec (.vectorComplete c) s = .next (updCore s c (fun k => bumpFlag { k with vxRuns := k.vxRuns.tail } r.flag r.poisoned)) := by
  have hexec : exec (.vectorComplete c) s = execVectorComplete c s := rfl
  simp only [hexec, execVectorComplete, hr, hl, he, hh, clocked, hc, Bool.not_true, Bool.or_false, Bool.false_eq_true, if_false,
    if_true]

/-- Settles O16, command by command: each changes its core alone. -/
theorem tilesAndVectorEnd : Obligations.TilesAndVectorEnd := by
  refine ⟨fun c s r x rest hr hn hh ht hc => ?take, fun c s r x rest hh htrel ht hc => ?release,
    fun c s r rest hr hl he hh hc => ?complete⟩
  case take =>
    refine ⟨_, exec_tileTake hr hn hh ht hc, ?_, ?_, ?_, updCore_only s c _⟩ <;> rw [core_updCore_same]
    · rfl
    · show (tget (0 : Word) 15 (tset 0 15 _ _)).toNat = _
      rw [tget_tset_same, BitVec.toNat_ofNat]
    · rfl
  case release =>
    obtain ⟨htiles, hslot, hflags⟩ := releaseTile_shows hh ht
    refine ⟨_, exec_tileRelease hh htrel hc, ?_, ?_, ?_, ?_, updCore_only s c _⟩ <;> rw [core_updCore_same]
    · exact htiles
    · exact hslot
    · exact holder_releaseTile _
    · exact hflags
  case complete =>
    refine ⟨_, exec_vectorComplete hr hl he hh hc, ?_, ?_, fun f hf => ?_, updCore_only s c _⟩ <;> rw [core_updCore_same]
    · exact congrArg List.tail hr
    · rw [flag_bumpFlag_same]
    · rw [flag_bumpFlag_ne _ _ hf]

end Sys2Proof.Machine
end

section
/-!
SUPPORT. What the chunks of a REDUCE, opened or joined as it launches, leave of its core (R308, R312).
-/
namespace Sys2Proof.Machine

/-- What an operation was launched as: its identity, its kind and its descriptor. -/
def Op.launchedAs (o : Op) : Nat × OpKind × Nat × Nat × BitVec 512 := (o.id, o.kind, o.desc, o.flag, o.image)

/-- From `s` to `t` core `c` keeps its almanac, its drop list and what its operations were launched as, and no time has passed. -/
structure Placed (c : Nat) (s t : State) : Prop where
  time : t.time = s.time
  alm : (core t c).alm = (core s c).alm
  drops : (core t c).drops = (core s c).drops
  ops : (core t c).ops.map Op.launchedAs = (core s c).ops.map Op.launchedAs

variable {c : Nat}

theorem Placed.refl (s : State) : Placed c s s := ⟨rfl, rfl, rfl, rfl⟩

theorem Placed.trans {s t u : State} (h : Placed c s t) (k : Placed c t u) : Placed c s u :=
  ⟨k.time.trans h.time, k.alm.trans h.alm, k.drops.trans h.drops, k.ops.trans h.ops⟩

theorem placed_of_cores {s t : State} (ht : t.time = s.time) (hc : t.cores = s.cores) : Placed c s t := by
  have hcore := core_of_cores hc c
  exact ⟨ht, congrArg _ hcore, congrArg _ hcore, by rw [hcore]⟩

theorem Noted.placed {s t : State} (h : Noted s t) : Placed c s t := placed_of_cores h.time h.cores

theorem placed_mapChunk (s : State) (g ch : Nat) (f : Chunk → Chunk) : Placed c s (mapChunk s g ch f) := placed_of_cores rfl rfl

theorem placed_openChunk (s : State) (g ch ctx : Nat) (owner : Option (Nat × Nat × Nat)) : Placed c s (openChunk s g ch ctx owner) :=
  placed_of_cores rfl rfl

/-- A REDUCE changed in what it was not launched as, on this core or another. -/
theorem placed_mapRed (s : State) (d id : Nat) {f : Op → Op} (hf : ∀ o, (f o).launchedAs = o.launchedAs) :
    Placed c s (mapRed s d id f) := by
  by_cases hd : c = d
  · subst hd
    refine ⟨rfl, ?_, ?_, ?_⟩ <;> rw [mapRed, core_updCore_same]
    · rfl
    · rfl
    · rw [Core.mapOp, List.map_map]
      refine List.map_congr_left fun o _ => ?_
      rw [Function.comp_apply]
      split
      · exact hf o
      · rfl
  · have hcore : core (mapRed s d id f) c = core s c := core_updCore_ne s _ hd
    exact ⟨rfl, congrArg _ hcore, congrArg _ hcore, by rw [hcore]⟩

theorem noted_ownPart (s : State) (e : QWord) (n : Nat) (places : List (Nat × Nat)) : Noted s (ownPart s e n places).1 := by
  have hread : ∀ u key a k, Noted u (readRow u key a k).1 := noted_readRow
  unfold ownPart
  obtain ⟨read, hr⟩ : ∃ f, f = readRow := exists_eq
  rw [← hr] at hread ⊢
  dsimp only
  split
  · exact hread _ _ _ _
  · exact ((hread _ _ _ _).trans (hread _ _ _ _)).trans (hread _ _ _ _)

theorem placed_readOwn (s : State) (g ch : Nat) : Placed c s (readOwn s g ch) := by
  unfold readOwn
  split
  · exact Placed.refl s
  · split
    · exact Placed.refl s
    · split
      · exact Placed.refl s
      · exact ((noted_ownPart ..).placed.trans (placed_mapRed _ _ _ (by intro _; rfl))).trans (placed_mapChunk ..)

/-- Whether each chunk opens a context, joins one or is skipped, the core keeps what `Placed` names. -/
theorem placed_placeChunks {d : Nat} (hd : d < 512) (id n : Nat) (s : State) : Placed c s (placeChunks d id n s) := by
  induction n generalizing s with
  | zero => exact Placed.refl s
  | succ n ih =>
    unfold placeChunks
    split
    · exact Placed.refl s
    · rename_i o _
      dsimp only
      split
      · exact Placed.refl s
      · split
        · split
          · refine Placed.trans ?_ ((placed_mapRed _ d id (by intro _; rfl)).trans (ih _))
            split
            · exact Placed.refl s
            · exact (noted_coreRecord s hd _ _ _).placed.trans (placed_of_cores (incReg_time ..) (incReg_cores ..))
          · refine Placed.trans ?_ ((placed_readOwn _ _ _).trans (ih _))
            exact (placed_mapChunk ..).trans (placed_mapRed _ d id (by intro _; rfl))
        · split
          · exact Placed.refl s
          · refine Placed.trans ?_ ((placed_readOwn _ _ _).trans (ih _))
            exact (placed_openChunk ..).trans (placed_mapRed _ d id (by intro _; rfl))

/-- An operation in flight is still there as it was launched. -/
theorem Placed.mem_ops {s t : State} (h : Placed c s t) {o : Op} (ho : o ∈ (core s c).ops) :
    ∃ o', o' ∈ (core t c).ops ∧ o'.launchedAs = o.launchedAs := by
  have hmem := List.mem_map_of_mem (f := Op.launchedAs) ho
  rw [← h.ops] at hmem
  exact List.mem_map.1 hmem

end Sys2Proof.Machine
end

section
/-!
PROOFS. A MOVE that its check refuses, and the launch of a REDUCE.
-/
namespace Sys2Proof.Machine

/-- The read of the descriptor of an entry that launches on time. -/
theorem readsDesc_shows {c : Fin 512} {s s1 : State} {e : QWord} {d : BitVec 512} (ht : onTime s c e) (h : readsDesc c s s1 e d) :
    cellarBusy (noteLaunch s c e) (c.val / 128) = false
      ∧ readDesc (noteLaunch s c e) c (entArg e 0 16) = (s1, some d, false) ∧ Noted s s1 := by
  obtain ⟨hcellar, hdesc⟩ := h
  have hlaunch : Noted s (noteLaunch s c e) := noted_noteLaunch_onTime c.isLt ht
  have hread := noted_readDesc (noteLaunch s c e) c (entArg e 0 16)
  rw [hdesc] at hread
  exact ⟨by rw [hlaunch.cellarBusy (by omega), hcellar], hdesc, hlaunch.trans hread⟩

/-! ## A refused MOVE (R127, R197) -/

theorem exec_move_refused {c : Fin 512} {s s1 : State} {e : QWord} {d : BitVec 512} (hl : launches s c .move e)
    (hroom : hasRoom (core s c) = true) (hbusy : cellarBusy (noteLaunch s c e) (c.val / 128) = false)
    (hread : readDesc (noteLaunch s c e) c (entArg e 0 16) = (s1, some d, false)) (hcheck : mvCheck d ≠ 0) :
    exec (.move c) s = .next (advanceHead (refuseDesc s1 c (mvCheck d) 0x03 (entArg e 0 16) (entArg e 16 8)) c) := by
  have hexec : exec (.move c) s = .next (launch s c .move _ _) := rfl
  rw [hexec, launch_of_launches hl, hroom]
  simp only [if_true, hbusy, hread, hcheck, ne_eq, not_false_eq_true, Bool.false_eq_true, if_false]

/-- A refusal records and counts, and its core changes at the flag alone. -/
theorem refuseDesc_shows (s : State) {c : Nat} (hc : c < 512) (reason unit desc flag : Nat) :
    core (refuseDesc s c reason unit desc flag) c = bumpFlag (core s c) flag true
      ∧ (refuseDesc s c reason unit desc flag).time = s.time := by
  have hn : Noted s (descFault s c reason unit desc) := noted_coreRecord s hc _ _ _
  constructor
  · rw [refuseDesc, completeFlag, core_updCore_same, core_of_cores (incReg_cores ..), hn.core]
  · exact (incReg_time (descFault s c reason unit desc) .core c Off.coreMvFaultCount).trans hn.time

/-! ## REDUCE (R306 to R308, R315) -/

/-- The operation of a REDUCE whose rows lie at `rows`, with its group's entry and none of its chunks placed. -/
def reduceOp (s : State) (c : Nat) (e : QWord) (d : BitVec 512) (rows : List (List (Except RowFault RowPlace))) : Op :=
  { Op.mk0 .reduce (resident s) (core s c).alm.slot (core s c).histSel with
    desc := entArg e 0 16, image := d, flag := entArg e 16 8, started := true, places := rows.map rowPairs
    red := ⟨groupEntry s (Rd.group d), 0, Rd.chunks d, [], false, none⟩ }

/-- A SUM enters its core's drop list; a DIGEST does not (R315). -/
def enterDrops (desc : Nat) (d : BitVec 512) (k : Core) : Core :=
  if Rd.digest d then k else { k with drops := k.drops ++ [⟨desc, d, Rd.group d⟩] }

theorem enterDrops_shows (desc : Nat) (d : BitVec 512) (k : Core) : (enterDrops desc d k).ops = k.ops
    ∧ (enterDrops desc d k).alm = k.alm
    ∧ (enterDrops desc d k).drops = k.drops ++ (if Rd.digest d then [] else [⟨desc, d, Rd.group d⟩]) := by
  unfold enterDrops
  split
  · exact ⟨rfl, rfl, (List.append_nil _).symm⟩
  · exact ⟨rfl, rfl, rfl⟩

/-- The REDUCE `o` has its place and its entry in the drop list. -/
def reduceTaken (s : State) (c : Nat) (o : Op) : State := setCore s c (enterDrops o.desc o.image ((core s c).push o))

theorem exec_reduce {c : Fin 512} {s s1 : State} {e : QWord} {d : BitVec 512} (hl : launches s c .reduce e)
    (hroom : hasRoom (core s c) = true) (hbusy : cellarBusy (noteLaunch s c e) (c.val / 128) = false)
    (hread : readDesc (noteLaunch s c e) c (entArg e 0 16) = (s1, some d, false))
    (hcheck : rdCheck d (groupEntry s1 (Rd.group d)) = 0) {rows : List (List (Except RowFault RowPlace))}
    (hrows : rows = (List.range (Rd.chunks d)).map (fun i => chunkRows s1 c d (groupEntry s1 (Rd.group d)) i))
    (hfault : firstFault rows.flatten = none) (hgroup : rdGroupCheck (core s1 c) d (groupEntry s1 (Rd.group d)) = 0)
    (hreset : rowsReset s1 rows.flatten = false) :
    exec (.reduce c) s = .next (advanceHead (placeChunks c (core s1 c).nextOp (Rd.chunks d)
      (reduceTaken s1 c (reduceOp s1 c e d rows))) c) := by
  have hexec : exec (.reduce c) s = .next (launch s c .reduce _ _) := rfl
  rw [hexec, launch_of_launches hl, hroom]
  simp only [if_true, hbusy, hread, Option.getD_some, hcheck, ← hrows, hfault, hgroup, hreset, ne_eq, not_true_eq_false,
    Bool.false_eq_true, if_false]
  rfl

/-- What the launch of a REDUCE on time leaves once its chunks have been placed. -/
theorem reduceTaken_shows {s u t : State} (hn : Noted s u) {c : Nat} (o : Op) (hp : Placed c (reduceTaken u c o) t) :
    (∃ o', o' ∈ (core (advanceHead t c) c).ops ∧ o'.launchedAs = { o with id := (core s c).nextOp }.launchedAs)
      ∧ (core (advanceHead t c) c).drops = (core s c).drops
        ++ (if Rd.digest o.image then [] else [⟨o.desc, o.image, Rd.group o.image⟩])
      ∧ movedOn c s (advanceHead t c) := by
  obtain ⟨hops, halm, hdrops⟩ := enterDrops_shows o.desc o.image ((core u c).push o)
  have hcore : core (reduceTaken u c o) c = enterDrops o.desc o.image ((core u c).push o) := core_setCore_same u c _
  rw [← hcore] at hops halm hdrops
  rw [hn.core] at hops halm hdrops
  have hin : { o with id := (core s c).nextOp } ∈ (core (reduceTaken u c o) c).ops := by
    rw [hops]; exact List.mem_append_right _ (List.mem_singleton_self _)
  have halm' : (core t c).alm = (core s c).alm := hp.alm.trans halm
  refine ⟨?_, ?_, movedOn_advanceHead (congrArg _ halm') (congrArg _ halm') (hp.time.trans hn.time)⟩
  · rw [advanceHead, core_updCore_same]
    exact hp.mem_ops hin
  · rw [advanceHead, core_updCore_same]
    exact hp.drops.trans hdrops

/-- Settles O11: a refusal changes its core at the flag, and the chunks of a REDUCE leave what it was launched as. -/
theorem descriptorsLaunch : Obligations.DescriptorsLaunch := by
  refine ⟨fun c s s1 e d hl ht hroom hread hcheck => ?move,
    fun c s s1 e d hl ht hroom hread hcheck hfault hgroup hreset => ?reduce⟩
  all_goals obtain ⟨hbusy, hdesc, hn⟩ := readsDesc_shows ht hread
  case move =>
    obtain ⟨hcore, htime⟩ := refuseDesc_shows s1 c.isLt (mvCheck d) 0x03 (entArg e 0 16) (entArg e 16 8)
    rw [hn.core] at hcore
    refine ⟨_, exec_move_refused hl hroom hbusy hdesc hcheck, ?_, ?_, ?_,
      movedOn_advanceHead (by rw [hcore]; rfl) (by rw [hcore]; rfl) (htime.trans hn.time)⟩ <;>
      rw [advanceHead, core_updCore_same, hcore]
    · exact flag_bumpFlag_same (core s c) _ true
    · exact poison_bumpFlag (core s c) (fld_lt _ 16 8)
    · rfl
  case reduce =>
    obtain ⟨⟨o, ho, hlabel⟩, hdrops, hmoved⟩ := reduceTaken_shows hn (reduceOp s1 c e d _)
      (placed_placeChunks c.isLt (core s1 c).nextOp (Rd.chunks d) _)
    obtain ⟨hid, hkind, hdesc', hflag, himage⟩ : _ ∧ _ ∧ _ ∧ _ ∧ _ := by simpa only [Op.launchedAs, Prod.mk.injEq] using hlabel
    exact ⟨_, exec_reduce hl hroom hbusy hdesc hcheck rfl hfault hgroup hreset, ⟨o, ho, hid, hkind, hdesc', hflag, himage⟩, hdrops,
      hmoved⟩

end Sys2Proof.Machine
end

section
/-!
SUPPORT. The issue of a vector instruction (R140, R142, R148, R158, R160).
-/
namespace Sys2Proof.Machine

/-! ## Registers of the engine (R140, R148) -/

theorem lane_setLanes_same (v : VecState) (r en : Nat) (f : Nat → Word) {i : Nat} (h : i < 64) :
    (v.setLanes r en f).lane r i = if en.testBit i then f i else v.lane r i := by
  simp only [VecState.setLanes, VecState.lane, tget_tset_same]
  rw [List.getD_eq_getElem?_getD, List.getElem?_map, List.getElem?_range h]
  rfl

theorem lane_setLanes_ne (v : VecState) {r q : Nat} (en : Nat) (f : Nat → Word) (h : q ≠ r) (i : Nat) :
    (v.setLanes r en f).lane q i = v.lane q i := by
  simp only [VecState.setLanes, VecState.lane, tget_tset_ne _ _ _ h]

theorem setLanes_keeps (v : VecState) (r en : Nat) (f : Nat → Word) :
    (v.setLanes r en f).m = v.m ∧ (v.setLanes r en f).a = v.a ∧ (v.setLanes r en f).gens = v.gens := by
  simp only [VecState.setLanes, and_self]

/-- The number of 64 bits that `setMask` writes. -/
def VecState.maskSet (v : VecState) (m en : Nat) (f : Nat → Bool) : Nat :=
  (List.range 64).foldl (fun n i => n + b2n (if en.testBit i then f i else (v.mask m).testBit i) * 2 ^ i) 0

theorem setMask_eq (v : VecState) (m en : Nat) (f : Nat → Bool) :
    v.setMask m en f = { v with m := tset 0 m (BitVec.ofNat 64 (v.maskSet m en f)) v.m } := rfl

theorem setMask_keeps (v : VecState) (m en : Nat) (f : Nat → Bool) : (v.setMask m en f).v = v.v ∧ (v.setMask m en f).a = v.a := by
  rw [setMask_eq]
  exact ⟨rfl, rfl⟩

/-- Only the enabled lanes among the 64 of a register matter to what is set in it. -/
theorem setLanes_congr (v : VecState) (r : Nat) {en : Nat} {f g : Nat → Word} (h : ∀ i, i < 64 → en.testBit i = true → f i = g i) :
    v.setLanes r en f = v.setLanes r en g := by
  rw [VecState.setLanes, VecState.setLanes]
  congr 2
  refine List.map_congr_left fun i hi => ?_
  split
  · exact h i (List.mem_range.1 hi) ‹_›
  · rfl

/-- The number whose low `n` bits are those of `b`. -/
theorem testBit_foldl_bits (b : Nat → Bool) : ∀ n : Nat,
    (List.range n).foldl (fun x i => x + b2n (b i) * 2 ^ i) 0 < 2 ^ n
      ∧ ∀ i, i < n → ((List.range n).foldl (fun x i => x + b2n (b i) * 2 ^ i) 0).testBit i = b i
  | 0 => ⟨Nat.one_pos, fun _ h => absurd h (Nat.not_lt_zero _)⟩
  | n + 1 => by
    obtain ⟨hlt, hbit⟩ := testBit_foldl_bits b n
    rw [List.range_succ, List.foldl_append, List.foldl_cons, List.foldl_nil]
    generalize (List.range n).foldl (fun x i => x + b2n (b i) * 2 ^ i) 0 = x at hlt hbit
    rw [show x + b2n (b n) * 2 ^ n = 2 ^ n * b2n (b n) + x by ring]
    refine ⟨?_, fun i hi => ?_⟩
    · have : b2n (b n) ≤ 1 := by cases b n <;> decide
      rw [Nat.pow_succ]
      nlinarith
    · rw [Nat.testBit_two_pow_mul_add _ hlt]
      by_cases hin : i < n
      · rw [if_pos hin, hbit i hin]
      · have : i = n := by omega
        subst this
        rw [if_neg hin, Nat.sub_self, b2n_testBit_zero]

theorem mask_setMask_same (v : VecState) {m : Nat} (en : Nat) (f : Nat → Bool) (hm : m ≠ 0) {i : Nat} (h : i < 64) :
    ((v.setMask m en f).mask m).testBit i = if en.testBit i then f i else (v.mask m).testBit i := by
  obtain ⟨hlt, hbit⟩ := testBit_foldl_bits (fun i => if en.testBit i then f i else (v.mask m).testBit i) 64
  rw [VecState.mask, if_neg hm, setMask_eq, tget_tset_same, BitVec.toNat_ofNat, VecState.maskSet, Nat.mod_eq_of_lt hlt, hbit i h]

theorem mask_setMask_ne (v : VecState) {m q : Nat} (en : Nat) (f : Nat → Bool) (h : q ≠ m) : (v.setMask m en f).mask q = v.mask q := by
  rw [setMask_eq, VecState.mask, VecState.mask, tget_tset_ne _ _ _ h]

/-! ## The issue counted (R158) -/

theorem countIssue_eq (s : State) (c w : Nat) :
    countIssue s c w = { s with regs := (countIssue s c w).regs, activity := (countIssue s c w).activity } := by
  simp only [countIssue]
  split <;> rfl

theorem countIssue_regs (s : State) (c w : Nat) : (countIssue s c w).regs = (addReg64 s .core c Off.coreVxIssueLo 1).regs := by
  simp only [countIssue]
  split <;> rfl

theorem countIssue_cores (s : State) (c w : Nat) : (countIssue s c w).cores = s.cores := by rw [countIssue_eq]

theorem core_countIssue (s : State) (c w d : Nat) : core (countIssue s c w) d = core s d := core_of_cores (countIssue_cores s c w) d

/-- VX_ISSUE has counted one more. -/
theorem reg64_countIssue (s : State) (c w : Nat) :
    reg64 (countIssue s c w) .core c Off.coreVxIssueLo = reg64 s .core c Off.coreVxIssueLo + 1 := by
  have hreg (b : Block) (i off : Nat) : reg (countIssue s c w) b i off = reg (addReg64 s .core c Off.coreVxIssueLo 1) b i off := by
    rw [reg, countIssue_regs, ← reg]
  rw [reg64, hreg, hreg, ← reg64]
  exact reg64_addReg64_same s .core c Off.coreVxIssueLo 1

/-- The words of VX_ISSUE. -/
abbrev issueKeys (c : Nat) : List Nat := [regKey .core c Off.coreVxIssueLo, regKey .core c (Off.coreVxIssueLo + 4)]

theorem otherRegs_countIssue (s : State) (c w : Nat) : otherRegs (issueKeys c) s (countIssue s c w) := by
  intro b i off hk
  rw [List.mem_cons, List.mem_singleton, not_or] at hk
  obtain ⟨hlo, hhi⟩ := hk
  rw [reg, countIssue_regs, ← reg]
  exact reg_setReg64_ne s _ _ _ _ _ _ _ hlo hhi

/-! ## The run (R142, R157) -/

/-- The run past its instruction, poisoned if `bad`. -/
def VecRun.past (r : VecRun) (bad : Bool) : VecRun :=
  { r with loops := (vecAdvance r.loops (r.pc + 1)).1, pc := (vecAdvance r.loops (r.pc + 1)).2, poisoned := r.poisoned || bad }

theorem past_false (r : VecRun) : r.past false
    = { r with loops := (vecAdvance r.loops (r.pc + 1)).1, pc := (vecAdvance r.loops (r.pc + 1)).2 } := by
  rw [VecRun.past, Bool.or_false]

/-- What keeps the last run from issuing: it is a LOAD, waits for its tile or in a TREL, or has ended (R142, R144, R145). -/
def VecRun.rests (r : VecRun) : Bool := r.load || r.needTile || r.ended || r.trel

theorem issuing_setRun (k : Core) (r : VecRun) : issuing (k.setRun r) = if r.rests then none else some r := by
  rw [issuing, Core.setRun, List.getLast?_concat]; rfl

theorem rests_of_issuing {k : Core} {r : VecRun} (h : issuing k = some r) : r.rests = false := by
  unfold issuing at h
  split at h
  · split at h
    · cases h
    · cases h; exact Bool.not_eq_true _ ▸ ‹_›
  · cases h

theorem issuing_past {k : Core} {r : VecRun} (h : issuing k = some r) (k' : Core) (bad : Bool) :
    issuing (k'.setRun (r.past bad)) = some (r.past bad) := by
  have hrests : (r.past bad).rests = r.rests := rfl
  rw [issuing_setRun, hrests, rests_of_issuing h]; rfl

/-- A run whose next instruction is in the program store moves to it. -/
theorem vecNext_of_lt (s : State) (c : Nat) {r : VecRun} (bad : Bool) (h : (vecAdvance r.loops (r.pc + 1)).2 < 2048) :
    vecNext s c r bad = updCore s c (fun k => k.setRun (r.past bad)) := if_neg (Nat.not_le.2 h)

/-- An instruction that does what it says, and the run past it. -/
theorem vecIssue_of_ok {s : State} {c : Nat} {r : VecRun} {w : Nat} (hi : issues s c r w) {mine : Nat → Bool}
    (hm : mine (Vi.opc w) = true) {act : State → VecRun → Nat → Except Nat (State × Bool)} {s2 : State} {bad : Bool}
    (ha : act (countIssue s c w) r w = .ok (s2, bad)) :
    vecIssue s c mine act = updCore s2 c (fun k => k.setRun (r.past bad)) := by
  obtain ⟨hr, hc, rfl, hpc⟩ := hi
  simp only [vecIssue, hr, hc, hm, ha, Bool.not_true, Bool.or_self, Bool.false_eq_true, if_false]
  exact vecNext_of_lt s2 c bad hpc

/-- An instruction whose check fails, and its fault (R160). -/
theorem vecIssue_of_error {s : State} {c : Nat} {r : VecRun} {w : Nat} (hi : issues s c r w) {mine : Nat → Bool}
    (hm : mine (Vi.opc w) = true) {act : State → VecRun → Nat → Except Nat (State × Bool)} {reason : Nat}
    (ha : act (countIssue s c w) r w = .error reason) :
    vecIssue s c mine act = vecFault (countIssue s c w) c r reason r.pc := by
  obtain ⟨hr, hc, rfl, -⟩ := hi
  simp only [vecIssue, hr, hc, hm, ha, Bool.not_true, Bool.or_self, Bool.false_eq_true, if_false]

/-- What is left by an instruction that changes its own core alone. -/
theorem issuedOne_of_ownCore {s u : State} {c : Nat} {r : VecRun} {w : Nat} (hi : issues s c r w)
    (hu : otherCores c (countIssue s c w) u ∧ ∃ k, u = { countIssue s c w with cores := k }) :
    issuedOne c r s (updCore u c (fun k => k.setRun (r.past false))) := by
  obtain ⟨hothers, cs, hcs⟩ := hu
  have hreg (b : Block) (i off : Nat) : reg u b i off = reg (countIssue s c w) b i off := by rw [hcs]; rfl
  refine ⟨?run, ?count, fun b i off hk => ?regs, ?cores, ?rest⟩
  case run => rw [core_updCore_same, issuing_past hi.1, past_false]
  case count => rw [← reg64_countIssue s c w, reg64, reg64, reg_updCore, reg_updCore, hreg, hreg]
  case regs => rw [reg_updCore, hreg]; exact otherRegs_countIssue s c w b i off hk
  case cores =>
    exact otherCores_trans (otherCores_of_cores (countIssue_cores s c w) c) (otherCores_trans hothers (otherCores_updCore u c _))
  case rest =>
    refine ⟨(updCore u c fun k => k.setRun (r.past false)).cores, (countIssue s c w).regs, (countIssue s c w).activity, ?_⟩
    have hall : u = { s with cores := cs, regs := (countIssue s c w).regs, activity := (countIssue s c w).activity } :=
      hcs.trans (congrArg (fun x : State => { x with cores := cs }) (countIssue_eq s c w))
    exact congrArg (fun x : State => { x with cores := (updCore u c fun k => k.setRun (r.past false)).cores }) hall

/-- The engine's registers changed by `f`, which sees the mask that enables lanes. -/
def aluDone (f : VecState → Nat → Nat → VecState) (w : Nat) (k : Core) : Core := { k with vec := f k.vec w (k.vec.mask (Vi.mk w)) }

/-- An ALU instruction whose fields are in order does its work on the engine's registers, and the run moves on (R146, R148). -/
theorem vecAlu_shows {s : State} {c : Nat} {r : VecRun} {w : Nat} (hi : issues s c r w) {ok : Nat → Bool} (hok : ok w = true)
    (f : VecState → Nat → Nat → VecState) :
    (core (vecAlu c (Vi.opc w) ok f s) c).vec = f (core s c).vec w ((core s c).vec.mask (Vi.mk w))
      ∧ issuedOne c r s (vecAlu c (Vi.opc w) ok f s) := by
  have hrun : vecAlu c (Vi.opc w) ok f s = updCore (updCore (countIssue s c w) c (aluDone f w)) c (fun k => k.setRun (r.past false)) :=
    vecIssue_of_ok hi (mine := fun o => o == Vi.opc w) (beq_self_eq_true _)
      (act := fun u _ x => if ok x then .ok (updCore u c (aluDone f x), false) else .error 0x20) (if_pos hok)
  rw [hrun]
  refine ⟨?_, issuedOne_of_ownCore hi (updCore_only _ c _)⟩
  rw [core_updCore_same, core_updCore_same, core_countIssue]
  rfl

/-- A command that sets the enabled lanes of VD has the lane result that it sets. -/
theorem lanesResult_of_vecAlu {i : Fin 512 → Instr} {opc : Nat} {ok ok' : Nat → Bool} {g : VecState → Nat → Nat → VecState}
    {f : VecState → Nat → Nat → Word} (hexec : ∀ c s, exec (i c) s = .next (vecAlu c.val opc ok' g s))
    (hok : ∀ w, ok w = true → ok' w = true)
    (hg : ∀ v w, ok w = true → g v w (v.mask (Vi.mk w)) = v.setLanes (Vi.vd w) (v.mask (Vi.mk w)) (f v w)) :
    lanesResult i opc ok f := by
  rintro c s r w hi rfl hw
  obtain ⟨hvec, hone⟩ := vecAlu_shows hi (hok w hw) g
  rw [hg _ _ hw] at hvec
  obtain ⟨hm, ha, -⟩ := setLanes_keeps (core s c).vec (Vi.vd w) ((core s c).vec.mask (Vi.mk w)) (f (core s c).vec w)
  rw [← hvec] at hm ha
  refine ⟨_, hexec c s, ⟨fun j hj => ?_, fun q j hq => ?_, hm, ha⟩, hone⟩
  · rw [hvec]; exact lane_setLanes_same _ _ _ _ hj
  · rw [hvec]; exact lane_setLanes_ne _ _ _ hq j

/-- A command that sets the enabled bits of a mask has the mask result that it sets. -/
theorem maskResult_of_vecAlu {i : Fin 512 → Instr} {opc : Nat} {ok ok' : Nat → Bool} {f : VecState → Nat → Nat → Bool}
    (hexec : ∀ c s, exec (i c) s = .next (vecAlu c.val opc (fun w => ok' w && maskDestOk w)
      (fun v w en => v.setMask (Vi.vd w) en (f v w)) s))
    (hok : ∀ w, ok w = true → ok' w = true) : maskResult i opc ok f := by
  rintro c s r w hi rfl hw h1 h7
  have hdest : (ok' w && maskDestOk w) = true := by
    simp [hok w hw, maskDestOk]; omega
  obtain ⟨hvec, hone⟩ := vecAlu_shows hi (ok := fun w => ok' w && maskDestOk w) hdest
    (fun v w en => v.setMask (Vi.vd w) en (f v w))
  obtain ⟨hv, ha⟩ := setMask_keeps (core s c).vec (Vi.vd w) ((core s c).vec.mask (Vi.mk w)) (f (core s c).vec w)
  rw [← hvec] at hv ha
  refine ⟨_, hexec c s, ⟨fun j hj => ?_, fun q hq => ?_, hv, ha⟩, hone⟩
  · rw [hvec]; exact mask_setMask_same _ _ _ (by omega) hj
  · rw [hvec]; exact mask_setMask_ne _ _ _ hq

end Sys2Proof.Machine
end

section
/-!
PROOFS. The lane instructions (R147 to R153).
-/
namespace Sys2Proof.Machine

/-! ## Instruction fields (R146) -/

theorem srcOk_twoSources {w : Nat} (h : twoSources w = true) : srcOk w .vector .vector .unused 0 = true := by
  obtain ⟨hc, himm⟩ := Bool.and_eq_true_iff.1 h
  simp_all [srcOk, SrcUse.ok]

theorem srcOk_threeSources {w : Nat} (h : threeSources w = true) : srcOk w .vector .vector .vector 0 = true := by
  simp_all [threeSources, srcOk, SrcUse.ok]

theorem srcOk_oneSource {n w : Nat} (h : oneSource n w = true) : srcOk w .vector .unused .unused n = true := by
  simpa [oneSource, srcOk, SrcUse.ok] using h

theorem srcOk_oneSource_and {n w : Nat} {b : Bool} (h : (oneSource n w && b) = true) :
    (srcOk w .vector .unused .unused n && b) = true := by
  obtain ⟨hone, hb⟩ := Bool.and_eq_true_iff.1 h
  rw [srcOk_oneSource hone, hb]; rfl

/-- Two source registers and an immediate of `n` bits, as SEL, ILV and DLV have them. -/
theorem srcOk_immediate (n : Nat) {w : Nat} (h : (Vi.vc w == 0 && decide (Vi.imm w < 2 ^ n)) = true) :
    srcOk w .vector .vector .unused n = true := by
  simpa [srcOk, SrcUse.ok] using h

/-! ## The shapes of a lane instruction (R147) -/

theorem lanesResult_laneOp2 {i : Fin 512 → Instr} {opc : Nat} (f : Word → Word → Word)
    (hexec : ∀ c s, exec (i c) s = .next (laneOp2 c.val opc f s)) :
    lanesResult i opc twoSources (fun v w j => f (v.lane (Vi.va w) j) (v.lane (Vi.vb w) j)) :=
  lanesResult_of_vecAlu hexec (fun _ => srcOk_twoSources) fun _ _ _ => rfl

theorem lanesResult_laneOp3 {i : Fin 512 → Instr} {opc : Nat} (f : Word → Word → Word → Word)
    (hexec : ∀ c s, exec (i c) s = .next (laneOp3 c.val opc f s)) :
    lanesResult i opc threeSources (fun v w j => f (v.lane (Vi.va w) j) (v.lane (Vi.vb w) j) (v.lane (Vi.vc w) j)) :=
  lanesResult_of_vecAlu hexec (fun _ => srcOk_threeSources) fun _ _ _ => rfl

theorem lanesResult_laneOp1 {i : Fin 512 → Instr} {opc n : Nat} (f : Nat → Word → Word)
    (hexec : ∀ c s, exec (i c) s = .next (laneOp1 c.val opc n (fun _ => true) f s)) :
    lanesResult i opc (oneSource n) (fun v w j => f (Vi.imm w) (v.lane (Vi.va w) j)) :=
  lanesResult_of_vecAlu hexec (fun w h => by rw [srcOk_oneSource h]; rfl) fun _ _ _ => rfl

/-! ## CVT without RND (R152) -/

/-- An immediate of four bits is its low field, and the fields above are 0. -/
theorem imm_fields {w : Nat} (h : Vi.imm w < 2 ^ 4) : fld w 0 4 = Vi.imm w ∧ w.testBit 4 = false ∧ fld w 5 4 = 0 := by
  have hsub (lo n : Nat) (hn : lo + n ≤ 31) : fld w lo n = fld (Vi.imm w) lo n := by
    refine Nat.eq_of_testBit_eq fun i => ?_
    rw [Vi.imm, testBit_fld, testBit_fld, testBit_fld, Nat.zero_add]
    by_cases hi : i < n
    · simp [hi, show lo + i < 31 by omega]
    · simp [hi]
  have hbit : w.testBit 4 = (fld w 4 1).testBit 0 := by rw [testBit_fld]; rfl
  have hhigh (lo n : Nat) (hlo : 4 ≤ lo) : fld (Vi.imm w) lo n = 0 := by
    rw [fld, Nat.shiftRight_eq_zero _ _ (h.trans_le (Nat.pow_le_pow_right (by decide) hlo)), Nat.zero_mod]
  refine ⟨?_, ?_, ?_⟩
  · rw [hsub 0 4 (by decide), fld, Nat.shiftRight_zero, Nat.mod_eq_of_lt h]
  · rw [hbit, hsub 4 1 (by decide), hhigh 4 1 (by decide)]; rfl
  · rw [hsub 5 4 (by decide), hhigh 5 4 (by decide)]

/-- CVT rounds to nearest even where RND is 0. -/
theorem lanesResult_cvt : lanesResult .cvt 0x0E (fun w => oneSource 4 w && (cvtElem (Vi.imm w)).isSome) (fun v w i =>
    BitVec.ofNat 32 (narrow ((cvtElem (Vi.imm w)).getD .bf16) none (f32 (v.lane (Vi.va w) i)))) := by
  have hfields {w : Nat} (h : (oneSource 4 w && (cvtElem (Vi.imm w)).isSome) = true) :
      fld w 0 4 = Vi.imm w ∧ w.testBit 4 = false ∧ fld w 5 4 = 0 := by
    simp only [oneSource, Bool.and_eq_true, decide_eq_true_eq] at h
    exact imm_fields h.1.2
  refine lanesResult_of_vecAlu (fun _ _ => rfl) (fun w h => ?_) fun v w h => ?_
  · obtain ⟨hlow, hrnd, hsr⟩ := hfields h
    obtain ⟨hone, hcode⟩ := Bool.and_eq_true_iff.1 h
    have hwide : oneSource 9 w = true := by
      simp only [oneSource, Bool.and_eq_true, decide_eq_true_eq] at hone ⊢
      exact ⟨hone.1, by omega⟩
    simp only [srcOk_oneSource hwide, hlow, hcode, hrnd, hsr]
    rfl
  · obtain ⟨hlow, hrnd, -⟩ := hfields h
    simp only [hlow, hrnd]
    rfl

/-- Settles O17: each floating-point command is an ALU command whose result lanes are those stated. -/
theorem vectorFloatLanes : Obligations.VectorFloatLanes :=
  ⟨lanesResult_laneOp2 fadd fun _ _ => rfl,
    lanesResult_laneOp2 (fun a b => toF32 ((f32 a).add (f32 b).neg)) fun _ _ => rfl,
    lanesResult_laneOp2 fmul fun _ _ => rfl,
    lanesResult_laneOp3 ffma fun _ _ => rfl,
    lanesResult_laneOp3 (fun a b c => toF32 (((f32 a).mul (f32 b)).add (f32 c).neg)) fun _ _ => rfl,
    lanesResult_laneOp2 fmin fun _ _ => rfl,
    lanesResult_laneOp2 fmax fun _ _ => rfl,
    lanesResult_laneOp1 (fun _ a => toF32 (exp2Num (f32 a))) fun _ _ => rfl,
    lanesResult_laneOp1 (fun _ a => toF32 (log2Num (f32 a))) fun _ _ => rfl,
    lanesResult_laneOp1 (fun _ a => toF32 (rcpNum (f32 a))) fun _ _ => rfl,
    lanesResult_laneOp1 (fun _ a => toF32 (rsqNum (f32 a))) fun _ _ => rfl,
    lanesResult_cvt,
    lanesResult_of_vecAlu (fun _ _ => rfl) (fun _ => srcOk_oneSource_and) fun _ _ _ => rfl⟩

/-- IOTA uses no source register. -/
theorem srcOk_iota {w : Nat} (h : (Vi.va w == 0 && oneSource 31 w) = true) : srcOk w .unused .unused .unused 31 = true := by
  simpa [oneSource, srcOk, SrcUse.ok, and_assoc] using h

/-- Settles O18: each integer or cross-lane command is an ALU command whose result lanes are those stated. -/
theorem vectorIntegerLanes : Obligations.VectorIntegerLanes :=
  ⟨lanesResult_laneOp2 (fun a b => a + b) fun _ _ => rfl,
    lanesResult_laneOp2 (fun a b => a &&& b) fun _ _ => rfl,
    lanesResult_laneOp2 (fun a b => a ||| b) fun _ _ => rfl,
    lanesResult_laneOp2 (fun a b => a ^^^ b) fun _ _ => rfl,
    lanesResult_laneOp1 (fun n a => a <<< n) fun _ _ => rfl,
    lanesResult_laneOp1 (fun n a => a >>> n) fun _ _ => rfl,
    lanesResult_laneOp1 (fun n a => a.sshiftRight n) fun _ _ => rfl,
    lanesResult_laneOp2 (fun a b => if a.toInt ≤ b.toInt then a else b) fun _ _ => rfl,
    lanesResult_laneOp2 (fun a b => if b.toInt ≤ a.toInt then a else b) fun _ _ => rfl,
    lanesResult_of_vecAlu (fun _ _ => rfl) (fun _ => srcOk_iota) fun _ _ _ => rfl,
    lanesResult_of_vecAlu (fun _ _ => rfl) (fun _ => srcOk_immediate 3) fun _ _ _ => rfl,
    lanesResult_of_vecAlu (fun _ _ => rfl) (fun _ => srcOk_oneSource) fun _ _ _ => rfl,
    lanesResult_of_vecAlu (fun _ _ => rfl) (fun _ => srcOk_oneSource) fun _ _ _ => rfl,
    lanesResult_of_vecAlu (fun _ _ => rfl) (fun _ => srcOk_oneSource_and) fun _ _ _ => rfl⟩

/-- Settles O19: each lane move is an ALU command whose result lanes are those of R153. -/
theorem laneMoves : Obligations.LaneMoves :=
  ⟨lanesResult_of_vecAlu (fun _ _ => rfl) (fun _ => srcOk_threeSources) fun _ _ _ => rfl,
    lanesResult_of_vecAlu (fun _ _ => rfl) (fun _ => srcOk_immediate 1) fun _ _ _ => rfl,
    lanesResult_of_vecAlu (fun _ _ => rfl) (fun _ => srcOk_immediate 1) fun _ _ _ => rfl,
    lanesResult_of_vecAlu (fun _ _ => rfl) (fun _ => srcOk_oneSource_and) fun _ _ _ => rfl,
    lanesResult_of_vecAlu (fun _ _ => rfl) (fun _ => srcOk_oneSource_and) fun _ _ _ => rfl⟩

/-! ## Masks (R147, R149) -/

theorem maskResult_laneCmp {i : Fin 512 → Instr} {opc : Nat} (f : Nat → Word → Word → Bool)
    (hexec : ∀ c s, exec (i c) s = .next (laneCmp c.val opc f s)) :
    maskResult i opc (fun w => Vi.vc w == 0 && decide (Vi.imm w ≤ 5))
      (fun v w j => f (Vi.imm w) (v.lane (Vi.va w) j) (v.lane (Vi.vb w) j)) := by
  refine maskResult_of_vecAlu (ok' := fun w => srcOk w .vector .vector .unused 3 && decide (Vi.imm w ≤ 5)) (fun c s => ?_) fun w h => ?_
  · rw [hexec, laneCmp]
    congr 2
    funext w
    exact Bool.and_right_comm _ _ _
  · obtain ⟨hvc, himm⟩ := Bool.and_eq_true_iff.1 h
    have hsrc : srcOk w .vector .vector .unused 3 = true :=
      srcOk_immediate 3 (Bool.and_eq_true_iff.2 ⟨hvc, decide_eq_true ((of_decide_eq_true himm).trans_lt (by decide))⟩)
    exact Bool.and_eq_true_iff.2 ⟨hsrc, himm⟩

theorem maskResult_maskOp {i : Fin 512 → Instr} {opc : Nat} {b : SrcUse} (f : Bool → Bool → Bool) {ok : Nat → Bool}
    (hexec : ∀ c s, exec (i c) s = .next (maskOp c.val opc b f s)) (hok : ∀ w, ok w = true → srcOk w .mask b .unused 0 = true) :
    maskResult i opc ok (fun v w j => f ((v.mask (Vi.va w)).testBit j) ((v.mask (Vi.vb w)).testBit j)) :=
  maskResult_of_vecAlu hexec hok

/-- Two masks as sources. -/
theorem srcOk_twoMasks {w : Nat} (h : (twoSources w && decide (Vi.va w < 8) && decide (Vi.vb w < 8)) = true) :
    srcOk w .mask .mask .unused 0 = true := by
  simp_all [twoSources, srcOk, SrcUse.ok]

/-- One mask as a source. -/
theorem srcOk_oneMask {w : Nat} (h : (twoSources w && decide (Vi.va w < 8) && Vi.vb w == 0) = true) :
    srcOk w .mask .unused .unused 0 = true := by
  simp_all [twoSources, srcOk, SrcUse.ok]

/-- Settles O20: each command is an ALU command that sets the bits stated. -/
theorem vectorMasks : Obligations.VectorMasks :=
  ⟨maskResult_laneCmp fcond fun _ _ => rfl,
    maskResult_laneCmp icond fun _ _ => rfl,
    maskResult_maskOp (fun a b => a && b) (fun _ _ => rfl) fun _ => srcOk_twoMasks,
    maskResult_maskOp (fun a b => a || b) (fun _ _ => rfl) fun _ => srcOk_twoMasks,
    maskResult_maskOp (fun a b => a ^^ b) (fun _ _ => rfl) fun _ => srcOk_twoMasks,
    maskResult_maskOp (fun a _ => !a) (fun _ _ => rfl) fun _ => srcOk_oneMask⟩

end Sys2Proof.Machine
end

section
/-!
PROOFS. The instructions that steer the vector program, and a bad instruction (R140, R145 to R147, R157, R159, R160).
-/
namespace Sys2Proof.Machine

theorem srcOk_noSource {n w : Nat} (ha : Vi.va w = 0) (hb : Vi.vb w = 0) (hc : Vi.vc w = 0) (hi : Vi.imm w < 2 ^ n) :
    srcOk w .unused .unused .unused n = true := by
  rw [srcOk, ha, hb, hc, decide_eq_true hi]; rfl

/-! ## NOP and AADD -/

theorem exec_nop {c : Fin 512} {s : State} {r : VecRun} (hi : issues s c r 0) :
    exec (.nop c) s = .next (updCore (countIssue s c 0) c (fun k => k.setRun (r.past false))) :=
  congrArg Host.Outcome.next (vecIssue_of_ok hi (mine := fun o => o == 0 || !vxListed o) (by decide)
    (act := fun u _ w => if w = 0 then .ok (u, false) else .error 0x20) (if_pos rfl))

/-- The word that AADD writes over `old`: bits [31:25] stay, the signed immediate is added below (R147). -/
def addedAddr (w old : Nat) : Nat := setFld old 0 25 (unsgn 25 ((old % 2 ^ 25 : Nat) + sgn 24 (Vi.imm w)))

/-- AADD has been done. -/
def addAddr (w : Nat) (k : Core) : Core :=
  { k with vec := { k.vec with a := tset 0 (Vi.vd w) (BitVec.ofNat 32 (addedAddr w (k.vec.addr (Vi.vd w)))) k.vec.a } }

theorem exec_aadd {c : Fin 512} {s : State} {r : VecRun} {w : Nat} (hi : issues s c r w) (ho : Vi.opc w = 0x33)
    (hok : Vi.mk w = 0 ∧ Vi.vd w < 16 ∧ srcOk w .unused .unused .unused 24 = true) :
    exec (.aadd c) s = .next (updCore (updCore (countIssue s c w) c (addAddr w)) c (fun k => k.setRun (r.past false))) :=
  congrArg Host.Outcome.next (vecIssue_of_ok hi (mine := fun o => o == 0x33) (by rw [ho]; rfl)
    (act := fun u _ w => if Vi.mk w = 0 ∧ Vi.vd w < 16 ∧ srcOk w .unused .unused .unused 24 then .ok (updCore u c (addAddr w), false)
      else .error 0x20) (if_pos hok))

theorem addedAddr_shows (w old : Nat) : addedAddr w old / 2 ^ 25 = old / 2 ^ 25
    ∧ ((addedAddr w old % 2 ^ 25 : Nat) : Int) = ((old % 2 ^ 25 : Nat) + sgn 24 (Vi.imm w)) % 2 ^ 25 := by
  have hpos : (0 : Int) ≤ ((old % 2 ^ 25 : Nat) + sgn 24 (Vi.imm w)) % 2 ^ 25 := Int.emod_nonneg _ (by decide)
  have hlt : ((old % 2 ^ 25 : Nat) + sgn 24 (Vi.imm w)) % 2 ^ 25 < 2 ^ 25 := Int.emod_lt_of_pos _ (by decide)
  rw [addedAddr, setFld_eq, unsgn, Nat.cast_pow, Nat.cast_ofNat, Nat.shiftRight_eq_div_pow]
  generalize ((old % 2 ^ 25 : Nat) + sgn 24 (Vi.imm w)) % 2 ^ 25 = x at hpos hlt ⊢
  omega

theorem addr_addAddr (w : Nat) (k : Core) : (addAddr w k).vec.addr (Vi.vd w) = addedAddr w (k.vec.addr (Vi.vd w))
    ∧ ∀ q, q ≠ Vi.vd w → (addAddr w k).vec.addr q = k.vec.addr q := by
  have hlt : addedAddr w (k.vec.addr (Vi.vd w)) < 2 ^ 32 := setFld_lt _ _ _ _ (BitVec.isLt _) (by decide)
  refine ⟨?_, fun q hq => ?_⟩
  · rw [VecState.addr, addAddr, tget_tset_same, BitVec.toNat_ofNat, Nat.mod_eq_of_lt hlt]
  · rw [VecState.addr, addAddr, tget_tset_ne _ _ _ hq, ← VecState.addr]

theorem addAddr_keeps (w : Nat) (k : Core) : (addAddr w k).vec.v = k.vec.v ∧ (addAddr w k).vec.m = k.vec.m := by
  rw [addAddr]
  exact ⟨rfl, rfl⟩

/-! ## TREL, LOOP and END -/

/-- The run has asked for the release of the tile it holds (R145). -/
def VecRun.letGo (r : VecRun) : VecRun := { r with trel := r.held }

theorem exec_trel {c : Fin 512} {s : State} {r : VecRun} {w : Nat} (hi : issues s c r w) (ho : Vi.opc w = 0x34) (hz : fld w 0 58 = 0) :
    exec (.trel c) s = .next (updCore (countIssue s c w) c (fun k => k.setRun (r.letGo.past false))) := by
  have hexec : exec (.trel c) s = .next (execTrel.vecTrel c s) := rfl
  obtain ⟨hr, hc, rfl, hpc⟩ := hi
  rw [hexec, execTrel.vecTrel]
  simp only [hr, hc, ho, hz, bne_self_eq_false, Bool.not_true, Bool.or_self, Bool.false_eq_true, if_false, ne_eq, not_true_eq_false]
  exact congrArg Host.Outcome.next (vecNext_of_lt _ _ _ hpc)

/-- LOOP's level has been opened (R157). -/
def VecRun.looped (r : VecRun) (w : Nat) : VecRun :=
  { r with loops := ⟨r.pc + 1, fld w 16 11, fld w 0 16, 0⟩ :: r.loops, pc := r.pc + 1 }

/-- The checks of LOOP's fields: MK and VD are 0, no source, 27 bits of immediate, and a count and a body that are not (R157). -/
structure LoopFields (w : Nat) : Prop where
  mask : Vi.mk w = 0
  dest : Vi.vd w = 0
  source : srcOk w .unused .unused .unused 27 = true
  count : fld w 0 16 ≠ 0
  body : fld w 16 11 ≠ 0 ∧ fld w 16 11 ≤ 2046

/-- The checks of LOOP's place: two levels at most, its body in the store and in the level around it, and no END in it (R157). -/
structure LoopPlace (v : VecState) (r : VecRun) (n : Nat) : Prop where
  levels : r.loops.length < 2
  store : r.pc + n ≤ 2047
  nested : ∀ l ∈ r.loops, r.pc + n < l.start + l.body
  noEnd : ∀ k, k < n → Vi.opc (v.inst (r.pc + 1 + k)) ≠ 0x3F

theorem exec_vectorLoop {c : Fin 512} {s : State} {r : VecRun} {w : Nat} (hr : issuing (core s c) = some r)
    (hc : coreIssues s c = true) (hw : (core s c).vec.inst r.pc = w) (ho : Vi.opc w = 0x35) (hf : LoopFields w)
    (hp : LoopPlace (core s c).vec r (fld w 16 11)) :
    exec (.vectorLoop c) s = .next (updCore s c (fun k => k.setRun (r.looped w))) := by
  have hexec : exec (.vectorLoop c) s = .next (vecLoop s c) := rfl
  have hfields : ¬(Vi.mk w ≠ 0 ∨ Vi.vd w ≠ 0 ∨ (!srcOk w .unused .unused .unused 27) = true ∨ fld w 0 16 = 0 ∨ fld w 16 11 = 0
      ∨ 2046 < fld w 16 11) := by
    obtain ⟨hmk, hvd, hsrc, hcount, hbody, hlen⟩ := hf
    simp [hmk, hvd, hsrc, hcount, hbody, hlen]
  have hplace : ¬(2 ≤ r.loops.length ∨ 2047 < r.pc + fld w 16 11
      ∨ r.loops.any (fun l => decide (l.start + l.body ≤ r.pc + fld w 16 11)) = true
      ∨ (List.range (fld w 16 11)).any (fun i => Vi.opc ((core s c).vec.inst (r.pc + 1 + i)) == 0x3F) = true) := by
    obtain ⟨hlevels, hstore, hnested, hend⟩ := hp
    simp only [List.any_eq_true, List.mem_range, decide_eq_true_eq, beq_iff_eq, not_or, not_exists, not_and, not_le, not_lt]
    exact ⟨hlevels, hstore, hnested, hend⟩
  subst hw
  simp only [hexec, vecLoop, hr, hc, ho, bne_self_eq_false, Bool.not_true, Bool.or_self, Bool.false_eq_true, if_false, hfields,
    hplace]
  rfl

/-- Issue has ended, poisoned if `bad`; the loop levels stay with the engine (R140, R159, R160). -/
def endedRun (r : VecRun) (bad : Bool) (k : Core) : Core :=
  { (k.setRun { r with ended := true, poisoned := r.poisoned || bad }) with
    seedBefore := none, vec := { k.vec with loops := r.loops } }

theorem endRun_eq {s : State} {c : Nat} (h : (core s c).seedBefore = none) (r : VecRun) (bad : Bool) :
    endRun s c r bad = updCore s c (endedRun r bad) := by
  rw [endRun, h]; rfl

theorem endedRun_shows (r : VecRun) (bad : Bool) (k : Core) : issuing (endedRun r bad k) = none
    ∧ (endedRun r bad k).vec = { k.vec with loops := r.loops }
    ∧ (endedRun r bad k).vxRuns = k.vxRuns.dropLast ++ [{ r with ended := true, poisoned := r.poisoned || bad }] := by
  have hrests : ({ r with ended := true, poisoned := r.poisoned || bad } : VecRun).rests = true := by
    simp only [VecRun.rests, Bool.or_true, Bool.true_or]
  refine ⟨?_, rfl, rfl⟩
  have hissuing : issuing (endedRun r bad k) = issuing (k.setRun { r with ended := true, poisoned := r.poisoned || bad }) := rfl
  rw [hissuing, issuing_setRun, hrests]; rfl

theorem exec_endProgram {c : Fin 512} {s : State} {r : VecRun} {w : Nat} (hr : issuing (core s c) = some r)
    (hc : coreIssues s c = true) (hw : (core s c).vec.inst r.pc = w) (ho : Vi.opc w = 0x3F) (hz : fld w 0 58 = 0)
    (hs : (core s c).seedBefore = none) :
    exec (.endProgram c) s = .next (updCore (countIssue s c w) c (endedRun r false)) := by
  have hexec : exec (.endProgram c) s = .next (execEndProgram.vecEnd c s) := rfl
  subst hw
  rw [hexec, execEndProgram.vecEnd]
  simp only [hr, hc, ho, hz, bne_self_eq_false, Bool.not_true, Bool.or_self, Bool.false_eq_true, if_false, ne_eq, not_true_eq_false]
  exact congrArg Host.Outcome.next (endRun_eq (by rw [core_countIssue, hs]) r false)

/-! ## A fault (R160) -/

/-- VX_FAULT shows the instruction and the reason. -/
def faultShown (s : State) (c reason pc : Nat) : State :=
  setRf (setRf s .core c Off.coreVxFault 0 11 pc) .core c Off.coreVxFault 16 8 reason

theorem faultShown_shows (s : State) (c : Nat) {reason pc : Nat} (hr : reason < 2 ^ 8) (hp : pc < 2 ^ 11) :
    rf (faultShown s c reason pc) .core c Off.coreVxFault 16 8 = reason
      ∧ rf (faultShown s c reason pc) .core c Off.coreVxFault 0 11 = pc := by
  refine ⟨?_, ?_⟩
  · rw [faultShown, rf_setRf_same _ _ _ _ _ _ _ (by decide), Nat.mod_eq_of_lt hr]
  · rw [faultShown, rf_setRf_field _ _ _ _ _ (by decide) (by decide), rf_setRf_same _ _ _ _ _ _ _ (by decide), Nat.mod_eq_of_lt hp]

theorem core_faultShown (s : State) (c reason pc d : Nat) : core (faultShown s c reason pc) d = core s d :=
  core_of_cores (by rw [faultShown, setRf_cores, setRf_cores]) d

/-- A fault is shown, recorded and counted, and the run ends poisoned. -/
theorem vecFault_eq {s : State} {c : Nat} (hc : c < 512) (r : VecRun) (reason pc : Nat) (hs : (core s c).seedBefore = none) :
    ∃ u, Noted (faultShown s c reason pc) u ∧ vecFault s c r reason pc = updCore u c (endedRun r true) := by
  have hn : Noted (faultShown s c reason pc)
      (incReg (descFault (faultShown s c reason pc) c reason 0x02 r.desc) .core c Off.coreVxFaultCount) :=
    (noted_coreRecord _ hc _ _ _).trans (noted_incReg _ (tallied_core hc (by decide)))
  have hfault : vecFault s c r reason pc
      = endRun (incReg (descFault (faultShown s c reason pc) c reason 0x02 r.desc) .core c Off.coreVxFaultCount) c r true := rfl
  refine ⟨_, hn, ?_⟩
  rw [hfault, endRun_eq]
  rw [hn.core, core_faultShown, hs]

theorem tallied_vxFault {c : Nat} (hc : c < 512) : tallied (regKey .core c Off.coreVxFault) = false := by
  rw [tallied_regKey hc (by decide) (by decide)]; decide

/-- An ADD whose fields break the layout faults. -/
theorem exec_add_bad {c : Fin 512} {s : State} {r : VecRun} {w : Nat} (hi : issues s c r w) (ho : Vi.opc w = 0x01)
    (hbad : twoSources w = false) : exec (.add c) s = .next (vecFault (countIssue s c w) c r 0x20 r.pc) := by
  have hexec : exec (.add c) s = .next (laneOp2 c 0x01 fadd s) := rfl
  have hsrc : srcOk w .vector .vector .unused 0 = twoSources w := by
    by_cases h : Vi.imm w = 0 <;> simp [srcOk, SrcUse.ok, twoSources, h]
  rw [hexec, laneOp2, vecAlu, vecIssue_of_error hi (by rw [ho]; rfl) (if_neg (by rw [hsrc, hbad]; decide))]

/-- Settles O21: what each control instruction does to the run, and what a bad instruction leaves. -/
theorem vectorControl : Obligations.VectorControl := by
  refine ⟨fun c s r hi => ?nop, fun c s r w hi ho hmk hvd hva hvb hvc himm => ?aadd, fun c s r w hi ho hz => ?trel,
    fun c s r w hr hc hw ho hmk hvd hva hvb hvc himm hcount hbody hlen hlevels hstore hnested hend => ?loop,
    fun c s r w hr hc hw ho hz hs => ?fin, fun c s r w hi ho hbad hs hpc => ?bad⟩
  case nop =>
    refine ⟨_, exec_nop hi, ?_, issuedOne_of_ownCore hi ⟨fun _ _ => rfl, _, rfl⟩⟩
    rw [core_updCore_same, core_countIssue]; rfl
  case aadd =>
    refine ⟨_, exec_aadd hi ho ⟨hmk, hvd, srcOk_noSource hva hvb hvc himm⟩, ?_⟩
    have hvec : (core (updCore (updCore (countIssue s c w) c (addAddr w)) c (fun k => k.setRun (r.past false))) c).vec
        = (addAddr w (core s c)).vec := by
      rw [core_updCore_same, core_updCore_same, core_countIssue]; rfl
    obtain ⟨hsame, hother⟩ := addr_addAddr w (core s c)
    obtain ⟨hhigh, hlow⟩ := addedAddr_shows w ((core s c).vec.addr (Vi.vd w))
    obtain ⟨hv, hm⟩ := addAddr_keeps w (core s c)
    simp only [hvec, hsame]
    exact ⟨hhigh, hlow, hother, hv, hm, issuedOne_of_ownCore hi (updCore_only _ c _)⟩
  case trel =>
    refine ⟨_, exec_trel hi ho hz, ?_, ?_, fun hheld => ?_,
      otherCores_trans (otherCores_of_cores (countIssue_cores s c w) c) (otherCores_updCore _ c _)⟩
    · rw [core_updCore_same, core_countIssue]; rfl
    · rw [core_updCore_same, Core.setRun, List.getLast?_concat, past_false]; rfl
    · have hrests : (r.letGo.past false).rests = true := by
        simp only [VecRun.rests, VecRun.past, VecRun.letGo, hheld, Bool.or_true]
      rw [core_updCore_same, issuing_setRun, hrests]; rfl
  case loop =>
    have hsrc : srcOk w .unused .unused .unused 27 = true := srcOk_noSource hva hvb hvc himm
    have hrests : (r.looped w).rests = r.rests := rfl
    refine ⟨_, exec_vectorLoop hr hc hw ho ⟨hmk, hvd, hsrc, hcount, hbody, hlen⟩ ⟨hlevels, hstore, hnested, hend⟩, ?_, ?_, _, rfl⟩
    · rw [core_updCore_same]; rfl
    · rw [core_updCore_same, issuing_setRun, hrests, rests_of_issuing hr]; rfl
  case fin =>
    obtain ⟨hissuing, hvec, hruns⟩ := endedRun_shows r false (core s c)
    rw [Bool.or_false] at hruns
    refine ⟨_, exec_endProgram hr hc hw ho hz hs, ?_⟩
    simp only [core_updCore_same, core_countIssue]
    exact ⟨hissuing, hvec, hruns⟩
  case bad =>
    obtain ⟨u, hn, hfault⟩ := vecFault_eq (s := countIssue s c w) c.isLt r 0x20 r.pc (by rw [core_countIssue, hs])
    obtain ⟨hreason, hindex⟩ := faultShown_shows (countIssue s c w) c (reason := 0x20) (by decide) hpc
    obtain ⟨hissuing, hvec, hruns⟩ := endedRun_shows r true (core s c)
    rw [Bool.or_true] at hruns
    have hcore : core u c = core s c := by rw [hn.core, core_faultShown, core_countIssue]
    refine ⟨_, exec_add_bad hi ho hbad, ?_⟩
    simp only [hfault, core_updCore_same, hcore]
    exact ⟨(hn.rf (tallied_vxFault c.isLt) 16 8).trans hreason, (hn.rf (tallied_vxFault c.isLt) 0 11).trans hindex,
      hissuing, hvec, hruns⟩

end Sys2Proof.Machine
end

section
/-!
SUPPORT. What a controller delivers of a codeword, and what an access leaves of the others (R206 to R208, R210).
-/
namespace Sys2Proof.Machine

/-! ## States with the same keys and fences -/

/-- The controllers of `s` and `t` have the same keys and the same fenced footprints: what they deliver of a codeword depends on what
is stored in it alone. -/
structure SameControl (s t : State) : Prop where
  keyDraws : t.keyDraws = s.keyDraws
  offline : ∀ {a : Nat} {p : Place}, placeOf a = some p → p.offline t = p.offline s

theorem SameControl.trans {s t u : State} (h : SameControl s t) (k : SameControl t u) : SameControl s u :=
  ⟨k.keyDraws.trans h.keyDraws, fun hp => (k.offline hp).trans (h.offline hp)⟩

theorem sameControl_of_regs {s t : State} (hk : t.keyDraws = s.keyDraws) (hr : t.regs = s.regs) : SameControl s t := by
  refine ⟨hk, fun {a p} _ => ?_⟩
  rw [Place.offline, Place.offline, footprintOffline, footprintOffline, rbit, rbit, reg, reg, hr]

theorem Noted.sameControl {s t : State} (h : Noted s t) : SameControl s t := by
  have hkeys : t.keyDraws = s.keyDraws := (congrArg State.keyDraws h.fields :)
  have halike : ReadsAlike s { s with regs := t.regs } := ⟨rfl, rfl, rfl, rfl, rfl, h.words⟩
  have hregs : SameControl { s with regs := t.regs } t := sameControl_of_regs hkeys rfl
  exact ⟨hkeys, fun hp => (hregs.offline hp).trans (halike.offline hp)⟩

/-- The registers of a core do not matter to the controllers. -/
theorem sameControl_countIssue (s : State) {c : Nat} (hc : c < 512) (w : Nat) : SameControl s (countIssue s c w) := by
  refine ⟨by rw [countIssue_eq], fun {a p} hp => ?_⟩
  by_cases hk : p.kind = .granary
  · obtain ⟨hunit, hoff⟩ := placeOf_granary_bounds hp hk
    have hreg : reg (countIssue s c w) .stack p.unit (Off.stackOfflineFp + 4 * (p.offset / 2 ^ 26 / 32))
        = reg s .stack p.unit (Off.stackOfflineFp + 4 * (p.offset / 2 ^ 26 / 32)) := by
      refine otherRegs_countIssue s c w _ _ _ fun hmem => ?_
      have hword : Off.stackOfflineFp + 4 * (p.offset / 2 ^ 26 / 32) < 4096 := by
        simp only [Off.stackOfflineFp]; omega
      rcases List.mem_cons.1 hmem with h | h
      · exact absurd h (regKey_ne_page (by decide) (by decide) hword hc (by omega))
      · exact absurd (List.mem_singleton.1 h) (regKey_ne_page (by decide) (by decide) hword hc (by omega))
    rw [Place.offline, Place.offline, footprintOffline, footprintOffline, rbit, rbit, hreg]
  · have hgran : (p.kind == .granary) = false := beq_eq_false_iff_ne.2 hk
    rw [Place.offline, Place.offline, hgran]; rfl

/-- Two reads of a codeword stored alike deliver the same where their controllers agree on it. -/
theorem readWord_congr {s t : State} {w key key' : Nat} (hr : rawWord t w = rawWord s w)
    (h : ∀ p, placeOf (16 * w) = some p → p.offline t = p.offline s ∧ ∀ d, decryptWord t p w key' d = decryptWord s p w key d) :
    (readWord t key' w).2 = (readWord s key w).2 := by
  unfold Machine.readWord
  cases hp : placeOf (16 * w) with
  | none => rfl
  | some p =>
    obtain ⟨hoff, hkey⟩ := h p hp
    simp only [hoff, hr, hkey]
    split
    · rfl
    · split <;> rfl

/-- A codeword stored alike is delivered alike. -/
theorem SameControl.readWord {s t : State} (h : SameControl s t) {w : Nat} (hr : rawWord t w = rawWord s w) (key : Nat) :
    (readWord t key w).2 = (readWord s key w).2 :=
  readWord_congr hr fun p hp => ⟨h.offline hp, fun d => by rw [decryptWord, decryptWord, slotKey, slotKey, h.keyDraws]⟩

/-- A read delivers the same where the memories and the registers are the same. -/
theorem readWord_of_same {s t : State} (hk : t.keyDraws = s.keyDraws) (hr : t.regs = s.regs) (hm : memEq s t) (key w : Nat) :
    (readWord t key w).2 = (readWord s key w).2 :=
  (sameControl_of_regs hk hr).readWord (by rw [rawWord, rawWord, hm.1, hm.2]) key

theorem readWord_countIssue (s : State) {c : Nat} (hc : c < 512) (w key x : Nat) :
    (readWord (countIssue s c w) key x).2 = (readWord s key x).2 := by
  refine (sameControl_countIssue s hc w).readWord ?_ key
  rw [countIssue_eq]; rfl

/-! ## Accesses to some codewords -/

/-- `t` is `s` after accesses to codewords of `P`: beyond what they note, every other codeword is as before. -/
structure Accessed (P : Nat → Prop) (s t : State) : Prop where
  noted : Noted s t
  mem : ∀ a, ¬ P (a / 16) → cellAt a t.mem = cellAt a s.mem
  chk : ∀ a, ¬ P (a / 2) → cellAt a t.chk = cellAt a s.chk

theorem Accessed.refl (P : Nat → Prop) (s : State) : Accessed P s s := ⟨Noted.refl s, fun _ _ => rfl, fun _ _ => rfl⟩

theorem Accessed.trans {P : Nat → Prop} {s t u : State} (h : Accessed P s t) (k : Accessed P t u) : Accessed P s u :=
  ⟨h.noted.trans k.noted, fun a ha => (k.mem a ha).trans (h.mem a ha), fun a ha => (k.chk a ha).trans (h.chk a ha)⟩

theorem Accessed.mono {P Q : Nat → Prop} {s t : State} (h : Accessed P s t) (hpq : ∀ w, P w → Q w) : Accessed Q s t :=
  ⟨h.noted, fun a ha => h.mem a fun hp => ha (hpq _ hp), fun a ha => h.chk a fun hp => ha (hpq _ hp)⟩

theorem Accessed.rawWord {P : Nat → Prop} {s t : State} (h : Accessed P s t) {w : Nat} (hw : ¬ P w) : rawWord t w = rawWord s w := by
  rw [Machine.rawWord, Machine.rawWord,
    cellsNat_congr 16 _ fun x h1 h2 => h.mem x (by rwa [show x / 16 = w by omega]),
    cellsNat_congr 2 _ fun x h1 h2 => h.chk x (by rwa [show x / 2 = w by omega])]

/-- Another codeword is delivered as before, under every key. -/
theorem Accessed.readWord {P : Nat → Prop} {s t : State} (h : Accessed P s t) {w : Nat} (hw : ¬ P w) (key : Nat) :
    (readWord t key w).2 = (readWord s key w).2 := h.noted.sameControl.readWord (h.rawWord hw) key

theorem Accessed.of_memEq {s t : State} (h : Noted s t) (hm : memEq s t) (P : Nat → Prop) : Accessed P s t :=
  ⟨h, fun a _ => by rw [hm.1], fun a _ => by rw [hm.2]⟩

/-- What stores one codeword leaves the others. -/
theorem accessed_of_setRawWord {s t : State} {w v : Nat} (h : Noted s t) (hm : memEq (setRawWord s w v) t) : Accessed (· = w) s t := by
  refine ⟨h, fun a ha => ?_, fun a ha => ?_⟩
  · rw [hm.1]; exact cellAt_setCells_ne 16 s.mem (16 * w) v a (by omega)
  · rw [hm.2]; exact cellAt_setCells_ne 2 s.chk (2 * w) (v / 2 ^ 128) a (by omega)

theorem accessed_readWord (s : State) (key w : Nat) : Accessed (· = w) s (readWord s key w).1 := by
  rcases readWord_cases s key w with h | ⟨v, _, h⟩
  · exact .of_memEq (noted_readWord s key w) h _
  · exact accessed_of_setRawWord (noted_readWord s key w) h

theorem accessed_storeWord (s : State) (key w d : Nat) : Accessed (· = w) s (storeWord s key w d) := by
  rcases storeWord_cases s key w d with h | ⟨p, _, h⟩
  · exact .of_memEq (noted_storeWord s key w d) h _
  · exact accessed_of_setRawWord (noted_storeWord s key w d) h

theorem accessed_writeWord (s : State) (key w d mask : Nat) : Accessed (· = w) s (writeWord s key w d mask) := by
  unfold writeWord
  split
  · exact accessed_storeWord s key w d
  · split
    · exact .refl _ s
    · exact (accessed_readWord s key w).trans (accessed_storeWord _ key w _)

/-! ## Bits of memory -/

theorem decryptWord_lt (s : State) (p : Place) (w key d : Nat) : decryptWord s p w key d < 2 ^ 128 := by
  unfold decryptWord
  split
  · exact BitVec.isLt _
  · exact Nat.mod_lt _ (Nat.two_pow_pos _)

theorem readWord_lt (s : State) (key w : Nat) : (readWord s key w).2.1 < 2 ^ 128 := by
  have hnan : nanQuad < 2 ^ 128 := by decide
  unfold readWord
  split
  · exact hnan
  · dsimp only
    split
    · exact hnan
    · split
      · exact decryptWord_lt _ _ _ _ _
      · exact decryptWord_lt _ _ _ _ _
      · exact hnan

/-- Bit `j` of memory as a read under `key` delivers it; byte `a` has the bits from `8 * a` on. -/
def memBit (s : State) (key j : Nat) : Bool := (readWord s key (j / 128)).2.1.testBit (j % 128)

theorem testBit_wordBytes (s : State) {a n : Nat} (h : a % 16 + n ≤ 16) (j : Nat) :
    (wordBytes s a n).testBit j = (decide (j < 8 * n) && memBit s 0 (8 * a + j)) := by
  rw [wordBytes, testBit_fld]
  by_cases hj : j < 8 * n
  · rw [memBit, show (8 * a + j) / 128 = a / 16 by omega, show (8 * a + j) % 128 = 8 * (a % 16) + j by omega]
  · simp only [hj, decide_false, Bool.false_and]

/-- What a run of codewords delivers, bit by bit. -/
theorem testBit_readWords (key : Nat) : ∀ (n : Nat) (s : State) (w j : Nat),
    (readWords s key n w).2.1.testBit j = (decide (j < 128 * n) && memBit s key (128 * w + j))
  | 0, s, w, j => by simp [readWords]
  | n + 1, s, w, j => by
    have hlt := readWord_lt s key w
    have ih := testBit_readWords key n (readWord s key w).1 (w + 1)
    rw [readWords_succ]
    dsimp only
    rw [Nat.add_comm, Nat.testBit_two_pow_mul_add _ hlt]
    by_cases hj : j < 128
    · rw [if_pos hj, memBit, show (128 * w + j) / 128 = w by omega, show (128 * w + j) % 128 = j by omega,
        decide_eq_true (by omega), Bool.true_and]
    · have hnext : memBit (readWord s key w).1 key (128 * (w + 1) + (j - 128)) = memBit s key (128 * w + j) := by
        rw [memBit, memBit, show 128 * (w + 1) + (j - 128) = 128 * w + j by omega,
          (accessed_readWord s key w).readWord (show ¬ (128 * w + j) / 128 = w by omega)]
      rw [if_neg hj, ih, hnext, decide_eq_decide.2 (show j - 128 < 128 * n ↔ j < 128 * (n + 1) by omega)]

/-- A run of codewords is delivered whole when each of them is. -/
theorem readWords_ok (key : Nat) : ∀ (n : Nat) (s : State) (w : Nat), (∀ i, i < n → (readWord s key (w + i)).2.2 = true) →
    (readWords s key n w).2.2 = true
  | 0, _, _, _ => rfl
  | n + 1, s, w, h => by
    have hnext := readWords_ok key n (readWord s key w).1 (w + 1) fun i hi => by
      rw [(accessed_readWord s key w).readWord (show ¬ w + 1 + i = w by omega), show w + 1 + i = w + (i + 1) by omega]
      exact h (i + 1) (by omega)
    rw [readWords_succ]
    exact Bool.and_eq_true_iff.2 ⟨h 0 (by omega), hnext⟩

theorem readMem_pos (s : State) (key a : Nat) {n : Nat} (h : n ≠ 0) :
    (readMem s key a n).2 = (fld (readWords s key ((a + n - 1) / 16 - a / 16 + 1) (a / 16)).2.1 (8 * (a % 16)) (8 * n),
      (readWords s key ((a + n - 1) / 16 - a / 16 + 1) (a / 16)).2.2) := by
  rw [readMem, if_neg h]

theorem testBit_readMem (s : State) (key a n j : Nat) :
    (readMem s key a n).2.1.testBit j = (decide (j < 8 * n) && memBit s key (8 * a + j)) := by
  by_cases hn : n = 0
  · simp [hn, readMem]
  · rw [readMem_pos s key a hn]
    dsimp only
    rw [testBit_fld, testBit_readWords, show 128 * (a / 16) + (8 * (a % 16) + j) = 8 * a + j by omega]
    by_cases hj : j < 8 * n
    · rw [decide_eq_true (show 8 * (a % 16) + j < 128 * ((a + n - 1) / 16 - a / 16 + 1) by omega), Bool.true_and]
    · rw [decide_eq_false hj, Bool.false_and, Bool.false_and]

/-- A range is delivered whole when each of its bytes can be read. -/
theorem readMem_ok {s : State} {a n : Nat} (h : ∀ x, a ≤ x → x < a + n → readable s x = true) : (readMem s 0 a n).2.2 = true := by
  by_cases hn : n = 0
  · rw [readMem, if_pos hn]
  · rw [readMem_pos s 0 a hn]
    refine readWords_ok 0 _ s (a / 16) fun i hi => ?_
    have hbyte := h (max a (16 * (a / 16 + i))) (by omega) (by omega)
    rwa [readable, show max a (16 * (a / 16 + i)) / 16 = a / 16 + i by omega] at hbyte

/-- One byte, as its codeword delivers it. -/
theorem readMem_one (s : State) (key a : Nat) :
    (readMem s key a 1).2 = (fld (readWord s key (a / 16)).2.1 (8 * (a % 16)) 8, (readWord s key (a / 16)).2.2) := by
  rw [readMem_pos s key a Nat.one_ne_zero, show (a + 1 - 1) / 16 - a / 16 + 1 = 0 + 1 by omega]
  rw [readWords_succ, readWords]
  simp only [Nat.mul_zero, Nat.add_zero, Bool.and_true, Nat.mul_one]

/-- A byte whose bits and whose codeword's state are as before is delivered as before. -/
theorem readMem_one_congr {s t : State} {key a : Nat} (hok : (readWord t key (a / 16)).2.2 = (readWord s key (a / 16)).2.2)
    (hbit : ∀ j, j / 8 = a → memBit t key j = memBit s key j) : (readMem t key a 1).2 = (readMem s key a 1).2 := by
  refine Prod.ext (Nat.eq_of_testBit_eq fun j => ?_) ?_
  · rw [testBit_readMem, testBit_readMem]
    by_cases hj : j < 8 * 1
    · rw [hbit (8 * a + j) (by omega)]
    · rw [decide_eq_false hj, Bool.false_and, Bool.false_and]
  · rw [readMem_one, readMem_one]
    exact hok

end Sys2Proof.Machine
end

section
/-!
SUPPORT. Stores into the cellar, by bits: of one codeword, and of a write set (R154, R156, R200, R206).
-/
namespace Sys2Proof.Machine

/-! ## Codewords of the cellar -/

/-- Codeword `w` lies in a memory that is not encrypted: a Larder, a Tally or a commons (R210). -/
def plainWord (w : Nat) : Prop := ∃ p, placeOf (16 * w) = some p ∧ p.encrypted = false

theorem Place.offline_of_plain {p : Place} (h : p.encrypted = false) (s : State) : p.offline s = false := by
  have hk : (p.kind == .granary) = false := by
    cases hkind : p.kind <;> simp_all [Place.encrypted]
  rw [Place.offline, hk]; rfl

theorem decryptWord_plain {p : Place} (h : p.encrypted = false) (s : State) (w key d : Nat) : decryptWord s p w key d = d % 2 ^ 128 := by
  rw [decryptWord, h, if_neg Bool.false_ne_true]

theorem encryptWord_plain {p : Place} (h : p.encrypted = false) (s : State) (w key d : Nat) : encryptWord s p w key d = d % 2 ^ 128 := by
  rw [encryptWord, h, if_neg Bool.false_ne_true]

/-- Every key reads a plain codeword alike. -/
theorem readWord_plain (s : State) {w : Nat} (h : plainWord w) (key : Nat) : (readWord s key w).2 = (readWord s 0 w).2 := by
  obtain ⟨p, hp, he⟩ := h
  refine readWord_congr rfl fun q hq => ⟨rfl, fun d => ?_⟩
  obtain rfl : p = q := Option.some.inj (hp.symm.trans hq)
  rw [decryptWord_plain he, decryptWord_plain he]

/-- A plain codeword that was stored reads back, under every key. -/
theorem readWord_storeWord (s : State) {w : Nat} (h : plainWord w) (key d : Nat) :
    (readWord (storeWord s 0 w d) key w).2 = (d % 2 ^ 128, true) := by
  have hplain := h
  obtain ⟨p, hp, he⟩ := h
  have hstore : storeWord s 0 w d = setRawWord s w (encodeWord (encryptWord s p w 0 d)) := by
    simp only [storeWord, hp, p.offline_of_plain he, he, Bool.false_eq_true, if_false]
  have hraw : rawWord (storeWord s 0 w d) w = encodeWord (encryptWord (storeWord s 0 w d) p w 0 (d % 2 ^ 128)) := by
    rw [encryptWord_plain he, Nat.mod_mod, hstore, rawWord_setRawWord, encryptWord_plain he, Nat.mod_eq_of_lt (encodeWord_lt _)]
  rw [readWord_plain _ hplain,
    readWord_encoded _ 0 w (d % 2 ^ 128) p hp (p.offline_of_plain he _) (Nat.mod_lt _ (Nat.two_pow_pos _)) hraw]

theorem testBit_mergeBytes : ∀ (n mask old new j : Nat), (mergeBytes n mask old new).testBit j
    = (decide (j < 8 * n) && if mask.testBit (j / 8) then new.testBit j else old.testBit j)
  | 0, _, _, _, j => by simp [mergeBytes]
  | n + 1, mask, old, new, j => by
    have hlt : (if mask.testBit 0 then new % 2 ^ 8 else old % 2 ^ 8) < 2 ^ 8 := by
      split <;> exact Nat.mod_lt _ (by decide)
    have hmerge : mergeBytes (n + 1) mask old new
        = 2 ^ 8 * mergeBytes n (mask / 2) (old / 2 ^ 8) (new / 2 ^ 8) + (if mask.testBit 0 then new % 2 ^ 8 else old % 2 ^ 8) :=
      Nat.add_comm _ _
    rw [hmerge, Nat.testBit_two_pow_mul_add _ hlt]
    by_cases hj : j < 8
    · rw [if_pos hj, show j / 8 = 0 by omega, decide_eq_true (show j < 8 * (n + 1) by omega), Bool.true_and]
      split <;> rw [Nat.testBit_mod_two_pow, decide_eq_true hj, Bool.true_and]
    · have hmask : (mask / 2).testBit ((j - 8) / 8) = mask.testBit (j / 8) := by
        rw [Nat.testBit_div_two, show (j - 8) / 8 + 1 = j / 8 by omega]
      rw [if_neg hj, testBit_mergeBytes n, hmask, Nat.testBit_div_two_pow, Nat.testBit_div_two_pow, show j - 8 + 8 = j by omega,
        decide_eq_decide.2 (show j - 8 < 8 * n ↔ j < 8 * (n + 1) by omega)]

/-- What a write of some bytes of a plain codeword leaves in it: the bytes supplied, and the others as they were (R200). -/
theorem readWord_writeWord (s : State) {w : Nat} (h : plainWord w) (hok : (readWord s 0 w).2.2 = true) (key d mask : Nat) :
    (readWord (writeWord s 0 w d mask) key w).2.2 = true
      ∧ ∀ j, j < 128 → (readWord (writeWord s 0 w d mask) key w).2.1.testBit j
          = if mask.testBit (j / 8) then d.testBit j else (readWord s 0 w).2.1.testBit j := by
  have hlow (i : Nat) (hi : i < 16) : mask.testBit i = (mask % 2 ^ 16).testBit i := by
    rw [Nat.testBit_mod_two_pow, decide_eq_true hi, Bool.true_and]
  unfold writeWord
  split
  · next hfull =>
    rw [readWord_storeWord s h]
    refine ⟨rfl, fun j hj => ?_⟩
    have hset : mask.testBit (j / 8) = true := by
      rw [hlow _ (by omega), hfull, Nat.testBit_two_pow_sub_one]
      exact decide_eq_true (by omega)
    rw [if_pos hset, Nat.testBit_mod_two_pow, decide_eq_true hj, Bool.true_and]
  · split
    · next hnone =>
      rw [readWord_plain s h]
      refine ⟨hok, fun j hj => ?_⟩
      rw [hlow _ (by omega), hnone, Nat.zero_testBit]; rfl
    · rw [readWord_storeWord _ h]
      refine ⟨rfl, fun j hj => ?_⟩
      rw [Nat.testBit_mod_two_pow, testBit_mergeBytes, decide_eq_true hj, Bool.true_and, Bool.true_and]

/-! ## Write sets -/

/-- Byte `a` is supplied. -/
def WriteSet.has (t : WriteSet) (a : Nat) : Bool := (tget (0, 0) (a / 16) t).2.testBit (a % 16)
/-- Bit `j` of what is supplied. -/
def WriteSet.bit (t : WriteSet) (j : Nat) : Bool := (tget (0, 0) (j / 128) t).1.testBit (j % 128)

/-- A write set is in canonical form: its codewords rise. -/
def WriteSet.rises (t : WriteSet) : Prop := twf (fun _ => ((0, 0) : Nat × Nat)) t = true

theorem rises_put {t : WriteSet} (h : t.rises) (a n v : Nat) : (t.put a n v).rises := twf_tset (fun _ => ((0, 0) : Nat × Nat)) _ _ h

theorem tget_put (t : WriteSet) (a n v w : Nat) : tget (0, 0) w (t.put a n v) =
    if w = a / 16 then (setFld (tget (0, 0) w t).1 (8 * (a % 16)) (8 * n) v, setFld (tget (0, 0) w t).2 (a % 16) n (2 ^ n - 1))
    else tget (0, 0) w t := by
  by_cases hw : w = a / 16
  · subst hw
    rw [if_pos rfl]
    exact tget_tset_same _ _ _ _
  · rw [if_neg hw]
    exact tget_tset_ne _ _ _ hw _

theorem has_put (t : WriteSet) {a n : Nat} (h : a % 16 + n ≤ 16) (v x : Nat) :
    (t.put a n v).has x = (decide (a ≤ x ∧ x < a + n) || t.has x) := by
  rw [WriteSet.has, WriteSet.has, tget_put]
  by_cases hw : x / 16 = a / 16
  · rw [if_pos hw, testBit_setFld]
    by_cases hx : a ≤ x ∧ x < a + n
    · rw [if_pos (by omega), Nat.testBit_two_pow_sub_one, decide_eq_true hx, decide_eq_true (show x % 16 - a % 16 < n by omega)]
      rfl
    · rw [if_neg (by omega), decide_eq_false hx, Bool.false_or]
  · rw [if_neg hw, decide_eq_false (by omega), Bool.false_or]

theorem bit_put (t : WriteSet) {a n : Nat} (h : a % 16 + n ≤ 16) (v j : Nat) :
    (t.put a n v).bit j = if 8 * a ≤ j ∧ j < 8 * (a + n) then v.testBit (j - 8 * a) else t.bit j := by
  rw [WriteSet.bit, WriteSet.bit, tget_put]
  by_cases hw : j / 128 = a / 16
  · rw [if_pos hw, testBit_setFld]
    by_cases hj : 8 * a ≤ j ∧ j < 8 * (a + n)
    · rw [if_pos (by omega), if_pos hj, show j % 128 - 8 * (a % 16) = j - 8 * a by omega]
    · rw [if_neg (by omega), if_neg hj]
  · rw [if_neg hw, if_neg (by omega)]

theorem tget_below {t : WriteSet} : ∀ {lo w : Nat}, twfFrom (fun _ => ((0, 0) : Nat × Nat)) lo t = true → w < lo → tget (0, 0) w t = (0, 0) := by
  induction t with
  | nil => exact fun _ _ => rfl
  | cons e t ih =>
    obtain ⟨k, v⟩ := e
    intro lo w h hw
    simp only [twfFrom, Bool.and_eq_true, decide_eq_true_eq] at h
    obtain ⟨⟨hk, -⟩, ht⟩ := h
    rw [tget, if_neg (show w ≠ k by omega)]
    exact ih ht (by omega)

/-- Every byte supplied lies in a plain codeword that can be read. -/
def WriteSet.lands (t : WriteSet) (s : State) : Prop := ∀ a, t.has a = true → plainWord (a / 16) ∧ readable s a = true

/-- What memory delivers once a write set has been written: each byte supplied, and the others as before; and what could be read still
can. -/
structure Stored (t : WriteSet) (s u : State) : Prop where
  noted : Noted s u
  ok : ∀ key w, (readWord u key w).2.2 = (readWord s key w).2.2
  bits : ∀ key j, memBit u key j = if t.has (j / 8) then t.bit j else memBit s key j

/-- A codeword of a write set has been written. -/
theorem stored_writeWord {s : State} {w d mask : Nat} (hl : WriteSet.lands [(w, d, mask)] s) :
    Stored [(w, d, mask)] s (writeWord s 0 w d mask) := by
  have hget (x : Nat) : tget (0, 0) x [(w, d, mask)] = if x = w then (d, mask) else (0, 0) := rfl
  have hother (key x : Nat) (hx : x ≠ w) : (readWord (writeWord s 0 w d mask) key x).2 = (readWord s key x).2 :=
    (accessed_writeWord s 0 w d mask).readWord hx key
  by_cases hsome : ∃ i, i < 16 ∧ mask.testBit i = true
  · obtain ⟨i, hi, hbit⟩ := hsome
    have hhas : WriteSet.has [(w, d, mask)] (16 * w + i) = true := by
      rw [WriteSet.has, hget, if_pos (by omega), show (16 * w + i) % 16 = i by omega]
      exact hbit
    obtain ⟨hplain, hread⟩ := hl _ hhas
    rw [readable] at hread
    rw [show (16 * w + i) / 16 = w by omega] at hplain hread
    have hword := fun key => readWord_writeWord s hplain hread key d mask
    refine ⟨noted_writeWord s 0 w d mask, fun key x => ?_, fun key j => ?_⟩
    · by_cases hx : x = w
      · subst hx
        rw [(hword key).1, readWord_plain s hplain, hread]
      · rw [hother key x hx]
    · rw [WriteSet.has, WriteSet.bit, hget, hget, memBit, memBit, show j / 8 / 16 = j / 128 by omega]
      by_cases hx : j / 128 = w
      · rw [if_pos hx, hx, (hword key).2 _ (Nat.mod_lt _ (by decide)), readWord_plain s hplain key,
          show j / 8 % 16 = j % 128 / 8 by omega]
      · rw [if_neg hx, hother key _ hx, Nat.zero_testBit]; rfl
  · have hzero : mask % 2 ^ 16 = 0 := by
      refine Nat.eq_of_testBit_eq fun i => ?_
      rw [Nat.testBit_mod_two_pow, Nat.zero_testBit]
      by_cases hi : i < 16
      · rw [decide_eq_true hi, Bool.true_and]
        exact Bool.not_eq_true _ ▸ fun hbit => hsome ⟨i, hi, hbit⟩
      · rw [decide_eq_false hi, Bool.false_and]
    have hwrite : writeWord s 0 w d mask = s := by
      rw [writeWord, if_neg (by omega), if_pos hzero]
    have hhas (a : Nat) : WriteSet.has [(w, d, mask)] a = false := by
      rw [WriteSet.has, hget]
      split
      · exact Bool.not_eq_true _ ▸ fun hbit => hsome ⟨a % 16, by omega, hbit⟩
      · exact Nat.zero_testBit _
    rw [hwrite]
    exact ⟨Noted.refl s, fun _ _ => rfl, fun key j => by rw [hhas]; rfl⟩

theorem has_cons (w d mask : Nat) (t : WriteSet) (a : Nat) :
    WriteSet.has ((w, d, mask) :: t) a = if a / 16 = w then mask.testBit (a % 16) else t.has a := by
  rw [WriteSet.has, tget]
  split <;> rfl

theorem bit_cons (w d mask : Nat) (t : WriteSet) (j : Nat) :
    WriteSet.bit ((w, d, mask) :: t) j = if j / 128 = w then d.testBit (j % 128) else t.bit j := by
  rw [WriteSet.bit, tget]
  split <;> rfl

theorem has_nil (a : Nat) : WriteSet.has [] a = false := Nat.zero_testBit _

/-- A write set written. -/
theorem stored_writeSet : ∀ {t : WriteSet} {lo : Nat} {s : State}, twfFrom (fun _ => ((0, 0) : Nat × Nat)) lo t = true → t.lands s →
    Stored t s (writeSet s t)
  | [], _, s, _, _ => ⟨Noted.refl s, fun _ _ => rfl, fun key j => by rw [has_nil]; rfl⟩
  | (w, d, mask) :: t, _, s, h, hl => by
    simp only [twfFrom, Bool.and_eq_true, decide_eq_true_eq] at h
    obtain ⟨-, ht⟩ := h
    have hbelow (a : Nat) (ha : a / 16 = w) : WriteSet.has t a = false := by
      rw [WriteSet.has, ha, tget_below ht (Nat.lt_succ_self w)]
      exact Nat.zero_testBit _
    have hfirst : Stored [(w, d, mask)] s (writeWord s 0 w d mask) := stored_writeWord fun a ha => by
      refine hl a ?_
      rw [has_cons] at ha ⊢
      split at ha
      · next hw => rwa [if_pos hw]
      · rw [has_nil] at ha; cases ha
    have hrest : WriteSet.lands t (writeWord s 0 w d mask) := fun a ha => by
      have hw : a / 16 ≠ w := fun hw => by rw [hbelow a hw] at ha; cases ha
      rw [readable, hfirst.ok]
      exact hl a (by rw [has_cons, if_neg hw, ha])
    have hlast := stored_writeSet ht hrest
    refine ⟨hfirst.noted.trans hlast.noted, fun key x => (hlast.ok key x).trans (hfirst.ok key x), fun key j => ?_⟩
    rw [writeSet, hlast.bits, hfirst.bits, has_cons, has_cons, bit_cons, bit_cons, has_nil]
    by_cases hw : j / 8 / 16 = w
    · have hbit : j / 128 = w := by omega
      simp only [hbelow _ hw, hw, hbit, if_true, Bool.false_eq_true, if_false]
    · have hbit : ¬ j / 128 = w := by omega
      simp only [hw, hbit, Bool.false_eq_true, if_false]

end Sys2Proof.Machine
end

section
/-!
SUPPORT. Where the lanes of a memory instruction lie, and the codewords a load reads (R154, R155, R206).
-/
namespace Sys2Proof.Machine

/-! ## The cellar (R154) -/

theorem placeOf_cellar {a : Nat} (h : (2 ^ 41 ≤ a ∧ a < 2 ^ 41 + 2 ^ 27) ∨ (2 ^ 41 + 2 ^ 36 ≤ a ∧ a < 2 ^ 41 + 2 ^ 36 + 2 ^ 30)
    ∨ (tallyBase ≤ a ∧ a < tallyBase + 2 ^ 27)) : ∃ p, placeOf a = some p ∧ p.encrypted = false := by
  simp only [tallyBase] at h
  have h40 : ¬ a < 2 ^ 40 := by omega
  have hgran : ¬ a < 2 ^ 40 + 2 ^ 35 := by omega
  rw [placeOf, if_neg h40, if_neg hgran]
  rcases h with h | h | h
  · rw [if_pos h]; exact ⟨_, rfl, rfl⟩
  · rw [if_neg (by omega), if_pos h]; exact ⟨_, rfl, rfl⟩
  · rw [if_neg (by omega), if_neg (by omega), if_pos (by simp only [tallyBase]; exact h)]; exact ⟨_, rfl, rfl⟩

/-- Where a cellar range lies: in the core's Larder, its Tally, or the commons of its die, at the offset of its address. -/
theorem cellarRange_cases {s : State} {c a n q : Nat} (h : cellarRange s c a n = some q) :
    (a / 2 ^ 30 = 0 ∧ q = larderAddr c + a % 2 ^ 25 ∧ a % 2 ^ 25 + n ≤ 2 ^ 21)
      ∨ (a / 2 ^ 30 = 1 ∧ q = tallyAddr c + a % 2 ^ 25 ∧ a % 2 ^ 25 + n ≤ 2 ^ 18)
      ∨ (a / 2 ^ 30 = 2 ∧ q = commonsAddr (c / 128) + a % 2 ^ 25 ∧ a % 2 ^ 25 + n ≤ 2 ^ 25) := by
  have hmax : (if regionHeld s then harvestRegion else 2 ^ 25) ≤ 2 ^ 25 := by split <;> decide
  unfold cellarRange at h
  dsimp only at h
  generalize (if regionHeld s then harvestRegion else 2 ^ 25) = top at h hmax
  split at h
  · cases h
  · split at h
    · next hspace =>
      obtain ⟨hfits, hq⟩ := Option.ite_none_right_eq_some.1 h
      exact .inl ⟨hspace, (Option.some.inj hq).symm, hfits⟩
    · next hspace =>
      obtain ⟨hfits, hq⟩ := Option.ite_none_right_eq_some.1 h
      exact .inr (.inl ⟨hspace, (Option.some.inj hq).symm, hfits⟩)
    · next hspace =>
      obtain ⟨hfits, hq⟩ := Option.ite_none_right_eq_some.1 h
      exact .inr (.inr ⟨hspace, (Option.some.inj hq).symm, hfits.trans hmax⟩)
    · cases h

theorem plainWord_of_cellarRange {s : State} {c a n q : Nat} (hc : c < 512) (h : cellarRange s c a n = some q) {x : Nat}
    (h1 : q ≤ x) (h2 : x < q + n) : plainWord (x / 16) := by
  refine placeOf_cellar ?_
  rcases cellarRange_cases h with ⟨-, rfl, hn⟩ | ⟨-, rfl, hn⟩ | ⟨-, rfl, hn⟩
  · simp only [larderAddr] at h1 h2; omega
  · simp only [tallyAddr, tallyBase] at h1 h2 ⊢; omega
  · simp only [commonsAddr] at h1 h2; omega

/-- A cellar address and its memory address have the same place in their codeword. -/
theorem cellarRange_mod {s : State} {c a n q : Nat} (h : cellarRange s c a n = some q) : q % 16 = a % 16 := by
  rcases cellarRange_cases h with ⟨-, rfl, -⟩ | ⟨-, rfl, -⟩ | ⟨-, rfl, -⟩
  · simp only [larderAddr]; omega
  · simp only [tallyAddr, tallyBase]; omega
  · simp only [commonsAddr]; omega

theorem cellarRange_countIssue (s : State) {c : Nat} (hc : c < 512) (w a n : Nat) :
    cellarRange (countIssue s c w) c a n = cellarRange s c a n := by
  have hreg (off : Nat) (ho : off < 4096) : reg (countIssue s c w) .harvest 0 off = reg s .harvest 0 off := by
    refine otherRegs_countIssue s c w _ _ _ fun hmem => ?_
    rcases List.mem_cons.1 hmem with h | h
    · exact absurd h (regKey_ne_page (by decide) (by decide) ho hc (by decide))
    · exact absurd (List.mem_singleton.1 h) (regKey_ne_page (by decide) (by decide) ho hc (by decide))
  have hheld : regionHeld (countIssue s c w) = regionHeld s := by
    simp only [regionHeld, enabled, rbit, rf, hreg Off.status (by decide), hreg Off.harvestRefillState (by decide)]
  rw [cellarRange, hheld, ← cellarRange]

/-! ## The lanes of LD and ST (R154) -/

theorem bitsOf_mem {w n i : Nat} : i ∈ bitsOf w n ↔ i < w ∧ n.testBit i = true := by
  rw [bitsOf, List.mem_filter, List.mem_range]

/-- The enabled lanes, each with its memory address. -/
def lanePlaces (s : State) (c w e : Nat) : List (Nat × Nat) :=
  (bitsOf 64 ((core s c).vec.mask (Vi.mk w))).map (fun i => (i, lanePlace s c w e i))

theorem lookup_lanePlaces {s : State} {c w i : Nat} (h : laneOn s c w i) (e : Nat) :
    (lanePlaces s c w e).lookup i = some (lanePlace s c w e i) := List.lookup_graph _ (bitsOf_mem.2 h)

theorem laneAddrs_of_reach {s : State} {c w e : Nat} {any : Bool} (hc : c < 512) (h : lanesReach s c w e any) :
    laneAddrs (countIssue s c w) c ((core s c).vec.addr (Vi.an w)) w e ((core s c).vec.mask (Vi.mk w)) any
      = .ok (lanePlaces s c w e) := by
  obtain ⟨hspace, htally, hlane⟩ := h
  have hat (i : Nat) (hi : i < 64) :
      (if laneAddr ((core s c).vec.addr (Vi.an w)) w e i < 0
          ∨ (laneAddr ((core s c).vec.addr (Vi.an w)) w e i).toNat / 2 ^ 30 ≠ (core s c).vec.addr (Vi.an w) / 2 ^ 30 then none
        else cellarRange (countIssue s c w) c (laneAddr ((core s c).vec.addr (Vi.an w)) w e i).toNat e)
        = some (lanePlace s c w e i) := by
    obtain ⟨hpos, hsame, hfits, -⟩ := hlane i hi
    obtain ⟨q, hq⟩ := Option.isSome_iff_exists.1 hfits
    rw [if_neg (by rw [not_or, not_lt, not_not]; exact ⟨hpos, hsame⟩), cellarRange_countIssue s hc, lanePlace, hq]; rfl
  rw [laneAddrs]
  dsimp only
  rw [if_neg, if_neg, if_neg]
  · congr 1
    refine List.map_congr_left fun i hi => ?_
    rw [hat i (bitsOf_mem.1 hi).1]; rfl
  · rintro ⟨hone, hany⟩
    rw [htally hone] at hany
    cases hany
  · rw [List.any_eq_true]
    rintro ⟨i, hi, hbad⟩
    exact (of_decide_eq_true hbad) (hlane i (List.mem_range.1 hi)).2.2.2
  · rintro (hthree | hnone)
    · exact hspace hthree
    · obtain ⟨i, hi, hbad⟩ := List.any_eq_true.1 hnone
      rw [hat i (List.mem_range.1 hi)] at hbad
      cases hbad

/-- The element of an enabled lane lies in plain memory, within one codeword. -/
theorem lanePlace_shows {s : State} {c w e : Nat} {any : Bool} (hc : c < 512) (h : lanesReach s c w e any)
    (he : e = 1 ∨ e = 2 ∨ e = 4) {i : Nat} (hi : i < 64) :
    lanePlace s c w e i % e = 0 ∧ lanePlace s c w e i % 16 + e ≤ 16
      ∧ ∀ x, lanePlace s c w e i ≤ x → x < lanePlace s c w e i + e → plainWord (x / 16) := by
  obtain ⟨-, -, hlane⟩ := h
  obtain ⟨-, -, hfits, haligned⟩ := hlane i hi
  obtain ⟨q, hq⟩ := Option.isSome_iff_exists.1 hfits
  have hplace : lanePlace s c w e i = q := by rw [lanePlace, hq]; rfl
  have hmod := cellarRange_mod hq
  rw [hplace]
  refine ⟨?_, ?_, fun x h1 h2 => plainWord_of_cellarRange hc hq h1 h2⟩
  · rcases he with rfl | rfl | rfl <;> omega
  · rcases he with rfl | rfl | rfl <;> omega

/-- The formats of LD and ST have elements of 1, 2 or 4 bytes (R155). -/
theorem width_bytes {n : Nat} {f : VFmt} (h : vfmtOf n = some f) (hn : n ≤ 4 ∨ (8 ≤ n ∧ n ≤ 10) ∨ n = 0xE) :
    (f.width / 8 = 1 ∨ f.width / 8 = 2 ∨ f.width / 8 = 4) ∧ 8 * (f.width / 8) = f.width := by
  have hall : ∀ n, n < 15 → (n ≤ 4 ∨ (8 ≤ n ∧ n ≤ 10) ∨ n = 0xE) → ∀ g ∈ vfmtOf n,
      (g.width / 8 = 1 ∨ g.width / 8 = 2 ∨ g.width / 8 = 4) ∧ 8 * (g.width / 8) = g.width := by decide
  exact hall n (by omega) hn f h

/-! ## The codewords of a load (R206) -/

/-- A set of codewords read once each: what each delivered is what it held before, and the others are as they were. -/
structure ReadSet (ws : List Nat) (s u : State) (t : Table (Nat × Bool)) : Prop where
  accessed : Accessed (· ∈ ws) s u
  entry : ∀ w, w ∈ ws → tget (0, false) w t = (readWord s 0 w).2
  other : ∀ w, w ∉ ws → tget (0, false) w t = (0, false)
  sound : ∀ p ∈ t, p.1 ∈ ws ∧ p.2 = (readWord s 0 p.1).2

/-- What a codeword delivers is never what the table's missing entries show. -/
theorem readWord_ne_missing (s : State) (key w : Nat) : (readWord s key w).2 ≠ (0, false) := by
  have hnan : ((nanQuad, false) : Nat × Bool) ≠ (0, false) := by decide
  unfold readWord
  split
  · exact hnan
  · dsimp only
    split
    · exact hnan
    · split
      · simp
      · simp
      · exact hnan

theorem mem_of_mem_tset {α : Type} [DecidableEq α] {d v : α} {k : Nat} {p : Nat × α} : ∀ {t : Table α}, p ∈ tset d k v t →
    p = (k, v) ∨ p ∈ t := by
  have hdrop : ∀ {t : Table α}, p ∈ tdrop k t → p ∈ t := by
    intro t
    induction t with
    | nil => exact id
    | cons e t ih =>
      intro h
      rw [tdrop] at h
      split at h
      · exact List.mem_cons_of_mem _ (ih h)
      · rcases List.mem_cons.1 h with rfl | h
        · exact List.mem_cons_self
        · exact List.mem_cons_of_mem _ (ih h)
  have hput : ∀ {t : Table α}, p ∈ tput k v t → p = (k, v) ∨ p ∈ t := by
    intro t
    induction t with
    | nil => exact fun h => .inl (List.mem_singleton.1 h)
    | cons e t ih =>
      intro h
      rw [tput] at h
      split at h
      · exact List.mem_cons.1 h
      · rcases List.mem_cons.1 h with rfl | h
        · exact .inr List.mem_cons_self
        · exact (ih h).imp_right (List.mem_cons_of_mem _)
  intro t h
  rw [tset] at h
  split at h
  · exact .inr (hdrop h)
  · exact (hput h).imp_right hdrop

theorem mem_of_tget {α : Type} {d : α} {k : Nat} : ∀ {t : Table α}, tget d k t ≠ d → (k, tget d k t) ∈ t
  | [], h => absurd rfl h
  | (i, v) :: t, h => by
    rw [tget] at h ⊢
    split at h
    · next hk =>
      rw [if_pos hk, hk]
      exact List.mem_cons_self
    · next hk =>
      rw [if_neg hk]
      exact List.mem_cons_of_mem _ (mem_of_tget h)

theorem readSet_readWordSet (s : State) : ∀ ws : List Nat, ReadSet ws s (readWordSet s ws).1 (readWordSet s ws).2
  | [] => ⟨.refl _ s, fun _ h => absurd h List.not_mem_nil, fun _ _ => rfl, fun _ h => absurd h List.not_mem_nil⟩
  | w :: ws => by
    obtain ⟨haccessed, hentry, hother, hsound⟩ := readSet_readWordSet s ws
    have hwider : Accessed (· ∈ w :: ws) s (readWordSet s ws).1 := haccessed.mono fun _ => List.mem_cons_of_mem _
    by_cases hw : w ∈ ws
    · have hseen : readWordSet s (w :: ws) = readWordSet s ws := by
        rw [readWordSet]
        exact if_pos (by rw [hentry w hw]; exact readWord_ne_missing s 0 w)
      rw [hseen]
      refine ⟨hwider, fun x hx => ?_, fun x hx => hother x fun h => hx (List.mem_cons_of_mem _ h),
        fun p hp => ⟨List.mem_cons_of_mem _ (hsound p hp).1, (hsound p hp).2⟩⟩
      rcases List.mem_cons.1 hx with rfl | hx
      · exact hentry _ hw
      · exact hentry x hx
    · have hread : (readWord (readWordSet s ws).1 0 w).2 = (readWord s 0 w).2 := haccessed.readWord hw 0
      have hnew : readWordSet s (w :: ws) = ((readWord (readWordSet s ws).1 0 w).1,
          tset (0, false) w (readWord (readWordSet s ws).1 0 w).2 (readWordSet s ws).2) := by
        rw [readWordSet]
        exact if_neg (by rw [hother w hw]; exact fun h => h rfl)
      rw [hnew, hread]
      refine ⟨hwider.trans ((accessed_readWord _ 0 w).mono fun x hx => hx ▸ List.mem_cons_self), fun x hx => ?_, fun x hx => ?_,
        fun p hp => ?_⟩
      · by_cases hxw : x = w
        · rw [hxw]; exact tget_tset_same _ _ _ _
        · dsimp only
          rw [tget_tset_ne _ _ _ hxw]
          exact hentry x ((List.mem_cons.1 hx).resolve_left hxw)
      · rw [List.mem_cons, not_or] at hx
        dsimp only
        rw [tget_tset_ne _ _ _ hx.1]
        exact hother x hx.2
      · rcases mem_of_mem_tset hp with rfl | hp
        · exact ⟨List.mem_cons_self, rfl⟩
        · exact ⟨List.mem_cons_of_mem _ (hsound p hp).1, (hsound p hp).2⟩

/-- Some codeword of the set could not be read. -/
theorem ReadSet.any_unreadable {ws : List Nat} {s u : State} {t : Table (Nat × Bool)} (h : ReadSet ws s u t) :
    t.any (fun p => !p.2.2) = ws.any (fun w => !(readWord s 0 w).2.2) := by
  rw [Bool.eq_iff_iff, List.any_eq_true, List.any_eq_true]
  constructor
  · rintro ⟨p, hp, hbad⟩
    obtain ⟨hw, hval⟩ := h.sound p hp
    exact ⟨p.1, hw, by rwa [← hval]⟩
  · rintro ⟨w, hw, hbad⟩
    have hval := h.entry w hw
    have hmem := mem_of_tget (d := ((0, false) : Nat × Bool)) (k := w) (t := t) (by rw [hval]; exact readWord_ne_missing s 0 w)
    exact ⟨_, hmem, by rwa [hval]⟩

end Sys2Proof.Machine
end

section
/-!
PROOFS. LD (R147, R154, R155, R206, R208).
-/
namespace Sys2Proof.Machine

/-- What LD puts in lane `i`: the widened element, or the NaN of an unreadable codeword (R155, R208). -/
def loadedLane (s : State) (c w : Nat) (f : VFmt) (i : Nat) : Word :=
  if readable s (lanePlace s c w (f.width / 8) i) then f.widen (wordBytes s (lanePlace s c w (f.width / 8) i) (f.width / 8)) else nan32

/-- The enabled lanes of VD have been loaded. -/
def loadLanes (s : State) (c w : Nat) (f : VFmt) (k : Core) : Core :=
  { k with vec := k.vec.setLanes (Vi.vd w) ((core s c).vec.mask (Vi.mk w)) (loadedLane s c w f) }

/-- Whether a codeword of an enabled lane cannot be read. -/
def loadFails (s : State) (c w e : Nat) : Bool :=
  (bitsOf 64 ((core s c).vec.mask (Vi.mk w))).any (fun i => !readable s (lanePlace s c w e i))

/-- The codewords that LD reads. -/
def loadWords (s : State) (c w e : Nat) : List Nat := ((lanePlaces s c w e).map (fun l => l.2 / 16)).reverse

theorem mem_loadWords {s : State} {c w e x : Nat} : x ∈ loadWords s c w e ↔ ∃ i, laneOn s c w i ∧ lanePlace s c w e i / 16 = x := by
  rw [loadWords, lanePlaces, List.map_map, List.mem_reverse, List.mem_map]
  simp only [bitsOf_mem, laneOn, Function.comp_apply]

theorem any_loadWords (s : State) (c w e : Nat) : (loadWords s c w e).any (fun x => !(readWord s 0 x).2.2) = loadFails s c w e := by
  rw [loadWords, lanePlaces, List.map_map, List.any_reverse, List.any_map]
  rfl

/-- The fields of LD are in order (R155). -/
structure LoadFields (w : Nat) (f : VFmt) : Prop where
  format : vfmtOf (Vi.fmt w) = some f
  accepted : Vi.fmt w ≤ 4 ∨ (8 ≤ Vi.fmt w ∧ Vi.fmt w ≤ 10) ∨ Vi.fmt w = 0xE
  unused : Vi.as' w = 0 ∧ Vi.rnd w = false ∧ Vi.sr w = 0 ∧ Vi.blk w = 0

/-- LD reads the codewords of its lanes and no other, and loads the enabled lanes. -/
theorem vecLoad_ok {s : State} {c w : Nat} {f : VFmt} (hc : c < 512) (hf : LoadFields w f)
    (h : lanesReach s c w (f.width / 8) (f == .elem .fp32 || f == .raw 32)) :
    ∃ u, Accessed (· ∈ loadWords s c w (f.width / 8)) (countIssue s c w) u
      ∧ vecLoad (countIssue s c w) c w = .ok (updCore u c (loadLanes s c w f), loadFails s c w (f.width / 8)) := by
  obtain ⟨hfmt, haccepted, has, hrnd, hsr, hblk⟩ := hf
  have hlanes := laneAddrs_of_reach hc h
  have hwidth := (width_bytes hfmt haccepted).2
  have haccept : (decide (Vi.fmt w ≤ 4) || (decide (8 ≤ Vi.fmt w) && decide (Vi.fmt w ≤ 10)) || Vi.fmt w == 0xE) = true := by
    simpa [or_assoc] using haccepted
  have hread := readSet_readWordSet (countIssue s c w) (loadWords s c w (f.width / 8))
  have hfails : (readWordSet (countIssue s c w) (loadWords s c w (f.width / 8))).2.any (fun p => !p.2.2) = loadFails s c w (f.width / 8) := by
    rw [hread.any_unreadable, ← any_loadWords]
    simp only [readWord_countIssue s hc]
  simp only [vecLoad, core_countIssue, hfmt, haccept, has, hrnd, hsr, hblk, hlanes, bne_self_eq_false, Bool.not_true, Bool.or_self,
    Bool.false_eq_true, if_false]
  rw [← loadWords]
  generalize readWordSet (countIssue s c w) (loadWords s c w (f.width / 8)) = done at hread hfails ⊢
  obtain ⟨u, t⟩ := done
  refine ⟨u, hread.accessed, ?_⟩
  dsimp only at hfails ⊢
  rw [hfails]
  congr 3
  funext k
  rw [loadLanes]
  congr 1
  refine setLanes_congr _ _ fun i hi hon => ?_
  have hlane : laneOn s c w i := ⟨hi, hon⟩
  have hentry : tget (0, false) (lanePlace s c w (f.width / 8) i / 16) t = (readWord s 0 (lanePlace s c w (f.width / 8) i / 16)).2 :=
    (hread.entry _ (mem_loadWords.2 ⟨i, hlane, rfl⟩)).trans (readWord_countIssue s hc w 0 _)
  simp only [lookup_lanePlaces hlane, hentry, loadedLane, readable, wordBytes, hwidth]

/-- What is left once an engine's registers and its run have changed: its core alone. -/
theorem otherCores_of_issue {s u : State} {c w : Nat} (hu : Noted (countIssue s c w) u) (f g : Core → Core) :
    otherCores c s (updCore (updCore u c f) c g) :=
  otherCores_trans (otherCores_of_cores (countIssue_cores s c w) c)
    (otherCores_trans (hu.otherCores c) (otherCores_trans (otherCores_updCore u c f) (otherCores_updCore _ c g)))

theorem exec_ld {c : Fin 512} {s : State} {r : VecRun} {w : Nat} (hi : issues s c r w) (ho : Vi.opc w = 0x30) {t : State} {bad : Bool}
    (h : vecLoad (countIssue s c w) c w = .ok (t, bad)) :
    exec (.ld c) s = .next (updCore t c (fun k => k.setRun (r.past bad))) :=
  congrArg Host.Outcome.next (vecIssue_of_ok hi (mine := fun o => o == 0x30) (by rw [ho]; rfl) (act := fun u _ x => vecLoad u c x) h)

/-- LD loads the enabled lanes, touches no byte outside the codewords it reads, and moves the run on. -/
theorem ld_shows {c : Fin 512} {s : State} {r : VecRun} {w : Nat} {f : VFmt} (hi : issues s c r w) (ho : Vi.opc w = 0x30)
    (hf : LoadFields w f) (h : lanesReach s c w (f.width / 8) (f == .elem .fp32 || f == .raw 32)) :
    Answers (.ld c) s (fun t =>
      (∀ i, i < 64 → (core t c).vec.lane (Vi.vd w) i =
        if ((core s c).vec.mask (Vi.mk w)).testBit i then loadedLane s c w f i else (core s c).vec.lane (Vi.vd w) i)
      ∧ (∀ q i, q ≠ Vi.vd w → (core t c).vec.lane q i = (core s c).vec.lane q i)
      ∧ (core t c).vec.m = (core s c).vec.m ∧ (core t c).vec.a = (core s c).vec.a
      ∧ (∀ a, (∀ i, laneOn s c w i → a / 16 ≠ lanePlace s c w (f.width / 8) i / 16) → cellAt a t.mem = cellAt a s.mem)
      ∧ ranOn c r (loadFails s c w (f.width / 8)) t ∧ otherCores c s t) := by
  obtain ⟨u, haccessed, hload⟩ := vecLoad_ok c.isLt hf h
  have hcore : core u c = core s c := (haccessed.noted.core c).trans (core_countIssue s c w c)
  have hvec : (core (updCore (updCore u c (loadLanes s c w f)) c (fun k => k.setRun (r.past (loadFails s c w (f.width / 8))))) c).vec
      = (core s c).vec.setLanes (Vi.vd w) ((core s c).vec.mask (Vi.mk w)) (loadedLane s c w f) := by
    rw [core_updCore_same, core_updCore_same, hcore]; rfl
  obtain ⟨hm, ha, -⟩ := setLanes_keeps (core s c).vec (Vi.vd w) ((core s c).vec.mask (Vi.mk w)) (loadedLane s c w f)
  refine ⟨_, exec_ld hi ho hload, fun i hlt => ?_, fun q i hq => ?_, ?_, ?_, fun a hother => ?_, ?_,
    otherCores_of_issue haccessed.noted _ _⟩
  · rw [hvec]; exact lane_setLanes_same _ _ _ _ hlt
  · rw [hvec]; exact lane_setLanes_ne _ _ _ hq i
  · rw [hvec, hm]
  · rw [hvec, ha]
  · have hcount : (countIssue s c w).mem = s.mem := by rw [countIssue_eq]
    rw [← hcount]
    exact haccessed.mem a fun hx => by
      obtain ⟨i, hon, hplace⟩ := mem_loadWords.1 hx
      exact hother i hon hplace.symm
  · rw [ranOn, core_updCore_same, issuing_past hi.1]; rfl

end Sys2Proof.Machine
end

section
/-!
SUPPORT. What memory holds after the stores of a vector instruction, and the codes that ST stores (R113, R155, R156).
-/
namespace Sys2Proof.Machine

/-! ## Bytes stored -/

/-- Memory in `t` is that of `s` with the bytes of `has` replaced by the bits of `bit`; and what can be read is the same. -/
structure Holds (has bit : Nat → Bool) (s t : State) : Prop where
  ok : ∀ key w, (readWord t key w).2.2 = (readWord s key w).2.2
  bits : ∀ key j, memBit t key j = if has (j / 8) then bit j else memBit s key j

theorem Stored.holds {t : WriteSet} {s u : State} (h : Stored t s u) : Holds t.has t.bit s u := ⟨h.ok, h.bits⟩

theorem Holds.readable {has bit : Nat → Bool} {s t : State} (h : Holds has bit s t) (a : Nat) : readable t a = readable s a := h.ok 0 _

theorem Holds.trans {has bit has' bit' : Nat → Bool} {s t u : State} (h : Holds has bit s t) (k : Holds has' bit' t u) :
    Holds (fun a => has' a || has a) (fun j => if has' (j / 8) then bit' j else bit j) s u := by
  refine ⟨fun key w => (k.ok key w).trans (h.ok key w), fun key j => ?_⟩
  rw [k.bits, h.bits]
  cases has' (j / 8) <;> rfl

/-- States between which every read agrees change nothing of what is held. -/
theorem Holds.congr {has bit : Nat → Bool} {s s' t t' : State} (h : Holds has bit s t)
    (hs : ∀ key w, (readWord s key w).2 = (readWord s' key w).2) (ht : ∀ key w, (readWord t' key w).2 = (readWord t key w).2) :
    Holds has bit s' t' := by
  refine ⟨fun key w => by rw [ht, h.ok, hs], fun key j => ?_⟩
  have hnew := h.bits key j
  rw [memBit, memBit, hs key] at hnew
  rw [memBit, ht key]
  exact hnew

/-- Bytes that were not stored read as before. -/
theorem Holds.otherBytes {has bit : Nat → Bool} {s t : State} (h : Holds has bit s t) {stored : Nat → Prop}
    (hs : ∀ a, has a = true → stored a) : otherBytes stored s t := by
  intro key a ha
  have hnot : has a = false := Bool.not_eq_true _ ▸ fun hhas => ha (hs a hhas)
  refine readMem_one_congr (h.ok key _) fun j hj => ?_
  rw [h.bits, hj, hnot]; rfl

/-- The `n` bytes at `a` hold `v`. -/
def holdsAt (has bit : Nat → Bool) (a n v : Nat) : Prop :=
  v < 2 ^ (8 * n) ∧ ∀ j, j < 8 * n → has ((8 * a + j) / 8) = true ∧ bit (8 * a + j) = v.testBit j

theorem testBit_of_holdsAt {has bit : Nat → Bool} {s t : State} (h : Holds has bit s t) {a n v : Nat} (hv : holdsAt has bit a n v) (j : Nat) :
    (decide (j < 8 * n) && memBit t 0 (8 * a + j)) = v.testBit j := by
  by_cases hj : j < 8 * n
  · obtain ⟨hhas, hbit⟩ := hv.2 j hj
    rw [decide_eq_true hj, h.bits, hhas, hbit]; rfl
  · rw [decide_eq_false hj, Nat.testBit_lt_two_pow (hv.1.trans_le (Nat.pow_le_pow_right (by decide) (by omega)))]; rfl

/-- Bytes of one codeword that were stored are found there. -/
theorem Holds.wordBytes {has bit : Nat → Bool} {s t : State} (h : Holds has bit s t) {a n v : Nat} (hv : holdsAt has bit a n v)
    (ha : a % 16 + n ≤ 16) : wordBytes t a n = v :=
  Nat.eq_of_testBit_eq fun j => by rw [testBit_wordBytes t ha, testBit_of_holdsAt h hv]

/-- Bytes that were stored are read. -/
theorem Holds.readMem {has bit : Nat → Bool} {s t : State} (h : Holds has bit s t) {a n v : Nat} (hv : holdsAt has bit a n v)
    (hr : ∀ x, a ≤ x → x < a + n → Machine.readable s x = true) : (readMem t 0 a n).2 = (v, true) := by
  refine Prod.ext (Nat.eq_of_testBit_eq fun j => ?_) (readMem_ok fun x h1 h2 => (h.readable x).trans (hr x h1 h2))
  rw [testBit_readMem, testBit_of_holdsAt h hv]

/-! ## The engine after a store -/

/-- `t` is `u` but for core `c`, whose lanes, masks and address registers are as they were. -/
structure EngineKept (c : Nat) (u t : State) : Prop where
  cores : ∃ k, t = { u with cores := k }
  others : otherCores c u t
  lanes : (core t c).vec.v = (core u c).vec.v
  masks : (core t c).vec.m = (core u c).vec.m
  addrs : (core t c).vec.a = (core u c).vec.a

theorem EngineKept.trans {c : Nat} {s t u : State} (h : EngineKept c s t) (k : EngineKept c t u) : EngineKept c s u := by
  obtain ⟨cs, hcs⟩ := h.cores
  obtain ⟨ds, hds⟩ := k.cores
  exact ⟨⟨ds, by rw [hds, hcs]⟩, otherCores_trans h.others k.others, k.lanes.trans h.lanes, k.masks.trans h.masks,
    k.addrs.trans h.addrs⟩

theorem engineKept_updCore (s : State) (c : Nat) {f : Core → Core}
    (hf : ∀ k, (f k).vec.v = k.vec.v ∧ (f k).vec.m = k.vec.m ∧ (f k).vec.a = k.vec.a) : EngineKept c s (updCore s c f) := by
  obtain ⟨hv, hm, ha⟩ := hf (core s c)
  refine ⟨⟨_, rfl⟩, otherCores_updCore s c f, ?_, ?_, ?_⟩ <;> rw [core_updCore_same]
  · exact hv
  · exact hm
  · exact ha

theorem vec_histAddAll (slot : Nat) : ∀ (l : List Word) (k : Core), (histAddAll k slot l).vec = k.vec
  | [], _ => rfl
  | x :: l, k => vec_histAddAll slot l (histAdd k slot x)

theorem engineKept_histRecord (s : State) (c slot : Nat) (l : List Word) : EngineKept c s (histRecord s c slot l) :=
  engineKept_updCore s c fun k => by rw [vec_histAddAll]; exact ⟨rfl, rfl, rfl⟩

/-- The generators have moved on (R115). -/
def setGens (g : Table DWord) (k : Core) : Core := { k with vec := { k.vec with gens := g } }

theorem engineKept_setGens (s : State) (c : Nat) (g : Table DWord) : EngineKept c s (updCore s c (setGens g)) :=
  engineKept_updCore s c fun _ => ⟨rfl, rfl, rfl⟩

theorem EngineKept.readWord {c : Nat} {u t : State} (h : EngineKept c u t) (key w : Nat) : (readWord t key w).2 = (readWord u key w).2 := by
  obtain ⟨k, rfl⟩ := h.cores
  exact readWord_of_same (s := u) (t := { u with cores := k }) rfl rfl ⟨rfl, rfl⟩ key w

/-- What an instruction that stores leaves: its bytes in memory, the engine's registers as they were, the run past it and no other core
changed. -/
structure StoreDone (c : Nat) (r : VecRun) (has bit : Nat → Bool) (s t : State) : Prop where
  holds : Holds has bit s t
  lanes : (core t c).vec.v = (core s c).vec.v
  masks : (core t c).vec.m = (core s c).vec.m
  addrs : (core t c).vec.a = (core s c).vec.a
  ran : ranOn c r false t
  others : otherCores c s t

/-- A store issued, its bytes written, the engine's registers kept and the run moved on. -/
theorem storeDone_of {c : Nat} (hc : c < 512) {s u v : State} {r : VecRun} {w : Nat} (hi : issues s c r w) {has bit : Nat → Bool}
    (hn : Noted (countIssue s c w) u) (hh : Holds has bit (countIssue s c w) u) (hk : EngineKept c u v) :
    StoreDone c r has bit s (updCore v c (fun k => k.setRun (r.past false))) := by
  have hall : EngineKept c u (updCore v c (fun k => k.setRun (r.past false))) :=
    hk.trans (engineKept_updCore v c fun _ => ⟨rfl, rfl, rfl⟩)
  have hcore : core u c = core s c := (hn.core c).trans (core_countIssue s c w c)
  refine ⟨hh.congr (fun key x => readWord_countIssue s hc w key x) hall.readWord, ?_, ?_, ?_, ?_, ?_⟩
  · rw [hall.lanes, hcore]
  · rw [hall.masks, hcore]
  · rw [hall.addrs, hcore]
  · rw [ranOn, core_updCore_same, issuing_past hi.1]; rfl
  · exact otherCores_trans (otherCores_of_cores (countIssue_cores s c w) c) (otherCores_trans (hn.otherCores c) hall.others)

/-! ## Codes fit their format (R94, R155) -/

/-- Every magnitude code that a conversion into a format gives is below its sign bit. -/
structure Fmt.CodesFit (f : Fmt) : Prop where
  finite : f.maxCode < f.signBit
  infinite : (2 ^ f.ebits - 1) * 2 ^ f.fbits < f.signBit
  nan : f.nanCode < f.signBit

theorem withSign_lt {f : Fmt} {c : Nat} (h : c < f.signBit) (neg : Bool) : withSign f neg c < 2 * f.signBit := by
  unfold withSign
  split <;> omega

theorem nonFinite_lt {f : Fmt} (h : f.CodesFit) (x : Num) : nonFinite f x < 2 * f.signBit := by
  have hnan : f.nanCode < 2 * f.signBit := by have := h.nan; omega
  unfold nonFinite
  split
  · split
    · exact withSign_lt h.infinite _
    · exact hnan
  · exact hnan

theorem ite_lt_of_lt {p : Prop} [Decidable p] {a b n : Nat} (ha : a < n) (hb : b < n) : (if p then a else b) < n := by
  split <;> assumption

/-- A magnitude code held to the largest finite one. -/
theorem clipped_lt {f : Fmt} (h : f.CodesFit) (c : Nat) : (if c ≤ f.maxCode then c else f.maxCode) < f.signBit := by
  split
  · next hle => exact hle.trans_lt h.finite
  · exact h.finite

theorem rne_lt {f : Fmt} (h : f.CodesFit) : ∀ x : Num, rne f x < 2 * f.signBit
  | .nan => nonFinite_lt h .nan
  | .inf neg => nonFinite_lt h (.inf neg)
  | .fin neg m e => by
    rw [rne]
    dsimp only
    generalize magCode f _ _ = c
    refine ite_lt_of_lt (withSign_lt (Nat.two_pow_pos _) _) ?_
    by_cases hc : c ≤ f.maxCode
    · rw [if_pos hc]
      exact withSign_lt (hc.trans_lt h.finite) _
    · rw [if_neg hc]
      exact ite_lt_of_lt (withSign_lt h.finite _) (withSign_lt h.infinite _)

theorem stochastic_lt {f : Fmt} (h : f.CodesFit) (k r : Nat) : ∀ x : Num, stochastic f k r x < 2 * f.signBit
  | .nan => nonFinite_lt h .nan
  | .inf neg => nonFinite_lt h (.inf neg)
  | .fin _ _ _ => ite_lt_of_lt (withSign_lt (Nat.two_pow_pos _) _) (withSign_lt (clipped_lt h _) _)

/-- The floating-point formats of ST have codes that fit. -/
theorem fits_of_stored {n : Nat} {t : Elem} (h : vfmtOf n = some (.elem t)) (hn : n ≤ 4 ∨ (8 ≤ n ∧ n ≤ 10)) :
    ∃ f, t.fmt = some f ∧ f.CodesFit ∧ 2 * f.signBit = 2 ^ t.width := by
  have hall : ∀ n, n < 11 → (n ≤ 4 ∨ (8 ≤ n ∧ n ≤ 10)) → ∀ g ∈ vfmtOf n,
      g ∈ [VFmt.elem .fp32, .elem .bf16, .elem .fp16, .elem .e4m3, .elem .e5m2, .raw 32, .raw 16, .raw 8] := by decide
  have ht := hall n (by omega) hn _ h
  simp only [List.mem_cons, VFmt.elem.injEq, reduceCtorEq, or_false, List.not_mem_nil] at ht
  rcases ht with rfl | rfl | rfl | rfl | rfl
  · exact ⟨.fp32, rfl, ⟨by decide, by decide, by decide⟩, by decide⟩
  · exact ⟨.bf16, rfl, ⟨by decide, by decide, by decide⟩, by decide⟩
  · exact ⟨.fp16, rfl, ⟨by decide, by decide, by decide⟩, by decide⟩
  · exact ⟨.e4m3, rfl, ⟨by decide, by decide, by decide⟩, by decide⟩
  · exact ⟨.e5m2, rfl, ⟨by decide, by decide, by decide⟩, by decide⟩

theorem narrow_lt {n : Nat} {t : Elem} (h : vfmtOf n = some (.elem t)) (hn : n ≤ 4 ∨ (8 ≤ n ∧ n ≤ 10)) (sr : Option (Nat × Nat)) (x : Num) :
    narrow t sr x < 2 ^ t.width := by
  obtain ⟨f, hf, hfit, hwidth⟩ := fits_of_stored h hn
  rw [narrow, hf, ← hwidth]
  cases sr with
  | none => exact rne_lt hfit x
  | some p => exact stochastic_lt hfit p.1 p.2 x

/-- The code that ST stores fits its format. -/
theorem laneCode_lt {w : Nat} {f : VFmt} (h : vfmtOf (Vi.fmt w) = some f) (hn : Vi.fmt w ≤ 4 ∨ (8 ≤ Vi.fmt w ∧ Vi.fmt w ≤ 10)) (d : Nat)
    (x : Word) : laneCode f w d x < 2 ^ f.width := by
  cases f with
  | elem t => exact narrow_lt h hn _ _
  | raw b => exact Nat.mod_lt _ (Nat.two_pow_pos _)
  | e8m0 => exact Nat.mod_lt _ (Nat.two_pow_pos _)

end Sys2Proof.Machine
end

section
/-!
PROOFS. ST (R113, R147, R154 to R156).
-/
namespace Sys2Proof.Machine

/-! ## Elements put in turn -/

/-- The write set of `e`-byte elements put at their addresses in turn. -/
def putAll (e : Nat) (ps : List (Nat × Nat)) : WriteSet := ps.foldl (fun t p => WriteSet.put t p.1 e p.2) []

theorem putAll_concat (e : Nat) (ps : List (Nat × Nat)) (p : Nat × Nat) : putAll e (ps ++ [p]) = (putAll e ps).put p.1 e p.2 := by
  rw [putAll, List.foldl_append]; rfl

theorem rises_putAll (e : Nat) (ps : List (Nat × Nat)) : (putAll e ps).rises := by
  induction ps using List.reverseRecOn with
  | nil => rfl
  | append_singleton ps p ih => rw [putAll_concat]; exact rises_put ih _ _ _

theorem has_putAll {e : Nat} {ps : List (Nat × Nat)} (h : ∀ p ∈ ps, p.1 % 16 + e ≤ 16) (x : Nat) :
    (putAll e ps).has x = true ↔ ∃ p ∈ ps, p.1 ≤ x ∧ x < p.1 + e := by
  induction ps using List.reverseRecOn with
  | nil =>
    rw [putAll, List.foldl_nil, has_nil]
    simp
  | append_singleton ps p ih =>
    rw [putAll_concat, has_put _ (h p (by simp)), Bool.or_eq_true, decide_eq_true_eq, ih fun q hq => h q (by simp [hq])]
    simp only [List.mem_append, List.mem_singleton]
    constructor
    · rintro (hx | ⟨q, hq, hx⟩)
      · exact ⟨p, .inr rfl, hx⟩
      · exact ⟨q, .inl hq, hx⟩
    · rintro ⟨q, hq | rfl, hx⟩
      · exact .inr ⟨q, hq, hx⟩
      · exact .inl hx

/-- An element that none put later overlaps is found. -/
theorem holdsAt_putAll {e : Nat} {pre post : List (Nat × Nat)} {p : Nat × Nat} (h : ∀ q ∈ pre ++ p :: post, q.1 % 16 + e ≤ 16)
    (hv : p.2 < 2 ^ (8 * e)) (hpost : ∀ q ∈ post, q.1 + e ≤ p.1 ∨ p.1 + e ≤ q.1) :
    holdsAt (putAll e (pre ++ p :: post)).has (putAll e (pre ++ p :: post)).bit p.1 e p.2 := by
  induction post using List.reverseRecOn with
  | nil =>
    have hp := h p (by simp)
    refine ⟨hv, fun j hj => ?_⟩
    rw [putAll_concat, has_put _ hp, bit_put _ hp, if_pos (by omega), decide_eq_true (by omega), Nat.add_sub_cancel_left]
    exact ⟨rfl, rfl⟩
  | append_singleton post q ih =>
    have hq := h q (by simp)
    obtain ⟨-, hheld⟩ := ih (fun x hx => h x (by simp only [List.mem_append, List.mem_cons] at hx ⊢; tauto))
      fun x hx => hpost x (by simp [hx])
    have hapart := hpost q (by simp)
    refine ⟨hv, fun j hj => ?_⟩
    obtain ⟨hhas, hbit⟩ := hheld j hj
    rw [← List.cons_append, ← List.append_assoc, putAll_concat, has_put _ hq, bit_put _ hq, if_neg (by omega), hhas, hbit, Bool.or_true]
    exact ⟨rfl, rfl⟩

/-! ## The elements of ST -/

theorem length_drawLanes (k : Nat) : ∀ (ls : List Nat) (t : Table DWord), (drawLanes t k ls).2.length = ls.length
  | [], _ => rfl
  | l :: ls, t => congrArg (· + 1) (length_drawLanes k ls (drawLane t l k).1)

/-- A draw for each enabled lane, 0 where RND is 0. -/
def storeDraws (s : State) (c w : Nat) : List Nat :=
  if Vi.rnd w then (drawLanes (core s c).vec.gens (Vi.sr w + 1) (bitsOf 64 ((core s c).vec.mask (Vi.mk w)))).2
  else (bitsOf 64 ((core s c).vec.mask (Vi.mk w))).map (fun _ => 0)

theorem storeDraws_get (s : State) (c w : Nat) {j i : Nat} (h : (bitsOf 64 ((core s c).vec.mask (Vi.mk w)))[j]? = some i) :
    (storeDraws s c w)[j]? = some ((laneDraws s c w (bitsOf 64 ((core s c).vec.mask (Vi.mk w)))).getD j 0) := by
  obtain ⟨hj, -⟩ := List.getElem?_eq_some_iff.1 h
  unfold storeDraws laneDraws
  split
  · rw [List.getD_eq_getElem?_getD, List.getElem?_eq_getElem (by rw [length_drawLanes]; exact hj)]; rfl
  · rw [List.getElem?_map, h]; rfl

/-- The code of each enabled lane and where it goes. -/
def storePuts (s : State) (c w : Nat) (f : VFmt) : List (Nat × Nat) :=
  ((bitsOf 64 ((core s c).vec.mask (Vi.mk w))).zip (storeDraws s c w)).map
    (fun p => (lanePlace s c w (f.width / 8) p.1, laneCode f w p.2 ((core s c).vec.lane (Vi.vd w) p.1)))

theorem storePuts_get {s : State} {c w : Nat} {f : VFmt} {j : Nat} {p : Nat × Nat} (h : (storePuts s c w f)[j]? = some p) :
    ∃ i, (bitsOf 64 ((core s c).vec.mask (Vi.mk w)))[j]? = some i ∧ p.1 = lanePlace s c w (f.width / 8) i := by
  rw [storePuts, List.getElem?_map, Option.map_eq_some_iff] at h
  obtain ⟨x, hx, rfl⟩ := h
  exact ⟨x.1, (List.getElem?_zip_eq_some.1 hx).1, rfl⟩

theorem storePuts_of_get {s : State} {c w : Nat} (f : VFmt) {j i : Nat}
    (h : (bitsOf 64 ((core s c).vec.mask (Vi.mk w)))[j]? = some i) : (storePuts s c w f)[j]? = some (lanePlace s c w (f.width / 8) i,
      laneCode f w ((laneDraws s c w (bitsOf 64 ((core s c).vec.mask (Vi.mk w)))).getD j 0) ((core s c).vec.lane (Vi.vd w) i)) := by
  have hzip : ((bitsOf 64 ((core s c).vec.mask (Vi.mk w))).zip (storeDraws s c w))[j]?
      = some (i, (laneDraws s c w (bitsOf 64 ((core s c).vec.mask (Vi.mk w)))).getD j 0) :=
    List.getElem?_zip_eq_some.2 ⟨h, storeDraws_get s c w h⟩
  rw [storePuts, List.getElem?_map, hzip]; rfl

/-- The enabled lanes are in order. -/
theorem bitsOf_rises {n j k i x : Nat} (hj : (bitsOf 64 n)[j]? = some i) (hk : (bitsOf 64 n)[k]? = some x) (h : j < k) : i < x := by
  obtain ⟨hjl, rfl⟩ := List.getElem?_eq_some_iff.1 hj
  obtain ⟨hkl, rfl⟩ := List.getElem?_eq_some_iff.1 hk
  exact List.pairwise_iff_getElem.1 (List.Pairwise.filter _ List.pairwise_lt_range) j k hjl hkl h

theorem mem_storePuts {s : State} {c w : Nat} {f : VFmt} {p : Nat × Nat} (h : p ∈ storePuts s c w f) :
    ∃ i, laneOn s c w i ∧ p.1 = lanePlace s c w (f.width / 8) i := by
  obtain ⟨j, hj⟩ := List.mem_iff_getElem?.1 h
  obtain ⟨i, hi, hp⟩ := storePuts_get hj
  exact ⟨i, bitsOf_mem.1 (List.mem_of_getElem? hi), hp⟩

/-! ## The instruction -/

/-- The fields of ST are in order (R155). -/
structure StoreFields (w : Nat) (f : VFmt) : Prop where
  format : vfmtOf (Vi.fmt w) = some f
  accepted : Vi.fmt w ≤ 4 ∨ (8 ≤ Vi.fmt w ∧ Vi.fmt w ≤ 10)
  stochastic : Vi.rnd w = true → 1 ≤ Vi.fmt w ∧ Vi.fmt w ≤ 4
  plain : Vi.rnd w = false → Vi.sr w = 0
  unused : Vi.as' w = 0 ∧ Vi.blk w = 0

/-- Without random rounding SR_BITS is 0. -/
theorem srOk_of_plain {w : Nat} (h : Vi.rnd w = false → Vi.sr w = 0) : (!Vi.rnd w && Vi.sr w != 0) = false := by
  cases hr : Vi.rnd w with
  | false => rw [h hr]; rfl
  | true => rfl

/-- The codes put in lane order are the elements of the store. -/
theorem foldl_lanePlaces (s : State) (c w : Nat) (f : VFmt) :
    ((lanePlaces s c w (f.width / 8)).zip (storeDraws s c w)).foldl
      (fun t p => WriteSet.put t p.1.2 (f.width / 8) (laneCode f w p.2 ((core s c).vec.lane (Vi.vd w) p.1.1))) []
      = putAll (f.width / 8) (storePuts s c w f) := by
  rw [putAll, storePuts, lanePlaces, List.zip_map_left, List.foldl_map, List.foldl_map]
  rfl

/-- The last step of ST: the generators moved on, and the floating-point values recorded (R115, R156). -/
def storeEnd (c : Nat) (r : VecRun) (f : VFmt) (g : Table DWord) (xs : List Word) (u : State) : State :=
  match f with
  | .elem _ => histRecord (updCore u c (setGens g)) c r.hist xs
  | _ => updCore u c (setGens g)

theorem engineKept_storeEnd (c : Nat) (r : VecRun) (f : VFmt) (g : Table DWord) (xs : List Word) (u : State) :
    EngineKept c u (storeEnd c r f g xs u) := by
  cases f with
  | elem t => exact (engineKept_setGens u c g).trans (engineKept_histRecord _ c r.hist xs)
  | raw b => exact engineKept_setGens u c g
  | e8m0 => exact engineKept_setGens u c g

/-- ST writes the codes of its enabled lanes in lane order. -/
theorem vecStore_ok {s : State} {c w : Nat} {f : VFmt} (r : VecRun) (hc : c < 512) (hf : StoreFields w f)
    (h : lanesReach s c w (f.width / 8) (f == .elem .fp32 || f == .raw 32)) :
    ∃ v, EngineKept c (writeSet (countIssue s c w) (putAll (f.width / 8) (storePuts s c w f))) v
      ∧ vecStore (countIssue s c w) c r w = .ok (v, false) := by
  obtain ⟨hfmt, haccepted, hstoch, hplain, has, hblk⟩ := hf
  have hlanes := laneAddrs_of_reach hc h
  have haccept : (decide (Vi.fmt w ≤ 4) || (decide (8 ≤ Vi.fmt w) && decide (Vi.fmt w ≤ 10))) = true := by simpa using haccepted
  have hround : (!Vi.rnd w || (decide (1 ≤ Vi.fmt w) && decide (Vi.fmt w ≤ 4))) = true := by
    cases hr : Vi.rnd w with
    | false => rfl
    | true => simpa using hstoch hr
  simp only [vecStore, core_countIssue, hfmt, haccept, hround, has, hblk, srOk_of_plain hplain, hlanes, bne_self_eq_false, Bool.not_true, Bool.or_self,
    Bool.false_eq_true, if_false]
  have hplaces : (lanePlaces s c w (f.width / 8)).map Prod.fst = bitsOf 64 ((core s c).vec.mask (Vi.mk w)) := by
    rw [lanePlaces, List.map_map]; exact List.map_id _
  have hdraws : (if Vi.rnd w = true then drawLanes (core s c).vec.gens (Vi.sr w + 1) ((lanePlaces s c w (f.width / 8)).map Prod.fst)
      else ((core s c).vec.gens, (lanePlaces s c w (f.width / 8)).map (fun _ => 0))).2 = storeDraws s c w := by
    rw [hplaces, storeDraws, apply_ite Prod.snd, lanePlaces, List.map_map]; rfl
  generalize (if Vi.rnd w = true then drawLanes (core s c).vec.gens (Vi.sr w + 1) ((lanePlaces s c w (f.width / 8)).map Prod.fst)
      else ((core s c).vec.gens, (lanePlaces s c w (f.width / 8)).map (fun _ => 0))) = draws at hdraws ⊢
  obtain ⟨g, rs⟩ := draws
  dsimp only at hdraws
  subst hdraws
  refine ⟨storeEnd c r f g ((lanePlaces s c w (f.width / 8)).map (fun l => (core s c).vec.lane (Vi.vd w) l.1)) _,
    engineKept_storeEnd c r f g _ _, ?_⟩
  rw [← foldl_lanePlaces]
  cases f <;> rfl

end Sys2Proof.Machine
end

section
/-!
PROOFS. What ST leaves in memory (R147, R154 to R156).
-/
namespace Sys2Proof.Machine

theorem readable_countIssue (s : State) {c : Nat} (hc : c < 512) (w a : Nat) : readable (countIssue s c w) a = readable s a := by
  rw [readable, readWord_countIssue s hc, ← readable]

/-- The bytes of one codeword are readable together. -/
theorem readable_congr (s : State) {a b : Nat} (h : a / 16 = b / 16) : readable s a = readable s b := by
  rw [readable, h, ← readable]

/-- The elements of ST lie each in one codeword of plain memory. -/
structure StoreReach (s : State) (c w e : Nat) : Prop where
  aligned : ∀ i, laneOn s c w i → lanePlace s c w e i % e = 0
  fits : ∀ i, laneOn s c w i → lanePlace s c w e i % 16 + e ≤ 16
  plain : ∀ i, laneOn s c w i → ∀ x, lanePlace s c w e i ≤ x → x < lanePlace s c w e i + e → plainWord (x / 16)

theorem storeReach_of {s : State} {c w e : Nat} {any : Bool} (hc : c < 512) (h : lanesReach s c w e any)
    (he : e = 1 ∨ e = 2 ∨ e = 4) : StoreReach s c w e :=
  ⟨fun _ hi => (lanePlace_shows hc h he hi.1).1, fun _ hi => (lanePlace_shows hc h he hi.1).2.1,
    fun _ hi => (lanePlace_shows hc h he hi.1).2.2⟩

theorem storePuts_fit {s : State} {c w : Nat} {f : VFmt} (h : StoreReach s c w (f.width / 8)) :
    ∀ p ∈ storePuts s c w f, p.1 % 16 + f.width / 8 ≤ 16 := fun p hp => by
  obtain ⟨i, hi, hplace⟩ := mem_storePuts hp
  rw [hplace]
  exact h.fits i hi

theorem has_storePuts {s : State} {c w : Nat} {f : VFmt} (h : StoreReach s c w (f.width / 8)) {a : Nat}
    (ha : (putAll (f.width / 8) (storePuts s c w f)).has a = true) :
    ∃ i, laneOn s c w i ∧ lanePlace s c w (f.width / 8) i ≤ a ∧ a < lanePlace s c w (f.width / 8) i + f.width / 8 := by
  obtain ⟨p, hp, hbytes⟩ := (has_putAll (storePuts_fit h) a).1 ha
  obtain ⟨i, hi, hplace⟩ := mem_storePuts hp
  exact ⟨i, hi, hplace ▸ hbytes⟩

theorem lands_storePuts {s : State} {c w : Nat} {f : VFmt} (hc : c < 512) (h : StoreReach s c w (f.width / 8))
    (hread : ∀ i, laneOn s c w i → readable s (lanePlace s c w (f.width / 8) i) = true) :
    (putAll (f.width / 8) (storePuts s c w f)).lands (countIssue s c w) := fun a ha => by
  obtain ⟨i, hi, h1, h2⟩ := has_storePuts h ha
  have hfits := h.fits i hi
  refine ⟨h.plain i hi a h1 h2, ?_⟩
  rw [readable_countIssue s hc, readable_congr s (show a / 16 = lanePlace s c w (f.width / 8) i / 16 by omega)]
  exact hread i hi

/-- Two different places aligned to `e` bytes are apart. -/
theorem apart_of_aligned {e a b : Nat} (ha : a % e = 0) (hb : b % e = 0) (h : a ≠ b) : a + e ≤ b ∨ b + e ≤ a := by
  obtain ⟨x, rfl⟩ := Nat.dvd_of_mod_eq_zero ha
  obtain ⟨y, rfl⟩ := Nat.dvd_of_mod_eq_zero hb
  rcases Nat.lt_or_gt_of_ne (fun hxy : x = y => h (by rw [hxy])) with hlt | hlt
  · exact .inl (Nat.mul_le_mul_left e hlt)
  · exact .inr (Nat.mul_le_mul_left e hlt)

/-- A lane whose place no higher enabled lane shares has its code among the bytes stored. -/
theorem holdsAt_storePuts {s : State} {c w : Nat} {f : VFmt} (h : StoreReach s c w (f.width / 8))
    (hcode : ∀ d x, laneCode f w d x < 2 ^ (8 * (f.width / 8))) {j i : Nat}
    (hj : (bitsOf 64 ((core s c).vec.mask (Vi.mk w)))[j]? = some i)
    (hlast : ∀ k, i < k → laneOn s c w k → lanePlace s c w (f.width / 8) k ≠ lanePlace s c w (f.width / 8) i) :
    holdsAt (putAll (f.width / 8) (storePuts s c w f)).has (putAll (f.width / 8) (storePuts s c w f)).bit
      (lanePlace s c w (f.width / 8) i) (f.width / 8)
      (laneCode f w ((laneDraws s c w (bitsOf 64 ((core s c).vec.mask (Vi.mk w)))).getD j 0) ((core s c).vec.lane (Vi.vd w) i)) := by
  have hon : laneOn s c w i := bitsOf_mem.1 (List.mem_of_getElem? hj)
  obtain ⟨hlen, hget⟩ := List.getElem?_eq_some_iff.1 (storePuts_of_get f hj)
  have hsplit : storePuts s c w f = (storePuts s c w f).take j ++ (lanePlace s c w (f.width / 8) i,
      laneCode f w ((laneDraws s c w (bitsOf 64 ((core s c).vec.mask (Vi.mk w)))).getD j 0) ((core s c).vec.lane (Vi.vd w) i))
      :: (storePuts s c w f).drop (j + 1) := by
    rw [← hget, ← List.drop_eq_getElem_cons hlen, List.take_append_drop]
  have hfit := storePuts_fit h
  rw [hsplit] at hfit ⊢
  refine holdsAt_putAll hfit (hcode _ _) fun q hq => ?_
  obtain ⟨m, hm⟩ := List.mem_iff_getElem?.1 hq
  rw [List.getElem?_drop] at hm
  obtain ⟨k, hk, hplace⟩ := storePuts_get hm
  have hkon : laneOn s c w k := bitsOf_mem.1 (List.mem_of_getElem? hk)
  have hne := hlast k (bitsOf_rises hj hk (by omega)) hkon
  rw [hplace]
  exact apart_of_aligned (h.aligned k hkon) (h.aligned i hon) hne

theorem exec_st {c : Fin 512} {s : State} {r : VecRun} {w : Nat} (hi : issues s c r w) (ho : Vi.opc w = 0x31) {t : State}
    (h : vecStore (countIssue s c w) c r w = .ok (t, false)) :
    exec (.st c) s = .next (updCore t c (fun k => k.setRun (r.past false))) :=
  congrArg Host.Outcome.next (vecIssue_of_ok hi (mine := fun o => o == 0x31) (by rw [ho]; rfl) (act := fun u x y => vecStore u c x y) h)

/-- ST leaves its elements in memory and moves the run on. -/
theorem st_done {c : Fin 512} {s : State} {r : VecRun} {w : Nat} {f : VFmt} (hi : issues s c r w) (ho : Vi.opc w = 0x31)
    (hf : StoreFields w f) (h : lanesReach s c w (f.width / 8) (f == .elem .fp32 || f == .raw 32))
    (hland : (putAll (f.width / 8) (storePuts s c w f)).lands (countIssue s c w)) :
    Answers (.st c) s (StoreDone c r (putAll (f.width / 8) (storePuts s c w f)).has (putAll (f.width / 8) (storePuts s c w f)).bit s) := by
  have hstored := stored_writeSet (rises_putAll (f.width / 8) (storePuts s c w f)) hland
  obtain ⟨v, hkept, hstore⟩ := vecStore_ok r c.isLt hf h
  exact ⟨_, exec_st hi ho hstore, storeDone_of c.isLt hi hstored.noted hstored.holds hkept⟩

/-- What the lanes of ST leave in memory. -/
theorem st_shows {c : Fin 512} {s : State} {r : VecRun} {w : Nat} {f : VFmt} (hi : issues s c r w) (ho : Vi.opc w = 0x31)
    (hf : StoreFields w f) (h : lanesReach s c w (f.width / 8) (f == .elem .fp32 || f == .raw 32))
    (hread : ∀ i, laneOn s c w i → readable s (lanePlace s c w (f.width / 8) i) = true) :
    Answers (.st c) s (fun t =>
      (∀ j i, (bitsOf 64 ((core s c).vec.mask (Vi.mk w)))[j]? = some i →
        (∀ k, i < k → laneOn s c w k → lanePlace s c w (f.width / 8) k ≠ lanePlace s c w (f.width / 8) i) →
        readable t (lanePlace s c w (f.width / 8) i) = true
          ∧ wordBytes t (lanePlace s c w (f.width / 8) i) (f.width / 8)
            = laneCode f w ((laneDraws s c w (bitsOf 64 ((core s c).vec.mask (Vi.mk w)))).getD j 0) ((core s c).vec.lane (Vi.vd w) i))
      ∧ otherBytes (fun a => ∃ i, laneOn s c w i ∧ lanePlace s c w (f.width / 8) i ≤ a
          ∧ a < lanePlace s c w (f.width / 8) i + f.width / 8) s t
      ∧ (core t c).vec.v = (core s c).vec.v ∧ (core t c).vec.m = (core s c).vec.m ∧ (core t c).vec.a = (core s c).vec.a
      ∧ ranOn c r false t ∧ otherCores c s t) := by
  obtain ⟨hbytes, hwidth⟩ := width_bytes hf.format (hf.accepted.imp_right .inl)
  have hreach := storeReach_of c.isLt h hbytes
  have hcode (d : Nat) (x : Word) : laneCode f w d x < 2 ^ (8 * (f.width / 8)) := by
    rw [hwidth]; exact laneCode_lt hf.format hf.accepted d x
  obtain ⟨t, hexec, hdone⟩ := st_done hi ho hf h (lands_storePuts c.isLt hreach hread)
  refine ⟨t, hexec, fun j i hj hlast => ?_, hdone.holds.otherBytes fun a ha => has_storePuts hreach ha,
    hdone.lanes, hdone.masks, hdone.addrs, hdone.ran, hdone.others⟩
  have hon : laneOn s c w i := bitsOf_mem.1 (List.mem_of_getElem? hj)
  exact ⟨(hdone.holds.readable _).trans (hread i hon),
    hdone.holds.wordBytes (holdsAt_storePuts hreach hcode hj hlast) (hreach.fits i hon)⟩

end Sys2Proof.Machine
end

section
/-!
SUPPORT. Streams of bytes stored, and the blocks that STB stores (R101, R156, R164, R165).
-/
namespace Sys2Proof.Machine

/-! ## A stream of bytes -/

theorem rises_bytesSet (a : Nat) : ∀ n v, (bytesSet a n v).rises
  | 0, _ => rfl
  | n + 1, v => rises_put (rises_bytesSet a n v) _ _ _

theorem byte_fits (a : Nat) : a % 16 + 1 ≤ 16 := Nat.mod_lt a (by decide)

theorem has_bytesSet (a : Nat) : ∀ n v x, (bytesSet a n v).has x = decide (a ≤ x ∧ x < a + n)
  | 0, _, x => by rw [bytesSet, has_nil, decide_eq_false (by omega)]
  | n + 1, v, x => by
    rw [bytesSet, has_put _ (byte_fits _), has_bytesSet a n v x, ← Bool.decide_or]
    exact decide_eq_decide.2 (by omega)

theorem bit_bytesSet (a : Nat) : ∀ {n} v {j}, j < 8 * n → (bytesSet a n v).bit (8 * a + j) = v.testBit j
  | 0, _, _, h => absurd h (by omega)
  | n + 1, v, j, h => by
    rw [bytesSet, bit_put _ (byte_fits _)]
    by_cases hlast : 8 * n ≤ j
    · rw [if_pos (by omega), testBit_fld, decide_eq_true (by omega), Bool.true_and]
      congr 1
      omega
    · rw [if_neg (by omega)]
      exact bit_bytesSet a v (by omega)

/-- A stream stored stands where it was put. -/
theorem holdsAt_bytesSet (a : Nat) {n v : Nat} (h : v < 2 ^ (8 * n)) : holdsAt (bytesSet a n v).has (bytesSet a n v).bit a n v :=
  ⟨h, fun j hj => ⟨by rw [has_bytesSet, decide_eq_true (by omega)], bit_bytesSet a v hj⟩⟩

theorem packCodes_lt (w : Nat) : ∀ l : List Nat, packCodes w l < 2 ^ (w * l.length)
  | [] => Nat.one_pos
  | x :: l => by
    have hlow : x % 2 ^ w < 2 ^ w := Nat.mod_lt _ (Nat.two_pow_pos w)
    have hrest := packCodes_lt w l
    rw [packCodes, List.length_cons, Nat.mul_succ, Nat.pow_add, Nat.mul_comm (2 ^ (w * l.length))]
    calc x % 2 ^ w + 2 ^ w * packCodes w l < 2 ^ w + 2 ^ w * packCodes w l := Nat.add_lt_add_right hlow _
      _ = 2 ^ w * (packCodes w l + 1) := by ring
      _ ≤ 2 ^ w * 2 ^ (w * l.length) := Nat.mul_le_mul_left _ hrest

/-! ## The blocks (R156) -/

theorem length_chunks {α : Type} (k : Nat) : ∀ (m : Nat) (l : List α), (chunks k m l).length = m
  | 0, _ => rfl
  | m + 1, l => congrArg (· + 1) (length_chunks k m (l.drop k))

theorem length_of_mem_chunks {α : Type} {k : Nat} : ∀ {m : Nat} {l p : List α}, p ∈ chunks k m l → p.length ≤ k
  | 0, _, _, h => absurd h List.not_mem_nil
  | m + 1, l, p, h => by
    rcases List.mem_cons.1 h with rfl | h
    · rw [List.length_take]; exact Nat.min_le_left _ _
    · exact length_of_mem_chunks h

theorem length_blockCodes (t : Elem) (scale : Nat) : ∀ (d : Option (Nat × List Nat)) (xs : List Num),
    (blockCodes t scale d xs).length = xs.length
  | _, [] => rfl
  | none, _ :: xs => congrArg (· + 1) (length_blockCodes t scale none xs)
  | some p, _ :: xs => congrArg (· + 1) (length_blockCodes t scale (some (p.1, p.2.tail)) xs)

theorem length_stbBlocks (s : State) (c w : Nat) (t : Elem) (n b : Nat) : (stbBlocks s c w t n b).length = n / b := by
  simp only [stbBlocks, List.length_map, List.length_zip, length_chunks, Nat.min_self]

theorem length_stbCodes (s : State) (c w : Nat) (t : Elem) (n b : Nat) : ((stbBlocks s c w t n b).flatMap Prod.snd).length ≤ n := by
  have hblock : ∀ k ∈ (stbBlocks s c w t n b).map (fun p => p.2.length), k ≤ b := by
    intro k hk
    obtain ⟨q, hq, rfl⟩ := List.mem_map.1 hk
    obtain ⟨p, hp, rfl⟩ := List.mem_map.1 hq
    rw [length_blockCodes]
    exact length_of_mem_chunks (List.of_mem_zip hp).1
  have hsum := List.sum_le_card_nsmul _ b hblock
  rw [List.length_map, length_stbBlocks, smul_eq_mul] at hsum
  rw [List.length_flatMap]
  exact hsum.trans (Nat.div_mul_le_self n b)

/-- The bytes of the elements that STB stores. -/
def elemBytes (s : State) (c w : Nat) (x : Elem) (n b pe : Nat) : WriteSet :=
  bytesSet pe (n * x.width / 8) (packCodes x.width ((stbBlocks s c w x n b).flatMap Prod.snd))

/-- The bytes of the scales that STB stores. -/
def scaleBytes (s : State) (c w : Nat) (x : Elem) (n b ps : Nat) : WriteSet :=
  bytesSet ps (n / b) (packCodes 8 ((stbBlocks s c w x n b).map Prod.fst))

theorem holdsAt_scaleBytes (s : State) (c w : Nat) (x : Elem) (n b ps : Nat) :
    holdsAt (scaleBytes s c w x n b ps).has (scaleBytes s c w x n b ps).bit ps (n / b)
      (packCodes 8 ((stbBlocks s c w x n b).map Prod.fst)) := by
  refine holdsAt_bytesSet ps ?_
  have hpack := packCodes_lt 8 ((stbBlocks s c w x n b).map Prod.fst)
  rwa [List.length_map, length_stbBlocks] at hpack

theorem holdsAt_elemBytes (s : State) (c w : Nat) (x : Elem) {n : Nat} (b pe : Nat) (h : n % 8 = 0) :
    holdsAt (elemBytes s c w x n b pe).has (elemBytes s c w x n b pe).bit pe (n * x.width / 8)
      (packCodes x.width ((stbBlocks s c w x n b).flatMap Prod.snd)) := by
  refine holdsAt_bytesSet pe ((packCodes_lt _ _).trans_le (Nat.pow_le_pow_right (by decide) ?_))
  rw [Nat.mul_div_cancel' ((Nat.dvd_of_mod_eq_zero h).mul_right _), Nat.mul_comm n]
  exact Nat.mul_le_mul_left _ (length_stbCodes s c w x n b)

/-- Blocks paired with their scales and draws are the pairs of scales and codes. -/
theorem zip_scales_flatMap {α β : Type} (m : α → Nat) (g : α → Nat → β → List Nat) (bs : List α) (ds : List β) :
    ((bs.zip (bs.map m)).zip ds).flatMap (fun p => g p.1.1 p.1.2 p.2)
      = ((bs.zip ds).map (fun p => (m p.1, g p.1 (m p.1) p.2))).flatMap Prod.snd := by
  induction bs generalizing ds with
  | nil => rfl
  | cons x bs ih =>
    cases ds with
    | nil => rfl
    | cons d ds => exact congrArg (g x (m x) d ++ ·) (ih ds)

theorem zip_scales_map {α β : Type} (m : α → Nat) (g : α → Nat → β → List Nat) {bs : List α} {ds : List β} (h : bs.length = ds.length) :
    ((bs.zip ds).map (fun p => (m p.1, g p.1 (m p.1) p.2))).map Prod.fst = bs.map m := by
  rw [List.map_map]
  exact (List.map_map (f := Prod.fst) (g := m)).symm.trans (by rw [List.map_fst_zip h.le])

end Sys2Proof.Machine
end

section
/-!
PROOFS. STB, and O22 (R147, R154 to R156).
-/
namespace Sys2Proof.Machine

/-! ## STB -/

/-- The fields of STB are in order (R156). -/
structure BlockFields (w : Nat) (x : Elem) : Prop where
  format : vfmtOf (Vi.fmt w) = some (.elem x)
  block : x.isBlock = true
  unused : Vi.mk w = 0 ∧ Vi.off w = 0 ∧ Vi.stride w = 0
  plain : Vi.rnd w = false → Vi.sr w = 0
  pair : Vi.blk w = 3 → Vi.vd w ≠ 63

/-- The elements of STB lie at `pe` and its scales at `ps`, neither in the Tally (R154, R156). -/
structure BlockReach (s : State) (c w n b pe ps : Nat) (x : Elem) : Prop where
  size : b = 16 * 2 ^ Vi.blk w
  lanes : n = if Vi.blk w = 3 then 128 else 64
  elems : cellarRange s c ((core s c).vec.addr (Vi.an w)) (n * x.width / 8) = some pe
  scales : cellarRange s c ((core s c).vec.addr (Vi.as' w)) (n / b) = some ps
  elemSpace : (core s c).vec.addr (Vi.an w) / 2 ^ 30 ≠ 1
  scaleSpace : (core s c).vec.addr (Vi.as' w) / 2 ^ 30 ≠ 1

/-- Outside the Tally a cellar range lies in the Larder or the commons. -/
theorem space_of_cellarRange {s : State} {c a n q : Nat} (h : cellarRange s c a n = some q) (hne : a / 2 ^ 30 ≠ 1) :
    (a / 2 ^ 30 == 0 || a / 2 ^ 30 == 2) = true := by
  rcases cellarRange_cases h with ⟨hs, -⟩ | ⟨hs, -⟩ | ⟨hs, -⟩
  · rw [hs]; rfl
  · exact absurd hs hne
  · rw [hs]; rfl

/-- The blocks of elements that STB stores. -/
def stbElems (s : State) (c w n b : Nat) : List (List Num) :=
  chunks b (n / b) ((List.range n).map (fun i => f32 ((core s c).vec.lane (Vi.vd w + i / 64) (i % 64))))

/-- The blocks of draws of STB. -/
def stbDraws (s : State) (c w n b : Nat) : List (List Nat) := chunks b (n / b) (laneDraws s c w ((List.range n).map (· % 64)))

theorem stbBlocks_scales (s : State) (c w : Nat) (x : Elem) (n b : Nat) :
    (stbBlocks s c w x n b).map Prod.fst = (stbElems s c w n b).map (measureScale x) :=
  zip_scales_map (measureScale x) (fun xs scale ds => blockCodes x scale (if Vi.rnd w then some (Vi.sr w + 1, ds) else none) xs)
    (by rw [length_chunks, length_chunks])

theorem stbBlocks_codes (s : State) (c w : Nat) (x : Elem) (n b : Nat) : (stbBlocks s c w x n b).flatMap Prod.snd
    = (((stbElems s c w n b).zip ((stbElems s c w n b).map (measureScale x))).zip (stbDraws s c w n b)).flatMap
      (fun p => blockCodes x p.1.2 (if Vi.rnd w then some (Vi.sr w + 1, p.2) else none) p.1.1) :=
  (zip_scales_flatMap (measureScale x)
    (fun xs scale ds => blockCodes x scale (if Vi.rnd w then some (Vi.sr w + 1, ds) else none) xs) _ _).symm

/-- STB writes its elements and then its scales. -/
theorem vecStoreBlock_ok {s : State} {c w n b pe ps : Nat} {x : Elem} (r : VecRun) (hc : c < 512) (hf : BlockFields w x)
    (h : BlockReach s c w n b pe ps x) :
    ∃ v, EngineKept c (writeSet (writeSet (countIssue s c w) (elemBytes s c w x n b pe)) (scaleBytes s c w x n b ps)) v
      ∧ vecStoreBlock (countIssue s c w) c r w = .ok (v, false) := by
  obtain ⟨hfmt, hblock, ⟨hmk, hoff, hstride⟩, hplain, hpair⟩ := hf
  obtain ⟨hb, hn, helems, hscales, hespace, hsspace⟩ := h
  have hwide : (Vi.blk w == 3 && Vi.vd w == 63) = false := by simpa using hpair
  simp only [vecStoreBlock, core_countIssue, hfmt, hblock, hmk, hoff, hstride, srOk_of_plain hplain, hwide, beq_iff_eq, cellarRange_countIssue s hc,
    helems, hscales, space_of_cellarRange helems hespace, space_of_cellarRange hscales hsspace, bne_self_eq_false, Bool.not_true,
    Bool.or_self, Bool.false_eq_true, if_false, ← hb, ← hn]
  have hdraws : (if Vi.rnd w = true then drawLanes (core s c).vec.gens (Vi.sr w + 1) ((List.range n).map (fun i => i % 64))
      else ((core s c).vec.gens, [])).2 = laneDraws s c w ((List.range n).map (fun i => i % 64)) := by
    rw [laneDraws, apply_ite Prod.snd]
  rw [hdraws, List.map_map, scaleBytes, elemBytes, stbBlocks_scales, stbBlocks_codes]
  exact ⟨_, (engineKept_setGens _ c _).trans (engineKept_histRecord _ c r.hist _), rfl⟩

theorem exec_stb {c : Fin 512} {s : State} {r : VecRun} {w : Nat} (hi : issues s c r w) (ho : Vi.opc w = 0x32) {t : State}
    (h : vecStoreBlock (countIssue s c w) c r w = .ok (t, false)) :
    exec (.stb c) s = .next (updCore t c (fun k => k.setRun (r.past false))) :=
  congrArg Host.Outcome.next
    (vecIssue_of_ok hi (mine := fun o => o == 0x32) (by rw [ho]; rfl) (act := fun u x y => vecStoreBlock u c x y) h)

theorem has_elemBytes (s : State) (c w : Nat) (x : Elem) (n b pe a : Nat) :
    (elemBytes s c w x n b pe).has a = true ↔ pe ≤ a ∧ a < pe + n * x.width / 8 := by
  rw [elemBytes, has_bytesSet, decide_eq_true_eq]

theorem has_scaleBytes (s : State) (c w : Nat) (x : Elem) (n b ps a : Nat) :
    (scaleBytes s c w x n b ps).has a = true ↔ ps ≤ a ∧ a < ps + n / b := by
  rw [scaleBytes, has_bytesSet, decide_eq_true_eq]

/-- A byte that STB stores: of its scales, which come last, or of its elements. -/
def stbHas (s : State) (c w n b pe ps : Nat) (x : Elem) (a : Nat) : Bool :=
  (scaleBytes s c w x n b ps).has a || (elemBytes s c w x n b pe).has a

/-- A bit that STB stores. -/
def stbBit (s : State) (c w n b pe ps : Nat) (x : Elem) (j : Nat) : Bool :=
  if (scaleBytes s c w x n b ps).has (j / 8) then (scaleBytes s c w x n b ps).bit j else (elemBytes s c w x n b pe).bit j

theorem holdsAt_stbScales (s : State) (c w n b pe ps : Nat) (x : Elem) :
    holdsAt (stbHas s c w n b pe ps x) (stbBit s c w n b pe ps x) ps (n / b)
      (packCodes 8 ((stbBlocks s c w x n b).map Prod.fst)) := by
  obtain ⟨hlt, hheld⟩ := holdsAt_scaleBytes s c w x n b ps
  refine ⟨hlt, fun j hj => ?_⟩
  obtain ⟨hhas, hbit⟩ := hheld j hj
  rw [stbHas, stbBit, hhas, if_pos rfl]
  exact ⟨rfl, hbit⟩

theorem holdsAt_stbElems (s : State) (c w : Nat) {n b pe ps : Nat} (x : Elem) (hn : n % 8 = 0)
    (h : ps + n / b ≤ pe ∨ pe + n * x.width / 8 ≤ ps) :
    holdsAt (stbHas s c w n b pe ps x) (stbBit s c w n b pe ps x) pe (n * x.width / 8)
      (packCodes x.width ((stbBlocks s c w x n b).flatMap Prod.snd)) := by
  obtain ⟨hlt, hheld⟩ := holdsAt_elemBytes s c w x b pe hn
  refine ⟨hlt, fun j hj => ?_⟩
  obtain ⟨hhas, hbit⟩ := hheld j hj
  have hscale : (scaleBytes s c w x n b ps).has ((8 * pe + j) / 8) = false := by
    rw [← Bool.not_eq_true, has_scaleBytes]
    omega
  rw [stbHas, stbBit, hscale, if_neg Bool.false_ne_true, Bool.false_or]
  exact ⟨hhas, hbit⟩

/-- STB leaves its blocks in memory and moves the run on. -/
theorem stb_done {c : Fin 512} {s : State} {r : VecRun} {w n b pe ps : Nat} {x : Elem} (hi : issues s c r w) (ho : Vi.opc w = 0x32)
    (hf : BlockFields w x) (h : BlockReach s c w n b pe ps x)
    (hread : ∀ a, (pe ≤ a ∧ a < pe + n * x.width / 8) ∨ (ps ≤ a ∧ a < ps + n / b) → readable s a = true) :
    Answers (.stb c) s (StoreDone c r (stbHas s c w n b pe ps x) (stbBit s c w n b pe ps x) s) := by
  have helems : Stored (elemBytes s c w x n b pe) (countIssue s c w) (writeSet (countIssue s c w) (elemBytes s c w x n b pe)) :=
    stored_writeSet (rises_bytesSet _ _ _) fun a ha => by
      obtain ⟨h1, h2⟩ := (has_elemBytes s c w x n b pe a).1 ha
      exact ⟨plainWord_of_cellarRange c.isLt h.elems h1 h2, (readable_countIssue s c.isLt w a).trans (hread a (.inl ⟨h1, h2⟩))⟩
  have hscales := stored_writeSet (s := writeSet (countIssue s c w) (elemBytes s c w x n b pe)) (t := scaleBytes s c w x n b ps)
    (rises_bytesSet _ _ _) fun a ha => by
      obtain ⟨h1, h2⟩ := (has_scaleBytes s c w x n b ps a).1 ha
      exact ⟨plainWord_of_cellarRange c.isLt h.scales h1 h2,
        (helems.holds.readable a).trans ((readable_countIssue s c.isLt w a).trans (hread a (.inr ⟨h1, h2⟩)))⟩
  obtain ⟨v, hkept, hstore⟩ := vecStoreBlock_ok r c.isLt hf h
  exact ⟨_, exec_stb hi ho hstore,
    storeDone_of c.isLt hi (helems.noted.trans hscales.noted) (helems.holds.trans hscales.holds) hkept⟩

/-- What the blocks of STB leave in memory. -/
theorem stb_shows {c : Fin 512} {s : State} {r : VecRun} {w n b pe ps : Nat} {x : Elem} (hi : issues s c r w) (ho : Vi.opc w = 0x32)
    (hf : BlockFields w x) (h : BlockReach s c w n b pe ps x)
    (hread : ∀ a, (pe ≤ a ∧ a < pe + n * x.width / 8) ∨ (ps ≤ a ∧ a < ps + n / b) → readable s a = true) :
    Answers (.stb c) s (fun t =>
      (readMem t 0 ps (n / b)).2 = (packCodes 8 ((stbBlocks s c w x n b).map Prod.fst), true)
      ∧ (ps + n / b ≤ pe ∨ pe + n * x.width / 8 ≤ ps →
          (readMem t 0 pe (n * x.width / 8)).2 = (packCodes x.width ((stbBlocks s c w x n b).flatMap Prod.snd), true))
      ∧ otherBytes (fun a => (pe ≤ a ∧ a < pe + n * x.width / 8) ∨ (ps ≤ a ∧ a < ps + n / b)) s t
      ∧ (core t c).vec.v = (core s c).vec.v ∧ (core t c).vec.m = (core s c).vec.m ∧ (core t c).vec.a = (core s c).vec.a
      ∧ ranOn c r false t ∧ otherCores c s t) := by
  have hn : n % 8 = 0 := by rw [h.lanes]; split <;> rfl
  obtain ⟨t, hexec, hdone⟩ := stb_done hi ho hf h hread
  refine ⟨t, hexec, ?scales, fun hapart => ?elems, hdone.holds.otherBytes fun a ha => ?other, hdone.lanes, hdone.masks, hdone.addrs,
    hdone.ran, hdone.others⟩
  case scales => exact hdone.holds.readMem (holdsAt_stbScales s c w n b pe ps x) fun a h1 h2 => hread a (.inr ⟨h1, h2⟩)
  case elems => exact hdone.holds.readMem (holdsAt_stbElems s c w x hn hapart) fun a h1 h2 => hread a (.inl ⟨h1, h2⟩)
  case other =>
    rw [stbHas, Bool.or_eq_true, has_scaleBytes, has_elemBytes] at ha
    exact ha.symm

/-! ## O22 -/

/-- Settles O22: LD by the codewords it reads, ST and STB by the bytes of the write sets they leave. -/
theorem vectorMemory : Obligations.VectorMemory := by
  refine ⟨fun c s r w f hi ho hfmt hn has hrnd hsr hblk hreach => ?ld,
    fun c s r w f hi ho hfmt hn hstoch hplain has hblk hreach hread => ?st,
    fun c s r w n b pe ps x hi ho hfmt hblock hmk hoff hstride hplain hb hn hpair helems hscales hespace hsspace hread => ?stb⟩
  case ld => exact ld_shows hi ho ⟨hfmt, hn, has, hrnd, hsr, hblk⟩ hreach
  case st => exact st_shows hi ho ⟨hfmt, hn, hstoch, hplain, has, hblk⟩ hreach hread
  case stb =>
    exact stb_shows hi ho ⟨hfmt, hblock, ⟨hmk, hoff, hstride⟩, hplain, hpair⟩ ⟨hb, hn, helems, hscales, hespace, hsspace⟩ hread

end Sys2Proof.Machine
end

section
/-!
PROOFS. MOVE, FETCH, PUT and ATOMIC take an in-flight place.
-/
namespace Sys2Proof.Machine

/-! ## An operation takes its place (R87) -/

/-- Core `c` of a state that only notes were made in takes operation `o`, and its head moves on. -/
theorem opTaken_push {c : Fin 512} {s s1 : State} (hn : Noted s s1) {e : QWord} {o : Op} (hp : o.poisoned = false)
    (hdesc : o.desc = entArg e 0 16) (hflag : o.flag = entArg e 16 8) :
    opTaken c o.kind e o.image s (advanceHead (setCore s1 c ((core s1 c).push o)) c) := by
  have hcore : core (setCore s1 c ((core s1 c).push o)) c = (core s c).push o := by rw [core_setCore_same, hn.core]
  refine ⟨⟨{ o with id := (core s c).nextOp }, ?_, rfl, rfl, hdesc, hflag, rfl, hp⟩, movedOn_advanceHead ?_ ?_ hn.time⟩
  · rw [advanceHead, core_updCore_same, hcore]
    rfl
  · rw [hcore]; rfl
  · rw [hcore]; rfl

/-! ## MOVE (R193 to R197) -/

/-- The operation of a MOVE whose rows lie at `rows`. -/
def moveOp (s : State) (c : Nat) (e : QWord) (d : BitVec 512) (rows : List (List (Except RowFault RowPlace))) : Op :=
  { Op.mk0 .move (resident s) (core s c).alm.slot (core s c).histSel with
    desc := entArg e 0 16, image := d, flag := entArg e 16 8, started := true, places := rows.map rowPairs }

theorem exec_move {c : Fin 512} {s s1 : State} {e : QWord} {d : BitVec 512} (hl : launches s c .move e)
    (hroom : hasRoom (core s c) = true) (hbusy : cellarBusy (noteLaunch s c e) (c.val / 128) = false)
    (hread : readDesc (noteLaunch s c e) c (entArg e 0 16) = (s1, some d, false)) (hcheck : mvCheck d = 0)
    {rows : List (List (Except RowFault RowPlace))}
    (hrows : rows = (mvOperands d).map (fun o => operandRows s1 c o (Mv.rows d)))
    (hfault : firstFault rows.flatten = none) (hreset : rowsReset s1 rows.flatten = false) :
    exec (.move c) s = .next (advanceHead (setCore s1 c ((core s1 c).push (moveOp s1 c e d rows))) c) := by
  have hexec : exec (.move c) s = .next (launch s c .move _ _) := rfl
  rw [hexec, launch_of_launches hl, hroom]
  simp only [if_true, hbusy, hread, Option.getD_some, hcheck, ← hrows, hfault, hreset, ne_eq, not_true_eq_false,
    Bool.false_eq_true, if_false]
  rfl

/-! ## FETCH and PUT (R277 to R280) -/

/-- The operation of a FETCH or PUT whose transactions are `todo`. -/
def xferOp (s : State) (c : Nat) (fetch : Bool) (e : QWord) (d : BitVec 512) (todo : List Txn) : Op :=
  { Op.mk0 (if fetch then .fetch else .put) (resident s) (core s c).alm.slot (core s c).histSel with
    desc := entArg e 0 16, image := d, flag := entArg e 16 8, started := true, todo := todo }

theorem exec_fetch {c : Fin 512} {s s1 : State} {e : QWord} {d : BitVec 512} (hl : launches s c .fetch e)
    (hroom : hasRoom (core s c) = true) (hbusy : cellarBusy (noteLaunch s c e) (c.val / 128) = false)
    (hread : readDesc (noteLaunch s c e) c (entArg e 0 16) = (s1, some d, false)) (hcheck : xfCheck true d = 0)
    (hfault : firstFault ((List.range (Mv.rows d)).map (farRow s1 c (xfOperands true d).1)
      ++ operandRows s1 c (xfOperands true d).2 (Mv.rows d)) = none)
    (hreset : rowsReset s1 (operandRows s1 c (xfOperands true d).2 (Mv.rows d)) = false) :
    ∃ todo, exec (.fetch c) s = .next (advanceHead (setCore s1 c ((core s1 c).push (xferOp s1 c true e d todo))) c) := by
  have hexec : exec (.fetch c) s = .next (launch s c .fetch _ _) := rfl
  rw [hexec, launch_of_launches hl, hroom]
  simp only [launchXfer, if_true, hbusy, hread, Option.getD_some, hcheck, hfault, hreset, ne_eq, not_true_eq_false,
    Bool.false_eq_true, if_false]
  exact ⟨_, rfl⟩

theorem exec_put {c : Fin 512} {s s1 : State} {e : QWord} {d : BitVec 512} (hl : launches s c .put e)
    (hroom : hasRoom (core s c) = true) (hbusy : cellarBusy (noteLaunch s c e) (c.val / 128) = false)
    (hread : readDesc (noteLaunch s c e) c (entArg e 0 16) = (s1, some d, false)) (hcheck : xfCheck false d = 0)
    (hfault : firstFault (operandRows s1 c (xfOperands false d).1 (Mv.rows d)
      ++ (List.range (Mv.rows d)).map (farRow s1 c (xfOperands false d).2)) = none)
    (hreset : rowsReset s1 (operandRows s1 c (xfOperands false d).1 (Mv.rows d)) = false) :
    ∃ todo, exec (.put c) s = .next (advanceHead (setCore s1 c ((core s1 c).push (xferOp s1 c false e d todo))) c) := by
  have hexec : exec (.put c) s = .next (launch s c .put _ _) := rfl
  rw [hexec, launch_of_launches hl, hroom]
  simp only [launchXfer, if_true, hbusy, hread, Option.getD_some, hcheck, hfault, hreset, ne_eq, not_true_eq_false,
    Bool.false_eq_true, if_false]
  exact ⟨_, rfl⟩

/-! ## ATOMIC (R281) -/

/-- The operation of an ATOMIC, begun at once where its target lies on this node. -/
def atomicOp (s : State) (c : Nat) (e : QWord) (d : BitVec 512) (started : Bool) (t : Txn) : Op :=
  { Op.mk0 .atomic (resident s) (core s c).alm.slot (core s c).histSel with
    desc := entArg e 0 16, image := d, flag := entArg e 16 8, started := started, todo := [t] }

theorem exec_atomic {c : Fin 512} {s s1 : State} {e : QWord} {d : BitVec 512} {p : RowPlace} (hl : launches s c .atomic e)
    (hroom : hasRoom (core s c) = true) (hbusy : cellarBusy (noteLaunch s c e) (c.val / 128) = false)
    (hread : readDesc (noteLaunch s c e) c (entArg e 0 16) = (s1, some d, false)) (hcheck : atCheck d = 0)
    (hresult : At.ret d = true → (cellarRange s1 c (At.result d) (At.bytes d)).isSome = true)
    (hplace : rowPlace s1 c (At.target d) 0 0 (At.bytes d) (some .a) = .ok p) (hreset : addrReset s1 p.addr = false) :
    ∃ started t, exec (.atomic c) s = .next (advanceHead (setCore s1 c ((core s1 c).push (atomicOp s1 c e d started t))) c) := by
  have hexec : exec (.atomic c) s = .next (launch s c .atomic _ _) := rfl
  obtain ⟨a, ha⟩ : ∃ a, (if At.ret d = true then cellarRange s1 c (At.result d) (At.bytes d) else some 0) = some a := by
    split
    · next hret => exact Option.isSome_iff_exists.1 (hresult hret)
    · exact ⟨0, rfl⟩
  rw [hexec, launch_of_launches hl, hroom]
  simp only [if_true, hbusy, hread, Option.getD_some, hcheck, ha, hplace, hreset, ne_eq, not_true_eq_false, Bool.and_false,
    Bool.false_eq_true, if_false]
  exact ⟨_, _, rfl⟩

/-! ## O10 -/

/-- Settles O10: up to its place each launch only makes notes, and the operation it pushes has the entry's fields. -/
theorem transferEntriesLaunch : Obligations.TransferEntriesLaunch := by
  refine ⟨fun c s s1 e d hl ht hroom hread hcheck hfault hreset => ?move,
    fun c s s1 e d hl ht hroom hread hcheck hfault hreset => ?fetch,
    fun c s s1 e d hl ht hroom hread hcheck hfault hreset => ?put,
    fun c s s1 e d p hl ht hroom hread hcheck hresult hplace hreset => ?atomic⟩
  all_goals obtain ⟨hbusy, hdesc, hn⟩ := readsDesc_shows ht hread
  case move => exact ⟨_, exec_move hl hroom hbusy hdesc hcheck rfl hfault hreset, opTaken_push hn rfl rfl rfl⟩
  case fetch =>
    obtain ⟨todo, hexec⟩ := exec_fetch hl hroom hbusy hdesc hcheck hfault hreset
    exact ⟨_, hexec, opTaken_push (o := xferOp s1 c true e d todo) hn rfl rfl rfl⟩
  case put =>
    obtain ⟨todo, hexec⟩ := exec_put hl hroom hbusy hdesc hcheck hfault hreset
    exact ⟨_, hexec, opTaken_push (o := xferOp s1 c false e d todo) hn rfl rfl rfl⟩
  case atomic =>
    obtain ⟨started, t, hexec⟩ := exec_atomic hl hroom hbusy hdesc hcheck hresult hplace hreset
    exact ⟨_, hexec, opTaken_push (o := atomicOp s1 c e d started t) hn rfl rfl rfl⟩

end Sys2Proof.Machine
end

section
/-!
SUPPORT. The memory code: its sums are additive in the symbols, and the quadratic form behind its test is anisotropic (R203 to R206).
-/
namespace Sys2Proof.Machine

/-! ## Products of symbols (R203) -/

/-- A product is additive in its second factor. -/
theorem gfMul_xor_right (a x y : Nat) : gfMul a (x ^^^ y) = gfMul a x ^^^ gfMul a y := by
  have hbit : ∀ (p q : Bool) (z : Nat),
      (if (p ^^ q) = true then z else 0) = (if p = true then z else 0) ^^^ (if q = true then z else 0) := by
    intro p q z
    cases p <;> cases q <;> simp
  simp only [gfMul, Nat.testBit_xor, hbit]
  ac_rfl

theorem gfMul_zero_right (a : Nat) : gfMul a 0 = 0 := by simp [gfMul]

theorem gfMul_comm {a b : Nat} (ha : a < 16) (hb : b < 16) : gfMul a b = gfMul b a := by
  have h : ∀ a < 16, ∀ b < 16, gfMul a b = gfMul b a := by decide +kernel
  exact h a ha b hb

theorem gfMul_assoc {a b c : Nat} (ha : a < 16) (hb : b < 16) (hc : c < 16) : gfMul (gfMul a b) c = gfMul a (gfMul b c) := by
  have h : ∀ a < 16, ∀ b < 16, ∀ c < 16, gfMul (gfMul a b) c = gfMul a (gfMul b c) := by decide +kernel
  exact h a ha b hb c hc

theorem gfMul_ne_zero {a b : Nat} (ha : a < 16) (hb : b < 16) (ha0 : a ≠ 0) (hb0 : b ≠ 0) : gfMul a b ≠ 0 := by
  have h : ∀ a < 16, ∀ b < 16, a ≠ 0 → b ≠ 0 → gfMul a b ≠ 0 := by decide
  exact h a ha b hb ha0 hb0

/-- A product is additive in its first factor too. -/
theorem gfMul_xor_left {x y a : Nat} (hx : x < 16) (hy : y < 16) (ha : a < 16) :
    gfMul (x ^^^ y) a = gfMul x a ^^^ gfMul y a := by
  rw [gfMul_comm (Nat.xor_lt_two_pow (n := 4) hx hy) ha, gfMul_xor_right, gfMul_comm ha hx, gfMul_comm ha hy]

theorem gfMul_left_comm {a b c : Nat} (ha : a < 16) (hb : b < 16) (hc : c < 16) : gfMul a (gfMul b c) = gfMul b (gfMul a c) := by
  rw [← gfMul_assoc ha hb hc, gfMul_comm ha hb, gfMul_assoc hb ha hc]

/-- A product of two products pairs their factors the other way. -/
theorem gfMul_gfMul_gfMul {e f a b : Nat} (he : e < 16) (hf : f < 16) (ha : a < 16) (hb : b < 16) :
    gfMul (gfMul a e) (gfMul b f) = gfMul (gfMul e f) (gfMul a b) := by
  rw [gfMul_assoc ha he (gfMul_lt hb f), gfMul_left_comm he hb hf, ← gfMul_assoc ha hb (gfMul_lt he f),
    gfMul_comm (gfMul_lt ha b) (gfMul_lt he f)]

/-! ## The quadratic form (R203) -/

theorem quadForm_lt {a : Nat} (ha : a < 16) (b : Nat) : quadForm a b < 16 :=
  Nat.xor_lt_two_pow (n := 4) (Nat.xor_lt_two_pow (n := 4) (gfMul_lt ha _) (gfMul_lt ha _)) (gfMul_lt (by decide) _)

/-- The form is anisotropic: it is 0 at (0, 0) alone, which is what keeps two errors apart from one. -/
theorem quadForm_ne_zero {a b : Nat} (ha : a < 16) (hb : b < 16) (h : ¬(a = 0 ∧ b = 0)) : quadForm a b ≠ 0 := by
  have hall : ∀ a < 16, ∀ b < 16, ¬(a = 0 ∧ b = 0) → quadForm a b ≠ 0 := by decide +kernel
  exact hall a ha b hb h

/-- Squares are additive: the mixed products cancel. -/
theorem gfMul_self_xor {x y : Nat} (hx : x < 16) (hy : y < 16) :
    gfMul (x ^^^ y) (x ^^^ y) = gfMul x x ^^^ gfMul y y := by
  rw [gfMul_xor_right, gfMul_xor_left hx hy hx, gfMul_xor_left hx hy hy, gfMul_comm hy hx, Nat.xor_assoc,
    Nat.xor_xor_cancel_left]

/-- The form at a sum: the forms of the parts and their mixed products. -/
theorem quadForm_xor {a b x y : Nat} (ha : a < 16) (hb : b < 16) (hx : x < 16) (hy : y < 16) :
    quadForm (a ^^^ x) (b ^^^ y) = quadForm a b ^^^ quadForm x y ^^^ (gfMul a y ^^^ gfMul x b) := by
  simp only [quadForm, gfMul_self_xor ha hx, gfMul_self_xor hb hy, gfMul_xor_right, gfMul_xor_left ha hx hb, gfMul_xor_left ha hx hy]
  ac_rfl

/-- The form is of degree two. -/
theorem quadForm_gfMul {a b e : Nat} (ha : a < 16) (hb : b < 16) (he : e < 16) :
    quadForm (gfMul a e) (gfMul b e) = gfMul e (gfMul (quadForm a b) e) := by
  have h8 : (8 : Nat) < 16 := by decide
  have hee : gfMul e e < 16 := gfMul_lt he e
  rw [gfMul_comm (quadForm_lt ha b) he, ← gfMul_assoc he he (quadForm_lt ha b)]
  simp only [quadForm, gfMul_xor_right, gfMul_gfMul_gfMul he he ha ha, gfMul_gfMul_gfMul he he ha hb, gfMul_gfMul_gfMul he he hb hb,
    gfMul_left_comm h8 hee (gfMul_lt hb b)]

/-! ## Syndromes (R203, R204) -/

/-- The sums of two words taken together. -/
def xorSums (x y : Nat × Nat × Nat × Nat) : Nat × Nat × Nat × Nat :=
  (x.1 ^^^ y.1, x.2.1 ^^^ y.2.1, x.2.2.1 ^^^ y.2.2.1, x.2.2.2 ^^^ y.2.2.2)

/-- What symbol `e` at position `k` adds to the sums. -/
def codeColumn (k e : Nat) : Nat × Nat × Nat × Nat :=
  (e, gfMul (quadForm (codePair k).1 (codePair k).2) e, gfMul (codePair k).1 e, gfMul (codePair k).2 e)

theorem codeSum_step (w n : Nat) : codeSum w (n + 1) = xorSums (codeSum w n) (codeColumn n (codeSymbol w n)) := rfl

theorem xorSums_zero_left (x : Nat × Nat × Nat × Nat) : xorSums (0, 0, 0, 0) x = x := by simp [xorSums]

theorem xorSums_zero_right (x : Nat × Nat × Nat × Nat) : xorSums x (0, 0, 0, 0) = x := by simp [xorSums]

theorem codeColumn_zero (k : Nat) : codeColumn k 0 = (0, 0, 0, 0) := by simp [codeColumn, gfMul_zero_right]

theorem codeColumn_xor (k x y : Nat) : codeColumn k (x ^^^ y) = xorSums (codeColumn k x) (codeColumn k y) := by
  simp only [codeColumn, xorSums, gfMul_xor_right]

theorem codeSymbol_xor (w v k : Nat) : codeSymbol (w ^^^ v) k = codeSymbol w k ^^^ codeSymbol v k := by
  simp only [codeSymbol, fld, Nat.shiftRight_xor_distrib, Nat.xor_mod_two_pow]

/-- The sums are additive. -/
theorem codeSum_xor (w v n : Nat) : codeSum (w ^^^ v) n = xorSums (codeSum w n) (codeSum v n) := by
  have hswap : ∀ a b c d : Nat × Nat × Nat × Nat, xorSums (xorSums a b) (xorSums c d) = xorSums (xorSums a c) (xorSums b d) := by
    intro a b c d
    simp only [xorSums, Prod.mk.injEq]
    refine ⟨?_, ?_, ?_, ?_⟩ <;> ac_rfl
  induction n with
  | zero => exact (xorSums_zero_left _).symm
  | succ n ih => rw [codeSum_step, ih, codeSymbol_xor, codeColumn_xor, hswap, ← codeSum_step, ← codeSum_step]

/-- A word of one symbol holds it and 0 elsewhere. -/
theorem codeSymbol_error {e : Nat} (he : e < 16) (k j : Nat) : codeSymbol (e * 2 ^ (4 * k)) j = if j = k then e else 0 := by
  rw [codeSymbol, fld, Nat.shiftRight_eq_div_pow]
  split
  case isTrue hjk => rw [hjk, Nat.mul_div_cancel _ (Nat.two_pow_pos _)]; exact Nat.mod_eq_of_lt he
  case isFalse hjk =>
    rcases Nat.lt_or_gt_of_ne hjk with hlt | hlt
    · obtain ⟨d, rfl⟩ := Nat.exists_eq_add_of_lt hlt
      have hsplit : e * 2 ^ (4 * (j + d + 1)) = e * 2 ^ (4 * d) * 2 ^ 4 * 2 ^ (4 * j) := by ring
      rw [hsplit, Nat.mul_div_cancel _ (Nat.two_pow_pos _), Nat.mul_mod_left]
    · have hsmall : e * 2 ^ (4 * k) < 2 ^ (4 * j) :=
        calc e * 2 ^ (4 * k) < 2 ^ 4 * 2 ^ (4 * k) := Nat.mul_lt_mul_of_pos_right he (Nat.two_pow_pos _)
          _ = 2 ^ (4 * k + 4) := by rw [Nat.pow_add, Nat.mul_comm]
          _ ≤ 2 ^ (4 * j) := Nat.pow_le_pow_right (by decide) (by omega)
      rw [Nat.div_eq_of_lt hsmall, Nat.zero_mod]

/-- The sums of a word of one symbol are that symbol's column. -/
theorem codeSum_error {e : Nat} (he : e < 16) (k n : Nat) :
    codeSum (e * 2 ^ (4 * k)) n = if k < n then codeColumn k e else (0, 0, 0, 0) := by
  induction n with
  | zero => rfl
  | succ n ih =>
    rw [codeSum_step, ih, codeSymbol_error he]
    rcases Nat.lt_trichotomy k n with h | rfl | h
    · rw [if_pos h, if_neg (by omega), codeColumn_zero, xorSums_zero_right, if_pos (by omega)]
    · rw [if_neg (Nat.lt_irrefl _), if_pos rfl, xorSums_zero_left, if_pos (by omega)]
    · rw [if_neg (by omega), if_neg (by omega), codeColumn_zero, xorSums_zero_left, if_neg (by omega)]

/-- One symbol upset in a codeword shows as its column. -/
theorem codeSum_upset (data : Nat) {k e : Nat} (hk : k < 36) (he : e < 16) :
    codeSum (encodeWord data ^^^ e * 2 ^ (4 * k)) 36 = codeColumn k e := by
  rw [codeSum_xor, codeSum_encodeWord, codeSum_error he, if_pos hk, xorSums_zero_left]

/-! ## Pairs and positions (R204) -/

theorem codePair_lt {k : Nat} (hk : k < 36) : (codePair k).1 < 16 ∧ (codePair k).2 < 16 := by
  have h : ∀ k < 36, (codePair k).1 < 16 ∧ (codePair k).2 < 16 := by decide
  exact h k hk

theorem codePosition_codePair {k : Nat} (hk : k < 36) : codePosition (codePair k).1 (codePair k).2 = some k := by
  have h : ∀ k < 36, codePosition (codePair k).1 (codePair k).2 = some k := by decide
  exact h k hk

/-- A pair that has a position is the pair of that position. -/
theorem codePair_codePosition {a b k : Nat} (ha : a < 16) (h : codePosition a b = some k) : k < 36 ∧ codePair k = (a, b) := by
  rw [codePosition] at h
  split at h
  next hb =>
    obtain rfl := Option.some.inj h
    rw [codePair, if_pos ha, hb]
    exact ⟨by omega, rfl⟩
  next =>
    split at h
    next hb =>
      obtain rfl := Option.some.inj h
      rw [codePair, if_neg (by omega), if_pos (by omega), hb, Nat.add_sub_cancel_left]
      exact ⟨by omega, rfl⟩
    next =>
      obtain ⟨⟨ha2, hb2⟩, hk⟩ := Option.ite_none_right_eq_some.1 h
      obtain rfl := Option.some.inj hk
      rw [codePair, if_neg (by omega), if_neg (by omega), Prod.mk.injEq]
      omega

/-! ## The decoder (R206) -/

/-- The quadric test of a read, on its sums. -/
def quadricHolds (x : Nat × Nat × Nat × Nat) : Prop := gfMul x.1 x.2.1 = quadForm x.2.2.1 x.2.2.2

theorem decodeWord_clean {w : Nat} (h : codeSum w 36 = (0, 0, 0, 0)) : decodeWord w = .clean := by
  rw [decodeWord, h]
  rfl

theorem decodeWord_corrected {w s0 s1 s2 s3 k : Nat} (hs : codeSum w 36 = (s0, s1, s2, s3)) (h0 : s0 ≠ 0)
    (hq : quadricHolds (s0, s1, s2, s3)) (hk : k < 36) (hp : codePair k = (gfMul s2 (gfInv s0), gfMul s3 (gfInv s0))) :
    decodeWord w = .corrected (w ^^^ s0 * 2 ^ (4 * k)) := by
  have hpos := codePosition_codePair hk
  rw [hp] at hpos
  rw [quadricHolds, quadForm] at hq
  rw [decodeWord, hs]
  dsimp only
  rw [if_neg (fun h => h0 h.1), if_neg h0, if_pos hq, hpos]

/-- A codeword whose sums are not 0 and fail a test of the rule is uncorrectable. -/
theorem decodeWord_uncorrectable {w s0 s1 s2 s3 : Nat} (hs : codeSum w 36 = (s0, s1, s2, s3)) (hne : (s0, s1, s2, s3) ≠ (0, 0, 0, 0))
    (h : s0 = 0 ∨ ¬quadricHolds (s0, s1, s2, s3)
      ∨ ∀ k, k < 36 → codePair k ≠ (gfMul s2 (gfInv s0), gfMul s3 (gfInv s0))) : decodeWord w = .uncorrectable := by
  obtain ⟨-, -, h2, -⟩ := codeSum_lt w 36 (Nat.le_refl _)
  rw [hs] at h2
  rw [decodeWord, hs]
  dsimp only
  rw [if_neg (fun ⟨e0, e1, e2, e3⟩ => hne (by rw [e0, e1, e2, e3]))]
  split
  next => rfl
  next h0 =>
    split
    next hq =>
      have hnone := (h.resolve_left h0).resolve_left (fun hn => hn hq)
      split
      next k hpos =>
        obtain ⟨hk, hp⟩ := codePair_codePosition (gfMul_lt h2 _) hpos
        exact absurd hp (hnone k hk)
      next => rfl
    next => rfl

/-- One column is on the quadric. -/
theorem quadricHolds_column {k e : Nat} (hk : k < 36) (he : e < 16) : quadricHolds (codeColumn k e) := by
  obtain ⟨ha, hb⟩ := codePair_lt hk
  exact (quadForm_gfMul ha hb he).symm

theorem gfMul_gfInv {a e : Nat} (ha : a < 16) (he : e < 16) (he0 : 0 < e) : gfMul (gfMul a e) (gfInv e) = a := by
  have h : ∀ a < 16, ∀ e < 16, 0 < e → gfMul (gfMul a e) (gfInv e) = a := by decide +kernel
  exact h a ha e he he0

/-- One symbol upset is corrected. -/
theorem decodeWord_upset (data : Nat) {k e : Nat} (hk : k < 36) (he0 : 0 < e) (he : e < 16) :
    decodeWord (encodeWord data ^^^ e * 2 ^ (4 * k)) = .corrected (encodeWord data) := by
  obtain ⟨ha, hb⟩ := codePair_lt hk
  have hpair : codePair k = (gfMul (gfMul (codePair k).1 e) (gfInv e), gfMul (gfMul (codePair k).2 e) (gfInv e)) := by
    rw [gfMul_gfInv ha he he0, gfMul_gfInv hb he he0]
  rw [decodeWord_corrected (codeSum_upset data hk he) (Nat.ne_of_gt he0) (quadricHolds_column hk he) hk hpair, Nat.xor_assoc,
    Nat.xor_self, Nat.xor_zero]

/-- The test misses two columns by `e f` times the form at the difference of their pairs. -/
theorem quadric_columns {a b x y e f : Nat} (ha : a < 16) (hb : b < 16) (hx : x < 16) (hy : y < 16) (he : e < 16) (hf : f < 16) :
    gfMul (e ^^^ f) (gfMul (quadForm a b) e ^^^ gfMul (quadForm x y) f)
        ^^^ quadForm (gfMul a e ^^^ gfMul x f) (gfMul b e ^^^ gfMul y f)
      = gfMul (gfMul e f) (quadForm (a ^^^ x) (b ^^^ y)) := by
  have hp := quadForm_lt ha b
  have hq := quadForm_lt hx y
  have hcancel : ∀ u v m n t : Nat, (u ^^^ m) ^^^ (n ^^^ v) ^^^ (u ^^^ v ^^^ t) = m ^^^ n ^^^ t := by
    intro u v m n t
    calc (u ^^^ m) ^^^ (n ^^^ v) ^^^ (u ^^^ v ^^^ t) = (u ^^^ u) ^^^ (v ^^^ v) ^^^ (m ^^^ n ^^^ t) := by ac_rfl
      _ = m ^^^ n ^^^ t := by simp
  rw [quadForm_xor (gfMul_lt ha e) (gfMul_lt hb e) (gfMul_lt hx f) (gfMul_lt hy f), quadForm_gfMul ha hb he, quadForm_gfMul hx hy hf,
    gfMul_xor_right, gfMul_xor_left he hf (gfMul_lt hp e), gfMul_xor_left he hf (gfMul_lt hq f), hcancel,
    gfMul_gfMul_gfMul he hf ha hy, gfMul_gfMul_gfMul hf he hx hb, gfMul_comm hf he, gfMul_left_comm hf hp he,
    gfMul_left_comm he hq hf, gfMul_comm hf he, gfMul_comm hp (gfMul_lt he f), gfMul_comm hq (gfMul_lt he f), quadForm_xor ha hb hx hy,
    gfMul_xor_right, gfMul_xor_right, gfMul_xor_right]

/-- Two pairs of positions differ, so the columns of two positions sum to a point off the quadric. -/
theorem not_quadricHolds_columns {j k e f : Nat} (hjk : j < k) (hk : k < 36) (he0 : 0 < e) (he : e < 16) (hf0 : 0 < f) (hf : f < 16) :
    ¬quadricHolds (xorSums (codeColumn j e) (codeColumn k f)) := by
  have hj : j < 36 := by omega
  obtain ⟨ha, hb⟩ := codePair_lt hj
  obtain ⟨hx, hy⟩ := codePair_lt hk
  have hax := Nat.xor_lt_two_pow (n := 4) ha hx
  have hby := Nat.xor_lt_two_pow (n := 4) hb hy
  have hdistinct : ¬((codePair j).1 ^^^ (codePair k).1 = 0 ∧ (codePair j).2 ^^^ (codePair k).2 = 0) := by
    rintro ⟨h1, h2⟩
    have hjpos := codePosition_codePair hj
    rw [Nat.xor_eq_zero_iff.1 h1, Nat.xor_eq_zero_iff.1 h2, codePosition_codePair hk] at hjpos
    exact Nat.ne_of_gt hjk (Option.some.inj hjpos)
  have hmiss := gfMul_ne_zero (gfMul_lt he f) (quadForm_lt hax _) (gfMul_ne_zero he hf (by omega) (by omega))
    (quadForm_ne_zero hax hby hdistinct)
  intro h
  exact hmiss ((quadric_columns ha hb hx hy he hf).symm.trans (Nat.xor_eq_zero_iff.2 h))

/-- Two symbols upset are found uncorrectable. -/
theorem decodeWord_two_upsets (data : Nat) {j k e f : Nat} (hjk : j < k) (hk : k < 36) (he0 : 0 < e) (he : e < 16) (hf0 : 0 < f)
    (hf : f < 16) : decodeWord (encodeWord data ^^^ e * 2 ^ (4 * j) ^^^ f * 2 ^ (4 * k)) = .uncorrectable := by
  have hsum : codeSum (encodeWord data ^^^ e * 2 ^ (4 * j) ^^^ f * 2 ^ (4 * k)) 36 = xorSums (codeColumn j e) (codeColumn k f) := by
    rw [codeSum_xor, codeSum_upset data (by omega) he, codeSum_error hf, if_pos hk]
  have hoff := not_quadricHolds_columns hjk hk he0 he hf0 hf
  have hzero : quadricHolds (0, 0, 0, 0) := by unfold quadricHolds; decide
  exact decodeWord_uncorrectable hsum (fun h => hoff ((congrArg quadricHolds h).mpr hzero)) (.inr (.inl hoff))

/-! ## O29 -/

/-- Settles O29: the sums are linear in the symbols, one symbol's column lies on the quadric, and since the form is anisotropic no sum
of two columns does. -/
theorem memoryCodeCorrects : Obligations.MemoryCodeCorrects :=
  ⟨fun _ h => decodeWord_clean h, fun _ _ _ _ _ _ hs h0 hq hk hp => decodeWord_corrected hs h0 hq hk hp,
    fun _ _ _ _ _ hs hne h => decodeWord_uncorrectable hs hne h, decodeWord_encodeWord,
    fun data _ _ hk he0 he => decodeWord_upset data hk he0 he,
    fun data _ _ _ _ hjk hk he0 he hf0 hf => decodeWord_two_upsets data hjk hk he0 he hf0 hf, by decide, by decide⟩

end Sys2Proof.Machine
end

section
/-!
SUPPORT. Beats at an open place: codewords written over by themselves, the counter of corrections, and what a beat accesses
(R199, R200, R206 to R208).
-/
namespace Sys2Proof.Machine

/-! ## Bytes written over by themselves -/

/-- Cells put back to the bytes they hold in `m`, in a memory that agrees with `m` outside them, read as in `m`. -/
theorem cellAt_setCells_cellsNat {m : List Host.Cell} : ∀ (n : Nat) {m' : List Host.Cell} {a v : Nat} (x : Nat),
    (∀ y, y < a ∨ a + n ≤ y → cellAt y m' = cellAt y m) → v % 256 ^ n = cellsNat m a n →
    cellAt x (setCells m' a n v) = cellAt x m
  | 0, _, _, _, x, hout, _ => hout x (by omega)
  | n + 1, m', a, v, x, hout, hv => by
    have hbyte := (cellAt a m).isLt
    rw [cellsNat, Nat.pow_succ', Nat.mod_mul] at hv
    rw [setCells]
    refine cellAt_setCells_cellsNat n x (fun y hy => ?_) (by omega)
    by_cases hya : y = a
    · subst hya
      rw [cellAt, tget_tset_same]
      exact BitVec.eq_of_toNat_eq (by rw [BitVec.toNat_ofNat]; omega)
    · rw [cellAt, tget_tset_ne 0 0 _ hya]
      exact hout y (by omega)

theorem cellsNat_lt (m : List Host.Cell) : ∀ (n a : Nat), cellsNat m a n < 256 ^ n
  | 0, _ => Nat.one_pos
  | n + 1, a => by
    have hbyte := (cellAt a m).isLt
    have hrest := cellsNat_lt m n (a + 1)
    rw [cellsNat, Nat.pow_succ']
    omega

/-- A codeword put back as it was in `s`, in a state that agrees with `s` on the other codewords, leaves the memories of `s`. -/
theorem sameMemory_setRawWord {s u : State} {w : Nat} (hmem : ∀ a, a / 16 ≠ w → cellAt a u.mem = cellAt a s.mem)
    (hchk : ∀ a, a / 2 ≠ w → cellAt a u.chk = cellAt a s.chk) : sameMemory s (setRawWord u w (rawWord s w)) := by
  have hlow := cellsNat_lt s.mem 16 (16 * w)
  have hhigh := cellsNat_lt s.chk 2 (2 * w)
  refine fun a => ⟨cellAt_setCells_cellsNat 16 a (fun y hy => hmem y (by omega)) ?_,
    cellAt_setCells_cellsNat 2 a (fun y hy => hchk y (by omega)) ?_⟩
  · rw [rawWord]; omega
  · rw [rawWord]; omega

theorem sameMemory.trans_memEq {s t u : State} (h : sameMemory s t) (k : memEq t u) : sameMemory s u := fun a => by
  rw [k.1, k.2]
  exact h a

/-! ## Records leave the counters of a memory's page (R443, R471) -/

/-- A page's record changes registers of its header alone. -/
theorem reg_pageRecord_counter (s : State) (b : Block) (i code : Nat) (d : Word) {off : Nat} (h : 0x30 ≤ off) :
    reg (pageRecord s b i code d) b i off = reg s b i off := by
  have hset : ∀ u hdr v, hdr < 0x30 → reg (setReg u b i hdr v) b i off = reg u b i off := fun u hdr v hlt =>
    reg_setReg_ne u b b i i hdr off v (regKey_ne_off (by omega))
  rw [pageRecord, msixOnRise_reg]
  refine (hset _ _ _ (by decide)).trans ?_
  split
  · exact ((hset _ _ _ (by decide)).trans (hset _ _ _ (by decide))).trans ((hset _ _ _ (by decide)).trans (hset _ _ _ (by decide)))
  · exact (hset _ _ _ (by decide)).trans (hset _ _ _ (by decide))

/-- The device queue changes registers of the Reeve's page alone. -/
theorem reg_devqPush_ne (s : State) (r : DWord) {b : Block} {i off : Nat} (hb : b.id ≠ Block.reeve.id) (hi : i < 512)
    (ho : off < 4096) : reg (devqPush s r) b i off = reg s b i off := by
  have hkey : ∀ o, o < 4096 → regKey b i off ≠ regKey .reeve 0 o := fun o h => regKey_ne_page hb h ho (by decide) hi
  unfold devqPush
  dsimp only
  split
  · exact reg_setReg_ne _ _ _ _ _ _ _ _ (hkey _ (by decide))
  · split
    · exact (raiseInt_reg _ _ _ _ _ _ _ (hkey _ (by decide))).trans (reg_setReg_ne _ _ _ _ _ _ _ _ (hkey _ (by decide)))
    · exact reg_setReg_ne _ _ _ _ _ _ _ _ (hkey _ (by decide))

theorem Place.page_id_ne_reeve (p : Place) : p.page.1.id ≠ Block.reeve.id := by
  cases hk : p.kind <;> simp [Place.page, hk, Block.id]

theorem Place.ceOff_bounds (p : Place) : 0x30 ≤ p.ceOff ∧ p.ceOff < 4096 := by
  unfold Place.ceOff
  split <;> decide

/-- A corrected codeword is counted (R207). -/
theorem reg_memCorrected_ce (s : State) {p : Place} (hp : p.unit < 512) (w v : Nat) :
    reg (memCorrected s p w v) p.page.1 p.page.2 p.ceOff = satInc (reg s p.page.1 p.page.2 p.ceOff) := by
  obtain ⟨hlow, hhigh⟩ := p.ceOff_bounds
  have hcount : ∀ u : State, u.regs = (incReg (setRawWord s w v) p.page.1 p.page.2 p.ceOff).regs →
      reg u p.page.1 p.page.2 p.ceOff = satInc (reg s p.page.1 p.page.2 p.ceOff) := fun u hu => by
    rw [reg, hu, ← reg, incReg, reg_setReg_same]; rfl
  unfold memCorrected
  dsimp only
  split
  · rw [deviceRecord, reg_devqPush_ne _ _ p.page_id_ne_reeve (Place.page_lt hp) hhigh, reg_pageRecord_counter _ _ _ _ _ hlow]
    exact hcount _ rfl
  · exact hcount _ rfl

/-! ## What a controller reads and stores -/

theorem rawWord_lt (s : State) {w : Nat} (h : rawWord s w = encodeWord (rawWord s w)) : rawWord s w < 2 ^ 144 :=
  h.trans_lt (encodeWord_lt _)

theorem encodeWord_low {d : Nat} (h : d < 2 ^ 128) : encodeWord d % 2 ^ 128 = d := by
  rw [encodeWord, Nat.add_mul_mod_self_left, Nat.mod_mod, Nat.mod_eq_of_lt h]

/-- A codeword of a memory that is not encrypted is stored encoded (R205, R210). -/
theorem storeWord_plain (s : State) {w : Nat} {p : Place} (hp : placeOf (16 * w) = some p) (he : p.encrypted = false)
    (slot d : Nat) : storeWord s slot w d = setRawWord s w (encodeWord (d % 2 ^ 128)) := by
  simp only [storeWord, hp, p.offline_of_plain he, he, Bool.false_eq_true, if_false, encryptWord_plain he]

theorem cellsNat_storeWord_plain (s : State) {w : Nat} {p : Place} (hp : placeOf (16 * w) = some p) (he : p.encrypted = false)
    (slot : Nat) {d : Nat} (hd : d < 2 ^ 128) : cellsNat (storeWord s slot w d).mem (16 * w) 16 = d := by
  rw [storeWord_plain s hp he, Nat.mod_eq_of_lt hd]
  exact (cellsNat_setCells 16 s.mem (16 * w) _).trans (encodeWord_low hd)

/-- A read of a codeword that is clean changes nothing (R206). -/
theorem readWord_clean {s : State} {w : Nat} {p : Place} (hp : placeOf (16 * w) = some p) (ho : p.offline s = false)
    (hd : decodeWord (rawWord s w) = .clean) (slot : Nat) : (readWord s slot w).1 = s := by
  simp only [readWord, hp, ho, hd, Bool.false_eq_true, if_false]

/-- A read of a codeword that can be corrected corrects it (R207). -/
theorem readWord_corrected {s : State} {w v : Nat} {p : Place} (hp : placeOf (16 * w) = some p) (ho : p.offline s = false)
    (hd : decodeWord (rawWord s w) = .corrected v) (slot : Nat) : (readWord s slot w).1 = memCorrected s p w v := by
  simp only [readWord, hp, ho, hd, Bool.false_eq_true, if_false]

/-! ## Beats -/

/-- A beat to an open place that writes no page a harvest has still to copy is performed at once. -/
theorem submitBeat_open {s : State} {b : HeldBeat} {p : Place} (hp : placeOf (16 * b.word) = some p) (h : openPlace s p)
    (hb : beatHeld s b = false) : submitBeat s b = performBeat s b := by
  obtain ⟨hreset, hwait, hcold⟩ := h
  simp only [submitBeat, hp, hreset, hwait, hb, Bool.false_eq_true, if_false]
  split
  · next f hf => rw [hcold f hf, if_neg Bool.false_ne_true]
  · rfl

theorem beatHeld_false {s : State} {b : HeldBeat} (h : ∀ q ∈ beatPages s b, s.copyPages.contains q = false) :
    beatHeld s b = false := by
  have hnone : heldPages s (beatPages s b) = [] := List.filter_eq_nil_iff.2 fun q hq => by rw [h q hq]; decide
  rw [beatHeld, hnone]
  rfl

/-- A read of a codeword that nothing has upset leaves it as it is. -/
theorem performBeat_read_clean {s : State} {a : BitVec 51} {p : Place} (hp : placeOf (16 * (a.toNat / 16)) = some p)
    (ho : p.offline s = false) (hraw : rawWord s (a.toNat / 16) = encodeWord (rawWord s (a.toNat / 16))) (key : Fin 64) :
    performBeat s (.read a key 0) = setRawWord s (a.toNat / 16) (rawWord s (a.toNat / 16)) := by
  have hread : rawWord (setRawWord s (a.toNat / 16) (rawWord s (a.toNat / 16))) (a.toNat / 16) = rawWord s (a.toNat / 16) := by
    rw [rawWord_setRawWord, Nat.mod_eq_of_lt (rawWord_lt s hraw)]
  have hclean : decodeWord (rawWord s (a.toNat / 16)) = .clean := by rw [hraw]; exact decodeWord_encodeWord _
  have hflip : rawWord s (a.toNat / 16) ^^^ (0 : BitVec 144).toNat = rawWord s (a.toNat / 16) := Nat.xor_zero _
  show (readWord (setRawWord s (a.toNat / 16) (rawWord s (a.toNat / 16) ^^^ (0 : BitVec 144).toNat)) key.val (a.toNat / 16)).1 = _
  rw [hflip]
  rw [← hread] at hclean
  exact readWord_clean (s := setRawWord s _ _) hp ho hclean _

theorem upset_lt {k e : Nat} (hk : k < 36) (he : e < 16) : e * 2 ^ (4 * k) < 2 ^ 144 :=
  calc e * 2 ^ (4 * k) < 2 ^ 4 * 2 ^ (4 * k) := Nat.mul_lt_mul_of_pos_right he (Nat.two_pow_pos _)
    _ = 2 ^ (4 + 4 * k) := (Nat.pow_add ..).symm
    _ ≤ 2 ^ 144 := Nat.pow_le_pow_right (by decide) (by omega)

/-- A read of a codeword with one symbol upset corrects it. -/
theorem performBeat_read_upset {s : State} {a : BitVec 51} {p : Place} {k e : Nat} (hp : placeOf (16 * (a.toNat / 16)) = some p)
    (ho : p.offline s = false) (hraw : rawWord s (a.toNat / 16) = encodeWord (rawWord s (a.toNat / 16))) (key : Fin 64)
    (hk : k < 36) (he0 : 0 < e) (he : e < 16) : ∃ v, performBeat s (.read a key (BitVec.ofNat 144 (e * 2 ^ (4 * k))))
      = memCorrected (setRawWord s (a.toNat / 16) v) p (a.toNat / 16) (rawWord s (a.toNat / 16)) := by
  have hflip : (BitVec.ofNat 144 (e * 2 ^ (4 * k))).toNat = e * 2 ^ (4 * k) :=
    (BitVec.toNat_ofNat ..).trans (Nat.mod_eq_of_lt (upset_lt hk he))
  have hupset : rawWord (setRawWord s (a.toNat / 16) (rawWord s (a.toNat / 16) ^^^ e * 2 ^ (4 * k))) (a.toNat / 16)
      = rawWord s (a.toNat / 16) ^^^ e * 2 ^ (4 * k) := by
    rw [rawWord_setRawWord, Nat.mod_eq_of_lt (Nat.xor_lt_two_pow (rawWord_lt s hraw) (upset_lt hk he))]
  have hdecode : decodeWord (rawWord s (a.toNat / 16) ^^^ e * 2 ^ (4 * k)) = .corrected (rawWord s (a.toNat / 16)) := by
    rw [hraw]
    exact decodeWord_upset _ hk he0 he
  refine ⟨rawWord s (a.toNat / 16) ^^^ e * 2 ^ (4 * k), ?_⟩
  show (readWord (setRawWord s (a.toNat / 16) (rawWord s (a.toNat / 16) ^^^ (BitVec.ofNat 144 (e * 2 ^ (4 * k))).toNat))
    key.val (a.toNat / 16)).1 = _
  rw [hflip]
  rw [← hupset] at hdecode
  exact readWord_corrected (s := setRawWord s _ _) hp ho hdecode _

/-! ## Accumulate writes (R167, R199, R200) -/

theorem accessed_accBeat (s : State) (key w fmt scale addends mask : Nat) :
    Accessed (· = w) s (accBeat s key w fmt scale addends mask).1 :=
  (accessed_readWord s key w).trans (accessed_storeWord _ key w _)

theorem accessed_setOvf (s : State) (key a j : Nat) : Accessed (· = (a + j / 4) / 16) s (setOvf s key a j) :=
  (accessed_readWord s key _).trans (accessed_storeWord _ key _ _)

/-- An accumulate write accesses its codeword and its flag row's, and then its core's histogram takes the sums. -/
theorem performBeat_accumulate (s : State) (c : Fin 512) (slot : Fin 8) (a : BitVec 51) (key : Fin 64) (fmt : Fin 4)
    (scale : BitVec 8) (addends : BitVec 512) (mask : BitVec 16) (flags : BitVec 51) (block : BitVec 12) :
    ∃ u xs, Accessed (fun w => w = a.toNat / 16 ∨ w = (flags.toNat + block.toNat / 4) / 16) s u
      ∧ performBeat s (.accumulate c slot a key fmt scale addends mask flags block) = histRecord u c.val slot.val xs := by
  have hacc := (accessed_accBeat s key.val (a.toNat / 16) fmt.val scale.toNat addends.toNat mask.toNat).mono
    (Q := fun w => w = a.toNat / 16 ∨ w = (flags.toNat + block.toNat / 4) / 16) fun _ h => .inl h
  rw [performBeat]
  dsimp only [HeldBeat.word]
  refine ⟨_, _, ?_, rfl⟩
  split
  · exact hacc.trans ((accessed_setOvf _ _ _ _).mono fun _ h => .inr h)
  · exact hacc

/-! ## O30 -/

/-- Settles O30: an open place performs its beat at once, and a beat accesses its own codewords. -/
theorem memoryRequests : Obligations.MemoryRequests := by
  refine ⟨fun a key data s p hp he hopen hcopy => ?write, fun a key s p hp hopen ho hraw => ?clean,
    fun a key s p k e hp hopen ho hraw hk he0 he => ?upset,
    fun c slot a key fmt scale addends mask flags block s p hp hopen hcopy hflags => ?accumulate⟩
  case write =>
    have hbeat : beatHeld s (.write a key data 0xFFFF) = false := beatHeld_false fun q hq => by
      rw [List.mem_singleton.1 hq]
      exact hcopy
    refine ⟨_, congrArg Host.Outcome.next (submitBeat_open (b := .write a key data 0xFFFF) hp hopen hbeat),
      cellsNat_storeWord_plain s hp he _ data.isLt, fun b hb => cellAt_storeWord_ne s _ _ hb, ?_⟩
    have hstore : performBeat s (.write a key data 0xFFFF) = setRawWord s (a.toNat / 16) (encodeWord (data.toNat % 2 ^ 128)) :=
      storeWord_plain s hp he _ _
    rw [hstore]
    exact ⟨rfl, rfl⟩
  case clean =>
    refine ⟨_, congrArg Host.Outcome.next ((submitBeat_open (b := .read a key 0) hp hopen
      (beatHeld_false fun _ hq => nomatch hq)).trans (performBeat_read_clean hp ho hraw key)), sameMemory_setRawWord (fun _ _ => rfl) fun _ _ => rfl, rfl, rfl⟩
  case upset =>
    obtain ⟨v, hv⟩ := performBeat_read_upset hp ho hraw key hk he0 he
    have hu := placeOf_unit_lt hp
    refine ⟨_, congrArg Host.Outcome.next ((submitBeat_open (b := .read a key _) hp hopen
        (beatHeld_false fun _ hq => nomatch hq)).trans hv),
      (sameMemory_setRawWord (fun x hx => ?_) fun x hx => ?_).trans_memEq (memEq_memCorrected _ p _ _),
      reg_memCorrected_ce _ hu _ _, (noted_memCorrected _ hu _ _).cores⟩
    · exact cellAt_setCells_ne 16 s.mem _ v x (by omega)
    · exact cellAt_setCells_ne 2 s.chk _ _ x (by omega)
  case accumulate =>
    have hbeat : beatHeld s (.accumulate c slot a key fmt scale addends mask flags block) = false := beatHeld_false fun q hq => by
      rw [beatPages] at hq
      rcases List.mem_cons.1 hq with rfl | hq
      · exact hcopy
      · split at hq
        · rw [List.mem_singleton.1 hq]
          exact hflags
        · exact nomatch hq
    obtain ⟨u, xs, hacc, hperform⟩ := performBeat_accumulate s c slot a key fmt scale addends mask flags block
    refine ⟨_, congrArg Host.Outcome.next ((submitBeat_open
        (b := .accumulate c slot a key fmt scale addends mask flags block) hp hopen hbeat).trans hperform),
      fun b h1 h2 => hacc.mem b (not_or.2 ⟨h1, h2⟩), ?_, fun d hd => ?_⟩
    · exact (congrArg State.waiting hacc.noted.fields :)
    · exact (core_updCore_ne u _ hd).trans (hacc.noted.core d)

end Sys2Proof.Machine
end

section
/-!
SUPPORT. Refresh windows, beats submitted again, and what leaves the throttles (R185, R192, R233).
-/
namespace Sys2Proof.Machine

/-! ## Refresh windows (R192) -/

/-- Activity counted changes the activity counters alone. -/
theorem foldl_countActivity (j n : Nat) : ∀ (l : List Nat) (s : State), l.foldl (fun s d => countActivity s d j n) s
    = { s with activity := (l.foldl (fun s d => countActivity s d j n) s).activity }
  | [], _ => rfl
  | d :: l, s => foldl_countActivity j n l (countActivity s d j n)

/-- A refresh window begins: the footprint refreshes and each die counts the activity. -/
theorem exec_refreshWindow {f : Fin 128} {s : State} (h : s.time.toNat % 1024 = 8 * f.val) :
    Answers (.refreshWindow f) s (fun t =>
      t = { s with refreshing := s.refreshing ||| BitVec.ofNat 128 (2 ^ f.val), activity := t.activity }) :=
  ⟨_, if_pos h, foldl_countActivity 56 1 (List.range 4) { s with refreshing := s.refreshing ||| BitVec.ofNat 128 (2 ^ f.val) }⟩

theorem Beaten.refreshing {s t : State} (h : Beaten s t) : t.refreshing = s.refreshing := (congrArg State.refreshing h.fields :)

/-- With no beat and no record waiting there is nothing to submit again. -/
theorem resubmit_idle {s : State} (hw : s.waiting = []) (he : s.evqWait = []) : resubmit s = s := by
  have hs : { s with waiting := [], evqWait := [] } = s := by rw [← hw, ← he]
  rw [resubmit, hw]
  show List.foldl _ { s with waiting := [], evqWait := [] } s.evqWait = s
  rw [he]
  exact hs

theorem testBit_clear (x : BitVec 128) {k : Nat} (hk : k < 128) : (x &&& ~~~(BitVec.ofNat 128 (2 ^ k))).toNat.testBit k = false := by
  rw [BitVec.testBit_toNat, BitVec.getLsbD_and, BitVec.getLsbD_not, BitVec.getLsbD_ofNat, Nat.testBit_two_pow_self, decide_eq_true hk]
  exact Bool.and_false _

/-- A beat to a place that waits is left waiting (R192). -/
theorem submitBeat_waits {s : State} {b : HeldBeat} {p : Place} (hp : placeOf (16 * b.word) = some p)
    (hr : inCellarReset s p = false) (hw : placeWaits s p = true) : submitBeat s b = { s with waiting := s.waiting ++ [b] } := by
  simp only [submitBeat, hp, hr, hw, Bool.false_eq_true, if_false, if_true]

/-! ## Throttles (R233) -/

@[simp] theorem throttle_setThrottle_same (s : State) (f : Nat) (t : Throttle) : throttle (setThrottle s f t) f = t :=
  tget_tset_same _ _ _ _

/-- What writes records leaves the throttles. -/
theorem throttles_deviceRecord (s : State) (b : Block) (i cls code unit : Nat) (d : Word) :
    (deviceRecord s b i cls code unit d).throttles = s.throttles := by
  obtain ⟨r, o, m, q, h⟩ := deviceRecord_only s b i cls code unit d
  rw [h]

theorem throttles_memCorrected (s : State) (p : Place) (w v : Nat) : (memCorrected s p w v).throttles = s.throttles := by
  unfold memCorrected
  dsimp only
  split
  · exact throttles_deviceRecord _ _ _ _ _ _ _
  · rfl

theorem throttles_readWord (s : State) (slot w : Nat) : (readWord s slot w).1.throttles = s.throttles := by
  unfold readWord
  split
  · rfl
  · dsimp only
    split
    · exact throttles_deviceRecord _ _ _ _ _ _ _
    · split
      · rfl
      · exact throttles_memCorrected _ _ _ _
      · exact throttles_deviceRecord _ _ _ _ _ _ _

theorem throttles_storeWord (s : State) (slot w d : Nat) : (storeWord s slot w d).throttles = s.throttles := by
  unfold storeWord
  split
  · rfl
  · dsimp only
    split
    · rfl
    · split <;> rfl

theorem throttles_writeWord (s : State) (slot w d mask : Nat) : (writeWord s slot w d mask).throttles = s.throttles := by
  unfold writeWord
  split
  · exact throttles_storeWord s slot w d
  · split
    · rfl
    · exact (throttles_storeWord _ slot w _).trans (throttles_readWord s slot w)

/-- A beat performed leaves the throttles. -/
theorem throttles_performBeat (s : State) (b : HeldBeat) : (performBeat s b).throttles = s.throttles := by
  cases b with
  | read a key flip => exact throttles_readWord _ _ _
  | write a key data mask => exact throttles_writeWord _ _ _ _ _
  | accumulate c slot a key fmt scale addends mask flags block =>
    have hacc : ∀ u key w fmt scale addends mask, (accBeat u key w fmt scale addends mask).1.throttles = u.throttles :=
      fun u key w _ _ _ _ => (throttles_storeWord _ key w _).trans (throttles_readWord u key w)
    have hovf : ∀ u key a j, (setOvf u key a j).throttles = u.throttles :=
      fun u key a j => (throttles_storeWord _ key _ _).trans (throttles_readWord u key _)
    rw [performBeat]
    dsimp only
    refine (rfl : (histRecord _ _ _ _).throttles = _).trans ?_
    split
    · exact (hovf _ _ _ _).trans (hacc _ _ _ _ _ _ _)
    · exact hacc _ _ _ _ _ _ _

theorem throttle_performBeat (s : State) (b : HeldBeat) (f : Nat) : throttle (performBeat s b) f = throttle s f := by
  rw [throttle, throttles_performBeat, ← throttle]

/-- The throttle of a HOT footprint that holds nothing frees its beat. -/
theorem exec_throttleAdmit_idle {die : Fin 4} {f : Fin 128} {s : State} (hot : isHot s (128 * die.val + f.val) = true)
    (hdue : admitDue s (128 * die.val + f.val) = true) (hheld : (throttle s (128 * die.val + f.val)).held = []) :
    exec (.throttleAdmit die f) s = .next (setThrottle s (128 * die.val + f.val)
      { throttle s (128 * die.val + f.val) with spent := false }) := by
  show execThrottleAdmit die f s = _
  unfold execThrottleAdmit
  dsimp only
  rw [if_neg (by simp [hot, hdue]), hheld]

/-- The throttle of a HOT footprint admits the oldest beat it holds. -/
theorem exec_throttleAdmit_oldest {die : Fin 4} {f : Fin 128} {s : State} {b : HeldBeat} {rest : List HeldBeat}
    (hot : isHot s (128 * die.val + f.val) = true) (hheld : (throttle s (128 * die.val + f.val)).held = b :: rest)
    (hdue : admitDue s (128 * die.val + f.val) = true) (hwait : addrWaits s (16 * b.word) = false) (hcopy : beatHeld s b = false) :
    exec (.throttleAdmit die f) s = .next (performBeat (spendBeat (setThrottle s (128 * die.val + f.val)
      { throttle s (128 * die.val + f.val) with held := rest }) (128 * die.val + f.val)) b) := by
  show execThrottleAdmit die f s = _
  unfold execThrottleAdmit
  dsimp only
  rw [if_neg (by simp [hot, hdue]), hheld]
  dsimp only
  rw [if_neg (by simp [hwait]), if_neg (by simp [hcopy])]

/-! ## O31 -/

/-- Settles O31: what waited is submitted again when a window ends, and a beat performed leaves every throttle as it is. -/
theorem refreshAndThrottle : Obligations.RefreshAndThrottle := by
  refine ⟨fun f s h => exec_refreshWindow h, fun f s hopen hdue => ?windowEnd, fun a key flip s p hp hr hw => ?waits,
    fun die f s hot hdue hheld => ?idle, fun die f s b rest hot hheld hdue hwait hcopy => ?oldest, fun k s => ?rfm,
    fun k s => ?refresh⟩
  case windowEnd =>
    refine ⟨_, if_pos ⟨hopen, hdue⟩, ?_, fun hw he => ?_⟩
    · rw [(beaten_resubmit _).refreshing]
      exact testBit_clear _ f.isLt
    · have hidle := resubmit_idle (s := { s with refreshing := s.refreshing &&& ~~~(BitVec.ofNat 128 (2 ^ f.val)) }) hw he
      rw [hidle]
  case waits => exact ⟨_, rfl, submitBeat_waits (b := .read a key flip) hp hr hw⟩
  case idle =>
    refine ⟨_, exec_throttleAdmit_idle hot hdue hheld, ?_, ?_, rfl⟩
    · rw [throttle_setThrottle_same]
    · rw [throttle_setThrottle_same]
      exact hheld
  case oldest =>
    refine ⟨_, exec_throttleAdmit_oldest hot hheld hdue hwait hcopy, ?_, ?_⟩
    · rw [throttle_performBeat, spendBeat, throttle_setThrottle_same, throttle_setThrottle_same]
    · rw [throttle_performBeat, spendBeat, throttle_setThrottle_same]
  case rfm => exact ⟨_, rfl, reg_setReg_same _ _ _ _ _, setReg_otherRegs _ _ _ _ _, ⟨_, s.outputs, s.msixPending, rfl⟩⟩
  case refresh => exact ⟨_, rfl, rfl, tget_tset_same _ _ _ _⟩

end Sys2Proof.Machine
end

section
/-!
SUPPORT. The canonical form of memory as a folded predicate, and how conditionals, folds, record updates and the memory
operations keep it (R186, R202, R365).
-/
namespace Sys2Proof.Machine

/-- The canonical form of memory, as a predicate that stays folded: the lemma about an operation applies wherever the operation
stands, and neither the elaborator nor the kernel looks into the state. -/
def Tidy (s : State) : Prop := Memory.wf s

/-- Whatever state a command answers has its memory in canonical form. -/
def Kept (o : Host.Outcome State Fault Refusal) : Prop := ∀ t, o = .next t → Tidy t

/-- Whatever state a memory instruction answers, where it does not fault, is in canonical form. -/
def Loaded (x : Except Nat (State × Bool)) : Prop := ∀ u b, x = .ok (u, b) → Tidy u

section
variable {s : State} {p : Prop} {_ : Decidable p}

theorem kept_next (h : Tidy s) : Kept (.next s) := by
  rintro t ⟨⟩
  exact h

theorem kept_ite {o q : Host.Outcome State Fault Refusal} (h : Kept o) (k : Kept q) : Kept (if p then o else q) := by
  split
  · exact h
  · exact k

theorem tidy_ite {t u : State} (h : Tidy t) (k : Tidy u) : Tidy (if p then t else u) := by
  split
  · exact h
  · exact k

theorem tidy_ite_fst {α : Type} {x y : State × α} (h : Tidy x.1) (k : Tidy y.1) : Tidy (if p then x else y).1 := by
  split
  · exact h
  · exact k

theorem tidy_of_eq {α : Type} {x : State × α} {a : α} (h : Tidy x.1) (e : x = (s, a)) : Tidy s := by
  subst e
  exact h

theorem loaded_ok {x : State × Bool} (h : Tidy x.1) : Loaded (.ok x) := by
  rintro u b ⟨⟩
  exact h

theorem loaded_error {r : Nat} : Loaded (.error r) := fun _ _ e => nomatch e

theorem loaded_ite {x y : Except Nat (State × Bool)} (h : Loaded x) (k : Loaded y) : Loaded (if p then x else y) := by
  split
  · exact h
  · exact k

theorem tidy_foldl {α : Type} {f : State → α → State} {l : List α} (h : Tidy s)
    (k : ∀ u, Tidy u → ∀ x, Tidy (f u x)) : Tidy (l.foldl f s) := by
  induction l generalizing s with
  | nil => exact h
  | cons x l ih => exact ih (k s h x)

theorem tidy_foldl_fst {α β : Type} {f : State × β → α → State × β} {l : List α} {x : State × β} (h : Tidy x.1)
    (k : ∀ y, Tidy y.1 → ∀ a, Tidy (f y a).1) : Tidy (l.foldl f x).1 := by
  induction l generalizing x with
  | nil => exact h
  | cons a l ih => exact ih (k x h a)

end

/-- Memory is in form whatever the other fields of the state hold. The constructor is written out so that the lemma applies to any
record update without unfolding the state it updates. -/
theorem tidy_mk
    {pending regs latches time timeHeld holdLeft bellOffset bellSlew refTime bellRun bellFrameAt bellPulse cores
    tscales switch mem chk correctedAt pageBits copyPages touches fired frees terrier terrierOld lanemaps groups
    staleAt ports routers routeSeq inbox postedErrors reeveTodo chunks closedChunks transit tags keyDraws devq
    watchEvents draws pantryDraw pantryId harvest harvestDue harvestWanted nvme nvmeWait pantryImage storeImage
    refill lastRefill validPages landings serve started coreReturned saved savedDraw measuring measured measurements
    wipes tests remaps refreshing hotFp hotNext waiting throttles wear wearStored socs pkgEst estNext activity energy
    curfew msixOpen msixPending bar4 aer hostReads nextRead hostDirty mgmt fw firmware booted spdm spdmHeard evqSent
    evqWait jtag boundary bypass scanTest checks stackHeld dawnOf partDawn partWaiting railOut panPerst refclkLost
    perstLow powerStep outputs}
    (h : twf (fun _ => (0 : Byte)) mem = true ∧ twf (fun _ => (0 : Byte)) chk = true) : Tidy (State.mk
    pending regs latches time timeHeld holdLeft bellOffset bellSlew refTime bellRun bellFrameAt bellPulse cores
    tscales switch mem chk correctedAt pageBits copyPages touches fired frees terrier terrierOld lanemaps groups
    staleAt ports routers routeSeq inbox postedErrors reeveTodo chunks closedChunks transit tags keyDraws devq
    watchEvents draws pantryDraw pantryId harvest harvestDue harvestWanted nvme nvmeWait pantryImage storeImage
    refill lastRefill validPages landings serve started coreReturned saved savedDraw measuring measured measurements
    wipes tests remaps refreshing hotFp hotNext waiting throttles wear wearStored socs pkgEst estNext activity energy
    curfew msixOpen msixPending bar4 aer hostReads nextRead hostDirty mgmt fw firmware booted spdm spdmHeard evqSent
    evqWait jtag boundary bypass scanTest checks stackHeld dawnOf partDawn partWaiting railOut panPerst refclkLost
    perstLow powerStep outputs) := h

section
variable {s : State}

theorem tidy_setRawWord {w v} (h : Tidy s) : Tidy (setRawWord s w v) := wf_setRawWord h w v

theorem tidy_readWord {slot w} (h : Tidy s) : Tidy (readWord s slot w).1 := wf_readWord h slot w

theorem tidy_storeWord {slot w data} (h : Tidy s) : Tidy (storeWord s slot w data) := wf_storeWord h slot w data

theorem tidy_writeWord {slot w data mask} (h : Tidy s) : Tidy (writeWord s slot w data mask) :=
  wf_writeWord h slot w data mask

theorem tidy_readMem {slot a n} (h : Tidy s) : Tidy (readMem s slot a n).1 := wf_readMem h slot a n

theorem tidy_writeMem {slot a n v} (h : Tidy s) : Tidy (writeMem s slot a n v) := wf_writeMem h slot a n v

theorem tidy_atomicMem {key a n aop x y} (h : Tidy s) : Tidy (atomicMem s key a n aop x y).1 :=
  wf_atomicMem h key a n aop x y

theorem tidy_zeroFill {lo hi} (h : Tidy s) : Tidy (zeroFill s lo hi) := wf_zeroFill h lo hi

theorem tidy_wipeWritten {lo hi} (h : Tidy s) : Tidy (wipeWritten s lo hi) := wf_wipeWritten h lo hi

end

end Sys2Proof.Machine
end

section
/-!
SUPPORT. The operations of cores, ports, reductions and the Harvest keep the canonical form of memory. Each lemma opens its one
operation and follows it from the state it answers back to the state it starts from, along its branches and by the lemmas of the
operations it calls: nothing but the memory operations touches the two lists. Where a read of memory or a check sum is a scrutinee,
its function is made opaque first, so that no proof term computes with it.
-/
namespace Sys2Proof.Machine

variable {s : State}

/-! ## Registers, pages and cores keep the form -/

theorem tidy_setReg {b i off v} (h : Tidy s) : Tidy (setReg s b i off v) := tidy_mk h

theorem tidy_setRf {b i off lo w x} (h : Tidy s) : Tidy (setRf s b i off lo w x) := by
  delta setRf
  exact tidy_setReg h

theorem tidy_setRbit {b i off k v} (h : Tidy s) : Tidy (setRbit s b i off k v) := by
  delta setRbit
  exact tidy_setRf h

theorem tidy_incReg {b i off} (h : Tidy s) : Tidy (incReg s b i off) := by
  delta incReg
  exact tidy_setReg h

theorem tidy_addReg {b i off k} (h : Tidy s) : Tidy (addReg s b i off k) := by
  delta addReg
  exact tidy_setReg h

theorem tidy_setReg64 {b i lo v} (h : Tidy s) : Tidy (setReg64 s b i lo v) := by
  delta setReg64
  exact tidy_setReg (tidy_setReg h)

theorem tidy_addReg64 {b i lo k} (h : Tidy s) : Tidy (addReg64 s b i lo k) := by
  delta addReg64
  exact tidy_setReg64 h

theorem tidy_refuse {b i code off} (h : Tidy s) : Tidy (refuse s b i code off) := by
  delta refuse
  exact tidy_setRf (tidy_setRf (tidy_setRbit h))

theorem tidy_hostWrite {b i off v f} (h : Tidy s) (hf : ∀ u, Tidy u → Tidy (f u)) : Tidy (hostWrite s b i off v f) := by
  delta hostWrite
  exact tidy_ite (tidy_refuse h) (tidy_ite (hf _ h) (tidy_refuse h))

theorem tidy_fireOnce {t : State} {id} (h : Tidy s) (e : fireOnce s id = some t) : Tidy t := by
  rw [fireOnce, Option.ite_none_left_eq_some] at e
  obtain ⟨-, ⟨⟩⟩ := e
  exact tidy_mk h

theorem tidy_emit {o} (h : Tidy s) : Tidy (emit s o) := tidy_mk h

theorem tidy_unsupported {fn} (h : Tidy s) : Tidy (unsupported s fn) := by
  delta unsupported
  exact tidy_emit (tidy_mk h)

theorem tidy_sendMsix {fn v} (h : Tidy s) : Tidy (sendMsix s fn v) := by
  delta sendMsix
  exact tidy_ite (tidy_emit h) (tidy_mk h)

theorem tidy_msixOnRise {b i before} (h : Tidy s) : Tidy (msixOnRise s b i before) := by
  delta msixOnRise
  exact tidy_ite h (tidy_sendMsix h)

theorem tidy_errSummary {b i} (h : Tidy s) : Tidy (errSummary s b i) := by
  delta errSummary
  exact tidy_setRbit h

theorem tidy_raiseInt {b i k} (h : Tidy s) : Tidy (raiseInt s b i k) := by
  delta raiseInt
  exact tidy_msixOnRise (tidy_setRbit h)

theorem tidy_countRecord {b i code detail} (h : Tidy s) : Tidy (countRecord s b i code detail) := by
  delta countRecord
  exact tidy_errSummary (tidy_ite (tidy_setReg (tidy_setRf (tidy_incReg (tidy_setRbit h)))) (tidy_incReg (tidy_setRbit h)))

theorem tidy_pageRecord {b i code detail} (h : Tidy s) : Tidy (pageRecord s b i code detail) := by
  delta pageRecord
  exact tidy_msixOnRise (tidy_countRecord h)

theorem tidy_pageEvent {b i code detail ks} (h : Tidy s) : Tidy (pageEvent s b i code detail ks) := by
  delta pageEvent
  exact tidy_msixOnRise (tidy_foldl (tidy_countRecord h) fun _ h1 _ => tidy_setRbit h1)

theorem tidy_resetPages {scope k whole} (h : Tidy s) : Tidy (resetPages s scope k whole) := tidy_mk h

theorem tidy_setCore {c k} (h : Tidy s) : Tidy (setCore s c k) := tidy_mk h

theorem tidy_updCore {c f} (h : Tidy s) : Tidy (updCore s c f) := by
  delta updCore
  exact tidy_setCore h

/-! ## The device queue, throttles and partitions -/

theorem tidy_freshWord (h : Tidy s) : Tidy (freshWord s).1 := tidy_mk h

theorem tidy_devqPush {r} (h : Tidy s) : Tidy (devqPush s r) := by
  delta devqPush
  exact tidy_ite (tidy_incReg h) (tidy_ite (tidy_raiseInt (tidy_setReg (tidy_mk h))) (tidy_setReg (tidy_mk h)))

theorem tidy_deviceRecord {b i cls code unit detail} (h : Tidy s) : Tidy (deviceRecord s b i cls code unit detail) := by
  delta deviceRecord
  exact tidy_devqPush (tidy_pageRecord h)

theorem tidy_deviceEvent {b i cls code unit detail ks} (h : Tidy s) : Tidy (deviceEvent s b i cls code unit detail ks) := by
  delta deviceEvent
  exact tidy_devqPush (tidy_pageEvent h)

theorem tidy_watchCount {input k} (h : Tidy s) : Tidy (watchCount s input k) := tidy_mk h

theorem tidy_countActivity {d j n} (h : Tidy s) : Tidy (countActivity s d j n) := tidy_mk h

/-! ## Event records and the event queues -/

theorem tidy_setThrottle {f t} (h : Tidy s) : Tidy (setThrottle s f t) := tidy_mk h

theorem tidy_spendBeat {f} (h : Tidy s) : Tidy (spendBeat s f) := by
  delta spendBeat
  exact tidy_setThrottle h

theorem tidy_noteHeld {f k} (h : Tidy s) : Tidy (noteHeld s f k) := by
  delta noteHeld
  exact tidy_ite (tidy_deviceRecord (tidy_setThrottle (tidy_addReg h))) (tidy_setThrottle (tidy_addReg h))

theorem tidy_throttleAccess {a n} (h : Tidy s) : Tidy (throttleAccess s a n) := by
  delta throttleAccess
  exact tidy_foldl h fun _ h1 _ => tidy_ite (tidy_freshWord h1) (tidy_noteHeld (tidy_freshWord h1))

theorem tidy_throttleAll {l} (h : Tidy s) : Tidy (throttleAll s l) := by
  delta throttleAll
  exact tidy_foldl h fun _ h1 _ => tidy_throttleAccess h1

theorem tidy_cellarRecord {c unit desc} (h : Tidy s) : Tidy (cellarRecord s c unit desc) := by
  delta cellarRecord
  exact tidy_deviceRecord h

theorem kept_linkClocked {o} (h : Tidy s) (ho : Kept o) : Kept (linkClocked s o) := by
  delta linkClocked
  exact kept_ite (kept_next h) ho

theorem kept_clocked {c o} (h : Tidy s) (ho : Kept o) : Kept (clocked s c o) := by
  delta clocked
  exact kept_ite ho (kept_next h)

theorem tidy_setPartState {n v} (h : Tidy s) : Tidy (setPartState s n v) := by
  delta setPartState
  exact tidy_ite (tidy_setRf (tidy_setRf h)) (tidy_ite (tidy_setRf (tidy_setRf h)) (tidy_setRf h))

theorem tidy_touchPage {p} (h : Tidy s) : Tidy (touchPage s p) := by
  delta touchPage
  exact tidy_ite h (tidy_incReg (tidy_mk h))

theorem tidy_touchPages {ps} (h : Tidy s) : Tidy (touchPages s ps) := by
  delta touchPages
  exact tidy_foldl h fun _ h1 _ => tidy_touchPage h1

theorem tidy_evqPush {ctx r} (h : Tidy s) : Tidy (evqPush s ctx r) := by
  delta evqPush
  split
  · exact h
  · split
    · exact tidy_mk h
    · dsimp only
      split
      · exact tidy_incReg h
      · split
        · exact tidy_incReg h
        · exact tidy_ite (tidy_incReg h) (tidy_ite (tidy_touchPages (tidy_mk h))
            (tidy_setReg (tidy_writeMem (tidy_throttleAccess h))))

theorem tidy_drainRings (h : Tidy s) : Tidy (drainRings s) := by
  delta drainRings
  exact tidy_foldl (tidy_mk h) fun _ h1 _ => tidy_evqPush h1

theorem tidy_contextRecord {b i cls code unit detail ctx} (h : Tidy s) : Tidy (contextRecord s b i cls code unit detail ctx) := by
  delta contextRecord
  exact tidy_evqPush (tidy_deviceRecord h)

theorem tidy_contextEvent {b i cls code unit detail ctx k} (h : Tidy s) :
    Tidy (contextEvent s b i cls code unit detail ctx k) := by
  delta contextEvent
  exact tidy_evqPush (tidy_deviceEvent h)

theorem tidy_coreEvent {c code detail k} (h : Tidy s) : Tidy (coreEvent s c code detail k) := by
  delta coreEvent
  exact tidy_contextEvent h

theorem tidy_coreRecord {c cls code detail} (h : Tidy s) : Tidy (coreRecord s c cls code detail) := by
  delta coreRecord
  exact tidy_ite (tidy_contextRecord h) (tidy_deviceRecord h)

theorem tidy_healthStep {before} (h : Tidy s) : Tidy (healthStep before s) := by
  delta healthStep
  exact tidy_ite h (tidy_raiseInt (tidy_ite h (tidy_emit h)))

/-! ## Completion flags -/

theorem tidy_completeFlag {c f poison} (h : Tidy s) : Tidy (completeFlag s c f poison) := by
  delta completeFlag
  exact tidy_updCore h

theorem tidy_cellarEnd {c unit desc flag} (h : Tidy s) : Tidy (cellarEnd s c unit desc flag) := by
  delta cellarEnd
  exact tidy_completeFlag (tidy_cellarRecord h)

/-! ## Launches, faults and banks of the almanac -/

theorem tidy_noteBuckets {after : State} {before} (h : Tidy after) : Tidy (noteBuckets before after) := by
  delta noteBuckets
  exact tidy_ite (tidy_sendMsix h) h

theorem tidy_almFault {c reason slot} (h : Tidy s) : Tidy (almFault s c reason slot) := by
  delta almFault
  exact tidy_coreEvent (tidy_noteBuckets (tidy_updCore h))

theorem tidy_noteLaunch {c e} (h : Tidy s) : Tidy (noteLaunch s c e) := by
  delta noteLaunch
  exact tidy_ite
    (tidy_ite (tidy_incReg (tidy_ite (tidy_setReg (tidy_countActivity (tidy_addReg64 h)))
    (tidy_countActivity (tidy_addReg64 h))))
    (tidy_watchCount
    (tidy_coreRecord
    (tidy_updCore
    (tidy_incReg (tidy_ite (tidy_setReg (tidy_countActivity (tidy_addReg64 h))) (tidy_countActivity (tidy_addReg64 h))))))))
    (tidy_ite (tidy_setReg (tidy_countActivity (tidy_addReg64 h))) (tidy_countActivity (tidy_addReg64 h)))

theorem tidy_advanceHead {c} (h : Tidy s) : Tidy (advanceHead s c) := by
  delta advanceHead
  exact tidy_updCore h

theorem tidy_launch {c op ok act} (h : Tidy s) (hf : ∀ u, Tidy u → ∀ e, Tidy (act u e)) :
    Tidy (launch s c op ok act) := by
  delta launch
  split
  · exact h
  · exact tidy_ite (tidy_almFault h) (tidy_ite (hf _ (tidy_noteLaunch h) ..) h)

theorem tidy_readEntries {slot n w} (h : Tidy s) : Tidy (readEntries s slot n w).1 := by
  induction n generalizing s w with
  | zero => exact h
  | succ n ih => exact ih (tidy_readWord h)

theorem tidy_loadBank {ctx c addr} (h : Tidy s) : Tidy (loadBank s ctx c addr).1 := by
  delta loadBank
  split
  · exact h
  · split
    · exact h
    · split
      · rename_i e
        split
        · exact tidy_of_eq (tidy_readMem h) e
        · dsimp only
          split
          · exact tidy_of_eq (tidy_readMem h) e
          · split
            · exact tidy_of_eq (tidy_readMem h) e
            · split <;> exact tidy_readEntries (tidy_of_eq (tidy_readMem h) e)

theorem tidy_activate {c b} (h : Tidy s) : Tidy (activate s c b) := by
  delta activate
  exact tidy_updCore h

theorem tidy_finishRefill {c r bank} (h : Tidy s) : Tidy (finishRefill s c r bank) := by
  delta finishRefill
  exact tidy_ite (tidy_updCore h) (tidy_ite (tidy_activate (tidy_updCore h)) (tidy_almFault (tidy_updCore h)))

theorem tidy_refillReset {c r} (h : Tidy s) : Tidy (refillReset s c r) := by
  delta refillReset
  exact tidy_finishRefill (tidy_cellarRecord h)

theorem tidy_throttleRefill {ctx c addr} (h : Tidy s) : Tidy (throttleRefill s ctx c addr) := by
  delta throttleRefill
  split
  · exact tidy_throttleAccess h
  · exact h

theorem kept_execRefillComplete {c} (h : Tidy s) : Kept (execRefillComplete c s) := by
  delta execRefillComplete
  dsimp only
  split
  · exact kept_next h
  · exact kept_clocked h (kept_ite (kept_next (tidy_refillReset h))
      (kept_next (tidy_finishRefill (tidy_loadBank (tidy_throttleRefill h)))))

theorem tidy_dropWanted {ctx} (h : Tidy s) : Tidy (dropWanted s ctx) := by
  delta dropWanted
  exact tidy_ite (tidy_mk h) h

theorem kept_execHalt {c} (h : Tidy s) : Kept (execHalt c s) := by
  delta execHalt
  exact kept_next (tidy_launch h (fun _ h1 _ => tidy_updCore h1))

theorem kept_execSegment {c} (h : Tidy s) : Kept (execSegment c s) := by
  delta execSegment
  dsimp only
  split
  · exact kept_next h
  · split
    · exact kept_next (tidy_almFault h)
    · split
      · exact kept_next h
      · split
        · exact kept_next h
        · exact kept_next (tidy_almFault (tidy_noteLaunch h))
        · exact kept_next (tidy_almFault (tidy_noteLaunch h))
        · exact kept_next (tidy_activate (tidy_updCore (tidy_noteLaunch h)))

theorem kept_execAlmanacStarved {c loaded} (h : Tidy s) : Kept (execAlmanacStarved c loaded s) := by
  delta execAlmanacStarved
  dsimp only
  split
  · exact kept_next h
  · exact kept_ite (kept_next (tidy_coreEvent (tidy_incReg (tidy_updCore h)))) (kept_next h)

theorem kept_execLoop {c} (h : Tidy s) : Kept (execLoop c s) := by
  delta execLoop
  exact kept_next (tidy_launch h (fun _ h1 _ => tidy_updCore h1))

theorem kept_execVariant {c} (h : Tidy s) : Kept (execVariant c s) := by
  delta execVariant
  dsimp only
  generalize readyEntry s c.val .variant = r
  cases r with
  | none => exact kept_next h
  | some e =>
    refine kept_ite (kept_next (tidy_almFault h)) (kept_ite (kept_next h) (kept_ite (kept_next (tidy_almFault h))
      (kept_ite (kept_next h) ?_)))
    have h2 : ∀ k, Tidy (noteBuckets (noteLaunch s c.val e) (updCore (noteLaunch s c.val e) c.val k)) :=
      fun _ => tidy_noteBuckets (tidy_updCore (tidy_noteLaunch h))
    refine kept_ite (kept_next (tidy_almFault (tidy_cellarRecord (h2 _)))) ?_
    split
    · exact kept_next (tidy_almFault (h2 _))
    · generalize hr : readMem _ _ _ _ = r
      obtain ⟨s3, w, ok⟩ := r
      have h3 : Tidy s3 := tidy_of_eq (tidy_readMem (h2 _)) hr
      exact kept_ite (kept_next (tidy_almFault (tidy_cellarRecord (h2 _)))) (kept_ite (kept_next (tidy_almFault h3))
        (kept_ite (kept_next (tidy_almFault h3)) (kept_next (tidy_updCore h3))))

theorem kept_execSlipRange {c} (h : Tidy s) : Kept (execSlipRange c s) := by
  delta execSlipRange
  dsimp only
  split
  · exact kept_next h
  · exact kept_ite (kept_next (tidy_almFault h)) (kept_next h)

/-! ## Histograms -/

theorem tidy_histRecord {c slot ws} (h : Tidy s) : Tidy (histRecord s c slot ws) := by
  delta histRecord
  exact tidy_updCore h

/-! ## Packets and tags -/

theorem tidy_route {d p ingress} (h : Tidy s) : Tidy (route s d p ingress) := tidy_mk h

theorem tidy_setTag {sunit tag t} (h : Tidy s) : Tidy (setTag s sunit tag t) := tidy_mk h

theorem tidy_readDesc {c desc} (h : Tidy s) : Tidy (readDesc s c desc).1 := by
  have hread : ∀ a, Tidy (readMem s 0 a 64).1 := fun _ => tidy_readMem h
  delta readDesc
  obtain ⟨read, hr⟩ : ∃ f, f = readMem s 0 := exists_eq
  rw [← hr] at hread ⊢
  cases descOffset (core s c) desc with
  | none => exact h
  | some o => exact hread _

theorem tidy_descFault {c reason unit desc} (h : Tidy s) : Tidy (descFault s c reason unit desc) := by
  delta descFault
  exact tidy_coreRecord h

/-! ## Free values, descriptors and operations in flight -/

theorem tidy_freshBytes {n} (h : Tidy s) : Tidy (freshBytes s n).1 := by
  induction n generalizing s with
  | zero => exact h
  | succ n ih => exact ih (tidy_freshWord h)

theorem tidy_terrierRecord {c unit reason index} (h : Tidy s) : Tidy (terrierRecord s c unit reason index) := by
  delta terrierRecord
  exact tidy_coreRecord h

theorem tidy_advanceTag {d index c poison} (h : Tidy s) : Tidy (advanceTag s d index c poison) := by
  delta advanceTag
  exact tidy_ite h (tidy_updCore h)

theorem tidy_finishOp {c o poison tag} (h : Tidy s) : Tidy (finishOp s c o poison tag) := by
  delta finishOp
  split
  · exact tidy_advanceTag (tidy_completeFlag (tidy_updCore h))
  · exact tidy_completeFlag (tidy_updCore h)

theorem tidy_cellarEndTag {c unit desc flag tag} (h : Tidy s) : Tidy (cellarEndTag s c unit desc flag tag) := by
  delta cellarEndTag
  split
  · exact tidy_advanceTag (tidy_cellarEnd h)
  · exact tidy_cellarEnd h

theorem tidy_refuseDesc {c reason unit desc flag} (h : Tidy s) : Tidy (refuseDesc s c reason unit desc flag) := by
  delta refuseDesc
  exact tidy_completeFlag (tidy_incReg (tidy_descFault h))

/-! ## The MOVE engine -/

theorem tidy_rmwWord {slot w f} (h : Tidy s) : Tidy (rmwWord s slot w f) := by
  delta rmwWord
  exact tidy_storeWord (tidy_readWord h)

theorem tidy_readBad {slot n w} (h : Tidy s) : Tidy (readBad s slot n w).1 := by
  induction n generalizing s w with
  | zero => exact h
  | succ n ih => exact ih (tidy_readWord h)

theorem tidy_readRow {slot a n} (h : Tidy s) : Tidy (readRow s slot a n).1 := by
  delta readRow
  split
  · exact h
  · split
    · rename_i e
      exact tidy_of_eq (tidy_readBad h) e

theorem tidy_accWord {slot w t scale ys} (h : Tidy s) : Tidy (accWord s slot w t scale ys).1 := by
  delta accWord
  split
  · rename_i e
    split
    · exact tidy_storeWord (tidy_of_eq (tidy_readWord h) e)

theorem tidy_setOvf {slot a j} (h : Tidy s) : Tidy (setOvf s slot a j) := by
  delta setOvf
  exact tidy_rmwWord h

theorem kept_execMove {c} (h : Tidy s) : Kept (execMove c s) := by
  delta execMove
  refine kept_next (tidy_launch h fun u hu e => ?_)
  refine tidy_ite (tidy_advanceHead (tidy_cellarEnd hu)) ?_
  generalize hr : readDesc u _ _ = r
  obtain ⟨s1, img, bad⟩ := r
  have h1 : Tidy s1 := tidy_of_eq (tidy_readDesc hu) hr
  refine tidy_advanceHead (tidy_ite (tidy_refuseDesc h1) ?_)
  dsimp only
  split
  · exact tidy_refuseDesc (tidy_ite (tidy_terrierRecord h1) h1)
  · exact tidy_ite (tidy_cellarEndTag h1) (tidy_setCore h1)

theorem tidy_freeOverlap {dsts a v n} (h : Tidy s) : Tidy (freeOverlap s dsts a v n).1 := by
  induction n with
  | zero => exact h
  | succ n ih => exact tidy_ite_fst (tidy_freshWord ih) ih

theorem tidy_readSource {o r} (h : Tidy s) : Tidy (readSource s o r).1 := by
  delta readSource
  split
  · dsimp only
    exact tidy_ite_fst (tidy_freeOverlap (tidy_readRow h)) (tidy_readRow h)

theorem tidy_readScales {o r} (h : Tidy s) : Tidy (readScales s o r).1 := by
  delta readScales
  split
  · dsimp only
    exact tidy_readRow h

theorem tidy_zeroFlags {slot a n} (h : Tidy s) : Tidy (zeroFlags s slot a n) := by
  delta zeroFlags
  exact tidy_foldl h fun _ h1 _ => tidy_ite (tidy_storeWord h1) (tidy_rmwWord h1)

theorem tidy_fillRow {o r} (h : Tidy s) : Tidy (fillRow s o r) := by
  delta fillRow
  exact tidy_ite (tidy_zeroFlags (tidy_writeMem h)) (tidy_writeMem h)

theorem tidy_accRow {key t blk scales a n src i} (h : Tidy s) : Tidy (accRow s key t blk scales a n src i).1 := by
  induction i with
  | zero => exact h
  | succ i ih => exact tidy_accWord ih

theorem tidy_accumulateRow {c o r} (h : Tidy s) : Tidy (accumulateRow s c o r).1 := by
  delta accumulateRow
  split
  · rename_i e
    split
    · split
      · rename_i e'
        split
        · dsimp only
          exact tidy_ite_fst
            (tidy_histRecord (tidy_foldl (tidy_accRow (tidy_of_eq (tidy_readScales (tidy_of_eq (tidy_readSource h) e)) e'))
            fun _ h1 _ => tidy_setOvf h1)) (tidy_histRecord (tidy_accRow (tidy_of_eq (tidy_readSource h) e)))

theorem tidy_convertRow {c o r} (h : Tidy s) : Tidy (convertRow s c o r).1 := by
  delta convertRow
  split
  · rename_i e
    split
    · split
      · split
        · dsimp only
          exact tidy_ite_fst (tidy_writeMem (tidy_writeMem (tidy_histRecord (tidy_of_eq (tidy_readSource h) e))))
            (tidy_writeMem (tidy_ite_fst (tidy_readScales (tidy_of_eq (tidy_readSource h) e)) (tidy_of_eq (tidy_readSource h) e)))

theorem tidy_relayoutRow {o r} (h : Tidy s) : Tidy (relayoutRow s o r).1 := by
  delta relayoutRow
  split
  · rename_i e
    split
    · split
      · split
        · dsimp only
          exact tidy_ite_fst
            (tidy_writeMem
            (tidy_writeMem (tidy_ite_fst (tidy_of_eq (tidy_readSource h) e)
            (tidy_readScales (tidy_of_eq (tidy_readSource h) e)))))
            (tidy_writeMem (tidy_ite_fst (tidy_of_eq (tidy_readSource h) e) (tidy_readScales (tidy_of_eq (tidy_readSource h) e))))

theorem tidy_moveRow {c o r} (h : Tidy s) : Tidy (moveRow s c o r).1 := by
  delta moveRow
  split
  · split
    · rename_i e
      split
      · exact tidy_writeMem (tidy_of_eq (tidy_readSource h) e)
  · exact tidy_fillRow h
  · exact tidy_accumulateRow h
  · exact tidy_convertRow h
  · exact tidy_relayoutRow h

theorem tidy_moveRows {c o n} (h : Tidy s) : Tidy (moveRows s c o n).1 := by
  induction n with
  | zero => exact h
  | succ n ih => exact tidy_moveRow ih

theorem kept_execMoveComplete {c op} (h : Tidy s) : Kept (execMoveComplete c op s) := by
  delta execMoveComplete
  dsimp only
  split
  · exact kept_next h
  · exact kept_ite (kept_next h) (kept_ite (kept_next (tidy_finishOp (tidy_moveRows (tidy_throttleAll h))))
      (kept_next (tidy_touchPages h)))

/-! ## Beats -/

theorem tidy_accBeat {key w fmt scale addends mask} (h : Tidy s) : Tidy (accBeat s key w fmt scale addends mask).1 := by
  delta accBeat
  exact tidy_accWord h

theorem tidy_performBeat {b} (h : Tidy s) : Tidy (performBeat s b) := by
  delta performBeat
  split
  · exact tidy_readWord (tidy_setRawWord h)
  · exact tidy_writeWord h
  · exact tidy_histRecord (tidy_ite (tidy_setOvf (tidy_accBeat h)) (tidy_accBeat h))

theorem tidy_waitCopy {b} (h : Tidy s) : Tidy (waitCopy s b) := by
  delta waitCopy
  exact tidy_mk (tidy_touchPages h)

theorem tidy_holdBeat {f b} (h : Tidy s) : Tidy (holdBeat s f b) := by
  delta holdBeat
  exact tidy_noteHeld (tidy_setThrottle h)

theorem tidy_submitBeat {b} (h : Tidy s) : Tidy (submitBeat s b) := by
  delta submitBeat
  split
  · exact h
  · split
    · exact h
    · split
      · exact tidy_mk h
      · split
        · exact tidy_waitCopy h
        · split
          · exact tidy_ite (tidy_ite (tidy_holdBeat h) (tidy_performBeat (tidy_spendBeat h))) (tidy_performBeat h)
          · exact tidy_performBeat h

theorem tidy_resubmit (h : Tidy s) : Tidy (resubmit s) := by
  delta resubmit
  exact tidy_drainRings (tidy_foldl (tidy_mk h) fun _ h1 _ => tidy_submitBeat h1)

theorem tidy_releaseCool {f} (h : Tidy s) : Tidy (releaseCool s f) := by
  delta releaseCool
  exact tidy_ite h (tidy_foldl (tidy_mk h) fun _ h1 _ => tidy_submitBeat h1)

theorem kept_execMemoryRead {addr key flip} (h : Tidy s) : Kept (execMemoryRead addr key flip s) := by
  delta execMemoryRead
  exact kept_next (tidy_submitBeat h)

theorem kept_execMemoryWrite {addr key data mask} (h : Tidy s) : Kept (execMemoryWrite addr key data mask s) := by
  delta execMemoryWrite
  exact kept_next (tidy_submitBeat h)

theorem kept_execAccumulateWrite {c slot addr key fmt scale addends mask flags block} (h : Tidy s) :
    Kept (execAccumulateWrite c slot addr key fmt scale addends mask flags block s) := by
  delta execAccumulateWrite
  exact kept_next (tidy_submitBeat h)

theorem kept_execRefreshWindow {footprint} (h : Tidy s) : Kept (execRefreshWindow footprint s) := by
  delta execRefreshWindow
  exact kept_ite (kept_next (tidy_foldl (tidy_mk h) fun _ h1 _ => tidy_countActivity h1)) (kept_next h)

theorem kept_execRefreshWindowEnd {footprint} (h : Tidy s) : Kept (execRefreshWindowEnd footprint s) := by
  delta execRefreshWindowEnd
  exact kept_ite (kept_next (tidy_resubmit (tidy_mk h))) (kept_next h)

theorem kept_execThrottleAdmit {die footprint} (h : Tidy s) : Kept (execThrottleAdmit die footprint s) := by
  delta execThrottleAdmit
  dsimp only
  split
  · exact kept_next h
  · split
    · exact kept_next (tidy_setThrottle h)
    · exact kept_ite (kept_next h) (kept_ite (kept_next (tidy_waitCopy (tidy_setThrottle h)))
        (kept_next (tidy_performBeat (tidy_spendBeat (tidy_setThrottle h)))))

/-! ## Ports -/

theorem tidy_updPort {p f} (h : Tidy s) : Tidy (updPort s p f) := tidy_mk h

theorem tidy_setPortState {p st} (h : Tidy s) : Tidy (setPortState s p st) := by
  delta setPortState
  exact tidy_ite (tidy_updPort (tidy_setRf (tidy_setRf h))) (tidy_raiseInt (tidy_updPort (tidy_setRf (tidy_setRf h))))

theorem tidy_linkRecord {p code detail} (h : Tidy s) : Tidy (linkRecord s p code detail) := by
  delta linkRecord
  exact tidy_deviceRecord h

theorem tidy_linkEvent {p code detail moved} (h : Tidy s) : Tidy (linkEvent s p code detail moved) := by
  delta linkEvent
  exact tidy_deviceEvent h

theorem tidy_countRetrain {p} (h : Tidy s) : Tidy (countRetrain s p) := by
  delta countRetrain
  exact tidy_watchCount (tidy_incReg h)

theorem tidy_sendReports {p mask} (h : Tidy s) : Tidy (sendReports s p mask) := by
  delta sendReports
  exact tidy_emit h

theorem tidy_dropIngress {p} (h : Tidy s) : Tidy (dropIngress s p) := tidy_mk h

theorem tidy_portLoss {p count} (h : Tidy s) : Tidy (portLoss s p count) := by
  delta portLoss
  exact tidy_deviceEvent (tidy_setRbit h)

theorem tidy_clearLinkRegs {p} (h : Tidy s) : Tidy (clearLinkRegs s p) := by
  delta clearLinkRegs
  exact tidy_setRf h

theorem tidy_portDown {p reason} (h : Tidy s) : Tidy (portDown s p reason) := by
  delta portDown
  exact tidy_ite
    (tidy_setPortState
    (tidy_setPortState (tidy_updPort (tidy_dropIngress (tidy_clearLinkRegs (tidy_portLoss (tidy_linkEvent h)))))))
    (tidy_setPortState (tidy_updPort (tidy_dropIngress (tidy_clearLinkRegs (tidy_portLoss (tidy_linkEvent h))))))

theorem tidy_portFail {p} (h : Tidy s) : Tidy (portFail s p) := by
  delta portFail
  exact tidy_setPortState (tidy_updPort (tidy_clearLinkRegs h))

theorem tidy_protocolError {p reason} (h : Tidy s) : Tidy (protocolError s p reason) := by
  delta protocolError
  exact tidy_portFail (tidy_linkEvent h)

theorem tidy_startRetrain {p mask peer} (h : Tidy s) : Tidy (startRetrain s p mask peer) := by
  delta startRetrain
  exact tidy_setPortState (tidy_sendReports (tidy_updPort (tidy_countRetrain (tidy_setRf h))))

theorem tidy_decideLanes {p} (h : Tidy s) : Tidy (decideLanes s p) := by
  delta decideLanes
  split
  · dsimp only
    split
    · split
      · exact tidy_portDown h
      · exact tidy_setPortState (tidy_updPort h)
    · exact h
  · dsimp only
    split
    · split
      · exact tidy_portDown h
      · exact tidy_updPort h
    · exact h

theorem tidy_enterReplay {p i} (h : Tidy s) : Tidy (enterReplay s p i) := by
  delta enterReplay
  exact tidy_ite h (tidy_ite (tidy_startRetrain (tidy_linkEvent (tidy_updPort (tidy_incReg h)))) (tidy_updPort (tidy_incReg h)))

theorem tidy_rekey {p} (h : Tidy s) : Tidy (rekey s p) := by
  delta rekey
  split
  · exact h
  · exact tidy_linkRecord (tidy_setRf (tidy_updPort h))

theorem tidy_sendPort {p vc pkt} (h : Tidy s) : Tidy (sendPort s p vc pkt) := by
  delta sendPort
  exact tidy_updPort h

theorem tidy_freeSlots {p vc n} (h : Tidy s) : Tidy (freeSlots s p vc n) := by
  delta freeSlots
  exact tidy_updPort h

theorem tidy_countGcm {p keyed} (h : Tidy s) : Tidy (countGcm s p keyed) := by
  delta countGcm
  exact tidy_ite (tidy_countActivity h) h

theorem tidy_sendFlit {p k bits} (h : Tidy s) : Tidy (sendFlit s p k bits) := by
  delta sendFlit
  exact tidy_foldl (tidy_emit (tidy_updPort h)) fun _ h1 _ => tidy_emit h1

theorem kept_execFlitTransmit {port frac} (h : Tidy s) : Kept (execFlitTransmit port frac s) := by
  delta execFlitTransmit
  exact kept_linkClocked h (kept_ite (kept_next h) (kept_next (tidy_sendFlit (tidy_countGcm (tidy_addReg64 h)))))

theorem tidy_passUp {p frac routed x} (h : Tidy s) : Tidy (passUp p frac routed s x) := by
  delta passUp
  exact tidy_ite h (tidy_ite (tidy_ite (tidy_updPort h) (tidy_protocolError h))
    (tidy_ite (tidy_protocolError h) (tidy_ite (tidy_route (tidy_updPort h)) (tidy_updPort h))))

theorem tidy_applyAck {p ack} (h : Tidy s) : Tidy (applyAck s p ack) := by
  delta applyAck
  exact tidy_updPort h

theorem tidy_applyCredit {p word} (h : Tidy s) : Tidy (applyCredit s p word) := by
  delta applyCredit
  exact tidy_ite (tidy_protocolError h) (tidy_updPort h)

theorem tidy_dueNak {p} (h : Tidy s) : Tidy (dueNak s p) := by
  delta dueNak
  exact tidy_updPort h

theorem tidy_goodFlit {p frac f payload} (h : Tidy s) : Tidy (goodFlit s p frac f payload) := by
  delta goodFlit
  exact tidy_ite (tidy_applyCredit (tidy_ite (tidy_enterReplay (tidy_ite (tidy_applyAck h) h)) (tidy_ite (tidy_applyAck h) h)))
    (tidy_ite (tidy_foldl (tidy_updPort (tidy_applyCredit (tidy_ite (tidy_enterReplay (tidy_ite (tidy_applyAck h) h))
    (tidy_ite (tidy_applyAck h) h)))) fun _ h1 _ => tidy_passUp h1)
    (tidy_ite (tidy_applyCredit (tidy_ite (tidy_enterReplay (tidy_ite (tidy_applyAck h) h)) (tidy_ite (tidy_applyAck h) h)))
    (tidy_dueNak (tidy_applyCredit (tidy_ite (tidy_enterReplay (tidy_ite (tidy_applyAck h) h)) (tidy_ite (tidy_applyAck h) h))))))

theorem tidy_badFlit {p} (h : Tidy s) : Tidy (badFlit s p) := by
  delta badFlit
  exact tidy_dueNak (tidy_updPort h)

theorem tidy_tagFailed {p f} (h : Tidy s) : Tidy (tagFailed s p f) := by
  delta tagFailed
  exact tidy_ite (tidy_portFail (tidy_updPort (tidy_badFlit (tidy_linkEvent (tidy_incReg h)))))
    (tidy_updPort (tidy_badFlit (tidy_linkEvent (tidy_incReg h))))

theorem tidy_countFec {p corrected uncorrectable} (h : Tidy s) : Tidy (countFec s p corrected uncorrectable) := by
  delta countFec
  exact tidy_ite (tidy_watchCount (tidy_addReg h))
    (tidy_ite (tidy_linkRecord (tidy_updPort (tidy_watchCount (tidy_addReg (tidy_watchCount (tidy_addReg h))))))
    (tidy_updPort (tidy_watchCount (tidy_addReg (tidy_watchCount (tidy_addReg h))))))

theorem kept_execFlitReceived {port bits ended pair frac} (h : Tidy s) : Kept (execFlitReceived port bits ended pair frac s) := by
  delta execFlitReceived
  dsimp only
  split
  · exact kept_linkClocked h (kept_next h)
  · split
    · exact kept_linkClocked h
        (kept_next (tidy_badFlit (tidy_ite (tidy_incReg (tidy_countFec (tidy_updPort h))) (tidy_countFec (tidy_updPort h)))))
    · split
      · exact kept_linkClocked h
          (kept_next (tidy_badFlit (tidy_ite (tidy_incReg (tidy_countFec (tidy_updPort h))) (tidy_countFec (tidy_updPort h)))))
      · exact kept_linkClocked h
          (kept_next (tidy_tagFailed (tidy_countGcm (tidy_ite (tidy_incReg (tidy_countFec (tidy_updPort h)))
          (tidy_countFec (tidy_updPort h))))))
      · exact kept_linkClocked h
          (kept_next (tidy_goodFlit (tidy_updPort (tidy_countGcm (tidy_ite (tidy_incReg (tidy_countFec (tidy_updPort h)))
          (tidy_countFec (tidy_updPort h)))))))

theorem kept_execReplayTimeout {port} (h : Tidy s) : Kept (execReplayTimeout port s) := by
  delta execReplayTimeout
  dsimp only
  split
  · exact kept_linkClocked h (kept_next h)
  · exact kept_linkClocked h (kept_ite (kept_next (tidy_enterReplay h)) (kept_next h))

theorem kept_execLaneSignalDetect {port} (h : Tidy s) : Kept (execLaneSignalDetect port s) := by
  delta execLaneSignalDetect
  exact kept_linkClocked h (kept_ite (kept_next (tidy_setPortState h)) (kept_next h))

theorem kept_execTrainComplete {port good} (h : Tidy s) : Kept (execTrainComplete port good s) := by
  delta execTrainComplete
  exact kept_linkClocked h (kept_ite (kept_next (tidy_decideLanes (tidy_sendReports (tidy_updPort (tidy_setRf h)))))
    (kept_next h))

theorem kept_execLaneReport {port mask minWidth} (h : Tidy s) : Kept (execLaneReport port mask minWidth s) := by
  delta execLaneReport
  exact kept_linkClocked h (kept_ite (kept_next (tidy_decideLanes (tidy_startRetrain h)))
    (kept_ite (kept_next (tidy_decideLanes (tidy_updPort h))) (kept_next h)))

theorem tidy_useLanes {p} (h : Tidy s) : Tidy (useLanes s p) := by
  delta useLanes
  split
  · exact tidy_updPort (tidy_setRf h)
  · exact h

theorem kept_execFecLock {port} (h : Tidy s) : Kept (execFecLock port s) := by
  delta execFecLock
  exact kept_linkClocked h (kept_ite (kept_next (tidy_setPortState (tidy_updPort (tidy_useLanes h)))) (kept_next h))

theorem tidy_portActive {p} (h : Tidy s) : Tidy (portActive s p) := by
  delta portActive
  exact tidy_setPortState (tidy_linkEvent (tidy_updPort h))

theorem tidy_takeLocal {t : State} {p type msg} (h : Tidy s) (e : takeLocal s p type = some (msg, t)) : Tidy t := by
  obtain ⟨_, _, _, rfl, _⟩ := takeLocal_eq e
  exact tidy_mk h

theorem tidy_queueSpdm {p} (h : Tidy s) : Tidy (queueSpdm s p) := by
  delta queueSpdm
  exact tidy_updPort h

theorem kept_execNegotiate {port} (h : Tidy s) : Kept (execNegotiate port s) := by
  delta execNegotiate
  dsimp only
  split
  · exact kept_linkClocked h (kept_next h)
  · rename_i e
    exact kept_linkClocked h (kept_ite (kept_next (tidy_takeLocal h e))
      (kept_ite (kept_next (tidy_protocolError (tidy_takeLocal h e)))
      (kept_ite (kept_next (tidy_portDown (tidy_updPort (tidy_setReg (tidy_takeLocal h e)))))
      (kept_ite (kept_next (tidy_updPort (tidy_setReg (tidy_takeLocal h e))))
      (kept_ite (kept_next (tidy_queueSpdm (tidy_setPortState (tidy_updPort (tidy_setReg (tidy_takeLocal h e))))))
      (kept_next (tidy_portActive (tidy_updPort (tidy_setReg (tidy_takeLocal h e))))))))))

theorem kept_execSecure {port} (h : Tidy s) : Kept (execSecure port s) := by
  delta execSecure
  dsimp only
  split
  · exact kept_linkClocked h (kept_next h)
  · rename_i e
    split
    · exact kept_linkClocked h (kept_next (tidy_takeLocal h e))
    · split
      · exact kept_linkClocked h (kept_next (tidy_updPort (tidy_takeLocal h e)))
      · split
        · exact kept_linkClocked h (kept_next (tidy_queueSpdm (tidy_updPort (tidy_takeLocal h e))))
        · exact kept_linkClocked h
            (kept_next (tidy_portActive (tidy_setRf (tidy_updPort (tidy_queueSpdm (tidy_updPort (tidy_takeLocal h e)))))))

theorem tidy_dawnPortFail {p} (h : Tidy s) : Tidy (dawnPortFail s p) := by
  delta dawnPortFail
  exact tidy_ite (tidy_setRf h) h

theorem kept_execPhaseTimeout {port} (h : Tidy s) : Kept (execPhaseTimeout port s) := by
  delta execPhaseTimeout
  dsimp only
  split
  · exact kept_linkClocked h (kept_next h)
  · exact kept_linkClocked h (kept_ite (kept_next h) (kept_ite (kept_next (tidy_portDown (tidy_countRetrain h)))
      (kept_next (tidy_setPortState (tidy_updPort (tidy_clearLinkRegs
      (tidy_linkEvent (tidy_dawnPortFail (tidy_countRetrain h)))))))))

theorem kept_execLaneFail {port lane} (h : Tidy s) : Kept (execLaneFail port lane s) := by
  delta execLaneFail
  exact kept_linkClocked h (kept_ite (kept_next (tidy_startRetrain h)) (kept_next h))

theorem kept_execRetrainDone {port} (h : Tidy s) : Kept (execRetrainDone port s) := by
  delta execRetrainDone
  dsimp only
  split
  · exact kept_linkClocked h (kept_next h)
  · exact kept_linkClocked h
      (kept_ite (kept_next h)
      (kept_next (tidy_updPort (tidy_ite (tidy_setPortState (tidy_useLanes (tidy_ite h (tidy_linkEvent h))))
      (tidy_incReg (tidy_setPortState (tidy_useLanes (tidy_ite h (tidy_linkEvent h)))))))))

theorem kept_execPeerSilent {port} (h : Tidy s) : Kept (execPeerSilent port s) := by
  delta execPeerSilent
  exact kept_linkClocked h (kept_ite (kept_next (tidy_portDown h)) (kept_next h))

theorem tidy_portRetrain {p} (h : Tidy s) : Tidy (portRetrain s p) := by
  delta portRetrain
  exact tidy_ite h (tidy_ite (tidy_setPortState h) (tidy_portDown h))

theorem tidy_portRekey {p} (h : Tidy s) : Tidy (portRekey s p) := by
  delta portRekey
  exact tidy_ite (tidy_rekey h) h

theorem kept_execRekeyLimit {port} (h : Tidy s) : Kept (execRekeyLimit port s) := by
  delta execRekeyLimit
  split
  · exact kept_linkClocked h (kept_next h)
  · exact kept_linkClocked h (kept_ite (kept_next (tidy_rekey h)) (kept_next h))

theorem tidy_portEnabled {p} (h : Tidy s) : Tidy (portEnabled s p) := by
  delta portEnabled
  exact tidy_ite (tidy_setPortState h) h

theorem tidy_portDisabled {p} (h : Tidy s) : Tidy (portDisabled s p) := by
  delta portDisabled
  exact tidy_ite h (tidy_portDown h)

/-! ## Gates, arrivals and signals -/

theorem tidy_ownerLostSender {c resp node target index} (h : Tidy s) : Tidy (ownerLostSender s c resp node target index) := by
  delta ownerLostSender
  exact tidy_incReg (tidy_coreRecord h)

theorem tidy_finishMessage {c id status signal node target index} (h : Tidy s) :
    Tidy (finishMessage s c id status signal node target index) := by
  delta finishMessage
  split
  · exact h
  · exact tidy_ite (tidy_updCore h) (tidy_ownerLostSender (tidy_updCore h))

theorem tidy_answerTransit {t status} (h : Tidy s) : Tidy (answerTransit s t status) := by
  delta answerTransit
  split
  · exact tidy_route h
  · exact tidy_finishMessage h

theorem tidy_ownerLostWaiter {c} (h : Tidy s) : Tidy (ownerLostWaiter s c) := by
  delta ownerLostWaiter
  dsimp only
  split
  · exact h
  · exact tidy_ite (tidy_coreRecord h) h

theorem tidy_gateCheck {c slot} (h : Tidy s) : Tidy (gateCheck s c slot) := by
  delta gateCheck
  exact tidy_foldl h fun _ h1 _ => tidy_incReg (tidy_coreRecord h1)

theorem kept_execArrive {c} (h : Tidy s) : Kept (execArrive c s) := by
  delta execArrive
  exact kept_next (tidy_launch h (fun _ h1 _ => tidy_ite (tidy_mk (tidy_advanceHead (tidy_setCore h1)))
    (tidy_advanceHead (tidy_setCore h1))))

theorem kept_execSignal {c} (h : Tidy s) : Kept (execSignal c s) := by
  delta execSignal
  exact kept_next (tidy_launch h (fun _ h1 _ => tidy_ite (tidy_mk (tidy_advanceHead (tidy_setCore h1)))
    (tidy_advanceHead (tidy_setCore h1))))

theorem tidy_releaseTransit {t} (h : Tidy s) : Tidy (releaseTransit s t) := by
  delta releaseTransit
  split
  · exact tidy_freeSlots h
  · exact h

theorem kept_execArriveReceived {index} (h : Tidy s) : Kept (execArriveReceived index s) := by
  delta execArriveReceived
  split
  · exact kept_linkClocked h (kept_next h)
  · exact kept_linkClocked h
      (kept_ite (kept_next h)
      (kept_ite (kept_next h)
      (kept_next (tidy_answerTransit (tidy_ite (tidy_updCore (tidy_releaseTransit (tidy_mk h)))
      (tidy_releaseTransit (tidy_mk h)))))))

theorem kept_execArrivalApply {c} (h : Tidy s) : Kept (execArrivalApply c s) := by
  delta execArrivalApply
  dsimp only
  split
  · exact kept_next h
  · exact kept_next (tidy_updCore h)

theorem kept_execSignalReceived {index} (h : Tidy s) : Kept (execSignalReceived index s) := by
  delta execSignalReceived
  split
  · exact kept_linkClocked h (kept_next h)
  · exact kept_linkClocked h
      (kept_ite (kept_next h) (kept_ite (kept_next (tidy_answerTransit (tidy_completeFlag (tidy_releaseTransit (tidy_mk h)))))
      (kept_next (tidy_answerTransit (tidy_releaseTransit (tidy_mk h))))))

theorem kept_execGateTimeout {c} (h : Tidy s) : Kept (execGateTimeout c s) := by
  delta execGateTimeout
  dsimp only
  split
  · exact kept_next h
  · exact kept_ite (kept_next (tidy_incReg (tidy_coreRecord (tidy_updCore h)))) (kept_next h)

theorem tidy_writeGateCfg {c v} (h : Tidy s) : Tidy (writeGateCfg s c v) := by
  delta writeGateCfg
  exact tidy_ite (tidy_refuse h) (tidy_ite (tidy_refuse h) (tidy_ite (tidy_refuse h) (tidy_ite h (tidy_updCore h))))

theorem tidy_writeGateTimeout {c v} (h : Tidy s) : Tidy (writeGateTimeout s c v) := by
  delta writeGateTimeout
  exact tidy_ite (tidy_refuse h) (tidy_ite (tidy_refuse h) (tidy_ite h (tidy_updCore h)))

theorem kept_execSwitch {c} (h : Tidy s) : Kept (execSwitch c s) := by
  delta execSwitch
  exact kept_ite (kept_next (tidy_launch h (fun _ h1 _ => tidy_advanceHead (tidy_gateCheck h1)))) (kept_next h)

theorem kept_execHalted {c} (h : Tidy s) : Kept (execHalted c s) := by
  delta execHalted
  exact kept_ite (kept_next (tidy_raiseInt (tidy_gateCheck (tidy_noteBuckets (tidy_updCore h))))) (kept_next h)

/-! ## FETCH, PUT, ATOMIC and forwarding -/

theorem tidy_launchXfer {c fetch e} (h : Tidy s) : Tidy (launchXfer s c fetch e) := by
  delta launchXfer
  refine tidy_ite (tidy_advanceHead (tidy_cellarEnd h)) ?_
  generalize hr : readDesc s c _ = r
  obtain ⟨s1, img, bad⟩ := r
  have h1 : Tidy s1 := tidy_of_eq (tidy_readDesc h) hr
  refine tidy_advanceHead (tidy_ite (tidy_refuseDesc h1) ?_)
  dsimp only
  split
  · exact tidy_refuseDesc (tidy_ite (tidy_terrierRecord h1) h1)
  · exact tidy_ite (tidy_cellarEndTag h1) (tidy_setCore h1)

theorem kept_execFetch {c} (h : Tidy s) : Kept (execFetch c s) := by
  delta execFetch
  exact kept_next (tidy_launch h (fun _ h1 _ => tidy_launchXfer h1))

theorem kept_execPut {c} (h : Tidy s) : Kept (execPut c s) := by
  delta execPut
  exact kept_next (tidy_launch h (fun _ h1 _ => tidy_launchXfer h1))

theorem kept_execAtomic {c} (h : Tidy s) : Kept (execAtomic c s) := by
  delta execAtomic
  refine kept_next (tidy_launch h fun u hu e => ?_)
  refine tidy_ite (tidy_advanceHead (tidy_cellarEnd hu)) ?_
  generalize hr : readDesc u _ _ = r
  obtain ⟨s1, img, bad⟩ := r
  have h1 : Tidy s1 := tidy_of_eq (tidy_readDesc hu) hr
  refine tidy_advanceHead (tidy_ite (tidy_refuseDesc h1) ?_)
  dsimp only
  split
  · exact tidy_refuseDesc h1
  · exact tidy_refuseDesc (tidy_ite (tidy_terrierRecord h1) h1)
  · exact tidy_ite (tidy_cellarEnd h1) (tidy_setCore h1)

theorem kept_execAtomicComplete {c op} (h : Tidy s) : Kept (execAtomicComplete c op s) := by
  delta execAtomicComplete
  dsimp only
  split
  · exact kept_next h
  · split
    · exact kept_ite (kept_next h) (kept_ite (kept_next (tidy_touchPages h))
        (kept_next (tidy_finishOp (tidy_ite (tidy_writeMem (tidy_atomicMem (tidy_throttleAll h)))
        (tidy_atomicMem (tidy_throttleAll h))))))
    · exact kept_next h

theorem tidy_issueOp {c id} (h : Tidy s) : Tidy (issueOp s c id) := by
  delta issueOp
  split
  · exact h
  · split
    · exact h
    · split
      · exact h
      · split
        · exact h
        · split
          · split
            · rename_i e
              split
              all_goals
                dsimp only
                exact tidy_route (tidy_updCore (tidy_of_eq (tidy_ite_fst (tidy_readMem (tidy_throttleAccess h)) h) e))
          · split
            · rename_i e
              split
              all_goals
                dsimp only
                split
                · exact h
                · exact tidy_route
                    (tidy_updCore (tidy_setTag (tidy_of_eq (tidy_ite_fst (tidy_readMem (tidy_throttleAccess h)) h) e)))

theorem tidy_finishXfer {c o} (h : Tidy s) : Tidy (finishXfer s c o) := by
  delta finishXfer
  exact tidy_finishOp (tidy_ite (tidy_coreRecord h) h)

theorem tidy_answerOp {c id t status data timeout} (h : Tidy s) : Tidy (answerOp s c id t status data timeout) := by
  delta answerOp
  split
  · exact h
  · exact tidy_ite (tidy_finishMessage h)
      (tidy_ite (tidy_finishMessage h)
      (tidy_ite (tidy_finishXfer (tidy_updCore (tidy_ite (tidy_writeMem (tidy_throttleAccess h)) h)))
      (tidy_updCore (tidy_ite (tidy_writeMem (tidy_throttleAccess h)) h))))

theorem tidy_releaseSlots {r} (h : Tidy s) : Tidy (releaseSlots s r) := by
  delta releaseSlots
  split
  · exact tidy_freeSlots h
  · exact h

theorem tidy_dropPacket {die r} (h : Tidy s) : Tidy (dropPacket s die r) := by
  delta dropPacket
  exact tidy_ite (tidy_route (tidy_releaseSlots (tidy_incReg h))) (tidy_releaseSlots (tidy_incReg h))

theorem tidy_deliver {die r} (h : Tidy s) : Tidy (deliver s die r) := by
  delta deliver
  exact tidy_ite (tidy_mk h) (tidy_ite (tidy_mk h) (tidy_releaseSlots (tidy_mk h)))

theorem kept_execPacketForward {die vc} (h : Tidy s) : Kept (execPacketForward die vc s) := by
  delta execPacketForward
  split
  · exact kept_linkClocked h (kept_next h)
  · split
    · exact kept_linkClocked h (kept_next h)
    · dsimp only
      split
      · exact kept_linkClocked h (kept_next (tidy_setRbit (tidy_releaseSlots (tidy_mk h))))
      · split
        · exact kept_linkClocked h (kept_next (tidy_dropPacket (tidy_mk h)))
        · split
          · exact kept_linkClocked h (kept_next (tidy_deliver (tidy_mk h)))
          · split
            · exact kept_linkClocked h (kept_ite (kept_next h) (kept_next (tidy_releaseSlots (tidy_sendPort (tidy_mk h)))))
            · exact kept_linkClocked h (kept_next (tidy_dropPacket (tidy_mk h)))

/-! ## What harvest and refill share -/

theorem tidy_setCopyBit {p v} (h : Tidy s) : Tidy (setCopyBit s p v) := by
  have hread : ∀ u, Tidy u → ∀ a, Tidy (readMem u 0 a 1).1 := fun _ h _ => tidy_readMem h
  have hdef : @setCopyBit = @setCopyBit := rfl
  conv at hdef => rhs; delta setCopyBit
  rw [hdef]
  obtain ⟨read, hr⟩ : ∃ f, f = readMem := exists_eq
  rw [← hr] at hread ⊢
  beta_reduce
  cases localPage p with
  | none => exact tidy_mk h
  | some x => exact tidy_writeMem (hread _ (tidy_mk h) _)

theorem tidy_setLanding {p n} (h : Tidy s) : Tidy (setLanding s p n) := by
  have hdef : @setLanding = @setLanding := rfl
  conv at hdef => rhs; delta setLanding
  rw [hdef]
  dsimp only
  split
  · exact tidy_mk h
  · exact tidy_writeMem (tidy_mk h)

theorem tidy_clearLandings (h : Tidy s) : Tidy (clearLandings s) := by
  delta clearLandings
  exact tidy_foldl h fun _ h1 _ => tidy_setLanding h1

theorem tidy_setRefillState {st} (h : Tidy s) : Tidy (setRefillState s st) := by
  delta setRefillState
  exact tidy_ite h (tidy_raiseInt (tidy_setRf h))

theorem tidy_harvestDone {ctx status kind refill ks} (h : Tidy s) : Tidy (harvestDone s ctx status kind refill ks) := by
  delta harvestDone
  exact tidy_deviceEvent h

theorem tidy_refillEnded {st ctx kind} (h : Tidy s) : Tidy (refillEnded s st ctx kind) := by
  delta refillEnded
  exact tidy_harvestDone (tidy_setRf h)

theorem tidy_refillAborted {st ctx reason kind left} (h : Tidy s) : Tidy (refillAborted s st ctx reason kind left) := by
  delta refillAborted
  exact tidy_deviceEvent (tidy_setRf (tidy_setRf h))

theorem tidy_setQuarantine {ctx v} (h : Tidy s) : Tidy (setQuarantine s ctx v) := by
  delta setQuarantine
  exact tidy_ite h (tidy_setRbit h)

theorem tidy_quarantineStarted (h : Tidy s) : Tidy (quarantineStarted s) := by
  delta quarantineStarted
  exact tidy_setReg h

theorem tidy_dropUsers {p} (h : Tidy s) : Tidy (dropUsers s p) := tidy_mk h

theorem tidy_refillDone {r} (h : Tidy s) : Tidy (refillDone s r) := by
  delta refillDone
  exact tidy_refillEnded (tidy_ite (tidy_setQuarantine (tidy_clearLandings (tidy_mk h))) (tidy_clearLandings (tidy_mk h)))

theorem tidy_refillAbort {reason} (h : Tidy s) : Tidy (refillAbort s reason) := by
  delta refillAbort
  split
  · exact h
  · exact tidy_refillAborted (tidy_dropUsers (tidy_mk (tidy_clearLandings h)))

theorem tidy_serveAbort {reason} (h : Tidy s) : Tidy (serveAbort s reason) := by
  delta serveAbort
  split
  · exact h
  · exact tidy_refillAborted (tidy_dropUsers (tidy_mk h))

theorem tidy_validPage {p} (h : Tidy s) : Tidy (validPage s p) := by
  delta validPage
  exact tidy_setLanding (tidy_mk h)

theorem tidy_refillLanding {ctx p} (h : Tidy s) : Tidy (refillLanding s ctx p) := by
  delta refillLanding
  split
  · exact h
  · exact tidy_ite
      (tidy_ite (tidy_refillDone (tidy_ite (tidy_setRefillState (tidy_mk h))
      (tidy_ite (tidy_setLanding (tidy_setRefillState (tidy_mk h))) (tidy_validPage (tidy_setRefillState (tidy_mk h))))))
      (tidy_ite (tidy_setRefillState (tidy_mk h)) (tidy_ite (tidy_setLanding (tidy_setRefillState (tidy_mk h)))
      (tidy_validPage (tidy_setRefillState (tidy_mk h)))))) h

theorem tidy_reeveSend {a p} (h : Tidy s) : Tidy (reeveSend s a p) := by
  delta reeveSend
  split
  · exact tidy_route h
  · exact tidy_ite (tidy_mk h) h

theorem tidy_serveSend {port p} (h : Tidy s) : Tidy (serveSend s port p) := by
  delta serveSend
  exact tidy_ite (tidy_sendPort h) (tidy_mk (tidy_incReg h))

theorem tidy_issueReeve {i} (h : Tidy s) : Tidy (issueReeve s i) := by
  delta issueReeve
  split
  · exact h
  · split
    · split
      · exact h
      · split
        · rename_i e
          split
          all_goals
            split
            · exact tidy_serveSend (tidy_setTag (tidy_mk (tidy_of_eq (tidy_ite_fst (tidy_readMem (tidy_throttleAccess h)) h) e)))
            · exact tidy_reeveSend (tidy_setTag (tidy_mk (tidy_of_eq (tidy_ite_fst (tidy_readMem (tidy_throttleAccess h)) h) e)))

/-! ## The home node -/

theorem tidy_takeInbox {t : State} {i type d p} (h : Tidy s) (e : takeInbox s i type = some (d, p, t)) : Tidy t := by
  delta takeInbox at e
  split at e
  · cases e
  · rw [Option.ite_none_right_eq_some] at e
    obtain ⟨-, ⟨⟩⟩ := e
    exact tidy_ite (tidy_releaseSlots (tidy_mk h)) (tidy_mk h)

theorem kept_execReadReq {index} (h : Tidy s) : Kept (execReadReq index s) := by
  delta execReadReq
  split
  · exact kept_linkClocked h (kept_next h)
  · rename_i e
    exact kept_linkClocked h (kept_ite (kept_next (tidy_route (tidy_takeInbox h e)))
      (kept_ite (kept_next h) (kept_next (tidy_route (tidy_readMem (tidy_throttleAccess (tidy_takeInbox h e)))))))

theorem tidy_homeWrite {p} (h : Tidy s) : Tidy (homeWrite s p) := by
  delta homeWrite
  exact tidy_writeMem (tidy_throttleAccess h)

theorem kept_execWriteReq {index} (h : Tidy s) : Kept (execWriteReq index s) := by
  delta execWriteReq
  split
  · exact kept_linkClocked h (kept_next h)
  · rename_i e
    exact kept_linkClocked h (kept_ite (kept_ite (kept_next h) (kept_next (tidy_route (tidy_mk (tidy_takeInbox h e)))))
      (kept_ite (kept_next (tidy_route (tidy_takeInbox h e)))
      (kept_ite (kept_next h) (kept_ite (kept_next (tidy_touchPages h))
      (kept_next (tidy_route (tidy_foldl (tidy_homeWrite (tidy_takeInbox h e)) fun _ h1 _ => tidy_refillLanding h1)))))))

theorem kept_execWritePosted {index} (h : Tidy s) : Kept (execWritePosted index s) := by
  delta execWritePosted
  split
  · exact kept_linkClocked h (kept_next h)
  · rename_i e
    exact kept_linkClocked h
      (kept_ite (kept_next h) (kept_ite (kept_next (tidy_mk (tidy_takeInbox h e)))
      (kept_ite (kept_next h) (kept_ite (kept_next (tidy_touchPages h)) (kept_next (tidy_homeWrite (tidy_takeInbox h e)))))))

theorem kept_execAtomicReq {index} (h : Tidy s) : Kept (execAtomicReq index s) := by
  delta execAtomicReq
  split
  · exact kept_linkClocked h (kept_next h)
  · rename_i e
    exact kept_linkClocked h (kept_ite (kept_next (tidy_route (tidy_takeInbox h e)))
      (kept_ite (kept_next h) (kept_ite (kept_next (tidy_touchPages h))
      (kept_next (tidy_route (tidy_atomicMem (tidy_throttleAccess (tidy_takeInbox h e))))))))

/-! ## Reductions -/

theorem tidy_mapChunk {g ch f} (h : Tidy s) : Tidy (mapChunk s g ch f) := tidy_mk h

theorem tidy_openChunk {g ch ctx owner} (h : Tidy s) : Tidy (openChunk s g ch ctx owner) := by
  delta openChunk
  exact tidy_mk (tidy_countActivity h)

theorem tidy_mapRed {c id f} (h : Tidy s) : Tidy (mapRed s c id f) := by
  delta mapRed
  exact tidy_updCore h

theorem tidy_ownPart {e n places} (h : Tidy s) : Tidy (ownPart s e n places).1 := by
  delta ownPart
  split
  · split
    · rename_i e
      split
      · exact tidy_of_eq (tidy_readRow h) e
      · split
        · split
          · dsimp only
            exact tidy_readRow (tidy_readRow (tidy_of_eq (tidy_readRow h) e))

theorem tidy_readOwn {g ch} (h : Tidy s) : Tidy (readOwn s g ch) := by
  delta readOwn
  split
  · exact h
  · split
    · exact h
    · exact tidy_ite h (tidy_mapChunk (tidy_mapRed (tidy_ownPart h)))

theorem tidy_placeChunks {c id n} (h : Tidy s) : Tidy (placeChunks c id n s) := by
  induction n generalizing s with
  | zero => exact h
  | succ n ih =>
    rw [placeChunks]
    split
    · exact h
    · refine tidy_ite h ?_
      dsimp only
      split
      · exact tidy_ite (ih (tidy_mapRed (tidy_ite h (tidy_incReg (tidy_descFault h)))))
          (ih (tidy_readOwn (tidy_mapRed (tidy_mapChunk h))))
      · exact tidy_ite h (ih (tidy_readOwn (tidy_mapRed (tidy_openChunk h))))

theorem tidy_advanceReduces (h : Tidy s) : Tidy (advanceReduces s) := by
  delta advanceReduces
  exact tidy_foldl h fun _ h1 _ => tidy_foldl h1 fun _ h2 _ => tidy_placeChunks h2

theorem tidy_closeChunk {x f} (h : Tidy s) : Tidy (closeChunk s x f) := by
  delta closeChunk
  split
  · exact tidy_advanceReduces (tidy_mk (tidy_countActivity h))
  · exact tidy_advanceReduces (tidy_mapRed (tidy_mk (tidy_mk (tidy_countActivity h))))

theorem kept_execReduce {c} (h : Tidy s) : Kept (execReduce c s) := by
  delta execReduce
  refine kept_next (tidy_launch h fun u hu e => ?_)
  refine tidy_ite (tidy_advanceHead (tidy_cellarEnd hu)) ?_
  generalize hr : readDesc u _ _ = r
  obtain ⟨s1, img, bad⟩ := r
  have h1 : Tidy s1 := tidy_of_eq (tidy_readDesc hu) hr
  refine tidy_advanceHead (tidy_ite (tidy_refuseDesc h1) ?_)
  dsimp only
  split
  · exact tidy_refuseDesc (tidy_ite (tidy_terrierRecord h1) h1)
  · exact tidy_ite (tidy_refuseDesc h1) (tidy_ite (tidy_cellarEnd h1) (tidy_placeChunks (tidy_setCore h1)))

theorem tidy_sendReduce {port p} (h : Tidy s) : Tidy (sendReduce s port p) := by
  delta sendReduce
  exact tidy_ite (tidy_sendPort h) (tidy_incReg h)

theorem tidy_staleEpoch {g received ingress} (h : Tidy s) : Tidy (staleEpoch s g received ingress) := by
  delta staleEpoch
  exact tidy_ite (tidy_deviceRecord (tidy_mk (tidy_incReg h))) (tidy_incReg h)

theorem kept_execReduceAdd {index} (h : Tidy s) : Kept (execReduceAdd index s) := by
  delta execReduceAdd
  refine kept_linkClocked h ?_
  split
  · exact kept_next h
  · refine kept_ite (kept_next h) ?_
    extract_lets s1
    have h1 : Tidy s1 := tidy_releaseSlots (tidy_mk h)
    refine kept_ite (kept_next (tidy_staleEpoch h1)) (kept_ite (kept_next (tidy_incReg h1)) ?_)
    split
    · exact kept_next (tidy_mapChunk h1)
    · exact kept_ite (kept_next (tidy_incReg h1)) (kept_ite (kept_next h) (kept_next (tidy_mapChunk (tidy_openChunk h1))))

theorem tidy_pageCrcs {l} (h : Tidy s) : Tidy (pageCrcs s l).1 := by
  have hread : ∀ u, Tidy u → ∀ k a n, Tidy (readMem u k a n).1 := fun _ h _ _ _ => tidy_readMem h
  obtain ⟨read, hr⟩ : ∃ f, f = readMem := exists_eq
  delta pageCrcs pageCrcs._f
  rw [← hr] at hread ⊢
  induction l generalizing s with
  | nil => exact h
  | cons x l ih => exact ih (hread _ h ..)

theorem tidy_foldDigest {ctx pages} (h : Tidy s) : Tidy (foldDigest s ctx pages) := by
  delta foldDigest
  exact tidy_setReg64 h

theorem kept_execChunkCombine {index} (h : Tidy s) : Kept (execChunkCombine index s) := by
  delta execChunkCombine
  split
  · exact kept_linkClocked h (kept_next h)
  · split
    · exact kept_linkClocked h (kept_next h)
    · split
      · exact kept_linkClocked h (kept_next h)
      · split
        · exact kept_linkClocked h (kept_next h)
        · split
          · exact kept_linkClocked h (kept_ite (kept_next (tidy_touchPages h))
              (kept_next (tidy_mapChunk (tidy_mapRed (tidy_foldDigest (tidy_writeMem (tidy_pageCrcs h)))))))
          · dsimp only
            split
            · exact kept_linkClocked h (kept_next (tidy_readOwn h))
            · exact kept_linkClocked h
                (kept_ite (kept_next (tidy_ite (tidy_mapChunk (tidy_countActivity (tidy_readOwn h)))
                (tidy_sendReduce (tidy_mapChunk (tidy_countActivity (tidy_readOwn h)))))) (kept_next (tidy_readOwn h)))

theorem tidy_writeOvf {key a nb ovf} (h : Tidy s) : Tidy (writeOvf s key a nb ovf) := by
  delta writeOvf
  exact tidy_writeMem (tidy_readMem h)

theorem tidy_sendChildren {e x p} (h : Tidy s) : Tidy (sendChildren s e x p) := by
  delta sendChildren
  exact tidy_foldl h fun _ h1 _ => tidy_sendReduce h1

theorem tidy_countDiverge {ctx pages} (h : Tidy s) : Tidy (countDiverge s ctx pages) := by
  delta countDiverge
  exact tidy_foldl h fun _ h1 _ => tidy_ite (tidy_setReg (tidy_incReg h1)) (tidy_incReg h1)

theorem kept_execChunkTotalWritten {index} (h : Tidy s) : Kept (execChunkTotalWritten index s) := by
  delta execChunkTotalWritten
  split
  · exact kept_linkClocked h (kept_next h)
  · split
    · split
      · exact kept_linkClocked h (kept_next h)
      · split
        · split
          · exact kept_linkClocked h (kept_next h)
          · exact kept_linkClocked h (kept_ite (kept_next (tidy_closeChunk (tidy_sendChildren (tidy_countDiverge h))))
              (kept_ite (kept_next (tidy_touchPages h))
              (kept_next (tidy_closeChunk (tidy_sendChildren
              (tidy_histRecord (tidy_ite (tidy_writeMem h) (tidy_writeOvf (tidy_writeMem h)))))))))
        · split
          · dsimp only
            split
            · exact kept_linkClocked h (kept_next h)
            · exact kept_linkClocked h (kept_next (tidy_closeChunk (tidy_sendChildren (tidy_countDiverge h))))
          · dsimp only
            split
            · exact kept_linkClocked h (kept_next h)
            · exact kept_linkClocked h (kept_ite (kept_next (tidy_touchPages h))
                (kept_next (tidy_closeChunk (tidy_sendChildren
                (tidy_histRecord (tidy_ite (tidy_writeMem h) (tidy_writeOvf (tidy_writeMem h))))))))
    · exact kept_linkClocked h (kept_next h)

theorem kept_execChunkTimeout {index} (h : Tidy s) : Kept (execChunkTimeout index s) := by
  delta execChunkTimeout
  split
  · exact kept_linkClocked h (kept_next h)
  · split
    · exact kept_linkClocked h (kept_next h)
    · dsimp only
      split
      · exact kept_linkClocked h (kept_next (tidy_closeChunk (tidy_incReg (tidy_coreRecord h))))
      · exact kept_linkClocked h (kept_next (tidy_closeChunk (tidy_incReg (tidy_deviceRecord h))))

theorem tidy_halveBlock {o i hold j} (h : Tidy s) : Tidy (halveBlock s o i hold j) := by
  have hread : ∀ u, Tidy u → ∀ k a n, Tidy (readMem u k a n).1 := fun _ h _ _ _ => tidy_readMem h
  have hwrite : ∀ u, Tidy u → ∀ k a n v, Tidy (writeMem u k a n v) := fun _ h _ _ _ _ => tidy_writeMem h
  delta halveBlock
  obtain ⟨read, hr⟩ : ∃ f, f = readMem := exists_eq
  obtain ⟨write, hw⟩ : ∃ f, f = writeMem := exists_eq
  rw [← hr] at hread ⊢
  rw [← hw] at hwrite ⊢
  exact hwrite _ (hread _ (tidy_ite (hwrite _ (hread _ (hwrite _ (hread _ h ..) ..) ..) ..) (hread _ h ..)) ..) ..

theorem kept_execReduceComplete {c op} (h : Tidy s) : Kept (execReduceComplete c op s) := by
  delta execReduceComplete
  dsimp only
  split
  · exact kept_next h
  · split
    · exact kept_next h
    · split
      · exact kept_next (tidy_touchPages h)
      · split
        · exact kept_next
            (tidy_finishOp
            (tidy_deviceRecord (tidy_ite (tidy_foldl h fun _ h1 _ => tidy_foldl h1 fun _ h2 _ => tidy_halveBlock h2)
            (tidy_addReg (tidy_coreRecord (tidy_foldl h fun _ h1 _ => tidy_foldl h1 fun _ h2 _ => tidy_halveBlock h2))))))
        · exact kept_next (tidy_finishOp (tidy_ite (tidy_foldl h fun _ h1 _ => tidy_foldl h1 fun _ h2 _ => tidy_halveBlock h2)
            (tidy_addReg (tidy_coreRecord (tidy_foldl h fun _ h1 _ => tidy_foldl h1 fun _ h2 _ => tidy_halveBlock h2)))))

/-! ## COMMIT and the step decision -/

theorem tidy_setTscale {ctx slot v} (h : Tidy s) : Tidy (setTscale s ctx slot v) := tidy_mk h

theorem tidy_writeSigma {ctx slot} (h : Tidy s) : Tidy (writeSigma s ctx slot) := by
  delta writeSigma
  exact tidy_foldl h fun _ h1 _ => tidy_writeMem (tidy_writeMem h1)

theorem tidy_zeroAmax {ctx} (h : Tidy s) : Tidy (zeroAmax s ctx) := by
  delta zeroAmax
  exact tidy_foldl h fun _ h1 _ => tidy_foldl h1 fun _ h2 _ => tidy_writeMem h2

theorem tidy_readAmax {ctx slot} (h : Tidy s) : Tidy (readAmax s ctx slot).1 := by
  have hread : ∀ u, Tidy u → ∀ a, Tidy (readMem u 0 a 4).1 := fun _ h _ => tidy_readMem h
  delta readAmax
  obtain ⟨read, hr⟩ : ∃ f, f = readMem := exists_eq
  rw [← hr] at hread ⊢
  exact tidy_foldl_fst h fun _ hy _ => hread _ hy _

theorem tidy_updateTscale {ctx slot} (h : Tidy s) : Tidy (updateTscale s ctx slot) := by
  delta updateTscale
  exact tidy_ite h (tidy_ite (tidy_writeSigma (tidy_setRbit (tidy_readAmax h)))
    (tidy_writeSigma (tidy_setTscale (tidy_readAmax h))))

theorem tidy_updateTscales {ctx} (h : Tidy s) : Tidy (updateTscales s ctx) := by
  delta updateTscales
  exact tidy_zeroAmax (tidy_foldl h fun _ h1 _ => tidy_updateTscale h1)

theorem tidy_writeTables {ctx} (h : Tidy s) : Tidy (writeTables s ctx) := by
  delta writeTables
  exact tidy_foldl h fun _ h1 _ => tidy_writeSigma h1

theorem tidy_setStepState {ctx st} (h : Tidy s) : Tidy (setStepState s ctx st) := by
  delta setStepState
  exact tidy_setRf h

theorem tidy_askHarvest {ctx step} (h : Tidy s) : Tidy (askHarvest s ctx step) := by
  delta askHarvest
  exact tidy_ite (tidy_mk h) h

theorem tidy_finishDecision {ctx g drop} (h : Tidy s) : Tidy (finishDecision s ctx g drop) := by
  delta finishDecision
  exact tidy_setStepState
    (tidy_askHarvest (tidy_mk (tidy_foldl (tidy_setReg (tidy_setReg (tidy_setReg64 (tidy_setRbit (tidy_addReg64 h)))))
    fun _ h1 _ => tidy_updCore h1)))

theorem tidy_decideGo {ctx} (h : Tidy s) : Tidy (decideGo s ctx) := by
  delta decideGo
  exact tidy_finishDecision (tidy_updateTscales (tidy_setStepState h))

theorem tidy_dropChunk {c d i} (h : Tidy s) : Tidy (dropChunk s c d i) := by
  delta dropChunk
  dsimp only
  split
  · exact tidy_ite (tidy_terrierRecord h) h
  · exact h
  · exact tidy_ite (tidy_writeMem h) (tidy_zeroFlags (tidy_writeMem h))

theorem tidy_dropFills {g} (h : Tidy s) : Tidy (dropFills s g) := by
  delta dropFills
  exact tidy_foldl h fun _ h1 _ => tidy_foldl h1 fun _ h2 _ => tidy_dropChunk h2

theorem tidy_applyStepCmd {ctx drop} (h : Tidy s) : Tidy (applyStepCmd s ctx drop) := by
  delta applyStepCmd
  exact tidy_ite (tidy_setStepState h) (tidy_decideGo h)

theorem tidy_writeStepCmd {ctx v} (h : Tidy s) : Tidy (writeStepCmd s ctx v) := by
  delta writeStepCmd
  exact tidy_ite (tidy_refuse h)
    (tidy_ite (tidy_refuse h) (tidy_ite (tidy_refuse h) (tidy_ite h (tidy_ite (tidy_applyStepCmd h) (tidy_setReg h)))))

theorem tidy_resumeStepCmd {ctx} (h : Tidy s) : Tidy (resumeStepCmd s ctx) := by
  delta resumeStepCmd
  exact tidy_ite h (tidy_applyStepCmd (tidy_setReg h))

theorem kept_execCommit {c} (h : Tidy s) : Kept (execCommit c s) := by
  delta execCommit
  dsimp only
  split
  · exact kept_next (tidy_launch h (fun _ h1 _ => tidy_updCore (tidy_advanceHead h1)))
  · split
    · exact kept_next h
    · exact kept_ite (kept_next (tidy_setRf (tidy_setStepState h))) (kept_next h)

theorem kept_execStepReady (h : Tidy s) : Kept (execStepReady s) := by
  delta execStepReady
  split
  · exact kept_next h
  · exact kept_ite (kept_next h) (kept_next (tidy_ite (tidy_decideGo (tidy_contextEvent (tidy_setRf (tidy_setRf h))))
      (tidy_setStepState (tidy_contextEvent (tidy_setRf (tidy_setRf h))))))

theorem kept_execStepDropDone (h : Tidy s) : Kept (execStepDropDone s) := by
  delta execStepDropDone
  exact kept_ite (kept_next h) (kept_ite (kept_next (tidy_touchPages h))
    (kept_ite (kept_next h) (kept_next (tidy_finishDecision (tidy_zeroAmax (tidy_dropFills h))))))

theorem tidy_skipEntries {c n} (h : Tidy s) : Tidy (skipEntries s c n) := by
  delta skipEntries
  exact tidy_updCore h

theorem kept_execEntrySkip {c} (h : Tidy s) : Kept (execEntrySkip c s) := by
  delta execEntrySkip
  dsimp only
  split
  · split
    · exact kept_next h
    · split
      · exact kept_next (tidy_skipEntries (tidy_updCore h))
      · split
        · exact kept_next (tidy_skipEntries (tidy_updCore h))
        · exact kept_next (tidy_skipEntries h)
  · exact kept_next h

/-! ## The Watch and the Harvest -/

theorem tidy_watchAccumulate (h : Tidy s) : Tidy (watchAccumulate s) := by
  delta watchAccumulate
  exact tidy_setReg (tidy_foldl h fun _ h1 _ => tidy_mk (tidy_setReg h1))

theorem kept_execWatchPeriod (h : Tidy s) : Kept (execWatchPeriod s) := by
  delta execWatchPeriod
  split
  · exact kept_next h
  · split
    · exact kept_next h
    · rename_i e
      exact kept_next
        (tidy_ite (tidy_raiseInt (tidy_mk (tidy_healthStep
        (tidy_ite (tidy_raiseInt (tidy_setRf (tidy_watchAccumulate (tidy_fireOnce h e))))
        (tidy_setRf (tidy_watchAccumulate (tidy_fireOnce h e)))))))
        (tidy_healthStep (tidy_ite (tidy_raiseInt (tidy_setRf (tidy_watchAccumulate (tidy_fireOnce h e))))
        (tidy_setRf (tidy_watchAccumulate (tidy_fireOnce h e))))))

theorem tidy_pantryError {status queue} (h : Tidy s) : Tidy (pantryError s status queue) := by
  delta pantryError
  exact tidy_deviceRecord h

theorem tidy_nvmeSubmit {c} (h : Tidy s) : Tidy (nvmeSubmit s c) := by
  delta nvmeSubmit
  exact tidy_ite (tidy_emit (tidy_mk h)) (tidy_mk h)

theorem tidy_nvmeNext {queue} (h : Tidy s) : Tidy (nvmeNext s queue) := by
  delta nvmeNext
  split
  · exact h
  · exact tidy_ite (tidy_emit (tidy_mk h)) h

theorem tidy_nvmeBlock {write lba addr n} (h : Tidy s) : Tidy (nvmeBlock s write lba addr n) := by
  delta nvmeBlock
  exact tidy_foldl h fun _ h1 _ => tidy_nvmeSubmit h1

theorem tidy_drainStage {r d k block storeBlock} (h : Tidy s) : Tidy (drainStage s r d k block storeBlock) := by
  delta drainStage
  split
  all_goals
    split
    · exact tidy_nvmeBlock (tidy_mk h)
    · exact tidy_mk (tidy_nvmeBlock (tidy_mk h))

theorem tidy_noteStall {page} (h : Tidy s) : Tidy (noteStall s page) := by
  delta noteStall
  exact tidy_ite (tidy_setReg (tidy_mk h)) (tidy_mk h)

theorem tidy_harvestAbort {status} (h : Tidy s) : Tidy (harvestAbort s status) := by
  delta harvestAbort
  split
  · exact h
  · exact tidy_resubmit
      (tidy_harvestDone
      (tidy_dropUsers (tidy_mk (tidy_foldl (tidy_foldl h fun _ h1 _ => tidy_noteStall h1) fun _ h1 _ => tidy_setCopyBit h1))))

theorem tidy_harvestComplete {r} (h : Tidy s) : Tidy (harvestComplete s r) := by
  delta harvestComplete
  exact tidy_harvestDone (tidy_incReg (tidy_mk h))

theorem tidy_harvestAdvance (h : Tidy s) : Tidy (harvestAdvance s) := by
  delta harvestAdvance
  split
  · exact h
  · split
    · exact h
    · split
      all_goals
        split
        · exact tidy_ite (tidy_ite (tidy_nvmeSubmit (tidy_mk h)) (tidy_drainStage (tidy_writeMem h))) h
        · exact tidy_ite (tidy_nvmeSubmit (tidy_mk h)) (tidy_drainStage (tidy_writeMem h))
        · exact tidy_nvmeSubmit (tidy_mk h)
        · exact h
        · exact h

theorem tidy_harvestHeader {r} (h : Tidy s) : Tidy (harvestHeader s r) := by
  delta harvestHeader
  exact tidy_ite (tidy_mk (tidy_nvmeBlock (tidy_mk (tidy_writeMem (tidy_writeMem h)))))
    (tidy_nvmeBlock (tidy_mk (tidy_writeMem (tidy_writeMem h))))

theorem tidy_stageDrained {addr pantry} (h : Tidy s) : Tidy (stageDrained s addr pantry) := by
  delta stageDrained
  split
  · exact h
  · exact tidy_harvestAdvance (tidy_mk h)

theorem tidy_armHarvest {ctx} (h : Tidy s) : Tidy (armHarvest s ctx) := by
  delta armHarvest
  exact tidy_harvestAdvance (tidy_setReg64 (tidy_foldl (tidy_mk h) fun _ h1 _ => tidy_setCopyBit h1))

theorem kept_execHarvestArm (h : Tidy s) : Kept (execHarvestArm s) := by
  delta execHarvestArm
  exact kept_ite (kept_next (tidy_armHarvest h)) (kept_next h)

theorem kept_execHarvest {c} (h : Tidy s) : Kept (execHarvest c s) := by
  delta execHarvest
  dsimp only
  generalize readyEntry s c.val .harvest = r
  cases r with
  | none => exact kept_next h
  | some e =>
    refine kept_ite (kept_next (tidy_almFault h)) (kept_ite (kept_next h) (kept_next ?_))
    refine tidy_foldl (tidy_ite (tidy_armHarvest h) h) fun u hu d => ?_
    split
    · exact tidy_advanceHead (tidy_noteLaunch hu)
    · exact hu

theorem kept_execPageCopyDone {die} (h : Tidy s) : Kept (execPageCopyDone die s) := by
  have hread : ∀ k a, Tidy (readMem s k a (2 ^ 21)).1 := fun _ _ => tidy_readMem h
  delta execPageCopyDone
  obtain ⟨read, hr⟩ : ∃ f, f = readMem s := exists_eq
  obtain ⟨crc, hc⟩ : ∃ f, f = crc64 := exists_eq
  rw [← hr] at hread ⊢
  rw [← hc]
  split
  · exact kept_next h
  · split
    · exact kept_ite (kept_next h)
        (kept_next (tidy_resubmit (tidy_drainStage (tidy_noteStall (tidy_setCopyBit (tidy_writeMem (hread ..)))))))
    · exact kept_next h

theorem kept_execHarvestStallLimit {page} (h : Tidy s) : Kept (execHarvestStallLimit page s) := by
  delta execHarvestStallLimit
  exact kept_ite (kept_next (tidy_harvestAbort h)) (kept_next h)

/-! ## Refills from an image -/

theorem tidy_refillRead {r block n m} (h : Tidy s) : Tidy (refillRead s r block n m) := by
  delta refillRead
  exact tidy_ite (tidy_nvmeBlock (tidy_mk h)) (tidy_mk (tidy_mk h))

theorem tidy_writeRoots {ctx roots} (h : Tidy s) : Tidy (writeRoots s ctx roots) := by
  delta writeRoots
  refine tidy_foldl h fun u hu x => ?_
  split
  · exact tidy_writeMem hu
  · exact hu

theorem tidy_installContext {r} (h : Tidy s) : Tidy (installContext s r) := by
  delta installContext
  exact tidy_setReg64
    (tidy_foldl
    (tidy_foldl
    (tidy_setReg64 (tidy_writeRoots (tidy_foldl (tidy_foldl h fun _ h1 _ => tidy_mk h1) fun _ h1 _ => tidy_updCore h1)))
    fun _ h1 _ => tidy_setTscale h1) fun _ h1 _ => tidy_setReg (tidy_setReg h1))

theorem tidy_installFabric {r} (h : Tidy s) : Tidy (installFabric s r) := by
  delta installFabric
  exact tidy_ite h (tidy_foldl (tidy_foldl (tidy_mk h) fun _ h1 _ => tidy_mk h1) fun _ h1 _ => tidy_mk h1)

theorem tidy_installRecords {r} (h : Tidy s) : Tidy (installRecords s r) := by
  delta installRecords
  exact tidy_mk (tidy_installFabric (tidy_installContext h))

theorem tidy_refillNextPage {r i} (h : Tidy s) : Tidy (refillNextPage s r i) := by
  delta refillNextPage
  split
  · exact tidy_refillRead h
  · exact tidy_refillDone (tidy_installRecords h)

theorem tidy_refillHeader {r} (h : Tidy s) : Tidy (refillHeader s r) := by
  have hdef : @refillHeader = @refillHeader := rfl
  conv at hdef => rhs; delta refillHeader
  rw [hdef]
  beta_reduce
  generalize hx : readMem s 0 (refillAddr s) 4096 = x
  obtain ⟨s1, v, ok⟩ := x
  have h1 : Tidy s1 := tidy_of_eq (tidy_readMem h) hx
  exact tidy_ite (tidy_refillAbort h1) (tidy_ite (tidy_refillAbort h1) (tidy_refillRead h1))

theorem tidy_refillRows {r} (h : Tidy s) : Tidy (refillRows s r) := by
  delta refillRows
  exact tidy_ite (tidy_refillAbort h) (tidy_refillNextPage (tidy_ite (tidy_mk h) h))

theorem tidy_refillBlock {r} (h : Tidy s) : Tidy (refillBlock s r) := by
  have hread : ∀ a, Tidy (readMem s 0 a (2 ^ 21)).1 := fun _ => tidy_readMem h
  delta refillBlock
  obtain ⟨read, hr⟩ : ∃ f, f = readMem s 0 := exists_eq
  obtain ⟨crc, hc⟩ : ∃ f, f = crc64 := exists_eq
  rw [← hr] at hread ⊢
  rw [← hc]
  dsimp only
  split
  · exact tidy_refillHeader h
  · exact tidy_ite (tidy_refillRead (hread _)) (tidy_refillRows (hread _))
  · exact tidy_ite (tidy_refillAbort (hread _)) (tidy_refillNextPage (tidy_validPage (tidy_writeMem (hread _))))
  · exact h

theorem tidy_refillAnswered (h : Tidy s) : Tidy (refillAnswered s) := by
  delta refillAnswered
  split
  · exact h
  · exact tidy_ite (tidy_refillBlock (tidy_mk h)) (tidy_mk h)

theorem tidy_prepareRefill {kind ctx} (h : Tidy s) : Tidy (prepareRefill s kind ctx) := by
  delta prepareRefill
  exact tidy_ite (tidy_refuse h)
    (tidy_ite (tidy_refuse h) (tidy_ite (tidy_refuse h) (tidy_setRefillState (tidy_setRf (tidy_mk h)))))

theorem tidy_startImageRefill (h : Tidy s) : Tidy (startImageRefill s) := by
  delta startImageRefill
  split
  · exact tidy_ite (tidy_refuse h) h
  · exact tidy_ite (tidy_refuse h) (tidy_ite h (tidy_ite (tidy_refuse h) (tidy_refillRead (tidy_setRefillState h))))

theorem tidy_abortRefill (h : Tidy s) : Tidy (abortRefill s) := by
  delta abortRefill
  exact tidy_ite (tidy_refillAbort h) (tidy_ite (tidy_serveAbort h) h)

theorem tidy_ackRefill (h : Tidy s) : Tidy (ackRefill s) := by
  delta ackRefill
  exact tidy_ite (tidy_setRefillState h) h

theorem tidy_serveRefill {ctx} (h : Tidy s) : Tidy (serveRefill s ctx) := by
  delta serveRefill
  exact tidy_ite (tidy_refuse h)
    (tidy_ite (tidy_refuse h)
    (tidy_ite (tidy_refuse h) (tidy_ite (tidy_refuse h) (tidy_ite (tidy_refillEnded (tidy_mk (tidy_setRefillState (tidy_mk h))))
    (tidy_setRefillState (tidy_mk h))))))

theorem tidy_serveAnswered {status} (h : Tidy s) : Tidy (serveAnswered s status) := by
  delta serveAnswered
  split
  · exact h
  · exact tidy_ite (tidy_serveAbort h) (tidy_ite (tidy_refillEnded (tidy_mk h)) (tidy_mk h))

theorem tidy_writeRefillCmd {v} (h : Tidy s) : Tidy (writeRefillCmd s v) := by
  delta writeRefillCmd
  split
  · exact h
  · exact tidy_prepareRefill h
  · exact tidy_startImageRefill h
  · exact tidy_abortRefill h
  · exact tidy_serveRefill h
  · exact tidy_ackRefill h
  · exact tidy_refuse h

theorem kept_execSourceSilent (h : Tidy s) : Kept (execSourceSilent s) := by
  delta execSourceSilent
  split
  · exact kept_next h
  · exact kept_ite (kept_next (tidy_refillAbort h)) (kept_next h)

theorem tidy_decryptStage {c} (h : Tidy s) : Tidy (decryptStage s c) := by
  delta decryptStage
  refine tidy_foldl h fun u hu j => ?_
  split
  rename_i e
  exact tidy_writeMem (tidy_of_eq (tidy_readMem hu) e)

theorem tidy_pantryFailed {c status} (h : Tidy s) : Tidy (pantryFailed s c status) := by
  delta pantryFailed
  exact tidy_ite (tidy_refillAbort (tidy_pantryError h)) (tidy_ite (tidy_harvestAbort (tidy_pantryError h)) (tidy_pantryError h))

theorem tidy_pantryDone {c log} (h : Tidy s) : Tidy (pantryDone s c log) := by
  delta pantryDone
  split
  · exact tidy_stageDrained h
  · exact tidy_refillAnswered (tidy_decryptStage h)
  · exact tidy_ite (tidy_raiseInt (tidy_setReg h)) (tidy_setReg h)
  · split
    · exact h
    · exact tidy_ite (tidy_harvestHeader h) (tidy_ite (tidy_harvestComplete h) h)

theorem kept_execPantryCompletion {index status log} (h : Tidy s) : Kept (execPantryCompletion index status log s) := by
  delta execPantryCompletion
  split
  · exact kept_next h
  · exact kept_next (tidy_ite (tidy_pantryDone (tidy_nvmeNext (tidy_mk h))) (tidy_pantryFailed (tidy_nvmeNext (tidy_mk h))))

theorem kept_execPantryCmdTimeout {index} (h : Tidy s) : Kept (execPantryCmdTimeout index s) := by
  delta execPantryCmdTimeout
  split
  · exact kept_next h
  · exact kept_ite (kept_next (tidy_pantryFailed (tidy_emit (tidy_nvmeNext (tidy_mk h))))) (kept_next h)

theorem tidy_bufferBytes {c a n} (h : Tidy s) : Tidy (bufferBytes s c a n).1 := by
  have hread : ∀ u, Tidy u → ∀ a, Tidy (readMem u 0 a 4096).1 := fun _ h _ => tidy_readMem h
  delta bufferBytes
  obtain ⟨read, hr⟩ : ∃ f, f = readMem := exists_eq
  rw [← hr] at hread ⊢
  exact tidy_foldl_fst h fun _ hy _ => hread _ hy _

theorem kept_execDriveMemoryRequest {req} (h : Tidy s) : Kept (execDriveMemoryRequest req s) := by
  delta execDriveMemoryRequest
  split
  · exact kept_next h
  · split
    · exact kept_next (tidy_emit (tidy_bufferBytes h))
    · exact kept_next (tidy_emit h)
  · split
    · exact kept_next (tidy_writeMem h)
    · exact kept_next (tidy_emit h)

theorem kept_execSmartRefresh (h : Tidy s) : Kept (execSmartRefresh s) := by
  delta execSmartRefresh
  split
  · exact kept_next h
  · split
    · exact kept_next h
    · rename_i e
      exact kept_next (tidy_nvmeSubmit (tidy_fireOnce h e))

theorem tidy_latchDrive {d} (h : Tidy s) : Tidy (latchDrive s d) := by
  delta latchDrive
  exact tidy_setReg64 (tidy_setReg (tidy_setReg (tidy_ite h (tidy_foldl h fun _ h1 _ => tidy_emit h1))))

end Sys2Proof.Machine
end

section
/-!
SUPPORT. The operations of the host's side, the engines, the tables, the resets and the registers keep the canonical form of
memory.
-/
namespace Sys2Proof.Machine

variable {s : State}

/-! ## Host windows and doorbells -/

theorem tidy_windowFault {fn status reason addr} (h : Tidy s) : Tidy (windowFault s fn status reason addr) := by
  delta windowFault
  exact tidy_incReg (tidy_deviceRecord h)

theorem tidy_windowTarget {t : State} {fn a n perm r} (h : Tidy s) (e : windowTarget s fn a n perm = .error (t, r)) : Tidy t := by
  delta windowTarget at e
  split at e
  · cases e
    exact h
  · split at e
    · cases e
    · cases e
      exact tidy_devqPush h

theorem tidy_releaseReads (h : Tidy s) : Tidy (releaseReads s) := tidy_mk h

theorem kept_execWindowRead {fn dw len ide} (h : Tidy s) : Kept (execWindowRead fn dw len ide s) := by
  delta execWindowRead
  split
  · exact kept_ite (kept_next (tidy_unsupported h)) (kept_next h)
  · dsimp only
    split
    · exact kept_next (tidy_unsupported h)
    · split
      · rename_i e
        exact kept_next (tidy_emit (tidy_windowFault (tidy_windowTarget h e)))
      · exact kept_next (tidy_releaseReads (tidy_mk h))

theorem kept_execWindowWrite {fn dw data ide} (h : Tidy s) : Kept (execWindowWrite fn dw data ide s) := by
  delta execWindowWrite
  dsimp only
  split
  · exact kept_next (tidy_unsupported h)
  · split
    · exact kept_next h
    · split
      · rename_i e
        exact kept_next (tidy_windowFault (tidy_windowTarget h e))
      · exact kept_next (tidy_foldl (tidy_mk h) fun _ h1 _ => tidy_reeveSend h1)

theorem tidy_hostFlushed {node status} (h : Tidy s) : Tidy (hostFlushed s node status) := by
  delta hostFlushed
  exact tidy_releaseReads (tidy_mk (tidy_ite h (tidy_windowFault h)))

theorem tidy_hostAnswered {id t status data} (h : Tidy s) : Tidy (hostAnswered s id t status data) := by
  delta hostAnswered
  split
  · exact h
  · exact tidy_ite (tidy_emit (tidy_mk (tidy_ite (tidy_windowFault h) h))) (tidy_mk (tidy_ite (tidy_windowFault h) h))

theorem tidy_refuseDoorbell {ctx code} (h : Tidy s) : Tidy (refuseDoorbell s ctx code) := by
  delta refuseDoorbell
  exact tidy_setRf (tidy_setRbit h)

theorem tidy_doorbellWrite {ctx off v f} (h : Tidy s) (hf : ∀ u, Tidy u → Tidy (f u)) :
    Tidy (doorbellWrite s ctx off v f) := by
  delta doorbellWrite
  exact tidy_ite h (tidy_ite (tidy_refuseDoorbell h) (tidy_ite (hf _ h) (tidy_refuseDoorbell h)))

theorem tidy_writeRing {ctx slot word v} (h : Tidy s) : Tidy (writeRing s ctx slot word v) := by
  delta writeRing
  exact tidy_doorbellWrite h fun _ h1 => tidy_setReg h1

theorem kept_execDoorbell {ctx slot word value ide} (h : Tidy s) : Kept (execDoorbell ctx slot word value ide s) := by
  delta execDoorbell
  exact kept_ite (kept_next (tidy_unsupported h)) (kept_next (tidy_writeRing h))

theorem tidy_writeEvqCfg {ctx v} (h : Tidy s) : Tidy (writeEvqCfg s ctx v) := by
  delta writeEvqCfg
  exact tidy_doorbellWrite h fun _ h1 => tidy_ite (tidy_refuseDoorbell h1) (tidy_setRbit (tidy_setReg h1))

theorem kept_execEvqEnable {ctx value ide} (h : Tidy s) : Kept (execEvqEnable ctx value ide s) := by
  delta execEvqEnable
  exact kept_ite (kept_next (tidy_unsupported h)) (kept_next (tidy_writeEvqCfg h))

theorem tidy_writeEvqHead {ctx v} (h : Tidy s) : Tidy (writeEvqHead s ctx v) := by
  delta writeEvqHead
  exact tidy_doorbellWrite h fun _ h1 => tidy_ite (tidy_refuseDoorbell h1) (tidy_setReg h1)

theorem kept_execEvqHeadWrite {ctx value ide} (h : Tidy s) : Kept (execEvqHeadWrite ctx value ide s) := by
  delta execEvqHeadWrite
  exact kept_ite (kept_next (tidy_unsupported h)) (kept_next (tidy_writeEvqHead h))

theorem kept_execEvqMessage {ctx} (h : Tidy s) : Kept (execEvqMessage ctx s) := by
  delta execEvqMessage
  exact kept_ite (kept_next (tidy_sendMsix (tidy_mk h))) (kept_next h)

theorem kept_execPcieLink {speed width flit} (h : Tidy s) : Kept (execPcieLink speed width flit s) := by
  delta execPcieLink
  exact kept_next (tidy_ite (tidy_ite (tidy_setReg h) (tidy_raiseInt (tidy_setReg h))) (tidy_deviceEvent (tidy_setReg h)))

theorem kept_execIdeFail {stream} (h : Tidy s) : Kept (execIdeFail stream s) := by
  delta execIdeFail
  exact kept_next (tidy_deviceRecord (tidy_setRbit h))

theorem kept_execIdeKm {stream} (h : Tidy s) : Kept (execIdeKm stream s) := by
  delta execIdeKm
  exact kept_next (tidy_ite (tidy_setRbit h) h)

theorem tidy_maskMsix {fn v masked} (h : Tidy s) : Tidy (maskMsix s fn v masked) := by
  delta maskMsix
  exact tidy_ite (tidy_emit (tidy_mk (tidy_mk h))) (tidy_mk h)

theorem tidy_configAccess {a} (h : Tidy s) : Tidy (configAccess s a) := by
  delta configAccess
  split
  · exact h
  · exact tidy_mk h
  · exact tidy_maskMsix h
  · exact tidy_emit h
  · exact tidy_mk h
  · exact tidy_emit h

/-! ## Answers and tags -/

theorem kept_execTxnIssue {issuer} (h : Tidy s) : Kept (execTxnIssue issuer s) := by
  delta execTxnIssue
  split
  · exact kept_linkClocked h (kept_next (tidy_issueOp h))
  · exact kept_linkClocked h (kept_next (tidy_issueReeve h))

theorem tidy_answerUser {u t status data timeout} (h : Tidy s) : Tidy (answerUser s u t status data timeout) := by
  delta answerUser
  split
  · exact tidy_answerOp h
  · exact tidy_hostAnswered h
  · exact tidy_hostFlushed h
  · exact tidy_ite (tidy_stageDrained h) (tidy_harvestAbort h)
  · exact tidy_ite (tidy_refillAnswered (tidy_writeMem h)) (tidy_refillAbort h)
  · exact tidy_serveAnswered h
  · exact h

theorem tidy_answerPacket {index type} (h : Tidy s) : Tidy (answerPacket s index type) := by
  delta answerPacket
  split
  · exact h
  · rename_i e
    split
    · exact tidy_ite h (tidy_ite (tidy_touchPages h) (tidy_answerUser (tidy_setTag (tidy_takeInbox h e))))
    · exact tidy_incReg (tidy_takeInbox h e)

theorem kept_execReadRsp {index} (h : Tidy s) : Kept (execReadRsp index s) := by
  delta execReadRsp
  exact kept_next (tidy_answerPacket h)

theorem kept_execStatusRsp {index} (h : Tidy s) : Kept (execStatusRsp index s) := by
  delta execStatusRsp
  exact kept_next (tidy_answerPacket h)

theorem kept_execAtomicRsp {index} (h : Tidy s) : Kept (execAtomicRsp index s) := by
  delta execAtomicRsp
  exact kept_next (tidy_answerPacket h)

theorem tidy_timeoutRecord {sunit tag u t} (h : Tidy s) : Tidy (timeoutRecord s sunit tag u t) := by
  delta timeoutRecord
  split
  · exact tidy_coreRecord h
  · exact tidy_ite (tidy_coreRecord h) (tidy_deviceRecord h)

theorem kept_execTagTimeout {sunit tag} (h : Tidy s) : Kept (execTagTimeout sunit tag s) := by
  delta execTagTimeout
  split
  · exact kept_linkClocked h
      (kept_ite (kept_next h) (kept_ite (kept_next (tidy_touchPages h))
      (kept_next (tidy_answerUser (tidy_setTag (tidy_incReg (tidy_timeoutRecord h)))))))
  · exact kept_linkClocked h (kept_next h)

theorem kept_execTagRetireEnd {sunit tag} (h : Tidy s) : Kept (execTagRetireEnd sunit tag s) := by
  delta execTagRetireEnd
  split
  · exact kept_ite (kept_next (tidy_setTag h)) (kept_next h)
  · exact kept_next h

/-! ## The Bell -/

theorem tidy_dropPulse (h : Tidy s) : Tidy (dropPulse s) := by
  delta dropPulse
  exact tidy_ite (tidy_emit (tidy_mk h)) h

theorem tidy_setBellState {st} (h : Tidy s) : Tidy (setBellState s st) := by
  delta setBellState
  exact tidy_ite h (tidy_dropPulse (tidy_raiseInt (tidy_mk (tidy_setRf h))))

theorem tidy_bellRecord {code} (h : Tidy s) : Tidy (bellRecord s code) := by
  delta bellRecord
  exact tidy_contextRecord h

theorem tidy_bellAcquire (h : Tidy s) : Tidy (bellAcquire s) := by
  delta bellAcquire
  exact tidy_setBellState (tidy_mk (tidy_setRbit h))

theorem tidy_bellAdrift (h : Tidy s) : Tidy (bellAdrift s) := by
  delta bellAdrift
  exact tidy_bellRecord (tidy_setBellState (tidy_setRbit h))

theorem tidy_bellLock (h : Tidy s) : Tidy (bellLock s) := by
  delta bellLock
  exact tidy_ite h (tidy_bellRecord (tidy_setBellState h))

theorem tidy_correctTime {target} (h : Tidy s) : Tidy (correctTime s target) := by
  delta correctTime
  exact tidy_ite (tidy_mk h) (tidy_mk h)

theorem tidy_bellControl (h : Tidy s) : Tidy (bellControl s) := by
  delta bellControl
  exact tidy_dropPulse (tidy_ite (tidy_ite (tidy_setBellState h) (tidy_mk (tidy_setBellState h)))
    (tidy_ite (tidy_setBellState h) (tidy_ite (tidy_bellAcquire h) h)))

theorem tidy_tick (h : Tidy s) : Tidy (tick s) := by
  delta tick
  exact tidy_ite (tidy_mk h) (tidy_mk h)

theorem tidy_sendLocal {p slot} (h : Tidy s) : Tidy (sendLocal s p slot) := by
  delta sendLocal
  exact tidy_ite (tidy_updPort h) h

theorem kept_execBellFrameTimer (h : Tidy s) : Kept (execBellFrameTimer s) := by
  delta execBellFrameTimer
  split
  · split
    · exact kept_next h
    · rename_i e
      exact kept_next (tidy_foldl (tidy_fireOnce h e) fun _ h1 _ => tidy_sendLocal h1)
  · exact kept_next h

theorem kept_execDelayReqTimer (h : Tidy s) : Kept (execDelayReqTimer s) := by
  delta execDelayReqTimer
  split
  · exact kept_ite (kept_next h) (kept_next h)
  · rename_i e
    exact kept_ite (kept_next (tidy_sendLocal (tidy_updPort (tidy_fireOnce h e)))) (kept_next h)

theorem kept_execDelayReq {port} (h : Tidy s) : Kept (execDelayReq port s) := by
  delta execDelayReq
  dsimp only
  split
  · exact kept_next h
  · rename_i e
    exact kept_ite (kept_next (tidy_sendLocal (tidy_takeLocal h e))) (kept_next (tidy_takeLocal h e))

theorem kept_execDelayResp {port} (h : Tidy s) : Kept (execDelayResp port s) := by
  delta execDelayResp
  dsimp only
  split
  · exact kept_next h
  · rename_i e
    split
    · exact kept_next (tidy_takeLocal h e)
    · exact kept_ite (kept_next (tidy_takeLocal h e)) (kept_next (tidy_setReg (tidy_updPort (tidy_takeLocal h e))))

theorem tidy_slewOff {off} (h : Tidy s) : Tidy (slewOff s off) := tidy_mk h

theorem tidy_bellFrame {off arrived since} (h : Tidy s) : Tidy (bellFrame s off arrived since) := by
  delta bellFrame
  exact tidy_ite
    (tidy_ite (tidy_slewOff (tidy_bellLock (tidy_mk (tidy_ite (tidy_bellAcquire (tidy_setReg (tidy_mk h)))
    (tidy_setReg (tidy_mk h))))))
    (tidy_correctTime (tidy_mk (tidy_ite (tidy_bellAcquire (tidy_setReg (tidy_mk h))) (tidy_setReg (tidy_mk h))))))
    (tidy_ite (tidy_ite (tidy_bellAdrift (tidy_setReg (tidy_mk h)))
    (tidy_ite (tidy_slewOff (tidy_bellLock (tidy_setReg (tidy_mk h)))) (tidy_slewOff (tidy_setReg (tidy_mk h)))))
    (tidy_setReg (tidy_mk h)))

theorem kept_execBellSync {port} (h : Tidy s) : Kept (execBellSync port s) := by
  delta execBellSync
  dsimp only
  split
  · exact kept_next h
  · rename_i e
    exact kept_ite (kept_next (tidy_takeLocal h e)) (kept_next (tidy_bellFrame (tidy_takeLocal h e)))

theorem kept_execBellHoldover (h : Tidy s) : Kept (execBellHoldover s) := by
  delta execBellHoldover
  exact kept_ite (kept_next (tidy_bellRecord (tidy_setBellState h))) (kept_next h)

theorem kept_execBelltimeHoldEnd (h : Tidy s) : Kept (execBelltimeHoldEnd s) := by
  delta execBelltimeHoldEnd
  exact kept_ite (kept_next (tidy_mk h)) (kept_next h)

theorem kept_execBellOutPulse (h : Tidy s) : Kept (execBellOutPulse s) := by
  delta execBellOutPulse
  exact kept_ite (kept_next (tidy_emit (tidy_mk h))) (kept_next h)

theorem kept_execBellOutPulseEnd (h : Tidy s) : Kept (execBellOutPulseEnd s) := by
  delta execBellOutPulseEnd
  split
  · exact kept_next h
  · exact kept_ite (kept_next (tidy_emit (tidy_mk h))) (kept_next h)

theorem kept_execBellInEdge (h : Tidy s) : Kept (execBellInEdge s) := by
  delta execBellInEdge
  exact kept_next (tidy_ite (tidy_mk (tidy_raiseInt (tidy_setReg64 h))) (tidy_raiseInt (tidy_setReg64 h)))

theorem tidy_writeSetHi {value} (h : Tidy s) : Tidy (writeSetHi s value) := by
  delta writeSetHi
  exact tidy_ite (tidy_refuse h) (tidy_ite (tidy_refuse h) (tidy_correctTime (tidy_setReg h)))

/-! ## Table pages -/

theorem tidy_loadStage {b e} (h : Tidy s) : Tidy (loadStage s b e) := by
  delta loadStage
  exact tidy_foldl h fun _ h1 _ => tidy_setReg h1

theorem tidy_commitTerrier {i e} (h : Tidy s) : Tidy (commitTerrier s i e) := by
  delta commitTerrier
  exact tidy_setRbit (tidy_mk (tidy_freshWord h))

theorem tidy_writeTerrier3 {v} (h : Tidy s) : Tidy (writeTerrier3 s v) := by
  delta writeTerrier3
  exact tidy_ite (tidy_refuse (tidy_setReg h)) (tidy_commitTerrier (tidy_setReg h))

theorem kept_execTerrierCommit {value} (h : Tidy s) : Kept (execTerrierCommit value s) := by
  delta execTerrierCommit
  exact kept_next (tidy_hostWrite h (fun _ h1 => tidy_writeTerrier3 h1))

theorem kept_execTerrierUpdateDone (h : Tidy s) : Kept (execTerrierUpdateDone s) := by
  delta execTerrierUpdateDone
  split
  · exact kept_next h
  · exact kept_next (tidy_raiseInt (tidy_setRbit (tidy_mk h)))

theorem tidy_writeGroup3 {v} (h : Tidy s) : Tidy (writeGroup3 s v) := by
  delta writeGroup3
  exact tidy_ite (tidy_refuse (tidy_setReg h)) (tidy_mk (tidy_setReg h))

theorem kept_execGroupCommit {value} (h : Tidy s) : Kept (execGroupCommit value s) := by
  delta execGroupCommit
  exact kept_next (tidy_hostWrite h (fun _ h1 => tidy_writeGroup3 h1))

theorem tidy_writeLaneEntry {v} (h : Tidy s) : Tidy (writeLaneEntry s v) := tidy_mk h

theorem kept_execLanemapEntryWrite {value} (h : Tidy s) : Kept (execLanemapEntryWrite value s) := by
  delta execLanemapEntryWrite
  exact kept_next (tidy_hostWrite h (fun _ h1 => tidy_writeLaneEntry h1))

theorem tidy_writeSel {b v} (h : Tidy s) : Tidy (writeSel s b v) := by
  delta writeSel
  split
  · exact tidy_refuse h
  · split
    · exact tidy_refuse h
    · split
      · exact tidy_loadStage (tidy_setReg h)
      · exact tidy_loadStage (tidy_setReg h)
      · exact tidy_setReg h

theorem kept_execSelWrite {page value} (h : Tidy s) : Kept (execSelWrite page value s) := by
  delta execSelWrite
  split
  · exact kept_next h
  · exact kept_ite (kept_next (tidy_hostWrite h (fun _ h1 => tidy_writeSel h1))) (kept_next h)

theorem tidy_writeNode {v} (h : Tidy s) : Tidy (writeNode s v) := by
  delta writeNode
  exact tidy_ite (tidy_refuse h) (tidy_ite (tidy_refuse h) (tidy_setRbit (tidy_setRf h)))

theorem kept_execNodeWrite {value} (h : Tidy s) : Kept (execNodeWrite value s) := by
  delta execNodeWrite
  exact kept_next (tidy_writeNode h)

/-! ## Management and the mailbox -/

theorem tidy_putMbox {off l} (h : Tidy s) : Tidy (putMbox s off l) := by
  delta putMbox
  exact tidy_foldl h fun _ h1 _ => tidy_setReg h1

theorem tidy_beginCmd {c} (h : Tidy s) : Tidy (beginCmd s c) := by
  delta beginCmd
  exact tidy_setRf (tidy_setRf (tidy_setRf h))

theorem tidy_endCmd {result} (h : Tidy s) : Tidy (endCmd s result) := by
  delta endCmd
  exact tidy_raiseInt (tidy_setRf (tidy_setRf h))

theorem tidy_sendSr {port p} (h : Tidy s) : Tidy (sendSr s port p) := by
  delta sendSr
  exact tidy_ite (tidy_sendPort h) (tidy_incReg h)

theorem tidy_takeMgmt {t : State} {i rsp p} (h : Tidy s) (e : takeMgmt s i rsp = some (p, t)) : Tidy t := by
  have htaken : ∀ l, Tidy { s with inbox := l } := fun _ => tidy_mk h
  delta takeMgmt at e
  dsimp only at e
  repeat' split at e
  all_goals cases e
  all_goals exact htaken _

theorem kept_execMgmtSrRelay {index} (h : Tidy s) : Kept (execMgmtSrRelay index s) := by
  delta execMgmtSrRelay
  split
  · exact kept_next h
  · split
    · exact kept_ite (kept_next h) (kept_next (tidy_sendSr (tidy_mk h)))
    · exact kept_next h

theorem tidy_answerMgmt {req status payload} (h : Tidy s) : Tidy (answerMgmt s req status payload) := by
  delta answerMgmt
  split
  · exact tidy_sendSr h
  · split
    · exact tidy_route h
    · exact h

theorem kept_execIdentify {index} (h : Tidy s) : Kept (execIdentify index s) := by
  delta execIdentify
  split
  · exact kept_next h
  · rename_i e
    exact kept_ite (kept_next (tidy_answerMgmt (tidy_takeMgmt h e)))
      (kept_ite (kept_next h) (kept_next (tidy_answerMgmt (tidy_takeMgmt h e))))

theorem kept_execAssign {index} (h : Tidy s) : Kept (execAssign index s) := by
  delta execAssign
  split
  · exact kept_next h
  · rename_i e
    exact kept_ite (kept_next h) (kept_ite (kept_next (tidy_answerMgmt (tidy_takeMgmt h e)))
      (kept_next (tidy_answerMgmt (tidy_devqPush (tidy_setReg (tidy_setRbit (tidy_setRf (tidy_takeMgmt h e))))))))

theorem tidy_applyLaneWrite {v} (h : Tidy s) : Tidy (applyLaneWrite s v) := by
  delta applyLaneWrite
  exact tidy_foldl h fun _ h1 _ => tidy_foldl h1 fun _ h2 _ => tidy_mk h2

theorem kept_execLanemapWrite {index} (h : Tidy s) : Kept (execLanemapWrite index s) := by
  delta execLanemapWrite
  split
  · exact kept_next h
  · rename_i e
    exact kept_ite (kept_next h) (kept_ite (kept_next (tidy_answerMgmt (tidy_takeMgmt h e)))
      (kept_ite (kept_next (tidy_answerMgmt (tidy_takeMgmt h e)))
      (kept_next (tidy_answerMgmt (tidy_applyLaneWrite (tidy_takeMgmt h e))))))

theorem kept_execGroupWrite {index} (h : Tidy s) : Kept (execGroupWrite index s) := by
  delta execGroupWrite
  split
  · exact kept_next h
  · rename_i e
    exact kept_ite (kept_next h) (kept_ite (kept_next (tidy_answerMgmt (tidy_takeMgmt h e)))
      (kept_ite (kept_next (tidy_answerMgmt (tidy_takeMgmt h e))) (kept_next (tidy_answerMgmt (tidy_mk (tidy_takeMgmt h e))))))

theorem tidy_beginMgmt (h : Tidy s) : Tidy (beginMgmt s).1 := by
  delta beginMgmt
  split
  · rename_i e
    exact tidy_setRf (tidy_beginCmd (tidy_mk (tidy_of_eq (tidy_freshWord h) e)))

theorem tidy_sendMgmt (h : Tidy s) : Tidy (sendMgmt s) := by
  delta sendMgmt
  split
  · exact tidy_refuse h
  · split
    · rename_i e
      split
      · exact tidy_route (tidy_of_eq (tidy_beginMgmt h) e)
      · exact tidy_of_eq (tidy_beginMgmt h) e

theorem tidy_sendMgmtSr (h : Tidy s) : Tidy (sendMgmtSr s) := by
  delta sendMgmtSr
  exact tidy_ite (tidy_refuse h) (tidy_ite (tidy_refuse h) (tidy_sendSr (tidy_beginMgmt h)))

theorem tidy_writeMgmtCmd {v} (h : Tidy s) : Tidy (writeMgmtCmd s v) := by
  delta writeMgmtCmd
  exact tidy_ite (tidy_refuse h) (tidy_ite (tidy_sendMgmtSr h) (tidy_ite (tidy_sendMgmt h) h))

theorem kept_execMgmtSend (h : Tidy s) : Kept (execMgmtSend s) := by
  delta execMgmtSend
  exact kept_next (tidy_sendMgmt h)

theorem kept_execMgmtSrSend (h : Tidy s) : Kept (execMgmtSrSend s) := by
  delta execMgmtSrSend
  exact kept_next (tidy_sendMgmtSr h)

theorem kept_execMgmtResponse {index} (h : Tidy s) : Kept (execMgmtResponse index s) := by
  delta execMgmtResponse
  split
  · exact kept_next h
  · rename_i e
    split
    · exact kept_next (tidy_takeMgmt h e)
    · exact kept_ite (kept_next (tidy_takeMgmt h e)) (kept_next (tidy_endCmd (tidy_putMbox (tidy_mk (tidy_takeMgmt h e)))))

theorem kept_execMgmtTimeout (h : Tidy s) : Kept (execMgmtTimeout s) := by
  delta execMgmtTimeout
  split
  · exact kept_next h
  · exact kept_ite (kept_next h) (kept_next (tidy_endCmd (tidy_mk h)))

theorem tidy_firmware {op slot} (h : Tidy s) : Tidy (firmware s op slot) := by
  delta firmware
  exact tidy_ite (tidy_refuse h)
    (tidy_ite (tidy_refuse h)
    (tidy_ite (tidy_refuse h) (tidy_ite (tidy_beginCmd (tidy_mk h)) (tidy_emit (tidy_beginCmd (tidy_mk h))))))

theorem kept_execFwErase {slot} (h : Tidy s) : Kept (execFwErase slot s) := by
  delta execFwErase
  exact kept_next (tidy_firmware h)

theorem kept_execFwWrite {slot} (h : Tidy s) : Kept (execFwWrite slot s) := by
  delta execFwWrite
  exact kept_next (tidy_firmware h)

theorem kept_execFwVerify {slot} (h : Tidy s) : Kept (execFwVerify slot s) := by
  delta execFwVerify
  exact kept_next (tidy_firmware h)

theorem kept_execFwCmdDone {result} (h : Tidy s) : Kept (execFwCmdDone result s) := by
  delta execFwCmdDone
  split
  · exact kept_next h
  · exact kept_next (tidy_endCmd (tidy_mk h))

/-! ## The matrix array -/

theorem tidy_readRows {c base n i} (h : Tidy s) : Tidy (readRows s c base n i).1 := by
  have hread : ∀ u, Tidy u → ∀ a, Tidy (readMem u 0 a n).1 := fun _ h _ => tidy_readMem h
  delta readRows readRows._f
  obtain ⟨read, hr⟩ : ∃ f, f = readMem := exists_eq
  obtain ⟨place, hp⟩ : ∃ f, f = larderAddr := exists_eq
  rw [← hr] at hread ⊢
  rw [← hp]
  induction i with
  | zero => exact h
  | succ i ih => exact hread _ ih _

theorem tidy_readOperands {c d j0 p} (h : Tidy s) : Tidy (readOperands s c d j0 p).1 := by
  have hread : ∀ u, Tidy u → ∀ a n, Tidy (readMem u 0 a n).1 := fun _ h _ _ => tidy_readMem h
  have hrows : ∀ u, Tidy u → ∀ base n i, Tidy (readRows u c base n i).1 := fun _ h _ _ _ => tidy_readRows h
  delta readOperands
  obtain ⟨read, hr⟩ : ∃ f, f = readMem := exists_eq
  obtain ⟨rows, hw⟩ : ∃ f, f = readRows := exists_eq
  rw [← hr] at hread ⊢
  rw [← hw] at hrows ⊢
  refine hread _ ?_ _ _
  refine tidy_ite_fst (hrows _ ?_ ..) ?_ <;>
    exact tidy_ite_fst (hrows _ (hrows _ (hrows _ h ..) ..) ..) (hrows _ (hrows _ h ..) ..)

theorem tidy_drainRow {c sl m fresh overwrite st row} (h : Tidy s) : Tidy (drainRow s c sl m fresh overwrite st row) := by
  delta drainRow
  exact tidy_writeMem (tidy_ite_fst h (tidy_readMem h))

theorem tidy_drainTile {c sl fresh overwrite st v m} (h : Tidy s) : Tidy (drainTile s c sl fresh overwrite st v m) := by
  induction m with
  | zero => exact h
  | succ m ih => exact tidy_drainRow ih

theorem tidy_drainNan {c sl} (h : Tidy s) : Tidy (drainNan s c sl) := by
  delta drainNan
  exact tidy_foldl h fun _ h1 _ => tidy_writeMem h1

theorem kept_execMatrix {c} (h : Tidy s) : Kept (execMatrix c s) := by
  delta execMatrix
  exact kept_next
    (tidy_launch h (fun _ h1 _ => tidy_ite (tidy_advanceHead (tidy_cellarEnd h1))
    (tidy_advanceHead (tidy_updCore (tidy_ite (tidy_readDesc h1) (tidy_incReg (tidy_descFault (tidy_readDesc h1))))))))

theorem kept_execMatrixStart {c} (h : Tidy s) : Kept (execMatrixStart c s) := by
  delta execMatrixStart
  dsimp only
  split
  · exact kept_next h
  · exact kept_ite (kept_next h) (kept_ite (kept_ite (kept_next h) (kept_next (tidy_incReg (tidy_updCore h))))
      (kept_next (tidy_updCore h)))

theorem kept_execPromotionDrain {c} (h : Tidy s) : Kept (execPromotionDrain c s) := by
  delta execPromotionDrain
  dsimp only
  split
  · exact kept_next h
  · exact kept_clocked h
      (kept_next (tidy_updCore (tidy_countActivity (tidy_addReg64
      (tidy_ite (tidy_drainNan (tidy_drainTile (tidy_readOperands h))) (tidy_drainTile (tidy_readOperands h)))))))

theorem kept_execTileQueuePush {c} (h : Tidy s) : Kept (execTileQueuePush c s) := by
  delta execTileQueuePush
  dsimp only
  split
  · exact kept_next h
  · exact kept_ite (kept_next h) (kept_ite (kept_ite (kept_next h) (kept_next (tidy_incReg (tidy_updCore h))))
      (kept_next (tidy_updCore h)))

theorem kept_execMatrixComplete {c} (h : Tidy s) : Kept (execMatrixComplete c s) := by
  delta execMatrixComplete
  dsimp only
  split
  · exact kept_next h
  · exact kept_ite (kept_next (tidy_updCore h)) (kept_next h)

theorem kept_execMatrixRefusedComplete {c} (h : Tidy s) : Kept (execMatrixRefusedComplete c s) := by
  delta execMatrixRefusedComplete
  dsimp only
  split
  · exact kept_next h
  · exact kept_ite (kept_next (tidy_updCore h)) (kept_next h)

theorem tidy_writeTallyClear {c v} (h : Tidy s) : Tidy (writeTallyClear s c v) := by
  delta writeTallyClear
  exact tidy_ite (tidy_refuse h) (tidy_ite (tidy_refuse h) (tidy_updCore h))

/-! ## The vector engine -/

theorem tidy_seedCore {c n} (h : Tidy s) : Tidy (seedCore s c n) := by
  delta seedCore
  exact tidy_updCore h

theorem tidy_seedHeld {c a} (h : Tidy s) : Tidy (seedHeld s c a) := by
  delta seedHeld
  split
  · exact tidy_seedCore h
  · exact h

theorem tidy_endRun {c r poison} (h : Tidy s) : Tidy (endRun s c r poison) := by
  delta endRun
  exact tidy_seedHeld (tidy_updCore h)

theorem tidy_vecFault {c r reason pc} (h : Tidy s) : Tidy (vecFault s c r reason pc) := by
  delta vecFault
  exact tidy_endRun (tidy_incReg (tidy_descFault (tidy_setRf (tidy_setRf h))))

theorem tidy_vecNext {c r poison} (h : Tidy s) : Tidy (vecNext s c r poison) := by
  delta vecNext
  exact tidy_ite (tidy_vecFault h) (tidy_updCore h)

theorem tidy_countIssue {c w} (h : Tidy s) : Tidy (countIssue s c w) := by
  delta countIssue
  exact tidy_ite (tidy_countActivity (tidy_countActivity (tidy_addReg64 h))) (tidy_countActivity (tidy_addReg64 h))

theorem tidy_vecIssue {c mine act} (h : Tidy s) (hf : ∀ u, Tidy u → ∀ x0 x1, Loaded (act u x0 x1)) :
    Tidy (vecIssue s c mine act) := by
  delta vecIssue
  split
  · exact h
  · refine tidy_ite h ?_
    dsimp only
    split
    · exact tidy_vecFault (tidy_countIssue h)
    · rename_i e
      exact tidy_vecNext (hf _ (tidy_countIssue h) _ _ _ _ e)

theorem tidy_vecAlu {c opc ok f} (h : Tidy s) : Tidy (vecAlu c opc ok f s) := by
  delta vecAlu
  exact tidy_vecIssue h fun _ h1 _ _ => loaded_ite (loaded_ok (tidy_updCore h1)) loaded_error

theorem tidy_laneOp2 {c opc f} (h : Tidy s) : Tidy (laneOp2 c opc f s) := by
  delta laneOp2
  exact tidy_vecAlu h

theorem tidy_laneOp3 {c opc f} (h : Tidy s) : Tidy (laneOp3 c opc f s) := by
  delta laneOp3
  exact tidy_vecAlu h

theorem tidy_laneOp1 {c opc bits ok f} (h : Tidy s) : Tidy (laneOp1 c opc bits ok f s) := by
  delta laneOp1
  exact tidy_vecAlu h

theorem tidy_laneCmp {c opc f} (h : Tidy s) : Tidy (laneCmp c opc f s) := by
  delta laneCmp
  exact tidy_vecAlu h

theorem tidy_maskOp {c opc b f} (h : Tidy s) : Tidy (maskOp c opc b f s) := by
  delta maskOp
  exact tidy_vecAlu h

theorem tidy_readWordSet {l} (h : Tidy s) : Tidy (readWordSet s l).1 := by
  induction l with
  | nil => exact h
  | cons w l ih => exact tidy_ite_fst ih (tidy_readWord ih)

theorem tidy_writeSet {l} (h : Tidy s) : Tidy (writeSet s l) := by
  induction l generalizing s with
  | nil => exact h
  | cons x l ih => exact ih (tidy_writeWord h)

theorem loaded_vecLoad {c w} (h : Tidy s) : Loaded (vecLoad s c w) := by
  delta vecLoad
  split
  · exact loaded_error
  · dsimp only
    split
    · exact loaded_error
    · split
      · exact loaded_error
      · exact loaded_ok (tidy_updCore (tidy_readWordSet h))

theorem loaded_vecStore {c r w} (h : Tidy s) : Loaded (vecStore s c r w) := by
  delta vecStore
  split
  · exact loaded_error
  · split
    all_goals
      split
      · dsimp only
        split
        · exact loaded_error
        · split
          · exact loaded_error
          · exact loaded_ok (tidy_histRecord (tidy_updCore (tidy_writeSet h)))
      · dsimp only
        split
        · exact loaded_error
        · split
          · exact loaded_error
          · exact loaded_ok (tidy_updCore (tidy_writeSet h))

theorem loaded_vecStoreBlock {c r w} (h : Tidy s) : Loaded (vecStoreBlock s c r w) := by
  delta vecStoreBlock
  split
  · split
    all_goals
      dsimp only
      split
      · exact loaded_error
      · split
        · exact loaded_ite loaded_error (loaded_ok (tidy_histRecord (tidy_updCore (tidy_writeSet (tidy_writeSet h)))))
        · exact loaded_error
  · exact loaded_error

theorem tidy_vecLoop {c} (h : Tidy s) : Tidy (vecLoop s c) := by
  delta vecLoop
  split
  · exact h
  · exact tidy_ite h (tidy_ite (tidy_vecFault h) (tidy_ite (tidy_vecFault h) (tidy_updCore h)))

theorem kept_execVector {c} (h : Tidy s) : Kept (execVector c s) := by
  delta execVector
  exact kept_next
    (tidy_launch h (fun _ h1 _ => tidy_ite (tidy_advanceHead (tidy_cellarEnd h1))
    (tidy_advanceHead (tidy_updCore (tidy_ite (tidy_readDesc h1) (tidy_incReg (tidy_descFault (tidy_readDesc h1))))))))

theorem kept_execVectorStart {c} (h : Tidy s) : Kept (execVectorStart c s) := by
  delta execVectorStart
  dsimp only
  split
  · exact kept_next h
  · exact kept_ite (kept_next h) (kept_next (tidy_updCore h))

theorem kept_execVectorRefusedComplete {c} (h : Tidy s) : Kept (execVectorRefusedComplete c s) := by
  delta execVectorRefusedComplete
  dsimp only
  split
  · exact kept_next h
  · exact kept_ite (kept_next (tidy_seedHeld (tidy_updCore h))) (kept_next h)

theorem kept_execLoadComplete {c} (h : Tidy s) : Kept (execLoadComplete c s) := by
  delta execLoadComplete
  dsimp only
  split
  · exact kept_next h
  · exact kept_ite (kept_next h) (kept_clocked h (kept_next (tidy_seedHeld (tidy_updCore (tidy_readMem h)))))

theorem kept_execTileTake {c} (h : Tidy s) : Kept (execTileTake c s) := by
  delta execTileTake
  dsimp only
  split
  · exact kept_next h
  · split
    · exact kept_next h
    · split
      · exact kept_ite (kept_next h) (kept_next (tidy_incReg (tidy_updCore h)))
      · exact kept_next (tidy_updCore h)

theorem kept_execTileRelease {c} (h : Tidy s) : Kept (execTileRelease c s) := by
  delta execTileRelease
  dsimp only
  split
  · exact kept_next h
  · exact kept_ite (kept_clocked h (kept_next (tidy_updCore h))) (kept_next h)

theorem kept_execVectorComplete {c} (h : Tidy s) : Kept (execVectorComplete c s) := by
  delta execVectorComplete
  dsimp only
  split
  · exact kept_next h
  · exact kept_ite (kept_next h) (kept_clocked h (kept_next (tidy_updCore h)))

theorem kept_execNop {c} (h : Tidy s) : Kept (execNop c s) := by
  delta execNop
  exact kept_next (tidy_vecIssue h (fun _ h1 _ _ => loaded_ite (loaded_ok h1) loaded_error))

theorem kept_execAdd {c} (h : Tidy s) : Kept (execAdd c s) := by
  delta execAdd
  exact kept_next (tidy_laneOp2 h)

theorem kept_execSub {c} (h : Tidy s) : Kept (execSub c s) := by
  delta execSub
  exact kept_next (tidy_laneOp2 h)

theorem kept_execMul {c} (h : Tidy s) : Kept (execMul c s) := by
  delta execMul
  exact kept_next (tidy_laneOp2 h)

theorem kept_execFma {c} (h : Tidy s) : Kept (execFma c s) := by
  delta execFma
  exact kept_next (tidy_laneOp3 h)

theorem kept_execFms {c} (h : Tidy s) : Kept (execFms c s) := by
  delta execFms
  exact kept_next (tidy_laneOp3 h)

theorem kept_execMin {c} (h : Tidy s) : Kept (execMin c s) := by
  delta execMin
  exact kept_next (tidy_laneOp2 h)

theorem kept_execMax {c} (h : Tidy s) : Kept (execMax c s) := by
  delta execMax
  exact kept_next (tidy_laneOp2 h)

theorem kept_execCmp {c} (h : Tidy s) : Kept (execCmp c s) := by
  delta execCmp
  exact kept_next (tidy_laneCmp h)

theorem kept_execSel {c} (h : Tidy s) : Kept (execSel c s) := by
  delta execSel
  exact kept_next (tidy_vecAlu h)

theorem kept_execExp2 {c} (h : Tidy s) : Kept (execExp2 c s) := by
  delta execExp2
  exact kept_next (tidy_laneOp1 h)

theorem kept_execLog2 {c} (h : Tidy s) : Kept (execLog2 c s) := by
  delta execLog2
  exact kept_next (tidy_laneOp1 h)

theorem kept_execRcp {c} (h : Tidy s) : Kept (execRcp c s) := by
  delta execRcp
  exact kept_next (tidy_laneOp1 h)

theorem kept_execRsq {c} (h : Tidy s) : Kept (execRsq c s) := by
  delta execRsq
  exact kept_next (tidy_laneOp1 h)

theorem kept_execCvt {c} (h : Tidy s) : Kept (execCvt c s) := by
  delta execCvt
  exact kept_next (tidy_vecAlu h)

theorem kept_execCvtf {c} (h : Tidy s) : Kept (execCvtf c s) := by
  delta execCvtf
  exact kept_next (tidy_vecAlu h)

theorem kept_execPerm {c} (h : Tidy s) : Kept (execPerm c s) := by
  delta execPerm
  exact kept_next (tidy_vecAlu h)

theorem kept_execBfly {c} (h : Tidy s) : Kept (execBfly c s) := by
  delta execBfly
  exact kept_next (tidy_vecAlu h)

theorem kept_execRot {c} (h : Tidy s) : Kept (execRot c s) := by
  delta execRot
  exact kept_next (tidy_vecAlu h)

theorem kept_execIlv {c} (h : Tidy s) : Kept (execIlv c s) := by
  delta execIlv
  exact kept_next (tidy_vecAlu h)

theorem kept_execDlv {c} (h : Tidy s) : Kept (execDlv c s) := by
  delta execDlv
  exact kept_next (tidy_vecAlu h)

theorem kept_execPack {c} (h : Tidy s) : Kept (execPack c s) := by
  delta execPack
  exact kept_next (tidy_vecAlu h)

theorem kept_execUnpack {c} (h : Tidy s) : Kept (execUnpack c s) := by
  delta execUnpack
  exact kept_next (tidy_vecAlu h)

theorem kept_execRed {c} (h : Tidy s) : Kept (execRed c s) := by
  delta execRed
  exact kept_next (tidy_vecAlu h)

theorem kept_execIadd {c} (h : Tidy s) : Kept (execIadd c s) := by
  delta execIadd
  exact kept_next (tidy_laneOp2 h)

theorem kept_execAnd {c} (h : Tidy s) : Kept (execAnd c s) := by
  delta execAnd
  exact kept_next (tidy_laneOp2 h)

theorem kept_execOr {c} (h : Tidy s) : Kept (execOr c s) := by
  delta execOr
  exact kept_next (tidy_laneOp2 h)

theorem kept_execXor {c} (h : Tidy s) : Kept (execXor c s) := by
  delta execXor
  exact kept_next (tidy_laneOp2 h)

theorem kept_execShl {c} (h : Tidy s) : Kept (execShl c s) := by
  delta execShl
  exact kept_next (tidy_laneOp1 h)

theorem kept_execShr {c} (h : Tidy s) : Kept (execShr c s) := by
  delta execShr
  exact kept_next (tidy_laneOp1 h)

theorem kept_execSra {c} (h : Tidy s) : Kept (execSra c s) := by
  delta execSra
  exact kept_next (tidy_laneOp1 h)

theorem kept_execImin {c} (h : Tidy s) : Kept (execImin c s) := by
  delta execImin
  exact kept_next (tidy_laneOp2 h)

theorem kept_execImax {c} (h : Tidy s) : Kept (execImax c s) := by
  delta execImax
  exact kept_next (tidy_laneOp2 h)

theorem kept_execIcmp {c} (h : Tidy s) : Kept (execIcmp c s) := by
  delta execIcmp
  exact kept_next (tidy_laneCmp h)

theorem kept_execIota {c} (h : Tidy s) : Kept (execIota c s) := by
  delta execIota
  exact kept_next (tidy_vecAlu h)

theorem kept_execMand {c} (h : Tidy s) : Kept (execMand c s) := by
  delta execMand
  exact kept_next (tidy_maskOp h)

theorem kept_execMor {c} (h : Tidy s) : Kept (execMor c s) := by
  delta execMor
  exact kept_next (tidy_maskOp h)

theorem kept_execMxor {c} (h : Tidy s) : Kept (execMxor c s) := by
  delta execMxor
  exact kept_next (tidy_maskOp h)

theorem kept_execMnot {c} (h : Tidy s) : Kept (execMnot c s) := by
  delta execMnot
  exact kept_next (tidy_maskOp h)

theorem kept_execLd {c} (h : Tidy s) : Kept (execLd c s) := by
  delta execLd
  exact kept_next (tidy_vecIssue h (fun _ h1 _ _ => loaded_vecLoad h1))

theorem kept_execSt {c} (h : Tidy s) : Kept (execSt c s) := by
  delta execSt
  exact kept_next (tidy_vecIssue h (fun _ h1 _ _ => loaded_vecStore h1))

theorem kept_execStb {c} (h : Tidy s) : Kept (execStb c s) := by
  delta execStb
  exact kept_next (tidy_vecIssue h (fun _ h1 _ _ => loaded_vecStoreBlock h1))

theorem kept_execAadd {c} (h : Tidy s) : Kept (execAadd c s) := by
  delta execAadd
  exact kept_next (tidy_vecIssue h (fun _ h1 _ _ => loaded_ite (loaded_ok (tidy_updCore h1)) loaded_error))

theorem tidy_vecTrel {c} (h : Tidy s) : Tidy (execTrel.vecTrel c s) := by
  delta execTrel.vecTrel
  split
  · exact h
  · exact tidy_ite h (tidy_ite (tidy_vecFault (tidy_countIssue h)) (tidy_vecNext (tidy_countIssue h)))

theorem kept_execTrel {c} (h : Tidy s) : Kept (execTrel c s) := by
  delta execTrel
  exact kept_next (tidy_vecTrel h)

theorem kept_execVectorLoop {c} (h : Tidy s) : Kept (execVectorLoop c s) := by
  delta execVectorLoop
  exact kept_next (tidy_vecLoop h)

theorem tidy_vecEnd {c} (h : Tidy s) : Tidy (execEndProgram.vecEnd c s) := by
  delta execEndProgram.vecEnd
  split
  · exact h
  · exact tidy_ite h (tidy_ite (tidy_vecFault (tidy_countIssue h)) (tidy_endRun (tidy_countIssue h)))

theorem kept_execEndProgram {c} (h : Tidy s) : Kept (execEndProgram c s) := by
  delta execEndProgram
  exact kept_next (tidy_vecEnd h)

theorem kept_execSeed {c} (h : Tidy s) : Kept (execSeed c s) := by
  delta execSeed
  exact kept_next
    (tidy_launch h (fun _ h1 _ => tidy_advanceHead (tidy_ite (tidy_updCore h1) (tidy_ite (tidy_updCore h1) (tidy_seedCore h1)))))

theorem kept_execHist {c} (h : Tidy s) : Kept (execHist c s) := by
  delta execHist
  exact kept_next (tidy_launch h (fun _ h1 _ => tidy_advanceHead (tidy_updCore h1)))

/-! ## Work that ends early -/

theorem tidy_closeOwned {c id} (h : Tidy s) : Tidy (closeOwned s c id) := by
  delta closeOwned
  exact tidy_foldl h fun _ h1 _ => tidy_closeChunk h1

theorem tidy_endOp {c o} (h : Tidy s) : Tidy (endOp s c o) := by
  delta endOp
  exact tidy_closeOwned (tidy_finishOp (tidy_dropUsers h))

theorem tidy_seedsDue {c} (h : Tidy s) : Tidy (seedsDue s c) := by
  delta seedsDue
  exact tidy_ite (tidy_seedHeld (tidy_updCore h)) (tidy_seedHeld (tidy_updCore (tidy_seedHeld (tidy_updCore h))))

theorem tidy_endEngines {c f} (h : Tidy s) (hf : ∀ u, Tidy u → ∀ x0 x1, Tidy (f u x0 x1)) : Tidy (endEngines s c f) := by
  delta endEngines
  exact tidy_seedsDue (tidy_updCore (tidy_foldl (tidy_foldl h fun _ h1 _ => hf _ h1 ..) fun _ h1 _ => hf _ h1 ..))

theorem tidy_resetCoreWork {c} (h : Tidy s) : Tidy (resetCoreWork s c) := by
  delta resetCoreWork
  dsimp only
  split
  · exact tidy_endEngines h fun _ h1 _ _ => tidy_cellarEnd h1
  · exact tidy_refillReset (tidy_endEngines h (fun _ h1 _ _ => tidy_cellarEnd h1))

theorem tidy_resetCoreOps {d c} (h : Tidy s) : Tidy (resetCoreOps s d c) := by
  delta resetCoreOps
  exact tidy_foldl h fun _ h1 _ => tidy_endOp (tidy_cellarRecord h1)

theorem tidy_cellarSweep {d} (h : Tidy s) : Tidy (cellarSweep s d) := by
  delta cellarSweep
  exact tidy_foldl (tidy_foldl h fun _ h1 _ => tidy_resetCoreWork h1) fun _ h1 _ => tidy_resetCoreOps h1

theorem tidy_fenceCore {c} (h : Tidy s) : Tidy (fenceCore s c) := by
  delta fenceCore
  exact tidy_updCore (tidy_foldl (tidy_endEngines h (fun _ h1 _ _ => tidy_completeFlag h1)) fun _ h1 _ => tidy_endOp h1)

theorem tidy_stopMove {c o} (h : Tidy s) : Tidy (stopMove s c o) := by
  delta stopMove
  exact tidy_ite h (tidy_moveRows (tidy_freshWord h))

theorem tidy_abandonCores {cs} (h : Tidy s) : Tidy (abandonCores s cs) := by
  delta abandonCores
  exact tidy_mk (tidy_dropUsers (tidy_foldl h fun _ h1 _ => tidy_foldl h1 fun _ h2 _ => tidy_stopMove h2))

theorem tidy_closeContext {ctx} (h : Tidy s) : Tidy (closeContext s ctx) := tidy_mk h

/-! ## ENABLE checks -/

theorem tidy_setCtxState {c st} (h : Tidy s) : Tidy (setCtxState s c st) := by
  delta setCtxState
  exact tidy_ite h (tidy_raiseInt (tidy_setRf h))

theorem tidy_setSaved {c v} (h : Tidy s) : Tidy (setSaved s c v) := by
  delta setSaved
  exact tidy_setRbit h

theorem tidy_setEnabled {b i v} (h : Tidy s) : Tidy (setEnabled s b i v) := by
  delta setEnabled
  split
  · exact tidy_setRbit (tidy_setRbit h)
  · exact h

theorem tidy_enablePage {b i} (h : Tidy s) : Tidy (enablePage s b i) := by
  delta enablePage
  split
  · exact tidy_ite (tidy_setCtxState (tidy_setEnabled h)) (tidy_setEnabled h)
  · exact tidy_ite (tidy_setEnabled h) (tidy_portEnabled (tidy_setEnabled h))
  · exact tidy_mk (tidy_setEnabled h)
  · exact tidy_foldl (tidy_setEnabled h) fun _ h1 _ => tidy_nvmeNext h1
  · exact tidy_setEnabled h

theorem tidy_reeveEnable {b i} (h : Tidy s) : Tidy (reeveEnable s b i) := by
  delta reeveEnable
  split
  · exact h
  · split
    · exact tidy_refuse h
    · exact tidy_enablePage h

theorem tidy_reeveEnableAll {b l} (h : Tidy s) : Tidy (reeveEnableAll s b l) := by
  delta reeveEnableAll
  exact tidy_foldl h fun _ h1 _ => tidy_reeveEnable h1

theorem tidy_reeveEnableAfter {k b l} (h : Tidy s) : Tidy (reeveEnableAfter k s b l) := by
  delta reeveEnableAfter
  exact tidy_ite h (tidy_reeveEnableAll h)

/-! ## Keys and wipes -/

theorem tidy_drawKey {slot} (h : Tidy s) : Tidy (drawKey s slot) := tidy_mk h

theorem tidy_freeSlot {slot} (h : Tidy s) : Tidy (freeSlot s slot) := by
  delta freeSlot
  exact tidy_setReg (tidy_drawKey h)

theorem tidy_destroyKeys {p} (h : Tidy s) : Tidy (destroyKeys s p) := by
  delta destroyKeys
  exact tidy_foldl h fun _ h1 _ => tidy_freeSlot h1

theorem tidy_writeSlotCmd {v} (h : Tidy s) : Tidy (writeSlotCmd s v) := by
  delta writeSlotCmd
  exact tidy_ite (tidy_refuse h)
    (tidy_ite (tidy_refuse h)
    (tidy_ite (tidy_ite (tidy_refuse h) (tidy_ite (tidy_refuse h) (tidy_ite (tidy_refuse h) (tidy_setReg (tidy_drawKey h)))))
    (tidy_ite (tidy_ite (tidy_refuse h) (tidy_ite (tidy_refuse h) (tidy_freeSlot h))) h)))

theorem kept_execAssignSlot {owner} (h : Tidy s) : Kept (execAssignSlot owner s) := by
  delta execAssignSlot
  exact kept_next (tidy_hostWrite h (fun _ h1 => tidy_writeSlotCmd h1))

theorem kept_execReleaseSlot (h : Tidy s) : Kept (execReleaseSlot s) := by
  delta execReleaseSlot
  exact kept_next (tidy_hostWrite h (fun _ h1 => tidy_writeSlotCmd h1))

theorem kept_execEntropyFail (h : Tidy s) : Kept (execEntropyFail s) := by
  delta execEntropyFail
  exact kept_next (tidy_deviceEvent (tidy_setRbit h))

theorem tidy_wipeDieFar {d} (h : Tidy s) : Tidy (wipeDieFar s d) := by
  delta wipeDieFar
  exact tidy_foldl (tidy_wipeWritten h) fun _ h1 _ => tidy_wipeWritten h1

theorem tidy_wipeCellar {keep d} (h : Tidy s) : Tidy (wipeCellar s keep d) := by
  delta wipeCellar
  exact tidy_zeroFill (tidy_zeroFill (tidy_zeroFill h))

theorem tidy_wipeCellars (h : Tidy s) : Tidy (wipeCellars s) := by
  delta wipeCellars
  exact tidy_foldl h fun _ h1 _ => tidy_wipeCellar h1

theorem tidy_beginWipe {w} (h : Tidy s) : Tidy (beginWipe s w) := by
  delta beginWipe
  exact tidy_setRbit (tidy_mk h)

theorem tidy_wipeDoneRecord {scope unit since} (h : Tidy s) : Tidy (wipeDoneRecord s scope unit since) := by
  delta wipeDoneRecord
  exact tidy_deviceRecord h

theorem tidy_enableReturned {c} (h : Tidy s) : Tidy (enableReturned s c) := by
  delta enableReturned
  exact tidy_ite (tidy_reeveEnableAll (tidy_mk h)) h

theorem tidy_contextFreed {c} (h : Tidy s) : Tidy (contextFreed s c) := by
  delta contextFreed
  exact tidy_resetPages (tidy_mk (tidy_setCtxState (tidy_enableReturned h)))

theorem kept_execWipeDone {index} (h : Tidy s) : Kept (execWipeDone index s) := by
  delta execWipeDone
  split
  · exact kept_next h
  · split
    · exact kept_next h
    · split
      · split
        · exact kept_next (tidy_wipeDoneRecord (tidy_mk h))
        · exact kept_next (tidy_wipeDoneRecord (tidy_mk h))
        · exact kept_next (tidy_contextFreed (tidy_wipeDoneRecord (tidy_mk h)))
      · split
        · exact kept_next (tidy_wipeDoneRecord (tidy_setRbit (tidy_mk h)))
        · exact kept_next (tidy_wipeDoneRecord (tidy_setRbit (tidy_mk h)))
        · exact kept_next (tidy_contextFreed (tidy_wipeDoneRecord (tidy_setRbit (tidy_mk h))))

/-! ## Starting a context -/

theorem tidy_codewords {key n w} (h : Tidy s) : Tidy (codewords s key n w).1 := by
  induction n generalizing s w with
  | zero => exact h
  | succ n ih => exact ih (tidy_readWord h)

theorem tidy_rootTable {key a} (h : Tidy s) : Tidy (rootTable s key a).1 := by
  delta rootTable
  split
  · rename_i e
    exact tidy_of_eq (tidy_codewords h) e

theorem tidy_readRoot {ctx} (h : Tidy s) : Tidy (readRoot s ctx).1 := by
  delta readRoot
  split
  · exact h
  · split
    · exact h
    · split
      · rename_i e
        exact tidy_of_eq (tidy_rootTable h) e

theorem tidy_startCore {ctx outside c w} (h : Tidy s) : Tidy (startCore s ctx outside c w) := by
  delta startCore
  exact tidy_ite (tidy_almFault (tidy_updCore (tidy_ite (tidy_cellarRecord h) h)))
    (tidy_ite (tidy_updCore h) (tidy_ite (tidy_almFault (tidy_seedCore (tidy_updCore h))) (tidy_seedCore (tidy_updCore h))))

theorem tidy_clearRings {ctx} (h : Tidy s) : Tidy (clearRings s ctx) := by
  delta clearRings
  exact tidy_foldl h fun _ h1 _ => tidy_setReg h1

theorem tidy_startContext {ctx root} (h : Tidy s) : Tidy (startContext s ctx root) := by
  delta startContext
  split
  · exact tidy_writeTables (tidy_mk (tidy_setStepState (tidy_clearRings (tidy_dropWanted h))))
  · exact tidy_writeTables
      (tidy_mk (tidy_setStepState (tidy_clearRings (tidy_foldl (tidy_dropWanted h) fun _ h1 _ => tidy_startCore h1))))

theorem tidy_writeAlmGo {ctx v} (h : Tidy s) : Tidy (writeAlmGo s ctx v) := by
  delta writeAlmGo
  exact tidy_ite (tidy_refuse h)
    (tidy_ite (tidy_refuse h)
    (tidy_ite h
    (tidy_ite (tidy_refuse h) (tidy_ite (tidy_refuse (tidy_readRoot h)) (tidy_ite (tidy_setRbit (tidy_mk (tidy_readRoot h)))
    (tidy_startContext (tidy_readRoot h)))))))

theorem tidy_entryBytes {e} (h : Tidy s) : Tidy (entryBytes s e).1 := by
  have hread : ∀ k a n, Tidy (readMem s k a n).1 := fun _ _ _ => tidy_readMem h
  delta entryBytes
  obtain ⟨read, hr⟩ : ∃ f, f = readMem s := exists_eq
  rw [← hr] at hread ⊢
  split
  · exact hread _ _ _
  · exact h

theorem tidy_measureEntry {ctx i} (h : Tidy s) : Tidy (measureEntry s ctx i) := tidy_mk h

theorem tidy_measureSchedule {ctx} (h : Tidy s) : Tidy (measureSchedule s ctx) := by
  have hbytes : ∀ u, Tidy u → ∀ e, Tidy (entryBytes u e).1 := fun _ h _ => tidy_entryBytes h
  have hdef : @measureSchedule = @measureSchedule := rfl
  conv at hdef => rhs; delta measureSchedule
  rw [hdef]
  obtain ⟨bytes, hb⟩ : ∃ f, f = entryBytes := exists_eq
  obtain ⟨sha, hs⟩ : ∃ f, f = sha384 := exists_eq
  rw [← hb] at hbytes ⊢
  rw [← hs]
  beta_reduce
  extract_lets is
  clear_value is
  exact tidy_foldl (tidy_mk (tidy_foldl_fst (x := (s, [])) h fun x hx i => hbytes _ hx _)) fun _ hu _ => tidy_measureEntry hu

theorem kept_execMeasureDone (h : Tidy s) : Kept (execMeasureDone s) := by
  delta execMeasureDone
  split
  · exact kept_next h
  · exact kept_ite (kept_next (tidy_setRbit (tidy_measureSchedule (tidy_mk h))))
      (kept_next (tidy_startContext (tidy_readRoot (tidy_setRbit (tidy_measureSchedule (tidy_mk h))))))

/-! ## Switching and resetting a context -/

theorem tidy_beginRestore {c} (h : Tidy s) : Tidy (beginRestore s c) := by
  delta beginRestore
  exact tidy_setCtxState (tidy_mk h)

theorem tidy_endSwitch (h : Tidy s) : Tidy (endSwitch s) := by
  delta endSwitch
  exact tidy_raiseInt (tidy_setRbit (tidy_mk h))

theorem tidy_beginSwitch {next goal} (h : Tidy s) : Tidy (beginSwitch s next goal) := by
  delta beginSwitch
  exact tidy_ite (tidy_beginRestore (tidy_mk (tidy_setRbit h))) (tidy_mk (tidy_setRbit h))

theorem tidy_writeRun {v} (h : Tidy s) : Tidy (writeRun s v) := by
  delta writeRun
  exact tidy_ite (tidy_refuse h) (tidy_ite (tidy_setRf h) (tidy_ite (tidy_refuse h) (tidy_beginSwitch (tidy_setRf h))))

theorem tidy_switchOut (h : Tidy s) : Tidy (switchOut s) := by
  delta switchOut
  exact tidy_foldl (tidy_mk h) fun _ h1 _ => tidy_ownerLostWaiter (tidy_updCore h1)

theorem kept_execSwitchOut (h : Tidy s) : Kept (execSwitchOut s) := by
  delta execSwitchOut
  exact kept_ite (kept_next (tidy_switchOut h)) (kept_next h)

theorem kept_execForcedOff (h : Tidy s) : Kept (execForcedOff s) := by
  delta execForcedOff
  exact kept_ite (kept_next (tidy_switchOut (tidy_deviceRecord h))) (kept_next h)

theorem tidy_pauseArray {c} (h : Tidy s) : Tidy (pauseArray s c) := by
  delta pauseArray
  split
  · exact h
  · split
    · rename_i e
      dsimp only
      exact tidy_ite (tidy_of_eq (tidy_freshWord h) e)
        (tidy_updCore (tidy_addReg64 (tidy_readOperands (tidy_of_eq (tidy_freshWord h) e))))

theorem tidy_beginSave (h : Tidy s) : Tidy (beginSave s) := by
  delta beginSave
  exact tidy_setCtxState (tidy_mk (tidy_foldl h fun _ h1 _ => tidy_pauseArray h1))

theorem tidy_copyMem {keyFrom src keyTo dst n} (h : Tidy s) : Tidy (copyMem s keyFrom src keyTo dst n) := by
  delta copyMem
  exact tidy_writeMem (tidy_readMem h)

theorem tidy_saveCore {ctx c} (h : Tidy s) : Tidy (saveCore s ctx c) := by
  have hfresh : ∀ u, Tidy u → ∀ n, Tidy (freshBytes u n).1 := fun _ h _ => tidy_freshBytes h
  have hdef : @saveCore = @saveCore := rfl
  conv at hdef => rhs; delta saveCore
  rw [hdef]
  obtain ⟨fresh, hf⟩ : ∃ f, f = freshBytes := exists_eq
  rw [← hf] at hfresh ⊢
  exact tidy_writeMem (hfresh _ (tidy_foldl h fun _ hu _ => tidy_copyMem hu) _)

theorem tidy_outgoingGone (h : Tidy s) : Tidy (outgoingGone s) := by
  delta outgoingGone
  exact tidy_ite (tidy_endSwitch h) (tidy_beginRestore h)

theorem tidy_leaveCores (h : Tidy s) : Tidy (leaveCores s) := tidy_mk h

theorem kept_execSaveDone (h : Tidy s) : Kept (execSaveDone s) := by
  delta execSaveDone
  exact kept_ite (kept_next h)
    (kept_next (tidy_outgoingGone (tidy_setRf (tidy_setSaved
    (tidy_setCtxState (tidy_leaveCores (tidy_mk (tidy_foldl h fun _ h1 _ => tidy_saveCore h1))))))))

theorem tidy_freeCore (h : Tidy s) : Tidy (freeCore s).1 := tidy_mk h

theorem tidy_restoreCore {ctx c} (h : Tidy s) : Tidy (restoreCore s ctx c) := by
  have hwords : ∀ u, Tidy u → ∀ k n w, Tidy (codewords u k n w).1 := fun _ h _ _ _ => tidy_codewords h
  have hdef : @restoreCore = @restoreCore := rfl
  conv at hdef => rhs; delta restoreCore
  rw [hdef]
  obtain ⟨words, hw⟩ : ∃ f, f = codewords := exists_eq
  rw [← hw] at hwords ⊢
  have hread : ∀ k b n w, Tidy (words ((saveParts s c).foldl (fun s p => copyMem s k (b + p.1) 0 p.2.1 p.2.2) s) k n w).1 :=
    fun _ _ _ _ => hwords _ (tidy_foldl h fun _ hu _ => tidy_copyMem hu) ..
  dsimp only
  split
  · refine tidy_setCore (tidy_ite_fst ?_ (tidy_freeCore ?_)) <;> exact hread ..
  · refine tidy_almFault (tidy_setCore (tidy_ite_fst ?_ (tidy_freeCore ?_))) <;> exact hread ..

theorem tidy_dropImage {ctx} (h : Tidy s) : Tidy (dropImage s ctx) := by
  delta dropImage
  exact tidy_setSaved (tidy_mk h)

theorem tidy_freshStart (h : Tidy s) : Tidy (freshStart s) := by
  delta freshStart
  exact tidy_leaveCores (tidy_wipeCellars h)

theorem kept_execRestoreDone (h : Tidy s) : Kept (execRestoreDone s) := by
  delta execRestoreDone
  exact kept_ite (kept_next h)
    (kept_next (tidy_resumeStepCmd (tidy_endSwitch (tidy_setCtxState
    (tidy_ite (tidy_dropImage (tidy_foldl (tidy_setRf h) fun _ h1 _ => tidy_restoreCore h1)) (tidy_freshStart (tidy_setRf h)))))))

theorem tidy_switchAbort (h : Tidy s) : Tidy (switchAbort s) := by
  delta switchAbort
  split
  · exact tidy_endSwitch (tidy_setQuarantine (tidy_dropImage (tidy_setCtxState (tidy_setRf (tidy_leaveCores h)))))
  · exact tidy_endSwitch (tidy_setQuarantine (tidy_dropImage (tidy_setCtxState h)))
  · exact h

theorem tidy_loseAllGates {ctx} (h : Tidy s) : Tidy (loseAllGates s ctx) := tidy_mk h

theorem tidy_resetCores {cs} (h : Tidy s) : Tidy (resetCores s cs) := by
  delta resetCores
  exact tidy_resetPages (tidy_foldl (tidy_abandonCores (tidy_foldl h fun _ h1 _ => tidy_ownerLostWaiter h1))
    fun _ h1 _ => tidy_updCore h1)

theorem tidy_switchReset {c} (h : Tidy s) : Tidy (switchReset s c) := by
  delta switchReset
  split
  · exact h
  · exact tidy_ite (tidy_endSwitch h) h
  · exact tidy_ite (tidy_endSwitch h) (tidy_ite (tidy_mk h) h)

theorem tidy_resetDoorbell {c} (h : Tidy s) : Tidy (resetDoorbell s c) := by
  delta resetDoorbell
  exact tidy_mk (tidy_resetPages h)

theorem tidy_unmeasure {c} (h : Tidy s) : Tidy (unmeasure s c) := by
  delta unmeasure
  exact tidy_mk (tidy_foldl h fun _ h1 _ => tidy_mk h1)

theorem tidy_wipeContext {c} (h : Tidy s) : Tidy (wipeContext s c) := by
  delta wipeContext
  exact tidy_ite (tidy_foldl h fun _ h1 _ => tidy_wipeWritten h1) (tidy_foldl (tidy_foldl h fun _ h1 _ => tidy_wipeWritten h1)
    fun _ h1 _ => tidy_wipeWritten h1)

theorem tidy_discardHeld (h : Tidy s) : Tidy (discardHeld s) := tidy_mk h

theorem tidy_resetHarvest {c} (h : Tidy s) : Tidy (resetHarvest s c) := by
  delta resetHarvest
  exact tidy_ite (tidy_harvestAbort (tidy_discardHeld h)) h

theorem tidy_contextReset {c} (h : Tidy s) : Tidy (contextReset s c) := by
  delta contextReset
  exact tidy_ite h
    (tidy_beginWipe
    (tidy_setCtxState
    (tidy_mk (tidy_dropWanted (tidy_resetDoorbell (tidy_unmeasure
    (tidy_wipeContext
    (tidy_destroyKeys
    (tidy_setQuarantine
    (tidy_dropImage
    (tidy_loseAllGates
    (tidy_ite (tidy_wipeCellars (tidy_setRf (tidy_resetCores (tidy_closeContext (tidy_switchReset (tidy_resetHarvest h))))))
    (tidy_closeContext (tidy_switchReset (tidy_resetHarvest h)))))))))))))))

theorem tidy_writeCtxCmd {c v} (h : Tidy s) : Tidy (writeCtxCmd s c v) := by
  delta writeCtxCmd
  exact tidy_ite (tidy_refuse h) (tidy_ite (tidy_refuse h) (tidy_ite h (tidy_contextReset h)))

/-! ## The cellar reset -/

theorem tidy_dropBeats {d} (h : Tidy s) : Tidy (dropBeats s d) := tidy_mk h

theorem tidy_startCellarReset {d} (h : Tidy s) : Tidy (startCellarReset s d) := by
  delta startCellarReset
  exact tidy_cellarSweep
    (tidy_drainRings
    (tidy_dropBeats
    (tidy_setRf
    (tidy_setRbit
    (tidy_switchAbort (tidy_serveAbort (tidy_ite (tidy_refillAbort (tidy_harvestAbort h)) (tidy_harvestAbort h))))))))

theorem tidy_writeCellarReset {d v} (h : Tidy s) : Tidy (writeCellarReset s d v) := by
  delta writeCellarReset
  exact tidy_ite (tidy_refuse h) (tidy_ite h (tidy_ite (tidy_refuse h) (tidy_startCellarReset h)))

theorem kept_execCellarReset {die} (h : Tidy s) : Kept (execCellarReset die s) := by
  delta execCellarReset
  exact kept_next (tidy_hostWrite h (fun _ h1 => tidy_writeCellarReset h1))

theorem kept_execCellarQuiesced {die} (h : Tidy s) : Kept (execCellarQuiesced die s) := by
  delta execCellarQuiesced
  exact kept_ite (kept_next (tidy_setRf (tidy_setRf h))) (kept_next h)

theorem tidy_beginCellarWipe {d} (h : Tidy s) : Tidy (beginCellarWipe s d) := by
  delta beginCellarWipe
  exact tidy_ite (tidy_setRbit (tidy_mk (tidy_setRf h))) h

theorem tidy_beginCellarWipes (h : Tidy s) : Tidy (beginCellarWipes s) := by
  delta beginCellarWipes
  exact tidy_foldl h fun _ h1 _ => tidy_beginCellarWipe h1

theorem tidy_idleStep (h : Tidy s) : Tidy (idleStep s) := by
  delta idleStep
  exact tidy_beginCellarWipes (tidy_tick h)

theorem kept_execCellarWipeDone {die} (h : Tidy s) : Kept (execCellarWipeDone die s) := by
  delta execCellarWipeDone
  exact kept_ite (kept_next (tidy_wipeDoneRecord (tidy_setRbit (tidy_setRf (tidy_mk (tidy_wipeCellar h)))))) (kept_next h)

theorem tidy_endCellarReset {d} (h : Tidy s) : Tidy (endCellarReset s d) := by
  delta endCellarReset
  exact tidy_raiseInt (tidy_reeveEnable (tidy_resetPages (tidy_setRf h)))

/-! ## The bond self-test -/

theorem kept_execHbmRfm {stack} (h : Tidy s) : Kept (execHbmRfm stack s) := by
  delta execHbmRfm
  exact kept_next (tidy_incReg h)

theorem kept_execHbmRefresh {stack} (h : Tidy s) : Kept (execHbmRefresh stack s) := by
  delta execHbmRefresh
  exact kept_next (tidy_countActivity h)

theorem kept_execBondSelfTest {die} (h : Tidy s) : Kept (execBondSelfTest die s) := by
  delta execBondSelfTest
  dsimp only
  split
  · exact kept_next h
  · split
    · exact kept_next h
    · rename_i e
      exact kept_next (tidy_mk (tidy_fireOnce h e))

theorem tidy_fenceUnit {d f} (h : Tidy s) : Tidy (fenceUnit s d f) := by
  delta fenceUnit
  exact tidy_ite h (tidy_ite (tidy_deviceEvent (tidy_setRbit h)) (tidy_fenceCore (tidy_deviceEvent (tidy_setRbit h))))

theorem tidy_useSpare {d f used} (h : Tidy s) : Tidy (useSpare s d f used) := by
  delta useSpare
  exact tidy_watchCount (tidy_deviceRecord (tidy_incReg (tidy_mk h)))

theorem tidy_laneFails {d f} (h : Tidy s) : Tidy (laneFails s d f) := by
  delta laneFails
  exact tidy_ite h (tidy_ite (tidy_useSpare h) (tidy_fenceUnit h))

theorem tidy_testFails {d fails} (h : Tidy s) : Tidy (testFails s d fails) := by
  delta testFails
  exact tidy_foldl h fun _ h1 _ => tidy_laneFails h1

theorem kept_execSelfTestComplete {die fails} (h : Tidy s) : Kept (execSelfTestComplete die fails s) := by
  delta execSelfTestComplete
  exact kept_ite (kept_next h)
    (kept_next (tidy_healthStep (tidy_resubmit (tidy_ite (tidy_endCellarReset (tidy_testFails (tidy_mk h)))
    (tidy_testFails (tidy_mk h))))))

/-! ## The Steward -/

theorem tidy_updSoc {d f} (h : Tidy s) : Tidy (updSoc s d f) := tidy_mk h

theorem tidy_powerRecord {code unit detail} (h : Tidy s) : Tidy (powerRecord s code unit detail) := by
  delta powerRecord
  exact tidy_deviceRecord h

theorem tidy_powerEvent {code unit detail k} (h : Tidy s) : Tidy (powerEvent s code unit detail k) := by
  delta powerEvent
  exact tidy_deviceEvent h

theorem tidy_sampleQuad {i t} (h : Tidy s) : Tidy (sampleQuad s i t) := tidy_mk h

theorem tidy_sampleStack {k t} (h : Tidy s) : Tidy (sampleStack s k t) := by
  delta sampleStack
  exact tidy_ite (tidy_raiseInt (tidy_setRf h)) (tidy_setRf h)

theorem tidy_sampleAll {r} (h : Tidy s) : Tidy (sampleAll s r) := by
  delta sampleAll
  exact tidy_foldl (tidy_foldl (tidy_foldl h fun _ h1 _ => tidy_updSoc h1) fun _ h1 _ => tidy_sampleQuad h1)
    fun _ h1 _ => tidy_sampleStack h1

theorem tidy_heatStep {d} (h : Tidy s) : Tidy (heatStep s d) := by
  delta heatStep
  exact tidy_ite (tidy_powerEvent (tidy_updSoc h)) (tidy_updSoc h)

theorem tidy_addEnergy {key n} (h : Tidy s) : Tidy (addEnergy s key n) := tidy_mk h

theorem tidy_attributeEnergy {acts} (h : Tidy s) : Tidy (attributeEnergy s acts) := by
  delta attributeEnergy
  exact tidy_addEnergy (tidy_foldl h fun _ h1 _ => tidy_foldl h1 fun _ h2 _ => tidy_addEnergy h2)

theorem kept_execStewardPeriod {report} (h : Tidy s) : Kept (execStewardPeriod report s) := by
  delta execStewardPeriod
  split
  · exact kept_next h
  · split
    · exact kept_next h
    · rename_i e
      exact kept_next
        (tidy_attributeEnergy (tidy_mk (tidy_foldl (tidy_sampleAll (tidy_fireOnce h e)) fun _ h1 _ => tidy_heatStep h1)))

theorem tidy_takeBubbles {d} (h : Tidy s) : Tidy (takeBubbles s d) := by
  delta takeBubbles
  exact tidy_ite (tidy_powerRecord (tidy_updSoc (tidy_updSoc h))) (tidy_updSoc h)

theorem tidy_takeHot (h : Tidy s) : Tidy (takeHot s) := by
  delta takeHot
  exact tidy_foldl (tidy_mk h) fun _ h1 _ => tidy_releaseCool h1

theorem kept_execEstimateComplete (h : Tidy s) : Kept (execEstimateComplete s) := by
  delta execEstimateComplete
  exact kept_ite (kept_next h)
    (kept_next (tidy_takeHot (tidy_foldl (tidy_ite (tidy_incReg (tidy_mk (tidy_foldl h fun _ h1 _ => tidy_updSoc h1)))
    (tidy_mk (tidy_foldl h fun _ h1 _ => tidy_updSoc h1))) fun _ h1 _ => tidy_takeBubbles h1)))

theorem kept_execThermtrip {die temp} (h : Tidy s) : Kept (execThermtrip die temp s) := by
  delta execThermtrip
  exact kept_ite (kept_next h) (kept_next (tidy_healthStep (tidy_powerEvent (tidy_emit (tidy_setRbit h)))))

theorem tidy_pmbusSend {d command value} (h : Tidy s) : Tidy (pmbusSend s d command value) := by
  delta pmbusSend
  exact tidy_emit (tidy_emit h)

theorem tidy_sendVolt {d w} (h : Tidy s) : Tidy (sendVolt s d w) := by
  delta sendVolt
  exact tidy_pmbusSend (tidy_updSoc h)

theorem tidy_setVolt {d p upward} (h : Tidy s) : Tidy (setVolt s d p upward) := by
  delta setVolt
  exact tidy_sendVolt h

theorem tidy_moveTo {d p} (h : Tidy s) : Tidy (moveTo s d p) := by
  delta moveTo
  exact tidy_ite (tidy_ite h (tidy_setVolt (tidy_updSoc h))) (tidy_ite (tidy_setVolt (tidy_updSoc h)) h)

theorem tidy_steer {d} (h : Tidy s) : Tidy (steer s d) := by
  delta steer
  exact tidy_ite h (tidy_moveTo h)

theorem tidy_steerAll (h : Tidy s) : Tidy (steerAll s) := by
  delta steerAll
  exact tidy_foldl h fun _ h1 _ => tidy_steer h1

theorem tidy_writeVfTarget {v} (h : Tidy s) : Tidy (writeVfTarget s v) := by
  delta writeVfTarget
  exact tidy_ite (tidy_refuse h) (tidy_ite (tidy_refuse h) (tidy_steerAll (tidy_setReg h)))

theorem kept_execVfTargetWrite {value} (h : Tidy s) : Kept (execVfTargetWrite value s) := by
  delta execVfTargetWrite
  exact kept_next (tidy_hostWrite h (fun _ h1 => tidy_writeVfTarget h1))

theorem kept_execVfSettle {die} (h : Tidy s) : Kept (execVfSettle die s) := by
  delta execVfSettle
  dsimp only
  split
  · exact kept_ite (kept_next (tidy_updSoc h)) (kept_next h)
  · exact kept_next h

theorem tidy_pmbusFault {d command} (h : Tidy s) : Tidy (pmbusFault s d command) := by
  delta pmbusFault
  exact tidy_deviceRecord h

theorem kept_execPmbusTransactionDone {die ok} (h : Tidy s) : Kept (execPmbusTransactionDone die ok s) := by
  delta execPmbusTransactionDone
  split
  · dsimp only
    split
    · exact kept_next h
    · exact kept_ite (kept_next h) (kept_next (tidy_updSoc h))
  · dsimp only
    split
    · exact kept_next h
    · exact kept_ite (kept_next h) (kept_ite (kept_next (tidy_sendVolt h))
        (kept_ite (kept_next (tidy_pmbusFault (tidy_updSoc h))) (kept_next (tidy_pmbusFault (tidy_updSoc h)))))

theorem kept_execPmbusRetry {die} (h : Tidy s) : Kept (execPmbusRetry die s) := by
  delta execPmbusRetry
  dsimp only
  split
  · exact kept_next h
  · exact kept_ite (kept_next (tidy_sendVolt h)) (kept_next h)

theorem tidy_updateGuard {d} (h : Tidy s) : Tidy (updateGuard s d) := by
  delta updateGuard
  exact tidy_ite (tidy_moveTo (tidy_foldl (tidy_updSoc h) fun _ h1 _ => tidy_powerRecord h1))
    (tidy_foldl (tidy_updSoc h) fun _ h1 _ => tidy_powerRecord h1)

theorem tidy_storeWear (h : Tidy s) : Tidy (storeWear s) := by
  delta storeWear
  exact tidy_foldl (tidy_mk h) fun _ h1 _ => tidy_updateGuard h1

theorem kept_execWearWriteback (h : Tidy s) : Kept (execWearWriteback s) := by
  delta execWearWriteback
  split
  · exact kept_next h
  · split
    · exact kept_next h
    · rename_i e
      exact kept_next (tidy_storeWear (tidy_fireOnce h e))

theorem kept_execOrderlyPowerDown (h : Tidy s) : Kept (execOrderlyPowerDown s) := by
  delta execOrderlyPowerDown
  exact kept_next (tidy_storeWear h)

theorem kept_execDroop {die reading} (h : Tidy s) : Kept (execDroop die reading s) := by
  delta execDroop
  exact kept_ite (kept_next h)
    (kept_ite (kept_next (tidy_updSoc h))
    (kept_ite (kept_next (tidy_powerRecord (tidy_updSoc (tidy_watchCount (tidy_incReg h)))))
    (kept_next (tidy_updSoc (tidy_watchCount (tidy_incReg h))))))

theorem kept_execDroopEnd {die recovered} (h : Tidy s) : Kept (execDroopEnd die recovered s) := by
  delta execDroopEnd
  exact kept_ite (kept_next (tidy_updSoc h)) (kept_next h)

theorem tidy_curfewDie {d} (h : Tidy s) : Tidy (curfewDie s d) := by
  delta curfewDie
  exact tidy_setVolt (tidy_updSoc h)

theorem kept_execCurfew (h : Tidy s) : Kept (execCurfew s) := by
  delta execCurfew
  split
  · exact kept_next h
  · exact kept_next (tidy_mk h)
  · exact kept_next (tidy_powerEvent (tidy_incReg (tidy_foldl (tidy_mk h) fun _ h1 _ => tidy_curfewDie h1)))

theorem kept_execCurfewRelease (h : Tidy s) : Kept (execCurfewRelease s) := by
  delta execCurfewRelease
  exact kept_ite (kept_next (tidy_mk h)) (kept_next h)

theorem kept_execCurfewHoldEnd (h : Tidy s) : Kept (execCurfewHoldEnd s) := by
  delta execCurfewHoldEnd
  split
  · exact kept_ite (kept_next (tidy_steerAll (tidy_powerRecord (tidy_mk h)))) (kept_next h)
  · exact kept_next h

/-! ## The slow wires -/

theorem kept_execEntdaa {addr} (h : Tidy s) : Kept (execEntdaa addr s) := by
  delta execEntdaa
  exact kept_ite (kept_next (tidy_setRf (tidy_emit h))) (kept_next h)

theorem kept_execRstdaa (h : Tidy s) : Kept (execRstdaa s) := by
  delta execRstdaa
  exact kept_next (tidy_setRf h)

theorem tidy_i3cReply {o} (h : Tidy s) : Tidy (i3cReply s o) := by
  delta i3cReply
  exact tidy_emit (tidy_emit h)

theorem kept_overI3c {f} (h : Tidy s) (hf : ∀ u, Tidy u → Tidy (f u)) : Kept (overI3c s f) := by
  delta overI3c
  exact kept_ite (kept_next (hf _ h)) (kept_next h)

theorem kept_execSetEndpointId {eid} (h : Tidy s) : Kept (execSetEndpointId eid s) := by
  delta execSetEndpointId
  exact kept_overI3c h fun _ h1 => tidy_ite (tidy_i3cReply h1) (tidy_i3cReply (tidy_setRf h1))

theorem kept_execGetEndpointId (h : Tidy s) : Kept (execGetEndpointId s) := by
  delta execGetEndpointId
  exact kept_overI3c h fun _ h1 => tidy_i3cReply h1

theorem kept_execGetMctpVersionSupport (h : Tidy s) : Kept (execGetMctpVersionSupport s) := by
  delta execGetMctpVersionSupport
  exact kept_overI3c h fun _ h1 => tidy_i3cReply h1

theorem kept_execGetMessageTypeSupport (h : Tidy s) : Kept (execGetMessageTypeSupport s) := by
  delta execGetMessageTypeSupport
  exact kept_overI3c h fun _ h1 => tidy_i3cReply h1

theorem kept_execGetpdrrepositoryinfo (h : Tidy s) : Kept (execGetpdrrepositoryinfo s) := by
  delta execGetpdrrepositoryinfo
  exact kept_overI3c h fun _ h1 => tidy_i3cReply h1

theorem kept_execGetpdr {handle} (h : Tidy s) : Kept (execGetpdr handle s) := by
  delta execGetpdr
  exact kept_overI3c h fun _ h1 => tidy_ite (tidy_foldl h1 fun _ h2 _ => tidy_i3cReply h2) (tidy_i3cReply h1)

theorem tidy_pldmReading {command v} (h : Tidy s) : Tidy (pldmReading s command v) := by
  delta pldmReading
  split <;> exact tidy_i3cReply h

theorem kept_execGetsensorreading {sensor} (h : Tidy s) : Kept (execGetsensorreading sensor s) := by
  delta execGetsensorreading
  exact kept_overI3c h fun _ h1 => tidy_pldmReading h1

theorem kept_execGetstatesensorreadings {sensor} (h : Tidy s) : Kept (execGetstatesensorreadings sensor s) := by
  delta execGetstatesensorreadings
  exact kept_overI3c h fun _ h1 => tidy_pldmReading h1

theorem kept_execSetnumericeffectervalue {effecter value} (h : Tidy s) : Kept (execSetnumericeffectervalue effecter value s) := by
  delta execSetnumericeffectervalue
  split
  · exact kept_overI3c h fun _ h1 => tidy_i3cReply h1
  · exact kept_overI3c h fun _ h1 => tidy_ite (tidy_i3cReply h1) (tidy_i3cReply (tidy_setReg h1))

theorem kept_execGetnumericeffectervalue {effecter} (h : Tidy s) : Kept (execGetnumericeffectervalue effecter s) := by
  delta execGetnumericeffectervalue
  exact kept_overI3c h fun _ h1 => tidy_pldmReading h1

theorem tidy_spdmSend {p l} (h : Tidy s) : Tidy (spdmSend s p l) := by
  delta spdmSend
  exact tidy_ite (tidy_foldl h fun _ h1 _ => tidy_i3cReply h1) (tidy_emit h)

theorem kept_spdmStep {p code request before after} (h : Tidy s) : Kept (spdmStep s p code request before after) := by
  delta spdmStep
  split
  · exact kept_next h
  · split
    · exact kept_next (tidy_spdmSend h)
    · split
      · exact kept_next (tidy_spdmSend h)
      · split
        · exact kept_next (tidy_spdmSend h)
        · exact kept_next (tidy_mk (tidy_spdmSend h))

theorem kept_execGetVersion {path request} (h : Tidy s) : Kept (execGetVersion path request s) := by
  delta execGetVersion
  exact kept_ite (kept_next h) (kept_ite (kept_next (tidy_spdmSend h)) (kept_next (tidy_mk (tidy_spdmSend h))))

theorem kept_execGetCapabilities {path request} (h : Tidy s) : Kept (execGetCapabilities path request s) := by
  delta execGetCapabilities
  exact kept_spdmStep h

theorem kept_execNegotiateAlgorithms {path request} (h : Tidy s) : Kept (execNegotiateAlgorithms path request s) := by
  delta execNegotiateAlgorithms
  exact kept_spdmStep h

theorem kept_execGetDigests {path request} (h : Tidy s) : Kept (execGetDigests path request s) := by
  delta execGetDigests
  exact kept_spdmStep h

theorem kept_execGetCertificate {path request} (h : Tidy s) : Kept (execGetCertificate path request s) := by
  delta execGetCertificate
  exact kept_spdmStep h

theorem kept_execChallenge {path request} (h : Tidy s) : Kept (execChallenge path request s) := by
  delta execChallenge
  exact kept_spdmStep h

theorem kept_execGetMeasurements {path request} (h : Tidy s) : Kept (execGetMeasurements path request s) := by
  delta execGetMeasurements
  exact kept_spdmStep h

theorem kept_execKeyExchange {path request} (h : Tidy s) : Kept (execKeyExchange path request s) := by
  delta execKeyExchange
  exact kept_spdmStep h

theorem kept_execFinish {path request} (h : Tidy s) : Kept (execFinish path request s) := by
  delta execFinish
  exact kept_spdmStep h

theorem kept_execEndSession {path request} (h : Tidy s) : Kept (execEndSession path request s) := by
  delta execEndSession
  exact kept_ite (kept_next (tidy_spdmSend h)) (kept_spdmStep h)

theorem kept_execBypass {len tdi} (h : Tidy s) : Kept (execBypass len tdi s) := by
  delta execBypass
  exact kept_next (tidy_emit (tidy_mk h))

theorem kept_execIdcode (h : Tidy s) : Kept (execIdcode s) := by
  delta execIdcode
  exact kept_next (tidy_emit (tidy_mk h))

theorem kept_execSamplePreload {pins tdi} (h : Tidy s) : Kept (execSamplePreload pins tdi s) := by
  delta execSamplePreload
  exact kept_next (tidy_emit (tidy_mk h))

theorem kept_execExtest {pins tdi} (h : Tidy s) : Kept (execExtest pins tdi s) := by
  delta execExtest
  exact kept_next (tidy_emit (tidy_mk (tidy_emit (tidy_emit (tidy_mk h)))))

theorem kept_execTestModeHigh (h : Tidy s) : Kept (execTestModeHigh s) := by
  delta execTestModeHigh
  exact kept_ite (kept_next h) (kept_next (tidy_mk h))

/-! ## Resets -/

theorem tidy_setDawnStep {n} (h : Tidy s) : Tidy (setDawnStep s n) := by
  delta setDawnStep
  exact tidy_setRf h

theorem tidy_dawnFail {n} (h : Tidy s) : Tidy (dawnFail s n) := by
  delta dawnFail
  exact tidy_setRf h

theorem tidy_setPartitions {v} (h : Tidy s) : Tidy (setPartitions s v) := by
  delta setPartitions
  exact tidy_foldl h fun _ h1 _ => tidy_setPartState h1

theorem tidy_coldReset : Tidy (coldReset s) := by
  delta coldReset
  exact tidy_beginWipe (tidy_setDawnStep (tidy_setPartitions (tidy_mk (tidy_freshWord (tidy_mk wf_reset)))))

theorem kept_execColdReset : Kept (execColdReset s) := by
  delta execColdReset
  exact kept_next (tidy_healthStep tidy_coldReset)

theorem tidy_wideReset {k} : Tidy (wideReset s k) := by
  delta wideReset
  exact tidy_beginWipe (tidy_setDawnStep (tidy_setPartitions (tidy_foldl (tidy_mk ⟨rfl, rfl⟩) fun _ hu _ => tidy_drawKey hu)))

theorem kept_execPerstNLow (h : Tidy s) : Kept (execPerstNLow s) := by
  delta execPerstNLow
  exact kept_ite (kept_next h) (kept_next (tidy_ite (tidy_healthStep tidy_wideReset) (tidy_mk h)))

theorem kept_execPerstNRise (h : Tidy s) : Kept (execPerstNRise s) := by
  delta execPerstNRise
  exact kept_next (tidy_mk h)

theorem tidy_flrRecord {fn} (h : Tidy s) : Tidy (flrRecord s fn) := by
  delta flrRecord
  exact tidy_deviceRecord h

theorem kept_execPfFlr (h : Tidy s) : Kept (execPfFlr s) := by
  delta execPfFlr
  exact kept_next (tidy_flrRecord (tidy_ite h (tidy_healthStep tidy_wideReset)))

theorem kept_execVfFlr {vf} (h : Tidy s) : Kept (execVfFlr vf s) := by
  delta execVfFlr
  exact kept_ite (kept_next h) (kept_next (tidy_flrRecord (tidy_ite (tidy_resetDoorbell (tidy_contextReset h)) h)))

theorem tidy_portReset {p k} (h : Tidy s) : Tidy (portReset s p k) := by
  delta portReset
  exact tidy_updPort (tidy_resetPages (tidy_ite h (tidy_portDown h)))

theorem tidy_cancelEntry {waiting} (h : Tidy s) : Tidy (cancelEntry waiting s) := by
  delta cancelEntry
  exact tidy_ite (tidy_mk (tidy_setRf (tidy_setRf h))) h

theorem tidy_forcedGone (h : Tidy s) : Tidy (forcedGone s) := by
  delta forcedGone
  exact tidy_endSwitch (tidy_dropImage (tidy_setCtxState (tidy_setRf (tidy_leaveCores (tidy_closeContext h)))))

theorem tidy_forcedEnd (h : Tidy s) : Tidy (forcedEnd s) := by
  delta forcedEnd
  exact tidy_ite (tidy_forcedGone h) h

theorem tidy_forceResident {ds} (h : Tidy s) : Tidy (forceResident s ds) := by
  delta forceResident
  exact tidy_forcedEnd
    (tidy_setRbit (tidy_mk (tidy_foldl (tidy_abandonCores (tidy_ite h (tidy_switchOut (tidy_ite h (tidy_deviceRecord h)))))
    fun _ h1 _ => tidy_updCore h1)))

theorem tidy_forceOff {ds} (h : Tidy s) : Tidy (forceOff s ds) := by
  delta forceOff
  exact tidy_cancelEntry (tidy_ite (tidy_dropWanted (tidy_forceResident h)) (tidy_ite (tidy_endSwitch (tidy_setCtxState h)) h))

theorem tidy_resetCoresOf {n} (h : Tidy s) : Tidy (resetCoresOf s n) := tidy_mk h

theorem tidy_dropDieBeats {n} (h : Tidy s) : Tidy (dropDieBeats s n) := by
  delta dropDieBeats
  exact tidy_mk (tidy_dropBeats h)

theorem tidy_resetUnits {n} (h : Tidy s) : Tidy (resetUnits s n) := by
  delta resetUnits
  exact tidy_mk (tidy_resetPages (tidy_foldl h fun _ h1 _ => tidy_portReset h1))

theorem tidy_endMemoryWork (h : Tidy s) : Tidy (endMemoryWork s) := by
  delta endMemoryWork
  exact tidy_serveAbort (tidy_ite (tidy_refillAbort (tidy_harvestAbort h)) (tidy_harvestAbort h))

theorem tidy_partitionRest {n} (h : Tidy s) : Tidy (partitionRest s n) := by
  delta partitionRest
  exact tidy_beginWipe
    (tidy_mk (tidy_setRf (tidy_wipeDieFar (tidy_wipeCellar
    (tidy_dropDieBeats
    (tidy_resetUnits (tidy_quarantineStarted (tidy_foldl (tidy_resetCoresOf h) fun _ h1 _ => tidy_dropImage h1))))))))

theorem tidy_partitionGo (h : Tidy s) : Tidy (partitionGo s) := by
  delta partitionGo
  exact tidy_ite h (tidy_foldl (tidy_mk h) fun _ h1 _ => tidy_partitionRest h1)

theorem tidy_partitionReset {n} (h : Tidy s) : Tidy (partitionReset s n) := by
  delta partitionReset
  exact tidy_partitionGo (tidy_forcedEnd (tidy_mk (tidy_setPartState (tidy_resetCoresOf (tidy_forceOff (tidy_endMemoryWork h))))))

theorem kept_execSaveStart (h : Tidy s) : Kept (execSaveStart s) := by
  delta execSaveStart
  exact kept_ite (kept_next (tidy_ite (tidy_partitionGo (tidy_forcedGone h)) h)) (kept_ite (kept_next (tidy_beginSave h))
    (kept_next (tidy_partitionGo h)))

theorem tidy_writeResetCmd {v} (h : Tidy s) : Tidy (writeResetCmd s v) := by
  delta writeResetCmd
  exact tidy_ite (tidy_refuse h) (tidy_ite (tidy_ite (tidy_refuse h) tidy_wideReset)
    (tidy_ite (tidy_ite (tidy_refuse h) (tidy_ite (tidy_refuse h) (tidy_partitionReset h)))
    (tidy_ite (tidy_ite (tidy_refuse h) (tidy_ite (tidy_refuse h) (tidy_reeveEnable (tidy_setRbit (tidy_portReset h)))))
    (tidy_refuse h))))

theorem kept_execResetDevice (h : Tidy s) : Kept (execResetDevice s) := by
  delta execResetDevice
  exact kept_next (tidy_healthStep (tidy_writeResetCmd h))

theorem kept_execResetPartition {target} (h : Tidy s) : Kept (execResetPartition target s) := by
  delta execResetPartition
  exact kept_next (tidy_healthStep (tidy_writeResetCmd h))

theorem kept_execResetPort {target} (h : Tidy s) : Kept (execResetPort target s) := by
  delta execResetPort
  exact kept_next (tidy_healthStep (tidy_writeResetCmd h))

theorem tidy_writeLcCmd {v} (h : Tidy s) : Tidy (writeLcCmd s v) := by
  delta writeLcCmd
  exact tidy_ite (tidy_refuse h)
    (tidy_ite (tidy_refuse h)
    (tidy_ite (tidy_refuse h)
    (tidy_ite (tidy_refuse h) (tidy_ite (tidy_deviceRecord tidy_coldReset) (tidy_refuse (tidy_endCmd (tidy_beginCmd h)))))))

theorem kept_execLcCmd {value} (h : Tidy s) : Kept (execLcCmd value s) := by
  delta execLcCmd
  exact kept_next (tidy_healthStep (tidy_writeLcCmd h))

theorem kept_execRailFault {die} (h : Tidy s) : Kept (execRailFault die s) := by
  delta execRailFault
  exact kept_ite (kept_next h)
    (kept_next (tidy_healthStep (tidy_setPartState (tidy_mk (tidy_dropDieBeats (tidy_forceOff (tidy_endMemoryWork h)))))))

theorem kept_execRefclkLoss (h : Tidy s) : Kept (execRefclkLoss s) := by
  delta execRefclkLoss
  exact kept_ite (kept_next h)
    (kept_next (tidy_healthStep (tidy_setPartitions
    (tidy_mk (tidy_forceOff (tidy_ite h (tidy_bellRecord (tidy_setBellState h))))))))

/-! ## Low power -/

theorem tidy_setPowerState {v} (h : Tidy s) : Tidy (setPowerState s v) := by
  delta setPowerState
  exact tidy_setRf h

theorem tidy_beginEntry {req} (h : Tidy s) : Tidy (beginEntry s req) := by
  delta beginEntry
  exact tidy_ite (tidy_beginSwitch (tidy_setPowerState h)) (tidy_mk (tidy_setPowerState h))

theorem tidy_beginExit (h : Tidy s) : Tidy (beginExit s) := by
  delta beginExit
  exact tidy_mk (tidy_setPowerState h)

theorem tidy_writePower {v} (h : Tidy s) : Tidy (writePower s v) := by
  delta writePower
  exact tidy_ite (tidy_refuse h)
    (tidy_ite (tidy_refuse h)
    (tidy_ite (tidy_setRf h) (tidy_ite (tidy_beginEntry (tidy_setRf h)) (tidy_beginExit (tidy_setRf h)))))

theorem kept_execPowerRun (h : Tidy s) : Kept (execPowerRun s) := by
  delta execPowerRun
  exact kept_next (tidy_writePower h)

theorem kept_execPowerDusk (h : Tidy s) : Kept (execPowerDusk s) := by
  delta execPowerDusk
  exact kept_next (tidy_writePower h)

theorem kept_execPowerNight (h : Tidy s) : Kept (execPowerNight s) := by
  delta execPowerNight
  exact kept_next (tidy_writePower h)

theorem tidy_powerReached {st} (h : Tidy s) : Tidy (powerReached s st) := by
  delta powerReached
  exact tidy_ite (tidy_raiseInt (tidy_setPowerState (tidy_mk h))) (tidy_setPowerState (tidy_mk h))

theorem tidy_setGranaries {v} (h : Tidy s) : Tidy (setGranaries s v) := by
  delta setGranaries
  exact tidy_foldl h fun _ h1 _ => tidy_ite h1 (tidy_setRf h1)

theorem tidy_exitTests (h : Tidy s) : Tidy (exitTests s) := by
  delta exitTests
  exact tidy_foldl h fun _ h1 _ => tidy_ite h1 (tidy_mk h1)

theorem tidy_enterNight (h : Tidy s) : Tidy (enterNight s) := by
  delta enterNight
  exact tidy_foldl (tidy_setGranaries (tidy_mk (tidy_resetPages (tidy_foldl h fun _ h1 _ => tidy_portReset h1))))
    fun _ h1 _ => tidy_moveTo h1

theorem tidy_wakeUnits (h : Tidy s) : Tidy (wakeUnits s) := by
  delta wakeUnits
  exact tidy_foldl (tidy_reeveEnableAll (tidy_reeveEnableAll h)) fun _ h1 _ => tidy_ite (tidy_portEnabled h1) h1

theorem tidy_leaveNight (h : Tidy s) : Tidy (leaveNight s) := by
  delta leaveNight
  exact tidy_steerAll (tidy_wakeUnits (tidy_quarantineStarted (tidy_powerReached h)))

theorem tidy_nextEntry (h : Tidy s) : Tidy (nextEntry s) := by
  delta nextEntry
  exact tidy_ite h (tidy_beginEntry h)

theorem tidy_powerStepDone (h : Tidy s) : Tidy (powerStepDone s) := by
  delta powerStepDone
  split
  · exact tidy_powerReached h
  · exact tidy_powerReached (tidy_enterNight h)
  · exact tidy_exitTests (tidy_mk h)
  · exact tidy_ite h (tidy_nextEntry (tidy_resubmit (tidy_powerReached h)))
  · exact tidy_mk h
  · exact tidy_exitTests (tidy_resubmit (tidy_setGranaries (tidy_mk h)))
  · exact tidy_ite h (tidy_nextEntry (tidy_leaveNight h))
  · exact h

theorem kept_execPowerTransitionDone (h : Tidy s) : Kept (execPowerTransitionDone s) := by
  delta execPowerTransitionDone
  exact kept_ite (kept_next h) (kept_next (tidy_healthStep (tidy_powerStepDone h)))

/-! ## Dawn -/

theorem tidy_loadAddresses {l} (h : Tidy s) : Tidy (loadAddresses s l) := by
  delta loadAddresses
  exact tidy_foldl h fun _ h1 _ => tidy_setReg h1

theorem tidy_measureBoot {l} (h : Tidy s) : Tidy (measureBoot s l) := tidy_mk h

theorem tidy_dawnBoot {r} (h : Tidy s) : Tidy (dawnBoot s r) := by
  delta dawnBoot
  split
  · exact tidy_dawnFail h
  · exact tidy_setDawnStep (tidy_ite (tidy_deviceRecord (tidy_measureBoot (tidy_loadAddresses (tidy_mk h))))
      (tidy_measureBoot (tidy_loadAddresses (tidy_mk h))))

theorem tidy_dawnRail {r d} (h : Tidy s) : Tidy (dawnRail r s d) := by
  delta dawnRail
  exact tidy_ite (tidy_pmbusSend (tidy_ite (tidy_setPartState (tidy_dawnFail h)) h))
    (tidy_setPartState (tidy_dawnFail (tidy_pmbusFault (tidy_pmbusSend (tidy_ite (tidy_setPartState (tidy_dawnFail h)) h)))))

theorem tidy_dawnPoint {d} (h : Tidy s) : Tidy (dawnPoint s d) := by
  delta dawnPoint
  exact tidy_setVolt (tidy_updSoc (tidy_updateGuard h))

theorem tidy_refclkBack {r} (h : Tidy s) : Tidy (refclkBack s r) := by
  delta refclkBack
  exact tidy_ite (tidy_setPartitions (tidy_mk h)) h

theorem tidy_dawnFuses {r} (h : Tidy s) : Tidy (dawnFuses s r) := by
  delta dawnFuses
  exact tidy_ite (tidy_dawnFail (tidy_setPartitions h))
    (tidy_setDawnStep
    (tidy_foldl
    (tidy_latchDrive
    (tidy_drawKey (tidy_ite (tidy_foldl (tidy_foldl (tidy_mk (tidy_refclkBack h)) fun _ h1 _ => tidy_dawnRail h1)
    fun _ h1 _ => tidy_dawnPoint h1) (tidy_foldl (tidy_mk (tidy_refclkBack h)) fun _ h1 _ => tidy_dawnRail h1))))
    fun _ h1 _ => tidy_reeveEnableAfter h1))

theorem tidy_dawnTestState {ps} (h : Tidy s) : Tidy (dawnTestState s ps) := by
  delta dawnTestState
  exact tidy_foldl h fun _ h1 _ => tidy_ite h1 (tidy_setPartState h1)

theorem tidy_trainStacks {trained n} (h : Tidy s) : Tidy (trainStacks trained s n) := by
  delta trainStacks
  exact tidy_ite (tidy_foldl h fun _ h1 _ => tidy_setRf (tidy_setRf h1))
    (tidy_setPartState (tidy_dawnFail (tidy_foldl h fun _ h1 _ => tidy_setRf (tidy_setRf h1))))

theorem tidy_dawnTests {ps} (h : Tidy s) : Tidy (dawnTests s ps) := tidy_mk h

theorem tidy_dawnTestedDie {fails n} (h : Tidy s) : Tidy (dawnTestedDie fails s n) := by
  delta dawnTestedDie
  exact tidy_ite (tidy_testFails (tidy_mk h)) (tidy_dawnFail (tidy_testFails (tidy_mk h)))

theorem tidy_dawnTested {ps fails} (h : Tidy s) : Tidy (dawnTested s ps fails) := by
  delta dawnTested
  exact tidy_foldl h fun _ h1 _ => tidy_dawnTestedDie h1

theorem tidy_dawnService {k ps} (h : Tidy s) : Tidy (dawnService k s ps) := by
  delta dawnService
  exact tidy_reeveEnableAfter (tidy_reeveEnableAfter (tidy_foldl (tidy_foldl h fun _ h1 _ => tidy_ite h1 (tidy_setPartState h1))
    fun _ h1 _ => tidy_reeveEnableAfter h1))

theorem tidy_dawnPorts {ps} (h : Tidy s) : Tidy (dawnPorts s ps) := by
  delta dawnPorts
  exact tidy_foldl (tidy_reeveEnableAll h) fun _ h1 _ => tidy_ite (tidy_updPort h1) h1

theorem tidy_dawnServed {r} (h : Tidy s) : Tidy (dawnServed s r) := by
  delta dawnServed
  exact tidy_resubmit (tidy_dawnPorts (tidy_raiseInt (tidy_setRbit (tidy_setDawnStep (tidy_dawnService (tidy_dawnTested h))))))

theorem tidy_dawnNext {r} (h : Tidy s) : Tidy (dawnNext s r) := by
  delta dawnNext
  split
  · exact tidy_setDawnStep h
  · exact tidy_dawnBoot h
  · exact tidy_dawnFuses h
  · exact tidy_setDawnStep (tidy_dawnTestState h)
  · exact tidy_ite h (tidy_setDawnStep (tidy_dawnTests (tidy_ite (tidy_foldl h fun _ h1 _ => tidy_trainStacks h1) h)))
  · exact tidy_dawnServed h
  · exact h

theorem tidy_setPartDawn {n k} (h : Tidy s) : Tidy (setPartDawn s n k) := tidy_mk h

theorem tidy_partServed {r n} (h : Tidy s) : Tidy (partServed s r n) := by
  delta partServed
  exact tidy_resubmit
    (tidy_dawnPorts
    (tidy_reeveEnableAfter
    (tidy_reeveEnableAfter
    (tidy_dawnService (tidy_setPartDawn (tidy_dawnTested (tidy_ite (tidy_setPartState (tidy_mk h)) (tidy_mk h))))))))

theorem tidy_partDawnNext {r n k} (h : Tidy s) : Tidy (partDawnNext s r n k) := by
  delta partDawnNext
  exact tidy_ite (tidy_setPartDawn (tidy_dawnTestState h))
    (tidy_ite (tidy_ite h (tidy_setPartDawn (tidy_dawnTests (tidy_trainStacks h)))) (tidy_partServed h))

theorem kept_execDawnStepDone {report} (h : Tidy s) : Kept (execDawnStepDone report s) := by
  delta execDawnStepDone
  split
  · exact kept_ite (kept_next h) (kept_next (tidy_healthStep (tidy_dawnNext h)))
  · split
    · exact kept_next h
    · split
      · exact kept_next (tidy_healthStep (tidy_partDawnNext h))
      · exact kept_next h

theorem kept_execConfigurationRequest {access} (h : Tidy s) : Kept (execConfigurationRequest access s) := by
  delta execConfigurationRequest
  exact kept_ite (kept_next h) (kept_ite (kept_next (tidy_emit h)) (kept_next (tidy_configAccess (tidy_emit h))))

/-! ## Reads of registers -/

theorem tidy_setLatch {host b i off v} (h : Tidy s) : Tidy (setLatch s host b i off v) := tidy_mk h

theorem tidy_readRecord {host} (h : Tidy s) : Tidy (readRecord s host).1 := by
  delta readRecord
  split
  · rename_i e
    split
    · rename_i e'
      split
      · rename_i e''
        dsimp only
        exact tidy_ite_fst
          (tidy_setLatch
          (tidy_setLatch
          (tidy_setLatch (tidy_of_eq (tidy_freshWord (tidy_of_eq (tidy_freshWord (tidy_of_eq (tidy_freshWord h) e)) e')) e''))))
          (tidy_setLatch (tidy_setLatch (tidy_setLatch h)))

theorem tidy_pathRead {host b i off} (h : Tidy s) : Tidy (pathRead s host b i off).1 := by
  delta pathRead
  exact tidy_ite_fst (tidy_readRecord h) (tidy_ite_fst h (tidy_ite_fst (tidy_setLatch h) (tidy_ite_fst h h)))

theorem tidy_bar0Read {host off len} (h : Tidy s) : Tidy (bar0Read s host off len) := by
  delta bar0Read
  split
  · exact tidy_unsupported h
  · split
    · exact tidy_emit h
    · exact tidy_emit (tidy_pathRead h)

theorem tidy_doorbellRead {host ctx off len ide} (h : Tidy s) : Tidy (doorbellRead s host ctx off len ide) := by
  delta doorbellRead
  exact tidy_ite (tidy_unsupported h) (tidy_emit h)

theorem kept_execReadLoLatch {host space offset len ide} (h : Tidy s) : Kept (execReadLoLatch host space offset len ide s) := by
  delta execReadLoLatch
  split
  · exact kept_next (tidy_bar0Read h)
  · exact kept_next (tidy_doorbellRead h)

theorem kept_execDevqRec0Read {host} (h : Tidy s) : Kept (execDevqRec0Read host s) := by
  delta execDevqRec0Read
  exact kept_next (tidy_bar0Read h)

/-! ## Writes of registers -/

theorem tidy_storeReg {b i off v} (h : Tidy s) : Tidy (storeReg s b i off v) := by
  delta storeReg
  exact tidy_setReg h

theorem tidy_storeIf {b i off v ok code} (h : Tidy s) : Tidy (storeIf s b i off v ok code) := by
  delta storeIf
  exact tidy_ite (tidy_storeReg h) (tidy_refuse h)

theorem tidy_clearRefused {b i v} (h : Tidy s) : Tidy (clearRefused s b i v) := by
  delta clearRefused
  exact tidy_ite (tidy_setRf (tidy_setRf (tidy_setRbit h))) h

theorem tidy_writeHeader {b i off v} (h : Tidy s) : Tidy (writeHeader s b i off v) := by
  delta writeHeader
  exact tidy_ite (tidy_clearRefused h) (tidy_msixOnRise (tidy_errSummary (tidy_storeReg h)))

theorem tidy_disablePage {b i} (h : Tidy s) : Tidy (disablePage s b i) := by
  delta disablePage
  split
  · exact tidy_mk (tidy_harvestAbort (tidy_setRbit h))
  · exact tidy_setCtxState (tidy_setRbit h)
  · exact tidy_portDisabled (tidy_setRbit h)
  · exact tidy_mk (tidy_setRbit h)
  · exact tidy_setRbit h

theorem tidy_quiesceChanged {b i was} (h : Tidy s) : Tidy (quiesceChanged s b i was) := by
  delta quiesceChanged
  exact tidy_ite h (tidy_ite (tidy_foldl (tidy_setRbit h) fun _ h1 _ => tidy_nvmeNext h1) (tidy_setRbit h))

theorem tidy_beginCheck {b i old} (h : Tidy s) : Tidy (beginCheck s b i old) := by
  delta beginCheck
  exact tidy_setRbit (tidy_mk h)

theorem tidy_writeEnable {b i k v} (h : Tidy s) : Tidy (writeEnable s b i k v) := by
  delta writeEnable
  exact tidy_ite (tidy_refuse h) (tidy_ite (tidy_refuse h) (tidy_ite (tidy_disablePage (tidy_quiesceChanged (tidy_storeReg h)))
    (tidy_ite (tidy_beginCheck (tidy_quiesceChanged (tidy_storeReg h))) (tidy_quiesceChanged (tidy_storeReg h)))))

theorem tidy_writeBellCtrl {v} (h : Tidy s) : Tidy (writeBellCtrl s v) := by
  delta writeBellCtrl
  exact tidy_ite (tidy_refuse h) (tidy_bellControl (tidy_storeReg h))

theorem tidy_writeCtrl {b i v} (h : Tidy s) : Tidy (writeCtrl s b i v) := by
  delta writeCtrl
  split
  · exact tidy_writeEnable h
  · split
    · exact tidy_writeBellCtrl h
    · exact tidy_storeIf h
    · exact tidy_storeIf h
    · exact h

theorem tidy_endCheck {b i} (h : Tidy s) : Tidy (endCheck s b i) := by
  delta endCheck
  split
  · exact h
  · dsimp only
    split
    · exact tidy_enablePage (tidy_setRbit (tidy_mk h))
    · exact tidy_refuse (tidy_setReg (tidy_setRbit (tidy_mk h)))

theorem tidy_writeGlobal {off v} (h : Tidy s) : Tidy (writeGlobal s off v) := by
  delta writeGlobal
  exact tidy_ite (tidy_writeNode h)
    (tidy_ite (tidy_writeRun h) (tidy_ite (tidy_writeResetCmd h) (tidy_ite (tidy_writePower h) (tidy_storeReg h))))

theorem tidy_writeFwCmd {v} (h : Tidy s) : Tidy (writeFwCmd s v) := by
  delta writeFwCmd
  exact tidy_ite (tidy_refuse h) (tidy_firmware h)

theorem tidy_writeReeve {off v} (h : Tidy s) : Tidy (writeReeve s off v) := by
  delta writeReeve
  exact tidy_ite (tidy_writeLcCmd h)
    (tidy_ite (tidy_writeFwCmd h)
    (tidy_ite (tidy_writeMgmtCmd h)
    (tidy_ite (tidy_storeIf h) (tidy_ite (tidy_storeIf h) (tidy_ite (tidy_storeIf h) (tidy_storeReg h))))))

theorem tidy_writeSteward {off v} (h : Tidy s) : Tidy (writeSteward s off v) := by
  delta writeSteward
  exact tidy_ite (tidy_storeIf h)
    (tidy_ite (tidy_storeIf h)
    (tidy_ite (tidy_storeIf h)
    (tidy_ite (tidy_storeIf h) (tidy_ite (tidy_writeVfTarget h) (tidy_ite (tidy_storeReg h) (tidy_storeReg h))))))

theorem tidy_writeHarvest {off v} (h : Tidy s) : Tidy (writeHarvest s off v) := by
  delta writeHarvest
  exact tidy_ite (tidy_writeRefillCmd h) (tidy_ite (tidy_storeIf h) (tidy_ite (tidy_setReg h) (tidy_storeReg h)))

theorem tidy_writeContext {c off v} (h : Tidy s) : Tidy (writeContext s c off v) := by
  delta writeContext
  exact tidy_ite (tidy_writeAlmGo h)
    (tidy_ite (tidy_writeCtxCmd h) (tidy_ite (tidy_writeStepCmd h) (tidy_ite (tidy_ite (tidy_refuse h) (tidy_storeReg h))
    (tidy_ite (tidy_ite (tidy_refuse h) (tidy_setTscale h))
    (tidy_ite (tidy_ite (tidy_refuse h) (tidy_ite (tidy_refuse h) (tidy_setTscale h)))
    (tidy_ite (tidy_storeReg h) (tidy_storeReg h)))))))

theorem tidy_writeCore {c off v} (h : Tidy s) : Tidy (writeCore s c off v) := by
  delta writeCore
  exact tidy_ite (tidy_storeReg h)
    (tidy_ite (tidy_writeGateCfg h) (tidy_ite (tidy_writeGateTimeout h) (tidy_ite (tidy_ite (tidy_refuse h) (tidy_updCore h))
    (tidy_ite (tidy_updCore h) (tidy_ite (tidy_ite (tidy_refuse h) (tidy_updCore h))
    (tidy_ite (tidy_updCore h)
    (tidy_ite (tidy_writeTallyClear h) (tidy_ite (tidy_storeReg h) (tidy_ite (tidy_ite (tidy_refuse h) (tidy_updCore h))
    (tidy_storeReg h))))))))))

theorem tidy_writePortCmd {p v} (h : Tidy s) : Tidy (writePortCmd s p v) := by
  delta writePortCmd
  exact tidy_ite h (tidy_ite (tidy_refuse h) (tidy_ite (tidy_portRekey (tidy_ite (tidy_portRetrain h) h))
    (tidy_ite (tidy_portRetrain h) h)))

theorem tidy_writePort {p off v} (h : Tidy s) : Tidy (writePort s p off v) := by
  delta writePort
  exact tidy_ite (tidy_writePortCmd h) (tidy_ite (tidy_storeReg h) (tidy_storeReg h))

theorem tidy_writePantryCmd {v} (h : Tidy s) : Tidy (writePantryCmd s v) := by
  delta writePantryCmd
  exact tidy_ite h (tidy_ite (tidy_refuse h) (tidy_latchDrive (tidy_freshWord (tidy_freshWord (tidy_freshWord h)))))

theorem tidy_writePage {b i off v} (h : Tidy s) : Tidy (writePage s b i off v) := by
  delta writePage
  split
  · exact tidy_writeGlobal h
  · exact tidy_writeReeve h
  · exact tidy_ite (tidy_writeSetHi h) (tidy_storeReg h)
  · exact tidy_writeSteward h
  · exact tidy_ite (tidy_storeIf h) (tidy_storeReg h)
  · exact tidy_writeHarvest h
  · exact tidy_ite (tidy_writeSlotCmd h) (tidy_storeReg h)
  · exact tidy_writeContext h
  · exact tidy_ite (tidy_writeCellarReset h) (tidy_storeReg h)
  · exact tidy_writeCore h
  · exact tidy_writePort h
  · exact tidy_ite (tidy_writeTerrier3 h) (tidy_storeReg h)
  · exact tidy_ite (tidy_writeGroup3 h) (tidy_storeReg h)
  · exact tidy_ite (tidy_writeLaneEntry h) (tidy_storeReg h)
  · exact tidy_ite (tidy_writePantryCmd h) (tidy_storeReg h)
  · exact tidy_storeReg h

theorem tidy_writeReg {b i off v} (h : Tidy s) : Tidy (writeReg s b i off v) := by
  delta writeReg
  exact tidy_ite h
    (tidy_ite (tidy_writeSel h)
    (tidy_ite (tidy_refuse h)
    (tidy_ite (tidy_refuse h) (tidy_ite (tidy_writeCtrl h) (tidy_ite (tidy_writeHeader h) (tidy_writePage h))))))

theorem tidy_hostStore {b i off v} (h : Tidy s) : Tidy (hostStore s b i off v) := by
  delta hostStore
  exact tidy_healthStep (tidy_hostWrite (tidy_ite h (tidy_endCheck h)) (fun _ h1 => tidy_writeReg h1))

theorem tidy_shownStore {b off v} (h : Tidy s) : Tidy (shownStore s b off v) := by
  delta shownStore
  exact tidy_hostStore h

theorem tidy_bar0Write {off len v} (h : Tidy s) : Tidy (bar0Write s off len v) := by
  delta bar0Write
  split
  · exact tidy_unsupported h
  · split
    · exact h
    · exact tidy_hostStore h

theorem tidy_writeDoorbell {ctx off v} (h : Tidy s) : Tidy (writeDoorbell s ctx off v) := by
  delta writeDoorbell
  exact tidy_ite h
    (tidy_ite (tidy_writeRing h)
    (tidy_ite (tidy_writeEvqCfg h) (tidy_ite (tidy_writeEvqHead h) (tidy_doorbellWrite h (fun _ h1 => tidy_storeReg h1)))))

theorem tidy_doorbellStore {ctx off len v ide} (h : Tidy s) : Tidy (doorbellStore s ctx off len v ide) := by
  delta doorbellStore
  exact tidy_ite (tidy_unsupported h) (tidy_writeDoorbell h)

theorem kept_execRegisterWrite {space offset len value ide} (h : Tidy s) :
    Kept (execRegisterWrite space offset len value ide s) := by
  delta execRegisterWrite
  split
  · exact kept_next (tidy_bar0Write h)
  · exact kept_next (tidy_doorbellStore h)

theorem tidy_ctrlWrite {n f on v} (h : Tidy s) : Tidy (ctrlWrite s n f on v) := by
  delta ctrlWrite
  split
  · exact h
  · split
    · exact h
    · exact tidy_hostStore h

theorem kept_execEnable {page value} (h : Tidy s) : Kept (execEnable page value s) := by
  delta execEnable
  exact kept_next (tidy_ctrlWrite h)

theorem kept_execDisable {page value} (h : Tidy s) : Kept (execDisable page value s) := by
  delta execDisable
  exact kept_next (tidy_ctrlWrite h)

theorem kept_execQuiesce {page value} (h : Tidy s) : Kept (execQuiesce page value s) := by
  delta execQuiesce
  exact kept_next (tidy_ctrlWrite h)

theorem kept_execEnableCheckEnd {page index} (h : Tidy s) : Kept (execEnableCheckEnd page index s) := by
  delta execEnableCheckEnd
  split
  · exact kept_next h
  · exact kept_next (tidy_endCheck h)

theorem kept_execQuiesceDone {page index} (h : Tidy s) : Kept (execQuiesceDone page index s) := by
  delta execQuiesceDone
  split
  · exact kept_next h
  · exact kept_ite (kept_next (tidy_setRbit h)) (kept_next h)

theorem kept_execContextSwitchReq {next} (h : Tidy s) : Kept (execContextSwitchReq next s) := by
  delta execContextSwitchReq
  exact kept_next (tidy_shownStore h)

theorem kept_execContextReset (h : Tidy s) : Kept (execContextReset s) := by
  delta execContextReset
  exact kept_next (tidy_shownStore h)

theorem kept_execAlmGo (h : Tidy s) : Kept (execAlmGo s) := by
  delta execAlmGo
  exact kept_next (tidy_shownStore h)

theorem kept_execStepGo (h : Tidy s) : Kept (execStepGo s) := by
  delta execStepGo
  exact kept_next (tidy_shownStore h)

theorem kept_execStepDrop (h : Tidy s) : Kept (execStepDrop s) := by
  delta execStepDrop
  exact kept_next (tidy_shownStore h)

theorem kept_execGateArm {value} (h : Tidy s) : Kept (execGateArm value s) := by
  delta execGateArm
  exact kept_next (tidy_shownStore h)

theorem kept_execGateDisarm {value} (h : Tidy s) : Kept (execGateDisarm value s) := by
  delta execGateDisarm
  exact kept_next (tidy_shownStore h)

theorem kept_execTallyClear {value} (h : Tidy s) : Kept (execTallyClear value s) := by
  delta execTallyClear
  exact kept_next (tidy_shownStore h)

theorem kept_execPortRetrain (h : Tidy s) : Kept (execPortRetrain s) := by
  delta execPortRetrain
  exact kept_next (tidy_shownStore h)

theorem kept_execPortRekey (h : Tidy s) : Kept (execPortRekey s) := by
  delta execPortRekey
  exact kept_next (tidy_shownStore h)

theorem kept_execStepAllow (h : Tidy s) : Kept (execStepAllow s) := by
  delta execStepAllow
  exact kept_next (tidy_shownStore h)

theorem kept_execSetHi {value} (h : Tidy s) : Kept (execSetHi value s) := by
  delta execSetHi
  exact kept_next (tidy_shownStore h)

theorem tidy_refillCommand {op kind ctx} (h : Tidy s) : Tidy (refillCommand s op kind ctx) := by
  delta refillCommand
  exact tidy_shownStore h

theorem kept_execPrepare {kind ctx} (h : Tidy s) : Kept (execPrepare kind ctx s) := by
  delta execPrepare
  exact kept_next (tidy_refillCommand h)

theorem kept_execStart (h : Tidy s) : Kept (execStart s) := by
  delta execStart
  exact kept_next (tidy_refillCommand h)

theorem kept_execAbort (h : Tidy s) : Kept (execAbort s) := by
  delta execAbort
  exact kept_next (tidy_refillCommand h)

theorem kept_execServe {ctx} (h : Tidy s) : Kept (execServe ctx s) := by
  delta execServe
  exact kept_next (tidy_refillCommand h)

theorem kept_execAck (h : Tidy s) : Kept (execAck s) := by
  delta execAck
  exact kept_next (tidy_refillCommand h)

theorem kept_execRescan {drive} (h : Tidy s) : Kept (execRescan drive s) := by
  delta execRescan
  exact kept_next (tidy_hostWrite (tidy_endCheck h) (fun _ h1 => tidy_ite (tidy_refuse h1) (tidy_latchDrive h1)))

end Sys2Proof.Machine
end

section
/-!
SUPPORT. Every command, and so every step, keeps the canonical form of memory.
-/
namespace Sys2Proof.Machine

variable {s : State}

/-! ## Every command keeps the form -/

/-- Every command keeps the form. -/
theorem kept_exec (h : Tidy s) : ∀ i, Kept (exec i s)
  | .coldReset => kept_execColdReset
  | .perstNLow => kept_execPerstNLow h
  | .resetDevice => kept_execResetDevice h
  | .resetPartition _ => kept_execResetPartition h
  | .resetPort _ => kept_execResetPort h
  | .pfFlr => kept_execPfFlr h
  | .vfFlr _ => kept_execVfFlr h
  | .dawnStepDone _ => kept_execDawnStepDone h
  | .railFault _ => kept_execRailFault h
  | .refclkLoss => kept_execRefclkLoss h
  | .testModeHigh => kept_execTestModeHigh h
  | .almGo => kept_execAlmGo h
  | .measureDone => kept_execMeasureDone h
  | .refillComplete _ => kept_execRefillComplete h
  | .halt _ => kept_execHalt h
  | .matrix _ => kept_execMatrix h
  | .vector _ => kept_execVector h
  | .move _ => kept_execMove h
  | .fetch _ => kept_execFetch h
  | .put _ => kept_execPut h
  | .reduce _ => kept_execReduce h
  | .atomic _ => kept_execAtomic h
  | .arrive _ => kept_execArrive h
  | .signal _ => kept_execSignal h
  | .seed _ => kept_execSeed h
  | .hist _ => kept_execHist h
  | .segment _ => kept_execSegment h
  | .almanacStarved _ _ => kept_execAlmanacStarved h
  | .loop _ => kept_execLoop h
  | .variant _ => kept_execVariant h
  | .switch _ => kept_execSwitch h
  | .commit _ => kept_execCommit h
  | .harvest _ => kept_execHarvest h
  | .entrySkip _ => kept_execEntrySkip h
  | .halted _ => kept_execHalted h
  | .slipRange _ => kept_execSlipRange h
  | .gateArm _ => kept_execGateArm h
  | .gateDisarm _ => kept_execGateDisarm h
  | .arriveReceived _ => kept_execArriveReceived h
  | .arrivalApply _ => kept_execArrivalApply h
  | .gateTimeout _ => kept_execGateTimeout h
  | .signalReceived _ => kept_execSignalReceived h
  | .matrixStart _ => kept_execMatrixStart h
  | .promotionDrain _ => kept_execPromotionDrain h
  | .tileQueuePush _ => kept_execTileQueuePush h
  | .matrixComplete _ => kept_execMatrixComplete h
  | .matrixRefusedComplete _ => kept_execMatrixRefusedComplete h
  | .tallyClear _ => kept_execTallyClear h
  | .vectorStart _ => kept_execVectorStart h
  | .vectorRefusedComplete _ => kept_execVectorRefusedComplete h
  | .tileTake _ => kept_execTileTake h
  | .tileRelease _ => kept_execTileRelease h
  | .vectorComplete _ => kept_execVectorComplete h
  | .nop _ => kept_execNop h
  | .add _ => kept_execAdd h
  | .sub _ => kept_execSub h
  | .mul _ => kept_execMul h
  | .fma _ => kept_execFma h
  | .fms _ => kept_execFms h
  | .min _ => kept_execMin h
  | .max _ => kept_execMax h
  | .cmp _ => kept_execCmp h
  | .sel _ => kept_execSel h
  | .exp2 _ => kept_execExp2 h
  | .log2 _ => kept_execLog2 h
  | .rcp _ => kept_execRcp h
  | .rsq _ => kept_execRsq h
  | .cvt _ => kept_execCvt h
  | .cvtf _ => kept_execCvtf h
  | .perm _ => kept_execPerm h
  | .bfly _ => kept_execBfly h
  | .rot _ => kept_execRot h
  | .ilv _ => kept_execIlv h
  | .dlv _ => kept_execDlv h
  | .pack _ => kept_execPack h
  | .unpack _ => kept_execUnpack h
  | .red _ => kept_execRed h
  | .iadd _ => kept_execIadd h
  | .and _ => kept_execAnd h
  | .or _ => kept_execOr h
  | .xor _ => kept_execXor h
  | .shl _ => kept_execShl h
  | .shr _ => kept_execShr h
  | .sra _ => kept_execSra h
  | .imin _ => kept_execImin h
  | .imax _ => kept_execImax h
  | .icmp _ => kept_execIcmp h
  | .iota _ => kept_execIota h
  | .mand _ => kept_execMand h
  | .mor _ => kept_execMor h
  | .mxor _ => kept_execMxor h
  | .mnot _ => kept_execMnot h
  | .ld _ => kept_execLd h
  | .st _ => kept_execSt h
  | .stb _ => kept_execStb h
  | .aadd _ => kept_execAadd h
  | .trel _ => kept_execTrel h
  | .vectorLoop _ => kept_execVectorLoop h
  | .endProgram _ => kept_execEndProgram h
  | .moveComplete _ _ => kept_execMoveComplete h
  | .memoryRead _ _ _ => kept_execMemoryRead h
  | .memoryWrite _ _ _ _ => kept_execMemoryWrite h
  | .accumulateWrite _ _ _ _ _ _ _ _ _ _ => kept_execAccumulateWrite h
  | .refreshWindow _ => kept_execRefreshWindow h
  | .refreshWindowEnd _ => kept_execRefreshWindowEnd h
  | .hbmRfm _ => kept_execHbmRfm h
  | .throttleAdmit _ _ => kept_execThrottleAdmit h
  | .bondSelfTest _ => kept_execBondSelfTest h
  | .selfTestComplete _ _ => kept_execSelfTestComplete h
  | .wearWriteback => kept_execWearWriteback h
  | .cellarReset _ => kept_execCellarReset h
  | .cellarQuiesced _ => kept_execCellarQuiesced h
  | .cellarWipeDone _ => kept_execCellarWipeDone h
  | .laneSignalDetect _ => kept_execLaneSignalDetect h
  | .laneReport _ _ _ => kept_execLaneReport h
  | .fecLock _ => kept_execFecLock h
  | .negotiate _ => kept_execNegotiate h
  | .secure _ => kept_execSecure h
  | .phaseTimeout _ => kept_execPhaseTimeout h
  | .flitTransmit _ _ => kept_execFlitTransmit h
  | .flitReceived _ _ _ _ _ => kept_execFlitReceived h
  | .replayTimeout _ => kept_execReplayTimeout h
  | .laneFail _ _ => kept_execLaneFail h
  | .retrainDone _ => kept_execRetrainDone h
  | .peerSilent _ => kept_execPeerSilent h
  | .portRetrain => kept_execPortRetrain h
  | .portRekey => kept_execPortRekey h
  | .rekeyLimit _ => kept_execRekeyLimit h
  | .bellFrameTimer => kept_execBellFrameTimer h
  | .bellSync _ => kept_execBellSync h
  | .bellHoldover => kept_execBellHoldover h
  | .delayReqTimer => kept_execDelayReqTimer h
  | .delayReq _ => kept_execDelayReq h
  | .delayResp _ => kept_execDelayResp h
  | .bellOutPulse => kept_execBellOutPulse h
  | .bellOutPulseEnd => kept_execBellOutPulseEnd h
  | .bellInEdge => kept_execBellInEdge h
  | .stepAllow => kept_execStepAllow h
  | .setHi _ => kept_execSetHi h
  | .txnIssue _ => kept_execTxnIssue h
  | .packetForward _ _ => kept_execPacketForward h
  | .readReq _ => kept_execReadReq h
  | .writeReq _ => kept_execWriteReq h
  | .writePosted _ => kept_execWritePosted h
  | .atomicReq _ => kept_execAtomicReq h
  | .readRsp _ => kept_execReadRsp h
  | .statusRsp _ => kept_execStatusRsp h
  | .atomicRsp _ => kept_execAtomicRsp h
  | .tagTimeout _ _ => kept_execTagTimeout h
  | .tagRetireEnd _ _ => kept_execTagRetireEnd h
  | .terrierCommit _ => kept_execTerrierCommit h
  | .terrierUpdateDone => kept_execTerrierUpdateDone h
  | .groupCommit _ => kept_execGroupCommit h
  | .lanemapEntryWrite _ => kept_execLanemapEntryWrite h
  | .selWrite _ _ => kept_execSelWrite h
  | .nodeWrite _ => kept_execNodeWrite h
  | .mgmtSrRelay _ => kept_execMgmtSrRelay h
  | .identify _ => kept_execIdentify h
  | .assign _ => kept_execAssign h
  | .lanemapWrite _ => kept_execLanemapWrite h
  | .groupWrite _ => kept_execGroupWrite h
  | .mgmtResponse _ => kept_execMgmtResponse h
  | .mgmtSend => kept_execMgmtSend h
  | .mgmtSrSend => kept_execMgmtSrSend h
  | .mgmtTimeout => kept_execMgmtTimeout h
  | .lcCmd _ => kept_execLcCmd h
  | .fwErase _ => kept_execFwErase h
  | .fwWrite _ => kept_execFwWrite h
  | .fwVerify _ => kept_execFwVerify h
  | .fwCmdDone _ => kept_execFwCmdDone h
  | .reduceAdd _ => kept_execReduceAdd h
  | .chunkCombine _ => kept_execChunkCombine h
  | .chunkTotalWritten _ => kept_execChunkTotalWritten h
  | .chunkTimeout _ => kept_execChunkTimeout h
  | .reduceComplete _ _ => kept_execReduceComplete h
  | .stepReady => kept_execStepReady h
  | .stepGo => kept_execStepGo h
  | .stepDrop => kept_execStepDrop h
  | .stepDropDone => kept_execStepDropDone h
  | .watchPeriod => kept_execWatchPeriod h
  | .harvestArm => kept_execHarvestArm h
  | .pageCopyDone _ => kept_execPageCopyDone h
  | .harvestStallLimit _ => kept_execHarvestStallLimit h
  | .pantryCompletion _ _ _ => kept_execPantryCompletion h
  | .pantryCmdTimeout _ => kept_execPantryCmdTimeout h
  | .prepare _ _ => kept_execPrepare h
  | .start => kept_execStart h
  | .abort => kept_execAbort h
  | .serve _ => kept_execServe h
  | .ack => kept_execAck h
  | .sourceSilent => kept_execSourceSilent h
  | .contextSwitchReq _ => kept_execContextSwitchReq h
  | .switchOut => kept_execSwitchOut h
  | .forcedOff => kept_execForcedOff h
  | .saveStart => kept_execSaveStart h
  | .saveDone => kept_execSaveDone h
  | .restoreDone => kept_execRestoreDone h
  | .contextReset => kept_execContextReset h
  | .wipeDone _ => kept_execWipeDone h
  | .assignSlot _ => kept_execAssignSlot h
  | .releaseSlot => kept_execReleaseSlot h
  | .entropyFail => kept_execEntropyFail h
  | .stewardPeriod _ => kept_execStewardPeriod h
  | .estimateComplete => kept_execEstimateComplete h
  | .thermtrip _ _ => kept_execThermtrip h
  | .vfTargetWrite _ => kept_execVfTargetWrite h
  | .vfSettle _ => kept_execVfSettle h
  | .droop _ _ => kept_execDroop h
  | .droopEnd _ _ => kept_execDroopEnd h
  | .curfew => kept_execCurfew h
  | .curfewRelease => kept_execCurfewRelease h
  | .curfewHoldEnd => kept_execCurfewHoldEnd h
  | .pmbusTransactionDone _ _ => kept_execPmbusTransactionDone h
  | .pmbusRetry _ => kept_execPmbusRetry h
  | .powerRun => kept_execPowerRun h
  | .powerDusk => kept_execPowerDusk h
  | .powerNight => kept_execPowerNight h
  | .powerTransitionDone => kept_execPowerTransitionDone h
  | .doorbell _ _ _ _ _ => kept_execDoorbell h
  | .evqEnable _ _ _ => kept_execEvqEnable h
  | .evqHeadWrite _ _ _ => kept_execEvqHeadWrite h
  | .evqMessage _ => kept_execEvqMessage h
  | .windowRead _ _ _ _ => kept_execWindowRead h
  | .windowWrite _ _ _ _ => kept_execWindowWrite h
  | .pcieLink _ _ _ => kept_execPcieLink h
  | .ideFail _ => kept_execIdeFail h
  | .rescan _ => kept_execRescan h
  | .smartRefresh => kept_execSmartRefresh h
  | .entdaa _ => kept_execEntdaa h
  | .rstdaa => kept_execRstdaa h
  | .setEndpointId _ => kept_execSetEndpointId h
  | .getEndpointId => kept_execGetEndpointId h
  | .getMctpVersionSupport => kept_execGetMctpVersionSupport h
  | .getMessageTypeSupport => kept_execGetMessageTypeSupport h
  | .getpdrrepositoryinfo => kept_execGetpdrrepositoryinfo h
  | .getpdr _ => kept_execGetpdr h
  | .getsensorreading _ => kept_execGetsensorreading h
  | .getstatesensorreadings _ => kept_execGetstatesensorreadings h
  | .setnumericeffectervalue _ _ => kept_execSetnumericeffectervalue h
  | .getnumericeffectervalue _ => kept_execGetnumericeffectervalue h
  | .getVersion _ _ => kept_execGetVersion h
  | .getCapabilities _ _ => kept_execGetCapabilities h
  | .negotiateAlgorithms _ _ => kept_execNegotiateAlgorithms h
  | .getDigests _ _ => kept_execGetDigests h
  | .getCertificate _ _ => kept_execGetCertificate h
  | .challenge _ _ => kept_execChallenge h
  | .getMeasurements _ _ => kept_execGetMeasurements h
  | .keyExchange _ _ => kept_execKeyExchange h
  | .finish _ _ => kept_execFinish h
  | .endSession _ _ => kept_execEndSession h
  | .bypass _ _ => kept_execBypass h
  | .idcode => kept_execIdcode h
  | .samplePreload _ _ => kept_execSamplePreload h
  | .extest _ _ => kept_execExtest h
  | .enable _ _ => kept_execEnable h
  | .enableCheckEnd _ _ => kept_execEnableCheckEnd h
  | .disable _ _ => kept_execDisable h
  | .quiesce _ _ => kept_execQuiesce h
  | .quiesceDone _ _ => kept_execQuiesceDone h
  | .readLoLatch _ _ _ _ _ => kept_execReadLoLatch h
  | .devqRec0Read _ => kept_execDevqRec0Read h
  | .registerWrite _ _ _ _ _ => kept_execRegisterWrite h
  | .perstNRise => kept_execPerstNRise h
  | .atomicComplete _ _ => kept_execAtomicComplete h
  | .loadComplete _ => kept_execLoadComplete h
  | .trainComplete _ _ => kept_execTrainComplete h
  | .orderlyPowerDown => kept_execOrderlyPowerDown h
  | .hbmRefresh _ => kept_execHbmRefresh h
  | .belltimeHoldEnd => kept_execBelltimeHoldEnd h
  | .ideKm _ => kept_execIdeKm h
  | .configurationRequest _ => kept_execConfigurationRequest h
  | .driveMemoryRequest _ => kept_execDriveMemoryRequest h

/-! ## A step keeps the form -/

/-- So does every step: a command, or a tick with none waiting. -/
theorem kept_step (h : Tidy s) : Kept (step s) := by
  delta step
  split
  · exact kept_next (tidy_idleStep h)
  · exact kept_exec (tidy_mk h) _

/-! ## O4 -/

/-- Settles O4: what a command answers is built from the state it starts from by operations that each keep the form. -/
theorem stepKeepsMemoryForm : Obligations.StepKeepsMemoryForm := fun _ t h hstep => kept_step h t hstep

end Sys2Proof.Machine
end

section
/-!
SUPPORT. What the Steward keeps for a die after a change of it, and what the writes of its voltages leave as it was (R390, R391, R414).
-/
namespace Sys2Proof.Machine

/-! ## What is kept for a die -/

@[simp] theorem soc_updSoc_same (s : State) (d : Nat) (f : Soc → Soc) : soc (updSoc s d f) d = f (soc s d) := tget_tset_same _ _ _ _

theorem soc_updSoc_ne (s : State) {d e : Nat} (f : Soc → Soc) (h : e ≠ d) : soc (updSoc s d f) e = soc s e :=
  tget_tset_ne _ _ _ h _

theorem soc_of_socs {s t : State} (h : t.socs = s.socs) (d : Nat) : soc t d = soc s d := by rw [soc, h, ← soc]

theorem Noted.socs {s t : State} (h : Noted s t) : t.socs = s.socs := (congrArg State.socs h.fields :)

theorem Noted.soc {s t : State} (h : Noted s t) (d : Nat) : soc t d = soc s d := soc_of_socs h.socs d

/-! ## What the Steward's own work leaves -/

/-- `t` differs from `s` in what the Steward keeps for the dies, and as a record in the device queue may leave it. -/
def onlySocs (s t : State) : Prop := ∃ k, onlyDevice { s with socs := k } t

theorem onlySocs_of_device {s t : State} (h : onlyDevice s t) : onlySocs s t := ⟨s.socs, h⟩

theorem onlySocs_refl (s : State) : onlySocs s s := onlySocs_of_device (onlyDevice_refl s)

theorem onlySocs_trans {s t u : State} (h : onlySocs s t) (k : onlySocs t u) : onlySocs s u := by
  obtain ⟨a, r, o, m, q, rfl⟩ := h
  obtain ⟨a', r', o', m', q', rfl⟩ := k
  exact ⟨a', r', o', m', q', rfl⟩

theorem onlySocs_ite {s t u : State} {p : Prop} [Decidable p] (h : onlySocs s t) (k : onlySocs s u) :
    onlySocs s (if p then t else u) := by
  split
  · exact h
  · exact k

theorem onlySocs_foldl {α : Type} {f : State → α → State} (hf : ∀ u x, onlySocs u (f u x)) : ∀ (l : List α) (s : State),
    onlySocs s (l.foldl f s)
  | [], s => onlySocs_refl s
  | x :: l, s => onlySocs_trans (hf s x) (onlySocs_foldl hf l (f s x))

theorem onlySocs_updSoc (s : State) (d : Nat) (f : Soc → Soc) : onlySocs s (updSoc s d f) := ⟨_, onlyDevice_refl _⟩

theorem onlySocs_powerRecord (s : State) (code unit detail : Nat) : onlySocs s (powerRecord s code unit detail) :=
  onlySocs_of_device (deviceRecord_only s _ _ _ _ _ _)

/-! ## Voltage writes (R391, R414) -/

theorem onlyRegs_pmbusSend (s : State) (d command value : Nat) : onlyRegs s (pmbusSend s d command value) :=
  onlyRegs_trans (emit_only s _) (emit_only _ _)

theorem onlySocs_sendVolt (s : State) (d : Nat) (w : VoltWrite) : onlySocs s (sendVolt s d w) :=
  onlySocs_trans (onlySocs_updSoc s d _) (onlySocs_of_device (onlyRegs_device (onlyRegs_pmbusSend _ d _ _)))

theorem soc_sendVolt (s : State) (d : Nat) (w : VoltWrite) : soc (sendVolt s d w) d = { soc s d with volt := some w } :=
  soc_updSoc_same s d (fun k => { k with volt := some w })

/-- A voltage write sends its page and its voltage. -/
theorem outputs_sendVolt (s : State) (d : Nat) (w : VoltWrite) : (sendVolt s d w).outputs = s.outputs ++ voltSent s d w :=
  List.append_assoc s.outputs [_] [_]

theorem onlySocs_setVolt (s : State) (d p : Nat) (upward : Bool) : onlySocs s (setVolt s d p upward) := onlySocs_sendVolt s d _

theorem onlySocs_moveTo (s : State) (d p : Nat) : onlySocs s (moveTo s d p) := by
  have hwrite : ∀ f upward, onlySocs s (setVolt (updSoc s d f) d p upward) := fun f upward =>
    onlySocs_trans (onlySocs_updSoc s d f) (onlySocs_setVolt _ d p upward)
  exact onlySocs_ite (onlySocs_ite (onlySocs_refl s) (hwrite _ true)) (onlySocs_ite (hwrite _ false) (onlySocs_refl s))

/-! ## The guard band (R235, R239, R390) -/

theorem onlySocs_updateGuard (s : State) (d : Nat) : onlySocs s (updateGuard s d) := by
  unfold updateGuard
  dsimp only
  refine onlySocs_ite (onlySocs_trans ?_ (onlySocs_moveTo _ d _)) ?_ <;>
    exact onlySocs_trans (onlySocs_updSoc s d _) (onlySocs_foldl (fun v p => onlySocs_powerRecord v 0x05 d _) _ _)

/-- The wear is written to storage, the trackers and the memories staying as they are. -/
theorem storeWear_stores (s : State) : (storeWear s).wearStored = s.wear ∧ (storeWear s).wear = s.wear
    ∧ sameMemory s (storeWear s) := by
  obtain ⟨k, r, o, m, q, h⟩ := onlySocs_foldl onlySocs_updateGuard (List.range 4) { s with wearStored := s.wear }
  rw [storeWear, h]
  exact ⟨rfl, rfl, fun _ => ⟨rfl, rfl⟩⟩

end Sys2Proof.Machine
end

section
/-!
PROOFS. Voltage writes that end, fail and are sent again, and the wear store (R235, R239, R391, R414).
-/
namespace Sys2Proof.Machine

variable {die : Fin 4} {s : State} {w : VoltWrite}

section
variable (hv : (soc s die.val).volt = some w) (hp : w.parked = false)
include hv hp

/-- A voltage that was written is settled. -/
theorem exec_pmbusTransactionDone_ok : exec (.pmbusTransactionDone die true) s
    = .next (updSoc s die.val (fun k => { k with volt := none, settleFrom := if w.upward then some s.time else none })) := by
  show execPmbusTransactionDone die true s = _
  simp only [execPmbusTransactionDone, hv, hp, Bool.false_eq_true, if_false, if_true]

/-- A first and a second failure are retried. -/
theorem exec_pmbusTransactionDone_retry (hf : w.failures < 2) : exec (.pmbusTransactionDone die false) s
    = .next (sendVolt s die.val { w with failures := w.failures + 1 }) := by
  show execPmbusTransactionDone die false s = _
  simp only [execPmbusTransactionDone, hv, hp, hf, Bool.false_eq_true, if_false, if_true]

/-- The third failure abandons an upward move and parks a downward one. -/
theorem exec_pmbusTransactionDone_third (hf : 2 ≤ w.failures) : exec (.pmbusTransactionDone die false) s
    = .next (if w.upward
      then pmbusFault (updSoc s die.val (fun k => { k with volt := none, rising := none, settleFrom := none })) die.val voutCommand
      else pmbusFault (updSoc s die.val (fun k =>
        { k with volt := some { w with failures := 0, parked := true, since := s.time } })) die.val voutCommand) := by
  show execPmbusTransactionDone die false s = _
  simp only [execPmbusTransactionDone, hv, hp, not_lt.2 hf, Bool.false_eq_true, if_false]
  split <;> rfl

end

theorem exec_pmbusRetry (hv : (soc s die.val).volt = some w) (hp : w.parked = true) (hdue : w.since.toNat + 2 ^ 14 ≤ s.time.toNat) :
    exec (.pmbusRetry die) s = .next (sendVolt s die.val { w with parked := false }) := by
  show execPmbusRetry die s = _
  unfold execPmbusRetry
  dsimp only
  rw [hv]
  exact if_pos ⟨hp, hdue⟩

theorem exec_wearWriteback {s1 : State} (ht : s.time.toNat % 2 ^ 28 = 0) (hf : fireOnce s 4 = some s1) :
    exec .wearWriteback s = .next (storeWear s1) := by
  show execWearWriteback s = _
  rw [execWearWriteback, if_neg (not_not.2 ht), hf]

theorem soc_pmbusFault (s : State) (d command e : Nat) : soc (pmbusFault s d command) e = soc s e :=
  Noted.soc (noted_deviceRecord (b := .sideband) (i := 0) (by decide) (by decide) s _ _ _ _) e

/-- Settles O28: each answer changes what is kept for its die, a write sent or sent again is that of `sendVolt`, and both wear commands
store what `storeWear` stores. -/
theorem voltageAndWear : Obligations.VoltageAndWear := by
  refine ⟨fun die s w hv hp => ⟨_, exec_pmbusTransactionDone_ok hv hp, ?_, ?_, rfl⟩,
    fun die s w hv hp hf => ⟨_, exec_pmbusTransactionDone_retry hv hp hf, ?_, outputs_sendVolt s die.val _⟩,
    fun die s w hv hp hf => ⟨_, exec_pmbusTransactionDone_third hv hp hf, ?third⟩,
    fun die s w hv hp hdue => ⟨_, exec_pmbusRetry hv hp hdue, ?_, outputs_sendVolt s die.val _⟩,
    fun s s1 ht hf => ⟨_, exec_wearWriteback ht hf, ?writeback⟩, fun s => ⟨_, rfl, storeWear_stores s⟩⟩
  case third =>
    cases hup : w.upward with
    | true => simp [soc_pmbusFault]
    | false => simp [soc_pmbusFault]
  case writeback =>
    obtain ⟨f, rfl⟩ := fireOnce_eq hf
    exact storeWear_stores _
  · rw [soc_updSoc_same]
  · rw [soc_updSoc_same]
  · rw [soc_sendVolt]
  · rw [soc_sendVolt]

end Sys2Proof.Machine
end

section
/-!
SUPPORT. The sensors of a Steward period: what sampling and heat write, and what they leave (R232, R234, R386, R387).
-/
namespace Sys2Proof.Machine

/-! ## Events of a page (R443) -/

theorem setRbits_only (b : Block) (i off : Nat) : ∀ (ks : List Nat) (s : State),
    onlyRegs s (ks.foldl (fun s k => setRbit s b i off k true) s)
  | [], s => onlyRegs_refl s
  | _ :: ks, s => onlyRegs_trans (setReg_only s b i off _) (setRbits_only b i off ks _)

theorem countRecord_only (s : State) (b : Block) (i code : Nat) (d : Word) : onlyRegs s (countRecord s b i code d) := by
  have hset := setReg_only
  refine onlyRegs_trans ?_ (hset _ _ _ _ _)
  split
  · exact onlyRegs_trans (onlyRegs_trans (onlyRegs_trans (hset _ _ _ _ _) (hset _ _ _ _ _)) (hset _ _ _ _ _)) (hset _ _ _ _ _)
  · exact onlyRegs_trans (hset _ _ _ _ _) (hset _ _ _ _ _)

/-- An event in the device queue touches registers, outputs and the queue alone. -/
theorem deviceEvent_only (s : State) (b : Block) (i cls code unit : Nat) (d : Word) (ks : List Nat) :
    onlyDevice s (deviceEvent s b i cls code unit d ks) :=
  onlyDevice_trans (onlyRegs_device (onlyRegs_trans (onlyRegs_trans (countRecord_only s b i code d) (setRbits_only b i _ ks _))
    (msixOnRise_only _ _ _ _))) (devqPush_only _ _)

/-! ## Every die changed in turn -/

/-- Changing what is kept for the first dies changes nothing else. -/
theorem foldl_updSoc_eq (f : Nat → Soc → Soc) : ∀ (l : List Nat) (s : State),
    l.foldl (fun s d => updSoc s d (f d)) s = { s with socs := (l.foldl (fun s d => updSoc s d (f d)) s).socs }
  | [], _ => rfl
  | d :: l, s => foldl_updSoc_eq f l (updSoc s d (f d))

theorem soc_foldl_updSoc (s : State) (f : Nat → Soc → Soc) {n d : Nat} (hd : d < n) :
    soc ((List.range n).foldl (fun s d => updSoc s d (f d)) s) d = f d (soc s d) := by
  have hlater : ∀ m, soc ((List.range m).foldl (fun s d => updSoc s d (f d)) s) d = if d < m then f d (soc s d) else soc s d := by
    intro m
    induction m with
    | zero => rfl
    | succ m ih =>
      rw [List.range_succ, List.foldl_append]
      show soc (updSoc _ m (f m)) d = _
      by_cases hm : d = m
      · subst hm
        rw [soc_updSoc_same, ih, if_neg (lt_irrefl d), if_pos (Nat.lt_succ_self d)]
      · rw [soc_updSoc_ne _ _ hm, ih]
        exact if_congr (by omega) rfl rfl
  rw [hlater, if_pos hd]

/-! ## Sampling (R234, R386) -/

/-- The sensors of the dies sampled: quadrants and link die of each. -/
def diesSampled (s : State) (r : PeriodReport) : State :=
  (List.range 4).foldl (fun s d => updSoc s d (fun k => { k with
    quads := (List.range 4).map (fun j => (r.quads.getD (4 * d + j) 0).toNat), link := (r.links.getD d 0).toNat })) s

/-- The wear trackers sampled. -/
def wearSampled (s : State) (r : PeriodReport) : State :=
  (List.range 16).foldl (fun s i => sampleQuad s i (r.quads.getD i 0).toNat) s

/-- The first `n` stacks sampled. -/
def stacksSampled (s : State) (r : PeriodReport) (n : Nat) : State :=
  (List.range n).foldl (fun s k => sampleStack s k (r.stackTemps.getD k 0).toNat) s

theorem sampleAll_eq (s : State) (r : PeriodReport) : sampleAll s r = stacksSampled (wearSampled (diesSampled s r) r) r 16 := rfl

theorem diesSampled_socs (s : State) (r : PeriodReport) : ∃ k, diesSampled s r = { s with socs := k } :=
  ⟨_, foldl_updSoc_eq _ _ s⟩

theorem foldl_sampleQuad_eq (f : Nat → Nat) : ∀ (l : List Nat) (s : State),
    l.foldl (fun s i => sampleQuad s i (f i)) s = { s with wear := (l.foldl (fun s i => sampleQuad s i (f i)) s).wear }
  | [], _ => rfl
  | i :: l, s => foldl_sampleQuad_eq f l (sampleQuad s i (f i))

theorem wearSampled_wear (s : State) (r : PeriodReport) : ∃ w, wearSampled s r = { s with wear := w } :=
  ⟨_, foldl_sampleQuad_eq (fun i => (r.quads.getD i 0).toNat) _ s⟩

theorem sampleStack_only (s : State) (k t : Nat) : onlyRegs s (sampleStack s k t) := by
  unfold sampleStack
  dsimp only
  split
  · exact onlyRegs_trans (setReg_only s _ _ _ _) (raiseInt_only _ _ _ _)
  · exact setReg_only s _ _ _ _

/-- A stack's sample writes its temperature and its interrupt bit. -/
theorem reg_sampleStack_ne (s : State) (k t : Nat) {b : Block} {i off : Nat} (ht : regKey b i off ≠ regKey .hbm k Off.hbmTemp)
    (hi : regKey b i off ≠ regKey .hbm k Off.intStatus) : reg (sampleStack s k t) b i off = reg s b i off := by
  unfold sampleStack
  dsimp only
  split
  · rw [raiseInt_reg _ _ _ _ _ _ _ hi, reg_setRf_ne _ _ _ _ _ _ _ _ _ _ ht]
  · rw [reg_setRf_ne _ _ _ _ _ _ _ _ _ _ ht]

theorem temp_sampleStack_same (s : State) (k t : Nat) : rf (sampleStack s k t) .hbm k Off.hbmTemp 0 10 = t % 2 ^ 10 := by
  unfold sampleStack
  dsimp only
  split
  · rw [rf, raiseInt_reg _ _ _ _ _ _ _ (regKey_ne_off (by decide)), ← rf, rf_setRf_same _ _ _ _ _ _ _ (by decide)]
  · rw [rf_setRf_same _ _ _ _ _ _ _ (by decide)]

theorem stacksSampled_succ (s : State) (r : PeriodReport) (n : Nat) :
    stacksSampled s r (n + 1) = sampleStack (stacksSampled s r n) n (r.stackTemps.getD n 0).toNat := by
  rw [stacksSampled, List.range_succ, List.foldl_append]
  rfl

theorem stacksSampled_only (s : State) (r : PeriodReport) (n : Nat) : onlyRegs s (stacksSampled s r n) := by
  induction n with
  | zero => exact onlyRegs_refl s
  | succ n ih =>
    rw [stacksSampled_succ]
    exact onlyRegs_trans ih (sampleStack_only _ _ _)

theorem reg_stacksSampled_stack (s : State) (r : PeriodReport) {d off : Nat} (hd : d < 512) (ho : off < 4096) {n : Nat} (hn : n ≤ 512) :
    reg (stacksSampled s r n) .stack d off = reg s .stack d off := by
  induction n with
  | zero => rfl
  | succ n ih =>
    have hkey : ∀ o, o < 4096 → regKey .stack d off ≠ regKey .hbm n o := fun o h => regKey_ne_page (by decide) h ho (by omega) hd
    rw [stacksSampled_succ, reg_sampleStack_ne _ _ _ (hkey _ (by decide)) (hkey _ (by decide)), ih (by omega)]

/-- Each stack's page shows its temperature. -/
theorem temp_stacksSampled (s : State) (r : PeriodReport) {n k : Nat} (hk : k < n) :
    rf (stacksSampled s r n) .hbm k Off.hbmTemp 0 10 = (r.stackTemps.getD k 0).toNat := by
  induction n with
  | zero => exact absurd hk (Nat.not_lt_zero k)
  | succ n ih =>
    rw [stacksSampled_succ]
    by_cases hn : k = n
    · subst hn
      rw [temp_sampleStack_same, Nat.mod_eq_of_lt (r.stackTemps.getD k 0).isLt]
    · rw [rf, reg_sampleStack_ne _ _ _ (regKey_ne_inst hn (by decide) (by decide)) (regKey_ne_inst hn (by decide) (by decide)), ← rf,
        ih (by omega)]

/-- The sensors sampled change what is kept for the dies, the wear trackers, registers and messages. -/
theorem sampleAll_only (s : State) (r : PeriodReport) : ∃ w, onlyRegs { diesSampled s r with wear := w } (sampleAll s r) := by
  obtain ⟨w, hw⟩ := wearSampled_wear (diesSampled s r) r
  refine ⟨w, ?_⟩
  rw [← hw, sampleAll_eq]
  exact stacksSampled_only _ r 16

theorem reg_sampleAll_stack (s : State) (r : PeriodReport) {d off : Nat} (hd : d < 512) (ho : off < 4096) :
    reg (sampleAll s r) .stack d off = reg s .stack d off := by
  obtain ⟨k, hk⟩ := diesSampled_socs s r
  obtain ⟨w, hw⟩ := wearSampled_wear (diesSampled s r) r
  rw [sampleAll_eq, reg_stacksSampled_stack _ r hd ho (by decide), hw, hk]
  rfl

theorem soc_sampleAll (s : State) (r : PeriodReport) {d : Nat} (hd : d < 4) : soc (sampleAll s r) d = { soc s d with
    quads := (List.range 4).map (fun j => (r.quads.getD (4 * d + j) 0).toNat), link := (r.links.getD d 0).toNat } := by
  obtain ⟨w, x, o, m, h⟩ := sampleAll_only s r
  have hsame : soc (sampleAll s r) d = soc (diesSampled s r) d := by
    generalize diesSampled s r = u at h ⊢
    rw [h]
    rfl
  rw [hsame, diesSampled, soc_foldl_updSoc s _ hd]

/-! ## Heat (R387) -/

/-- `t` is `s` after heat has moved the caps of some dies: what is sampled and what the dies run at is as before. -/
structure Heated (s t : State) : Prop where
  only : onlySocs s t
  words : ∀ k, tallied k = false → tget (regDefault k) k t.regs = tget (regDefault k) k s.regs
  socs : ∀ d, (soc t d).quads = (soc s d).quads ∧ (soc t d).link = (soc s d).link ∧ (soc t d).cur = (soc s d).cur
    ∧ (soc t d).bubble = (soc s d).bubble

theorem Heated.refl (s : State) : Heated s s := ⟨onlySocs_refl s, fun _ _ => rfl, fun _ => ⟨rfl, rfl, rfl, rfl⟩⟩

theorem Heated.trans {s t u : State} (h : Heated s t) (k : Heated t u) : Heated s u := by
  refine ⟨onlySocs_trans h.only k.only, fun key hk => (k.words key hk).trans (h.words key hk), fun d => ?_⟩
  obtain ⟨hq, hl, hc, hb⟩ := h.socs d
  obtain ⟨kq, kl, kc, kb⟩ := k.socs d
  exact ⟨kq.trans hq, kl.trans hl, kc.trans hc, kb.trans hb⟩

theorem heated_updSoc (s : State) (d : Nat) {f : Soc → Soc}
    (hf : ∀ k, (f k).quads = k.quads ∧ (f k).link = k.link ∧ (f k).cur = k.cur ∧ (f k).bubble = k.bubble) : Heated s (updSoc s d f) := by
  refine ⟨onlySocs_updSoc s d _, fun _ _ => rfl, fun e => ?_⟩
  by_cases he : e = d
  · subst he
    rw [soc_updSoc_same]
    exact hf _
  · rw [soc_updSoc_ne _ _ he]
    exact ⟨rfl, rfl, rfl, rfl⟩

theorem heated_powerEvent (s : State) (code unit detail k : Nat) : Heated s (powerEvent s code unit detail k) := by
  have hn : Noted s (powerEvent s code unit detail k) := noted_deviceEvent (by decide) (by decide) s _ _ _ _ _
  refine ⟨onlySocs_of_device (deviceEvent_only s _ _ _ _ _ _ _), hn.words, fun d => ?_⟩
  rw [hn.soc d]
  exact ⟨rfl, rfl, rfl, rfl⟩

theorem heated_ite {s t u : State} {p : Prop} [Decidable p] (h : Heated s t) (k : Heated s u) : Heated s (if p then t else u) := by
  split
  · exact h
  · exact k

theorem heated_heatStep (s : State) (d : Nat) : Heated s (heatStep s d) := by
  delta heatStep
  extract_lets limit hotQuad hot cool before u
  have hmoved : Heated s u := heated_updSoc s d fun _ => ⟨rfl, rfl, rfl, rfl⟩
  clear_value u
  exact heated_ite (hmoved.trans (heated_powerEvent u _ _ _ _)) hmoved

theorem heated_heatSteps : ∀ (l : List Nat) (s : State), Heated s (l.foldl heatStep s)
  | [], s => Heated.refl s
  | d :: l, s => (heated_heatStep s d).trans (heated_heatSteps l (heatStep s d))

/-! ## HOT footprints (R232) -/

theorem testBit_or_two_pow (m : BitVec 512) (f g : Fin 512) :
    (m ||| BitVec.ofNat 512 (2 ^ g.val)).toNat.testBit f.val = (m.toNat.testBit f.val || decide (f = g)) := by
  rw [BitVec.testBit_toNat, BitVec.testBit_toNat, BitVec.getLsbD_or, BitVec.getLsbD_ofNat, Nat.testBit_two_pow, decide_eq_true f.isLt,
    Bool.true_and]
  congr 1
  exact decide_eq_decide.2 ⟨fun h => Fin.ext h.symm, fun h => by rw [h]⟩

/-- HOT are the footprints of which a core fed in as many sixteenths of its cycles as its die's threshold asks. -/
theorem testBit_hotSet (s : State) (feed : List (Fin 512 × Fin 17)) (f : Fin 512) : (hotSet s feed).toNat.testBit f.val = true
    ↔ ∃ n : Fin 17, (f, n) ∈ feed ∧ (stackActing s (f.val / 128)).1.toNat % 16 ≤ n.val := by
  have hfold : ∀ (l : List (Fin 512 × Fin 17)) (m : BitVec 512), (l.foldl (fun m x =>
      if (stackActing s (x.1.val / 128)).1.toNat % 16 ≤ x.2.val then m ||| BitVec.ofNat 512 (2 ^ x.1.val) else m) m).toNat.testBit f.val
        = true ↔ m.toNat.testBit f.val = true ∨ ∃ n : Fin 17, (f, n) ∈ l ∧ (stackActing s (f.val / 128)).1.toNat % 16 ≤ n.val := by
    intro l
    induction l with
    | nil => simp
    | cons x l ih =>
      obtain ⟨g, n⟩ := x
      intro m
      rw [List.foldl_cons, ih]
      by_cases hfg : f = g
      · subst hfg
        by_cases hn : (stackActing s (f.val / 128)).1.toNat % 16 ≤ n.val
        · rw [if_pos hn, testBit_or_two_pow]
          simp only [decide_true, Bool.or_true, true_or, true_iff]
          exact Or.inr ⟨n, List.mem_cons_self .., hn⟩
        · rw [if_neg hn]
          refine or_congr Iff.rfl (exists_congr fun n' => and_congr_left fun hn' => ?_)
          rw [List.mem_cons]
          exact ⟨Or.inr, fun h => h.resolve_left fun he => hn ((Prod.mk.inj he).2 ▸ hn')⟩
      · have hmem : ∀ n', (f, n') ∈ (g, n) :: l ↔ (f, n') ∈ l := fun n' => by simp [hfg]
        simp only [hmem]
        refine or_congr ?_ Iff.rfl
        split
        · rw [testBit_or_two_pow]; simp [hfg]
        · exact Iff.rfl
  have hzero : (0 : BitVec 512).toNat.testBit f.val = false := by
    rw [BitVec.testBit_toNat]
    exact BitVec.getLsbD_zero
  rw [hotSet, hfold, hzero]
  exact ⟨fun h => h.resolve_left Bool.false_ne_true, Or.inr⟩

end Sys2Proof.Machine
end

section
/-!
PROOFS. A Steward period: its samples, estimates and HOT footprints (R232, R379 to R382).
-/
namespace Sys2Proof.Machine

/-- The state whose sensors a period has sampled and whose caps heat has moved. -/
def periodSampled (s : State) (r : PeriodReport) : State := (List.range 4).foldl heatStep (sampleAll s r)

/-! ## Energy (R394) -/

/-- `t` differs from `s` in the energy counters alone. -/
def onlyEnergy (s t : State) : Prop := ∃ e, t = { s with energy := e }

theorem onlyEnergy_trans {s t u : State} (h : onlyEnergy s t) (k : onlyEnergy t u) : onlyEnergy s u := by
  obtain ⟨e, rfl⟩ := h
  obtain ⟨e', rfl⟩ := k
  exact ⟨e', rfl⟩

theorem onlyEnergy_foldl {α : Type} {f : State → α → State} (hf : ∀ u x, onlyEnergy u (f u x)) : ∀ (l : List α) (s : State),
    onlyEnergy s (l.foldl f s)
  | [], s => ⟨s.energy, rfl⟩
  | x :: l, s => onlyEnergy_trans (hf s x) (onlyEnergy_foldl hf l (f s x))

theorem onlyEnergy_addEnergy (s : State) (key n : Nat) : onlyEnergy s (addEnergy s key n) := ⟨_, rfl⟩

theorem onlyEnergy_attributeEnergy (s : State) (acts : List Activity) : onlyEnergy s (attributeEnergy s acts) :=
  onlyEnergy_trans (onlyEnergy_foldl (fun u _ => onlyEnergy_foldl (fun v _ => onlyEnergy_addEnergy v _ _) _ u) _ s)
    (onlyEnergy_addEnergy _ _ _)

/-! ## The samples and what heat does to the caps -/

/-- What a period's samples leave: the HOT states, the cores, the memories and the held values of STACK. -/
structure PeriodLeaves (s t : State) : Prop where
  hotFp : t.hotFp = s.hotFp
  cores : t.cores = s.cores
  mem : memEq s t
  held : t.stackHeld = s.stackHeld

theorem PeriodLeaves.trans {s t u : State} (h : PeriodLeaves s t) (k : PeriodLeaves t u) : PeriodLeaves s u :=
  ⟨k.hotFp.trans h.hotFp, k.cores.trans h.cores, h.mem.trans k.mem, k.held.trans h.held⟩

theorem periodLeaves_of_onlySocs {s t : State} (h : onlySocs s t) : PeriodLeaves s t := by
  obtain ⟨k, r, o, m, q, rfl⟩ := h
  exact ⟨rfl, rfl, ⟨rfl, rfl⟩, rfl⟩

theorem periodLeaves_sampleAll (s : State) (r : PeriodReport) : PeriodLeaves s (sampleAll s r) := by
  obtain ⟨k, hk⟩ := diesSampled_socs s r
  obtain ⟨w, hw⟩ := sampleAll_only s r
  have hdies : PeriodLeaves s { diesSampled s r with wear := w } := by
    rw [hk]
    exact ⟨rfl, rfl, ⟨rfl, rfl⟩, rfl⟩
  exact hdies.trans (periodLeaves_of_onlySocs (onlySocs_of_device (onlyRegs_device hw)))

theorem heated_periodSampled (s : State) (r : PeriodReport) : Heated (sampleAll s r) (periodSampled s r) := heated_heatSteps _ _

/-- The thresholds of HOT are those the dies acted under. -/
theorem stackActing_hotCtrl {s t : State} {d : Nat} (hh : t.stackHeld = s.stackHeld)
    (hr : reg t .stack d Off.stackHotCtrl = reg s .stack d Off.stackHotCtrl) : (stackActing t d).1 = (stackActing s d).1 := by
  unfold stackActing
  rw [hh]
  split
  · rfl
  · exact hr

theorem periodLeaves_periodSampled (s : State) (r : PeriodReport) : PeriodLeaves s (periodSampled s r) :=
  (periodLeaves_sampleAll s r).trans (periodLeaves_of_onlySocs (heated_periodSampled s r).only)

theorem soc_periodSampled (s : State) (r : PeriodReport) {d : Nat} (hd : d < 4) :
    (soc (periodSampled s r) d).quads = (List.range 4).map (fun j => (r.quads.getD (4 * d + j) 0).toNat)
      ∧ (soc (periodSampled s r) d).link = (r.links.getD d 0).toNat ∧ (soc (periodSampled s r) d).cur = (soc s d).cur
      ∧ (soc (periodSampled s r) d).bubble = (soc s d).bubble := by
  have h := (heated_periodSampled s r).socs d
  rwa [soc_sampleAll s r hd] at h

theorem temp_periodSampled (s : State) (r : PeriodReport) {k : Nat} (hk : k < 16) :
    rf (periodSampled s r) .hbm k Off.hbmTemp 0 10 = (r.stackTemps.getD k 0).toNat := by
  have hlt : k < 512 := by omega
  have hword : reg (periodSampled s r) .hbm k Off.hbmTemp = reg (sampleAll s r) .hbm k Off.hbmTemp :=
    (heated_periodSampled s r).words _ (by rw [tallied_regKey hlt (by decide) (by decide)]; decide)
  rw [rf, hword, ← rf, sampleAll_eq, temp_stacksSampled _ r hk]

theorem hotCtrl_periodSampled (s : State) (r : PeriodReport) {d : Nat} (hd : d < 4) :
    (stackActing (periodSampled s r) d).1 = (stackActing s d).1 := by
  have hlt : d < 512 := by omega
  have hword : reg (periodSampled s r) .stack d Off.stackHotCtrl = reg (sampleAll s r) .stack d Off.stackHotCtrl :=
    (heated_periodSampled s r).words _ (by rw [tallied_regKey hlt (by decide) (by decide)]; decide)
  exact stackActing_hotCtrl (periodLeaves_periodSampled s r).held (hword.trans (reg_sampleAll_stack s r hlt (by decide)))

/-! ## The command -/

/-- The state a period leaves, its energy still to be attributed. -/
def periodDone (s : State) (r : PeriodReport) (acts : List Activity) : State :=
  { periodSampled s r with
    estNext := estimates (periodSampled s r) acts, hotNext := hotSet (periodSampled s r) r.feed, activity := [] }

theorem exec_stewardPeriod (r : PeriodReport) {s s0 : State} (ht : s.time.toNat % 512 = 0) (hf : fireOnce s 5 = some s0) :
    exec (.stewardPeriod r) s
      = .next (attributeEnergy (periodDone s0 r (periodActivity s r.activity)) (periodActivity s r.activity)) := by
  show execStewardPeriod r s = _
  rw [execStewardPeriod, if_neg (not_not.2 ht), hf]
  rfl

end Sys2Proof.Machine
end

section
/-!
SUPPORT. What the bubble counts of a period are formed from, and what is sent when a record is written (R383, R384, R443).
-/
namespace Sys2Proof.Machine

/-! ## The caps and the demand (R383, R384) -/

/-- The words of the Steward's page that a bubble count reads: GAIN, the package's cap and the cap of each die. -/
def capOffs : List Nat :=
  [Off.ctrl, Off.stewardPkgCap, Off.stewardDieCap, Off.stewardDieCap + 4, Off.stewardDieCap + 8, Off.stewardDieCap + 12]

/-- What a period's estimates are taken into force from is as before: the caps, the estimates, CURFEW and the HOT states to come. -/
structure CapsKept (s t : State) : Prop where
  regs : ∀ off ∈ capOffs, reg t .steward 0 off = reg s .steward 0 off
  socs : ∀ d, (soc t d).demand = (soc s d).demand ∧ (soc t d).actual = (soc s d).actual ∧ (soc t d).capDown = (soc s d).capDown
  pkgEst : t.pkgEst = s.pkgEst
  curfew : t.curfew = s.curfew
  estNext : t.estNext = s.estNext
  hotNext : t.hotNext = s.hotNext

theorem CapsKept.refl (s : State) : CapsKept s s := ⟨fun _ _ => rfl, fun _ => ⟨rfl, rfl, rfl⟩, rfl, rfl, rfl, rfl⟩

theorem CapsKept.trans {s t u : State} (h : CapsKept s t) (k : CapsKept t u) : CapsKept s u := by
  refine ⟨fun off ho => (k.regs off ho).trans (h.regs off ho), fun d => ?_, k.pkgEst.trans h.pkgEst, k.curfew.trans h.curfew,
    k.estNext.trans h.estNext, k.hotNext.trans h.hotNext⟩
  obtain ⟨hd, ha, hc⟩ := h.socs d
  obtain ⟨kd, ka, kc⟩ := k.socs d
  exact ⟨kd.trans hd, ka.trans ha, kc.trans hc⟩

theorem tallied_capOffs : ∀ off ∈ capOffs, tallied (regKey .steward 0 off) = false := by decide

theorem Beaten.capsKept {s t : State} (h : Beaten s t) : CapsKept s t := by
  refine ⟨fun off ho => Noted.reg h (tallied_capOffs off ho), fun d => ?_, (congrArg State.pkgEst h.fields :),
    (congrArg State.curfew h.fields :), (congrArg State.estNext h.fields :), (congrArg State.hotNext h.fields :)⟩
  have hsoc : soc t d = soc s d := soc_of_socs (congrArg State.socs h.fields :) d
  rw [hsoc]
  exact ⟨rfl, rfl, rfl⟩

theorem Noted.capsKept {s t : State} (h : Noted s t) : CapsKept s t := h.butCores.beaten.capsKept

/-- A bubble count is formed from the caps and the demand alone. -/
theorem CapsKept.bubbleCount {s t : State} (h : CapsKept s t) {d : Nat} (hd : d < 4) : bubbleCount t d = bubbleCount s d := by
  have hrf : ∀ off ∈ capOffs, ∀ lo w, rf t .steward 0 off lo w = rf s .steward 0 off lo w := fun off ho lo w => by
    rw [rf, h.regs off ho, ← rf]
  have hdie : Off.stewardDieCap + 4 * d ∈ capOffs := by interval_cases d <;> decide
  obtain ⟨hdemand, -, hcap⟩ := h.socs d
  unfold Machine.bubbleCount capSixteenths
  rw [hrf Off.ctrl (by decide), hrf _ hdie, hrf Off.stewardPkgCap (by decide), hdemand, hcap, h.pkgEst]

/-! ## What is sent (R403, R443) -/

/-- Nothing that was sent is taken back. -/
def SendsOn (s t : State) : Prop := s.outputs <+: t.outputs

theorem SendsOn.trans {s t u : State} (h : SendsOn s t) (k : SendsOn t u) : SendsOn s u := List.IsPrefix.trans h k

theorem sendsOn_same {s t : State} (h : t.outputs = s.outputs) : SendsOn s t := by rw [SendsOn, h]

theorem sendsOn_ite {s t u : State} {p : Prop} [Decidable p] (h : SendsOn s t) (k : SendsOn s u) : SendsOn s (if p then t else u) := by
  split
  · exact h
  · exact k

theorem sendsOn_emit (s : State) (o : Output) : SendsOn s (emit s o) := List.prefix_append _ _

theorem sendsOn_setRbit (s : State) (b : Block) (i off k : Nat) (v : Bool) : SendsOn s (setRbit s b i off k v) :=
  sendsOn_same (setRbit_outputs s b i off k v)

theorem sendsOn_msixOnRise (s : State) (b : Block) (i : Nat) (w : Word) : SendsOn s (msixOnRise s b i w) :=
  sendsOn_ite (sendsOn_same rfl) (sendsOn_ite (sendsOn_emit s _) (sendsOn_same rfl))

theorem sendsOn_raiseInt (s : State) (b : Block) (i k : Nat) : SendsOn s (raiseInt s b i k) :=
  (sendsOn_setRbit s b i _ k true).trans (sendsOn_msixOnRise _ b i _)

theorem sendsOn_devqPush (s : State) (r : DWord) : SendsOn s (devqPush s r) := by
  have hpush : ∀ q v, SendsOn s (setReg { s with devq := q } .reeve 0 Off.reeveDevqTail v) := fun q v => sendsOn_same rfl
  exact sendsOn_ite (sendsOn_same rfl) (sendsOn_ite ((hpush _ _).trans (sendsOn_raiseInt _ _ _ _)) (hpush _ _))

theorem sendsOn_countRecord (s : State) (b : Block) (i code : Nat) (d : Word) : SendsOn s (countRecord s b i code d) := by
  refine sendsOn_same ?_
  rw [countRecord, errSummary, setRbit_outputs]
  split <;> simp

theorem sendsOn_setRbits (b : Block) (i off : Nat) : ∀ (ks : List Nat) (s : State),
    SendsOn s (ks.foldl (fun s k => setRbit s b i off k true) s)
  | [], _ => sendsOn_same rfl
  | k :: ks, s => (sendsOn_setRbit s b i off k true).trans (sendsOn_setRbits b i off ks _)

theorem sendsOn_deviceEvent (s : State) (b : Block) (i cls code unit : Nat) (d : Word) (ks : List Nat) :
    SendsOn s (deviceEvent s b i cls code unit d ks) :=
  (((sendsOn_countRecord s b i code d).trans (sendsOn_setRbits b i _ ks _)).trans (sendsOn_msixOnRise _ _ _ _)).trans
    (sendsOn_devqPush _ _)

theorem sendsOn_healthStep (before s : State) : SendsOn s (healthStep before s) :=
  sendsOn_ite (sendsOn_same rfl) ((sendsOn_ite (sendsOn_same rfl) (sendsOn_emit s _)).trans (sendsOn_raiseInt _ _ _ _))

end Sys2Proof.Machine
end

section
/-!
PROOFS. Estimates that take force, and the thermal trip (R232, R379, R384, R388, R393, R451).
-/
namespace Sys2Proof.Machine

/-! ## The bubble counts take force (R384, R393) -/

theorem capsKept_updSoc (s : State) (d : Nat) {f : Soc → Soc}
    (hf : ∀ k, (f k).demand = k.demand ∧ (f k).actual = k.actual ∧ (f k).capDown = k.capDown) : CapsKept s (updSoc s d f) := by
  refine ⟨fun _ _ => rfl, fun e => ?_, rfl, rfl, rfl, rfl⟩
  by_cases he : e = d
  · subst he
    rw [soc_updSoc_same]
    exact hf _
  · rw [soc_updSoc_ne _ _ he]
    exact ⟨rfl, rfl, rfl⟩

theorem bubble_updSoc (s : State) (d : Nat) {f : Soc → Soc} (hf : ∀ k, (f k).bubble = k.bubble) (e : Nat) :
    (soc (updSoc s d f) e).bubble = (soc s e).bubble := by
  by_cases he : e = d
  · subst he
    rw [soc_updSoc_same, hf]
  · rw [soc_updSoc_ne _ _ he]

theorem noted_powerRecord (s : State) (code unit detail : Nat) : Noted s (powerRecord s code unit detail) :=
  noted_deviceRecord (by decide) (by decide) s _ _ _ _

/-- What a die's bubble count is to be: that of its caps, 15 in CURFEW. -/
def bubbleNow (s : State) (d : Nat) : Nat := if s.curfew = .none then bubbleCount s d else 15

theorem CapsKept.bubbleNow {s t : State} (h : CapsKept s t) {d : Nat} (hd : d < 4) : bubbleNow t d = bubbleNow s d := by
  rw [Machine.bubbleNow, h.curfew, h.bubbleCount hd, ← Machine.bubbleNow]

/-- A die's bubble count has been written. -/
def bubbleTaken (s : State) (d : Nat) : State := updSoc s d (fun k => { k with bubble := bubbleNow s d })

theorem capsKept_bubbleTaken (s : State) (d : Nat) : CapsKept s (bubbleTaken s d) := capsKept_updSoc s d fun _ => ⟨rfl, rfl, rfl⟩

/-- The tick of a die's last CAP record, kept. -/
def capNoted (s : State) (d tick : Nat) : State := updSoc s d (fun k => { k with capAt := tick })

theorem capsKept_capNoted (s : State) (d tick : Nat) : CapsKept s (capNoted s d tick) := capsKept_updSoc s d fun _ => ⟨rfl, rfl, rfl⟩

theorem bubble_capNoted (s : State) (d tick e : Nat) : (soc (capNoted s d tick) e).bubble = (soc s e).bubble :=
  bubble_updSoc s d (f := fun k => { k with capAt := tick }) (fun _ => rfl) e

/-- Beside its bubble count a die may write a record. -/
theorem takeBubbles_noted (s : State) (d : Nat) : CapsKept (bubbleTaken s d) (takeBubbles s d)
    ∧ ∀ e, (soc (takeBubbles s d) e).bubble = (soc (bubbleTaken s d) e).bubble := by
  delta takeBubbles
  extract_lets n k u
  have hu : u = bubbleTaken s d := rfl
  rw [← hu]
  clear_value u
  split
  · have hrecord := noted_powerRecord (capNoted u d (s.time.toNat + 1)) 0x02 d
      (n * 2 ^ 28 + min (fixed40 k.demand / 2 ^ 40) (2 ^ 16 - 1))
    exact ⟨(capsKept_capNoted u d _).trans hrecord.capsKept, fun e =>
      (congrArg Soc.bubble (hrecord.soc e)).trans (bubble_capNoted u d _ e)⟩
  · exact ⟨CapsKept.refl u, fun _ => rfl⟩

theorem capsKept_takeBubbles (s : State) (d : Nat) : CapsKept s (takeBubbles s d) :=
  (capsKept_bubbleTaken s d).trans (takeBubbles_noted s d).1

theorem bubble_takeBubbles_same (s : State) (d : Nat) : (soc (takeBubbles s d) d).bubble = bubbleNow s d := by
  rw [(takeBubbles_noted s d).2, bubbleTaken, soc_updSoc_same]

theorem bubble_takeBubbles_ne (s : State) {d e : Nat} (he : e ≠ d) : (soc (takeBubbles s d) e).bubble = (soc s e).bubble := by
  rw [(takeBubbles_noted s d).2, bubbleTaken, soc_updSoc_ne _ _ he]

/-- Each of the first `n` dies has the bubble count of the state before. -/
theorem takeBubbles_all (s : State) {n : Nat} (hn : n ≤ 4) : CapsKept s ((List.range n).foldl takeBubbles s)
    ∧ ∀ d, d < n → (soc ((List.range n).foldl takeBubbles s) d).bubble = bubbleNow s d := by
  induction n with
  | zero => exact ⟨CapsKept.refl s, fun _ hd => absurd hd (Nat.not_lt_zero _)⟩
  | succ n ih =>
    obtain ⟨hcaps, hbubble⟩ := ih (by omega)
    rw [List.range_succ, List.foldl_append]
    refine ⟨hcaps.trans (capsKept_takeBubbles _ n), fun d hd => ?_⟩
    by_cases hdn : d = n
    · subst hdn
      exact (bubble_takeBubbles_same _ d).trans (hcaps.bubbleNow hn)
    · exact (bubble_takeBubbles_ne _ hdn).trans (hbubble d (by omega))

/-! ## The HOT states take force (R232, R233) -/

theorem beaten_throttles (s : State) (t : Table Throttle) : Beaten s { s with throttles := t } := ⟨rfl, fun _ _ => rfl⟩

theorem beaten_releaseCool (s : State) (f : Nat) : Beaten s (releaseCool s f) := by
  unfold releaseCool
  split
  · exact (Noted.refl s).butCores.beaten
  · exact (beaten_throttles s _).trans (beaten_foldl beaten_submitBeat _ _)

/-- The HOT states to come have taken force. -/
def hotTaken (s : State) : State := { s with hotFp := s.hotNext }

theorem beaten_takeHot (s : State) : Beaten (hotTaken s) (takeHot s) := beaten_foldl beaten_releaseCool _ _

theorem hotFp_takeHot (s : State) : (takeHot s).hotFp = s.hotNext := (congrArg State.hotFp (beaten_takeHot s).fields :)

theorem capsKept_hotTaken (s : State) : CapsKept s (hotTaken s) :=
  ⟨fun _ _ => rfl, fun _ => ⟨rfl, rfl, rfl⟩, rfl, rfl, rfl, rfl⟩

theorem capsKept_takeHot (s : State) : CapsKept s (takeHot s) := (capsKept_hotTaken s).trans (beaten_takeHot s).capsKept

theorem bubble_takeHot (s : State) (d : Nat) : (soc (takeHot s) d).bubble = (soc s d).bubble :=
  congrArg Soc.bubble (soc_of_socs (congrArg State.socs (beaten_takeHot s).fields :) d)

/-! ## The estimates (R379) -/

/-- Each die's estimates taken into force. -/
def diesEstimated (s : State) : State :=
  (List.range 4).foldl (fun s' d => updSoc s' d (fun k =>
    { k with demand := (s.estNext.getD d (0, 0)).1, actual := (s.estNext.getD d (0, 0)).2 })) s

theorem diesEstimated_socs (s : State) : ∃ k, diesEstimated s = { s with socs := k } := ⟨_, foldl_updSoc_eq _ _ s⟩

theorem soc_diesEstimated (s : State) {d : Nat} (hd : d < 4) : soc (diesEstimated s) d
    = { soc s d with demand := (s.estNext.getD d (0, 0)).1, actual := (s.estNext.getD d (0, 0)).2 } := by
  rw [diesEstimated, soc_foldl_updSoc s _ hd]

/-- The package's estimates taken too. -/
def packageEstimated (s : State) : State := { diesEstimated s with pkgEst := s.estNext.getD 4 (0, 0), estNext := [] }

/-- All estimates in force, and the period counted where it caps a die. -/
def estimatesTaken (s : State) : State :=
  if (List.range 4).any (fun d => bubbleCount (packageEstimated s) d != 0)
  then incReg (packageEstimated s) .steward 0 Off.stewardCapPeriods else packageEstimated s

theorem capsKept_incReg_capPeriods (s : State) : CapsKept s (incReg s .steward 0 Off.stewardCapPeriods) := by
  have hword : ∀ off ∈ capOffs, off / 4 ≠ Off.stewardCapPeriods / 4 := by decide
  exact ⟨fun off ho => reg_setReg_ne s _ _ _ _ _ _ _ (regKey_ne_off (hword off ho)), fun _ => ⟨rfl, rfl, rfl⟩, rfl, rfl, rfl, rfl⟩

theorem capsKept_estimatesTaken (s : State) : CapsKept (packageEstimated s) (estimatesTaken s) := by
  rw [estimatesTaken]
  split
  · exact capsKept_incReg_capPeriods _
  · exact CapsKept.refl _

/-- What the dies and the package take of a period's estimates. -/
theorem packageEstimated_shows (s : State) : (packageEstimated s).estNext = [] ∧ (packageEstimated s).hotNext = s.hotNext
    ∧ (packageEstimated s).pkgEst = s.estNext.getD 4 (0, 0) ∧ (packageEstimated s).curfew = s.curfew
    ∧ ∀ d, d < 4 → ((soc (packageEstimated s) d).demand, (soc (packageEstimated s) d).actual) = s.estNext.getD d (0, 0) := by
  obtain ⟨k, hk⟩ := diesEstimated_socs s
  have hdies := fun d (hd : d < 4) => soc_diesEstimated s hd
  rw [packageEstimated]
  generalize diesEstimated s = u at hk hdies ⊢
  refine ⟨rfl, by rw [hk], rfl, by rw [hk], fun d hd => ?_⟩
  show ((soc u d).demand, (soc u d).actual) = _
  rw [hdies d hd]

theorem exec_estimateComplete {s : State} (ht : s.time.toNat % 512 = 64) (he : s.estNext.isEmpty = false) :
    exec .estimateComplete s = .next (takeHot ((List.range 4).foldl takeBubbles (estimatesTaken s))) := by
  show execEstimateComplete s = _
  rw [execEstimateComplete, if_neg (by simp [ht, he])]
  rfl

/-! ## The thermal trip (R388) -/

/-- The device has tripped, and its event is recorded. -/
def trippedState (s : State) (die : Fin 4) (temp : BitVec 10) : State :=
  powerEvent (emit (setRbit s .steward 0 Off.stewardThermtrip 0 true) .thermtrip) 0x04 die.val (2 * 2 ^ 24 + temp.toNat) 1

theorem exec_thermtrip {die : Fin 4} {temp : BitVec 10} {s : State} (ht : 460 ≤ temp.toNat) (htrip : tripped s = false) :
    exec (.thermtrip die temp) s = .next (healthStep s (trippedState s die temp)) := by
  show execThermtrip die temp s = _
  rw [execThermtrip, if_neg (by simp [htrip, ht])]
  rfl

theorem noted_powerEvent (s : State) (code unit detail k : Nat) : Noted s (powerEvent s code unit detail k) :=
  noted_deviceEvent (by decide) (by decide) s _ _ _ _ _

theorem tripped_trippedState (before s : State) (die : Fin 4) (temp : BitVec 10) :
    tripped (healthStep before (trippedState s die temp)) = true := by
  have hset : tripped (emit (setRbit s .steward 0 Off.stewardThermtrip 0 true) .thermtrip) = true :=
    rbit_setRbit_same s _ _ _ _ true (by decide)
  exact (((noted_powerEvent _ _ _ _ _).trans (noted_healthStep before _)).rbit (by decide) 0).trans hset

theorem health_of_tripped {s : State} (h : tripped s = true) : health s = 3 := by
  rw [health, h, Bool.or_true, if_pos rfl]

theorem trippedState_only (s : State) (die : Fin 4) (temp : BitVec 10) : onlyDevice s (trippedState s die temp) :=
  onlyDevice_trans (onlyRegs_device (onlyRegs_trans (setReg_only s _ _ _ _) (emit_only _ _))) (deviceEvent_only _ _ _ _ _ _ _ _)

theorem thermtrip_sent (before s : State) (die : Fin 4) (temp : BitVec 10) :
    Output.thermtrip ∈ (healthStep before (trippedState s die temp)).outputs := by
  have hsent : SendsOn (emit (setRbit s .steward 0 Off.stewardThermtrip 0 true) .thermtrip)
      (healthStep before (trippedState s die temp)) := (sendsOn_deviceEvent _ _ _ _ _ _ _ _).trans (sendsOn_healthStep before _)
  exact hsent.subset (List.mem_append_right _ (List.mem_singleton_self _))

/-! ## O26 -/

/-- Settles O26: a period shows what `periodSampled` samples and estimates, the estimates' completion leaves what the bubble counts are
formed from (`CapsKept`), and nothing after the trip takes it back. -/
theorem stewardPeriods : Obligations.StewardPeriods := by
  refine ⟨fun r s s0 ht hf => ?period, fun s ht he => ⟨_, exec_estimateComplete ht he, ?estimates⟩,
    fun die temp s ht htrip => ⟨_, exec_thermtrip ht htrip, tripped_trippedState s s die temp,
      health_of_tripped (tripped_trippedState s s die temp), thermtrip_sent s s die temp,
      onlyDevice_trans (trippedState_only s die temp) (onlyRegs_device (healthStep_only s _))⟩⟩
  case period =>
    obtain ⟨f, rfl⟩ := fireOnce_eq hf
    refine ⟨_, exec_stewardPeriod r ht hf, ?_⟩
    obtain ⟨e, he⟩ := onlyEnergy_attributeEnergy (periodDone { s with fired := f } r (periodActivity s r.activity))
      (periodActivity s r.activity)
    rw [he]
    have hsoc := fun d (hd : d < 4) => soc_periodSampled { s with fired := f } r hd
    have htemp := fun k (hk : k < 16) => temp_periodSampled { s with fired := f } r hk
    have hctrl := fun d (hd : d < 4) => hotCtrl_periodSampled { s with fired := f } r hd
    obtain ⟨hfp, hcores, hmem, -⟩ := periodLeaves_periodSampled { s with fired := f } r
    unfold periodDone
    generalize periodSampled { s with fired := f } r = u at hsoc htemp hctrl hfp hcores hmem ⊢
    refine ⟨rfl, fun g => ?_, rfl, hsoc, htemp, hfp, hcores, fun a => ⟨congrArg (cellAt a) hmem.1, congrArg (cellAt a) hmem.2⟩⟩
    have hd : g.val / 128 < 4 := by omega
    rw [testBit_hotSet, hctrl _ hd]
    rfl
  case estimates =>
    obtain ⟨hbubbles, hbubble⟩ := takeBubbles_all (estimatesTaken s) le_rfl
    obtain ⟨hest, hnext, hpkg, hcurfew, hdies⟩ := packageEstimated_shows s
    have hhot := hbubbles.trans (capsKept_takeHot _)
    have hall := (capsKept_estimatesTaken s).trans hhot
    refine ⟨hall.estNext.trans hest, ?_, hall.pkgEst.trans hpkg, fun d hd => ⟨?_, ?_⟩⟩
    · rw [hotFp_takeHot, hbubbles.hotNext, (capsKept_estimatesTaken s).hotNext, hnext]
    · obtain ⟨hdemand, hactual, -⟩ := hall.socs d
      rw [hdemand, hactual, hdies d hd]
    · rw [bubble_takeHot, hbubble d hd, bubbleNow, hhot.bubbleCount hd, (capsKept_estimatesTaken s).curfew, hcurfew]

end Sys2Proof.Machine
end

section
/-!
SUPPORT. What the end of work that reaches a cellar in reset leaves: the step of the reset, and the beats that wait (R237, R312).
-/
namespace Sys2Proof.Machine

/-! ## The relation -/

/-- The beats that wait are as before, and so is the step of each die's CELLAR reset. -/
structure ResetKept (s t : State) : Prop where
  waiting : t.waiting = s.waiting
  step : ∀ d, d < 4 → reg t .cellar d Off.cellarResetStep = reg s .cellar d Off.cellarResetStep

theorem ResetKept.refl (s : State) : ResetKept s s := ⟨rfl, fun _ _ => rfl⟩

theorem ResetKept.trans {s t u : State} (h : ResetKept s t) (k : ResetKept t u) : ResetKept s u :=
  ⟨k.waiting.trans h.waiting, fun d hd => (k.step d hd).trans (h.step d hd)⟩

theorem tallied_cellarResetStep {d : Nat} (hd : d < 4) : tallied (regKey .cellar d Off.cellarResetStep) = false := by
  rw [tallied_regKey (by omega) (by decide) (by decide)]; decide

theorem NotedButCores.resetKept {s t : State} (h : NotedButCores s t) : ResetKept s t :=
  ⟨(congrArg State.waiting h.fields :), fun _ hd => h.reg (tallied_cellarResetStep hd)⟩

theorem Noted.resetKept {s t : State} (h : Noted s t) : ResetKept s t := h.butCores.resetKept

theorem resetKept_ite {s t u : State} {p : Prop} [Decidable p] (h : ResetKept s t) (k : ResetKept s u) :
    ResetKept s (if p then t else u) := by
  split
  · exact h
  · exact k

theorem resetKept_foldl {α : Type} {f : State → α → State} : ∀ (l : List α) (s : State), (∀ x ∈ l, ∀ u, ResetKept u (f u x)) →
    ResetKept s (l.foldl f s)
  | [], s, _ => ResetKept.refl s
  | x :: l, s, h => (h x (List.mem_cons_self ..) s).trans (resetKept_foldl l _ fun y hy => h y (List.mem_cons_of_mem _ hy))

theorem resetKept_updCore (s : State) (c : Nat) (f : Core → Core) : ResetKept s (updCore s c f) := ⟨rfl, fun _ _ => rfl⟩

/-! ## Records of any unit (R443, R448) -/

/-- A word that does not lie at RESET_STEP's place in its page is another word, whatever its page and number. -/
theorem resetKept_setReg (s : State) (b : Block) (i : Nat) {off : Nat} (v : Word) (h : off / 4 % 1024 ≠ 67) :
    ResetKept s (setReg s b i off v) := by
  refine ⟨rfl, fun d _ => reg_setReg_ne s _ _ _ _ _ _ v ?_⟩
  simp only [regKey, Off.cellarResetStep]
  omega

theorem resetKept_countRecord (s : State) (b : Block) (i code : Nat) (detail : Word) : ResetKept s (countRecord s b i code detail) := by
  have hcount : ResetKept s (incReg (setRbit s b i Off.err (code - 1) true) b i Off.eventCount) :=
    (resetKept_setReg s b i _ (by decide)).trans (resetKept_setReg _ b i _ (by decide))
  unfold countRecord
  dsimp only
  exact (resetKept_ite ((hcount.trans (resetKept_setReg _ b i _ (by decide))).trans (resetKept_setReg _ b i _ (by decide))) hcount).trans
    (resetKept_setReg _ b i _ (by decide))

theorem resetKept_deviceRecord (s : State) (b : Block) (i cls code unit : Nat) (detail : Word) :
    ResetKept s (deviceRecord s b i cls code unit detail) :=
  ((resetKept_countRecord s b i code detail).trans (noted_msixOnRise _ _ _ _).resetKept).trans (noted_devqPush _ _).resetKept

/-- A core's record, whatever number the core has. -/
theorem resetKept_coreRecord (s : State) (c cls code : Nat) (detail : Word) : ResetKept s (coreRecord s c cls code detail) :=
  resetKept_ite ((resetKept_deviceRecord s .core c cls code c detail).trans (noted_evqPush _ _ _).resetKept)
    (resetKept_deviceRecord s .core c cls code c detail)

theorem resetKept_cellarRecord (s : State) (c unit desc : Nat) : ResetKept s (cellarRecord s c unit desc) :=
  resetKept_deviceRecord s .cellar _ _ _ _ _

/-! ## The chunks of a REDUCE (R308, R312) -/

theorem resetKept_mapRed (s : State) (c id : Nat) (f : Op → Op) : ResetKept s (mapRed s c id f) := resetKept_updCore s c _

theorem resetKept_mapChunk (s : State) (g ch : Nat) (f : Chunk → Chunk) : ResetKept s (mapChunk s g ch f) := ⟨rfl, fun _ _ => rfl⟩

theorem resetKept_openChunk (s : State) (g ch ctx : Nat) (owner : Option (Nat × Nat × Nat)) :
    ResetKept s (openChunk s g ch ctx owner) := ⟨rfl, fun _ _ => rfl⟩

theorem resetKept_readOwn (s : State) (g ch : Nat) : ResetKept s (readOwn s g ch) := by
  unfold readOwn
  split
  · exact ResetKept.refl s
  · split
    · exact ResetKept.refl s
    · split
      · exact ResetKept.refl s
      · exact (noted_ownPart ..).resetKept.trans ((resetKept_mapRed _ _ _ _).trans (resetKept_mapChunk _ _ _ _))

theorem resetKept_placeChunks (c id n : Nat) (s : State) : ResetKept s (placeChunks c id n s) := by
  induction n generalizing s with
  | zero => exact ResetKept.refl s
  | succ n ih =>
    unfold placeChunks
    split
    · exact ResetKept.refl s
    · refine resetKept_ite (ResetKept.refl s) ?_
      dsimp only
      split
      · refine resetKept_ite (ResetKept.trans ?_ (ih _)) (ResetKept.trans ?_ ((resetKept_readOwn _ _ _).trans (ih _)))
        · refine ResetKept.trans (resetKept_ite (ResetKept.refl s) ?_) (resetKept_mapRed _ c id _)
          exact (resetKept_coreRecord s c _ _ _).trans (resetKept_setReg _ .core c _ (by decide))
        · exact (resetKept_mapChunk _ _ _ _).trans (resetKept_mapRed _ c id _)
      · refine resetKept_ite (ResetKept.refl s) (ResetKept.trans ?_ ((resetKept_readOwn _ _ _).trans (ih _)))
        exact (resetKept_openChunk _ _ _ _ _).trans (resetKept_mapRed _ c id _)

theorem resetKept_advanceReduces (s : State) : ResetKept s (advanceReduces s) :=
  resetKept_foldl _ s fun _ _ u => resetKept_foldl _ u fun _ _ v => resetKept_placeChunks _ _ _ v

theorem resetKept_closeChunk (s : State) (x : Chunk) (f : Op → Op) : ResetKept s (closeChunk s x f) := by
  unfold closeChunk
  dsimp only
  refine ResetKept.trans ?_ (resetKept_advanceReduces _)
  have hcount : ResetKept s (countActivity s (x.chunk % 4) 63 1) := ⟨rfl, fun _ _ => rfl⟩
  refine hcount.trans ?_
  split
  · exact ⟨rfl, fun _ _ => rfl⟩
  · refine ResetKept.trans ?_ (resetKept_mapRed _ _ _ _)
    exact ⟨rfl, fun _ _ => rfl⟩

/-! ## Work that ends with CELLAR_RESET (R237) -/

theorem resetKept_completeFlag (s : State) (c f : Nat) (poison : Bool) : ResetKept s (completeFlag s c f poison) :=
  resetKept_updCore s c (fun k => bumpFlag k f poison)

theorem resetKept_cellarEnd (s : State) (c unit desc flag : Nat) : ResetKept s (cellarEnd s c unit desc flag) :=
  (resetKept_cellarRecord s c unit desc).trans (resetKept_completeFlag _ c flag true)

theorem resetKept_opFreed (s : State) (c : Nat) (o : Op) (poison : Bool) : ResetKept s (opFreed s c o poison) :=
  (resetKept_updCore s c (fun k => k.drop o.id)).trans (resetKept_completeFlag _ c o.flag poison)

theorem resetKept_finishOp (s : State) (c : Nat) (o : Op) (poison : Bool) (tag : Option (Nat × Nat)) :
    ResetKept s (finishOp s c o poison tag) := by
  obtain ⟨p, h | ⟨i, t, h⟩⟩ := finishOp_cases s c o poison tag
  · rw [h]
    exact resetKept_opFreed s c o p
  · rw [h]
    exact (resetKept_opFreed s c o p).trans (resetKept_ite (ResetKept.refl _) (resetKept_updCore _ _ _))

theorem resetKept_endOp (s : State) (c : Nat) (o : Op) : ResetKept s (endOp s c o) := by
  have hdrop : ResetKept s (dropUsers s (fun u => u == .op c o.id)) := ⟨rfl, fun _ _ => rfl⟩
  exact (hdrop.trans (resetKept_finishOp _ c o true o.tag)).trans (resetKept_foldl _ _ fun x _ u => resetKept_closeChunk u x _)

theorem resetKept_resetCoreOps (s : State) (d c : Nat) : ResetKept s (resetCoreOps s d c) :=
  resetKept_foldl _ s fun o _ u => (resetKept_cellarRecord u c _ _).trans (resetKept_endOp _ c o)

theorem resetKept_seedHeld (s : State) (c : Nat) (n : Option Nat) : ResetKept s (seedHeld s c n) := by
  cases n with
  | none => exact ResetKept.refl s
  | some n => exact ⟨rfl, fun _ _ => rfl⟩

theorem resetKept_seedsDue (s : State) (c : Nat) : ResetKept s (seedsDue s c) := by
  have hbefore : ResetKept s (seedHeld (updCore s c (fun k => { k with seedBefore := none })) c (core s c).seedBefore) :=
    (resetKept_updCore s c _).trans (resetKept_seedHeld _ c _)
  exact resetKept_ite hbefore ((hbefore.trans (resetKept_updCore _ c _)).trans (resetKept_seedHeld _ c _))

theorem resetKept_endEngines (s : State) (c : Nat) {f : State → Nat → Nat × Nat → State} (hf : ∀ u unit x, ResetKept u (f u unit x)) :
    ResetKept s (endEngines s c f) :=
  (((resetKept_foldl _ s fun x _ u => hf u 0x01 x).trans (resetKept_foldl _ _ fun x _ u => hf u 0x02 x)).trans
    (resetKept_updCore _ c _)).trans (resetKept_seedsDue _ c)

theorem resetKept_finishRefill (s : State) {c : Nat} (hc : c < 512) (r : Refill) (bank : Bank) :
    ResetKept s (finishRefill s c r bank) := by
  unfold finishRefill
  dsimp only
  refine resetKept_ite (resetKept_updCore s c _) (resetKept_ite ?_ ?_)
  · exact (resetKept_updCore s c _).trans (resetKept_updCore _ c _)
  · exact (resetKept_updCore s c _).trans (notedButCores_almFault _ hc _ _).resetKept

theorem resetKept_resetCoreWork (s : State) {c : Nat} (hc : c < 512) : ResetKept s (resetCoreWork s c) := by
  have hengines : ResetKept s (endEngines s c (fun s unit x => cellarEnd s c unit x.1 x.2)) :=
    resetKept_endEngines s c fun u unit x => resetKept_cellarEnd u c unit x.1 x.2
  unfold resetCoreWork
  dsimp only
  split
  · exact hengines
  · exact hengines.trans ((resetKept_cellarRecord _ c _ _).trans (resetKept_finishRefill _ hc _ _))

theorem resetKept_cellarSweep (s : State) {d : Nat} (hd : d < 4) : ResetKept s (cellarSweep s d) := by
  refine ResetKept.trans (resetKept_foldl _ s fun c hc u => ?_) (resetKept_foldl _ _ fun c _ u => resetKept_resetCoreOps u d c)
  have hdie : c / 128 = d := by simpa using (List.mem_filter.1 hc).2
  exact resetKept_resetCoreWork u (by omega)

end Sys2Proof.Machine
end

section
/-!
PROOFS. Bond self-tests and the spares their failing lanes take (R224 to R228, R237).
-/
namespace Sys2Proof.Machine

variable {die : Fin 4} {s : State}

theorem tests_setTests (s : State) (d : Nat) (v : BondTest) :
    tget BondTest.none d ({ s with tests := tset BondTest.none d v s.tests } : State).tests = v := tget_tset_same _ _ _ _

theorem bondTesting_of_tests {s t : State} (h : t.tests = s.tests) (d : Nat) : bondTesting t d = bondTesting s d := by
  rw [bondTesting, h, ← bondTesting]

theorem Beaten.tests {s t : State} (h : Beaten s t) : t.tests = s.tests := (congrArg State.tests h.fields :)

theorem Beaten.remaps {s t : State} (h : Beaten s t) : t.remaps = s.remaps := (congrArg State.remaps h.fields :)

/-- What follows a test: what waited reaches its controllers again, and HEALTH is looked at. -/
theorem beaten_resumed (before s : State) : Beaten s (healthStep before (resubmit s)) :=
  (beaten_resubmit s).trans (noted_healthStep before _).butCores.beaten

/-! ## A periodic test (R226, R227) -/

theorem exec_bondSelfTest {s1 : State} (ht : s.time.toNat % 2 ^ 28 = die.val * 2 ^ 26) (hskip : bondSkips s die.val = false)
    (hf : fireOnce s (8 + die.val) = some s1) : exec (.bondSelfTest die) s
      = .next { s1 with tests := tset BondTest.none die.val .periodic s1.tests } := by
  show execBondSelfTest die s = _
  rw [execBondSelfTest, if_neg (not_or.2 ⟨not_not.2 ht, Bool.eq_false_iff.1 hskip⟩), hf]

/-- The state whose test of die `d` is over. -/
def testOver (s : State) (d : Nat) : State := { s with tests := tset BondTest.none d .none s.tests }

theorem bondTesting_testOver (s : State) (d : Nat) : bondTesting (testOver s d) d = false := by
  rw [bondTesting, testOver, tests_setTests]; rfl

theorem exec_selfTestComplete_periodic (h : tget BondTest.none die.val s.tests = .periodic) (fails : List LaneFail) :
    exec (.selfTestComplete die fails) s = .next (healthStep s (resubmit (testFails (testOver s die.val) die.val fails))) := by
  show execSelfTestComplete die fails s = _
  rw [execSelfTestComplete]
  simp only [h]
  rfl

/-- With nothing waiting the end of a test without failures ends the test alone. -/
theorem selfTestComplete_clean (hw : s.waiting = []) (he : s.evqWait = []) (d : Nat) :
    healthStep s (resubmit (testOver s d)) = testOver s d := by
  rw [resubmit_idle (s := testOver s d) hw he]
  exact healthStep_of_otherRegs (keys := []) (fun _ _ _ _ => rfl) (by simp)

/-! ## Spares (R225, R228) -/

/-- A spare taken is remapped, counted and recorded; no test begins or ends. -/
theorem useSpare_shows (s : State) (d : Nat) (f : LaneFail) (used : List Nat) :
    (useSpare s d f used).remaps = tset [] (Lane.key f d) (used ++ [f.lane.val]) s.remaps ∧ (useSpare s d f used).tests = s.tests := by
  unfold useSpare
  dsimp only
  obtain ⟨r, o, m, q, h⟩ := deviceRecord_only
    (incReg { s with remaps := tset [] (Lane.key f d) (used ++ [f.lane.val]) s.remaps } .stack d Off.stackSpareUsedCount) .stack d 0x04
    0x01 (Lane.recordUnit f d) (det (f.group.val * 2 ^ 24 + f.lane.val * 2 ^ 16 + (Lane.spares f - used.length - 1) * 2 ^ 8))
  rw [h]
  exact ⟨rfl, rfl⟩

theorem laneFails_spare {d : Nat} {f : LaneFail} (hr : Lane.real f = true)
    (hu : (tget [] (Lane.key f d) s.remaps).contains f.lane.val = false)
    (hl : (tget [] (Lane.key f d) s.remaps).length < Lane.spares f) :
    laneFails s d f = useSpare s d f (tget [] (Lane.key f d) s.remaps) := by
  unfold laneFails
  dsimp only
  rw [if_neg (by rw [hr, hu]; decide), if_pos hl]

end Sys2Proof.Machine
end

section
/-!
PROOFS. The CELLAR reset of a die: its start, its steps, the wipe, and its end (R237, R372).
-/
namespace Sys2Proof.Machine

variable {die : Fin 4} {s : State}

/-- The key of another die's word of the same page differs. -/
theorem cellarKey_ne {d e off off' : Nat} (h : e ≠ d) (ho : off < 4096) (ho' : off' < 4096) :
    regKey .cellar e off' ≠ regKey .cellar d off := regKey_ne_inst h ho ho'

theorem cellarBusy_of_step {s : State} {d n : Nat} (h : rf s .cellar d Off.cellarResetStep 0 3 = n) (hn : n ≠ 0) :
    cellarBusy s d = true := by
  rw [cellarBusy, h]
  exact bne_iff_ne.2 hn

/-! ## The start (R237, R471) -/

/-- Whatever work it ended before, a start leaves step 2, drops the beats that wait for the die, and sweeps what reaches it. -/
theorem startCellarReset_eq (s : State) (d : Nat) : ∃ u, startCellarReset s d
    = cellarSweep (drainRings (dropBeats (setRf u .cellar d Off.cellarResetStep 0 3 2) d)) d := ⟨_, rfl⟩

theorem exec_cellarReset (ho : hostOpen s .cellar = true) (hb : cellarBusy s die.val = false) (hp : inLowPower s = false)
    (hr : partResetting s die.val = false) : exec (.cellarReset die) s = .next (startCellarReset s die.val) := by
  have hres : reservedSet .cellar Off.cellarReset 1 = false := by decide
  have hwrite : writeCellarReset s die.val 1 = startCellarReset s die.val := by
    rw [writeCellarReset, if_neg (by decide), if_neg (by simp [hb]), hp, hr]
    rfl
  show execCellarReset die s = _
  rw [execCellarReset, hostWrite, hres, ho, hwrite]
  rfl

theorem startCellarReset_shows (s : State) {d : Nat} (hd : d < 4) :
    rf (startCellarReset s d) .cellar d Off.cellarResetStep 0 3 = 2
      ∧ ∀ b ∈ (startCellarReset s d).waiting, inDie d (16 * b.word) = false := by
  obtain ⟨u, hu⟩ := startCellarReset_eq s d
  have hkept := (noted_drainRings (dropBeats (setRf u .cellar d Off.cellarResetStep 0 3 2) d)).resetKept.trans
    (resetKept_cellarSweep _ hd)
  rw [hu]
  refine ⟨?_, fun b hb => ?_⟩
  · rw [rf, hkept.step d hd]
    exact rf_setRf_same u .cellar d _ 0 3 2 (by decide)
  · rw [hkept.waiting] at hb
    simpa using (List.mem_filter.1 hb).2

/-! ## The quiesce (R237) -/

theorem exec_cellarQuiesced (h : rf s .cellar die.val Off.cellarResetStep 0 3 = 2) : exec (.cellarQuiesced die) s
    = .next (setRf (setRf s .cellar die.val Off.cellarResetStep 0 3 3) .granary die.val Off.granaryState 0 2 1) := if_pos h

/-! ## The wipe begins with the next tick (R237, R372; log entry 113) -/

/-- Another die's wipe that begins leaves the registers of this die's cellar page. -/
theorem reg_beginCellarWipe_ne (s : State) {d e off : Nat} (h : e ≠ d) (ho : off < 4096) :
    reg (beginCellarWipe s d) .cellar e off = reg s .cellar e off := by
  unfold beginCellarWipe
  split
  · have hkey : ∀ o, o < 4096 → regKey .cellar e off ≠ regKey .cellar d o := fun o h' => regKey_ne_inst h h' ho
    refine (reg_setRf_ne _ _ _ _ _ _ _ _ _ _ (hkey _ (by decide))).trans ?_
    exact reg_setRf_ne s _ _ _ _ _ _ _ _ _ (hkey _ (by decide))
  · rfl

/-- A die's wipe begins at step 3. -/
theorem beginCellarWipe_shows {s : State} {d : Nat} (h : rf s .cellar d Off.cellarResetStep 0 3 = 3) :
    rf (beginCellarWipe s d) .cellar d Off.cellarResetStep 0 3 = 4 ∧ rbit (beginCellarWipe s d) .cellar d Off.status 3 = true := by
  rw [beginCellarWipe, if_pos h]
  refine ⟨?_, rbit_setRbit_same _ _ _ _ _ true (by decide)⟩
  refine (rf_setRf_ne _ _ _ _ _ _ _ _ _ _ _ _ (regKey_ne_off (by decide))).trans ?_
  exact rf_setRf_same s .cellar d _ 0 3 4 (by decide)

theorem memEq_beginCellarWipe (s : State) (d : Nat) : memEq s (beginCellarWipe s d) := by
  unfold beginCellarWipe
  exact memEq_ite ⟨rfl, rfl⟩ ⟨rfl, rfl⟩

theorem memEq_foldl {α : Type} {f : State → α → State} (hf : ∀ u x, memEq u (f u x)) : ∀ (l : List α) (s : State), memEq s (l.foldl f s)
  | [], _ => ⟨rfl, rfl⟩
  | x :: l, s => (hf s x).trans (memEq_foldl hf l (f s x))

/-- Of the first `n` dies each that stood at step 3 wipes; a later one still stands there. -/
theorem beginCellarWipes_shows {s : State} {d : Nat} (h : rf s .cellar d Off.cellarResetStep 0 3 = 3) (n : Nat) :
    if d < n
    then rf ((List.range n).foldl beginCellarWipe s) .cellar d Off.cellarResetStep 0 3 = 4
      ∧ rbit ((List.range n).foldl beginCellarWipe s) .cellar d Off.status 3 = true
    else rf ((List.range n).foldl beginCellarWipe s) .cellar d Off.cellarResetStep 0 3 = 3 := by
  induction n with
  | zero => exact h
  | succ n ih =>
    rw [List.range_succ, List.foldl_append]
    show if d < n + 1 then rf (beginCellarWipe _ n) .cellar d _ 0 3 = 4 ∧ rbit (beginCellarWipe _ n) .cellar d _ 3 = true
      else rf (beginCellarWipe _ n) .cellar d _ 0 3 = 3
    by_cases hdn : d = n
    · subst hdn
      rw [if_neg (lt_irrefl d)] at ih
      rw [if_pos (Nat.lt_succ_self d)]
      exact beginCellarWipe_shows ih
    · rw [rf, rbit, reg_beginCellarWipe_ne _ hdn (by decide), reg_beginCellarWipe_ne _ hdn (by decide), ← rf, ← rbit]
      by_cases hlt : d < n
      · rw [if_pos hlt] at ih; rw [if_pos (by omega)]; exact ih
      · rw [if_neg hlt] at ih; rw [if_neg (by omega)]; exact ih

theorem memEq_tick (s : State) : memEq s (tick s) := by
  unfold tick
  exact memEq_ite ⟨rfl, rfl⟩ ⟨rfl, rfl⟩

/-! ## The wipe ends (R226, R237, R372) -/

/-- A zero-fill clears its range and leaves every other byte. -/
theorem cellAt_zeroCells (m : List Host.Cell) (lo hi a : Nat) :
    cellAt a (zeroCells m lo hi) = if lo ≤ a ∧ a < hi then 0 else cellAt a m := by
  unfold cellAt zeroCells
  rw [tget_filter_key 0 (fun n => n < lo || hi ≤ n)]
  by_cases hin : lo ≤ a ∧ a < hi
  · rw [if_pos hin, if_neg (by simp; omega)]
  · rw [if_neg hin, if_pos (by simp; omega)]

theorem cellAt_zeroCells_zero {m : List Host.Cell} {a : Nat} (h : cellAt a m = 0) (lo hi : Nat) :
    cellAt a (zeroCells m lo hi) = 0 := by
  rw [cellAt_zeroCells, h, ite_self]

theorem mem_wipeCellar (s : State) (d : Nat) : (wipeCellar s false d).mem
    = zeroCells (zeroCells (zeroCells s.mem (larderAddr (128 * d)) (larderAddr (128 * (d + 1))))
        (tallyAddr (128 * d)) (tallyAddr (128 * (d + 1)))) (commonsAddr d) (commonsAddr d + 2 ^ 25) := rfl

/-- Where the bytes of a die's cellar lie. -/
theorem cellar_ranges {a d : Nat} {p : Place} (hp : placeOf a = some p)
    (hk : p.kind = .larder ∨ p.kind = .tally ∨ p.kind = .commons) (hd : p.die = d) :
    (larderAddr (128 * d) ≤ a ∧ a < larderAddr (128 * (d + 1))) ∨ (tallyAddr (128 * d) ≤ a ∧ a < tallyAddr (128 * (d + 1)))
      ∨ (commonsAddr d ≤ a ∧ a < commonsAddr d + 2 ^ 25) := by
  unfold placeOf at hp
  split_ifs at hp <;> cases hp <;> simp only [Place.die, tallyBase, larderAddr, tallyAddr, commonsAddr, reduceCtorEq, or_false, false_or] at * <;>
    omega

/-- Every byte of a die's cellar reads 0 after its wipe. -/
theorem cellAt_wipeCellar (s : State) {a d : Nat} {p : Place} (hp : placeOf a = some p)
    (hk : p.kind = .larder ∨ p.kind = .tally ∨ p.kind = .commons) (hd : p.die = d) : cellAt a (wipeCellar s false d).mem = 0 := by
  rw [mem_wipeCellar]
  rcases cellar_ranges hp hk hd with h | h | h
  · refine cellAt_zeroCells_zero (cellAt_zeroCells_zero ?_ _ _) _ _
    rw [cellAt_zeroCells, if_pos h]
  · refine cellAt_zeroCells_zero ?_ _ _
    rw [cellAt_zeroCells, if_pos h]
  · rw [cellAt_zeroCells, if_pos h]

/-- The state whose die's cellar has been wiped, with its exit test begun. -/
def cellarWiped (s : State) (d : Nat) : State :=
  setRbit (setRf { wipeCellar s false d with
    cores := tmap (fun _ => Core.reset) (fun c k => if c / 128 = d then k.clearTally else k) (wipeCellar s false d).cores
    tests := tset BondTest.none d .cellar (wipeCellar s false d).tests } .cellar d Off.cellarResetStep 0 3 5) .cellar d Off.status 3 false

theorem mem_cellarWiped (s : State) (d : Nat) : (cellarWiped s d).mem = (wipeCellar s false d).mem := by
  rw [cellarWiped, setRbit_mem, setRf_mem]

theorem tests_cellarWiped (s : State) (d : Nat) :
    (cellarWiped s d).tests = tset BondTest.none d .cellar (wipeCellar s false d).tests := by
  rw [cellarWiped, setRbit_tests, setRf_tests]

theorem exec_cellarWipeDone (h : rf s .cellar die.val Off.cellarResetStep 0 3 = 4) : ∃ since, exec (.cellarWipeDone die) s
    = .next (wipeDoneRecord (cellarWiped s die.val) 2 0xFFFF since) := ⟨_, if_pos h⟩

theorem wipeDoneRecord_only (s : State) (scope unit : Nat) (since : DWord) : onlyDevice s (wipeDoneRecord s scope unit since) :=
  deviceRecord_only s _ _ _ _ _ _

theorem noted_wipeDoneRecord (s : State) (scope unit : Nat) (since : DWord) : Noted s (wipeDoneRecord s scope unit since) :=
  noted_deviceRecord (by decide) (by decide) s _ _ _ _

theorem step_cellarWiped (s : State) (d : Nat) : rf (cellarWiped s d) .cellar d Off.cellarResetStep 0 3 = 5 :=
  (rf_setRf_ne _ _ _ _ _ _ _ _ _ _ _ _ (regKey_ne_off (by decide))).trans (rf_setRf_same _ _ _ _ _ _ _ (by decide))

theorem core_cellarWiped (s : State) {c d : Nat} (h : c / 128 = d) :
    (core (cellarWiped s d) c).slots = [] ∧ (core (cellarWiped s d) c).tiles = [] := by
  have hcore : core (cellarWiped s d) c = (core (wipeCellar s false d) c).clearTally :=
    (tget_tmap (fun _ => Core.reset) (fun c k => if c / 128 = d then k.clearTally else k) (k := c) (ite_self _) _).trans (if_pos h)
  rw [hcore]
  exact ⟨rfl, rfl⟩

/-! ## The end (R15, R237, R464) -/

theorem reeveEnable_cellar (s : State) (d : Nat) : onlyRegs s (reeveEnable s .cellar d)
    ∧ reg (reeveEnable s .cellar d) .cellar d Off.cellarResetStep = reg s .cellar d Off.cellarResetStep := by
  unfold reeveEnable
  split
  · exact ⟨onlyRegs_refl s, rfl⟩
  · show onlyRegs s (setRbit (setRbit s .cellar d Off.ctrl 0 true) .cellar d Off.status 0 true) ∧ _
    exact ⟨onlyRegs_trans (setReg_only s _ _ _ _) (setReg_only _ _ _ _ _),
      (reg_setRf_ne _ _ _ _ _ _ _ _ _ _ (regKey_ne_off (by decide))).trans
        (reg_setRf_ne _ _ _ _ _ _ _ _ _ _ (regKey_ne_off (by decide)))⟩

theorem resetRegWord_cellarResetStep (v : Word) : resetRegWord .cellar .cellar Off.cellarResetStep v = 0 := by
  have hmask : survivesMask .cellar .cellar Off.cellarResetStep = 0 := by decide
  have hreset : resetWord .cellar Off.cellarResetStep = 0 := by decide
  rw [resetRegWord, hmask, hreset]
  simp

/-- The end of a CELLAR reset: no step is shown, and no test begins or ends. -/
theorem endCellarReset_shows (s : State) {d : Nat} (hd : d < 4) :
    reg (endCellarReset s d) .cellar d Off.cellarResetStep = 0 ∧ (endCellarReset s d).tests = s.tests := by
  have hpage : reg (resetPages (setRf s .granary d Off.granaryState 0 2 0) (fun b i => b == .cellar && i == d) .cellar false)
      .cellar d Off.cellarResetStep = 0 := by
    rw [reg_resetPages _ _ _ _ (by omega) (by decide) (by decide) (by decide), if_pos (by simp), resetRegWord_cellarResetStep]
  have htests : (resetPages (setRf s .granary d Off.granaryState 0 2 0) (fun b i => b == .cellar && i == d) .cellar false).tests
      = s.tests := rfl
  unfold endCellarReset
  dsimp only
  generalize resetPages (setRf s .granary d Off.granaryState 0 2 0) (fun b i => b == .cellar && i == d) .cellar false = u
    at hpage htests ⊢
  obtain ⟨honly, hreg⟩ := reeveEnable_cellar u d
  obtain ⟨r, o, m, hu⟩ := onlyRegs_trans honly (raiseInt_only (reeveEnable u .cellar d) .cellar d 0)
  refine ⟨?_, (congrArg State.tests hu).trans htests⟩
  rw [raiseInt_reg _ _ _ _ _ _ _ (regKey_ne_off (by decide)), hreg, hpage]

theorem exec_selfTestComplete_cellar (h : tget BondTest.none die.val s.tests = .cellar) : exec (.selfTestComplete die []) s
    = .next (healthStep s (resubmit (endCellarReset (testOver s die.val) die.val))) := by
  show execSelfTestComplete die [] s = _
  rw [execSelfTestComplete]
  simp only [h]
  rfl

/-! ## O32 -/

/-- Settles O32, step by step: what a test or a reset resumes begins and ends no test (`beaten_resumed`), what the start sweeps away
leaves the reset's step (`ResetKept`), and the wipe's ranges are where the bytes of the cellar lie. -/
theorem bondTestsAndCellars : Obligations.BondTestsAndCellars := by
  refine ⟨fun die s s1 ht hb htest hm hp hr hf => ?begins, fun die s ht hw he => ⟨_, exec_selfTestComplete_periodic ht [], ?clean⟩,
    fun die s f ht hreal hnew hfree => ⟨_, exec_selfTestComplete_periodic ht [f], ?spare⟩,
    fun die s ho hb hp hr => ⟨_, exec_cellarReset ho hb hp hr, ?start⟩, fun die s h => ⟨_, exec_cellarQuiesced h, ?quiesced⟩,
    fun die s hp h => ⟨idleStep s, by rw [step, hp], ?tick⟩, fun die s h => ?wiped,
    fun die s ht => ⟨_, exec_selfTestComplete_cellar ht, ?ended⟩⟩
  case begins =>
    have hskip : bondSkips s die.val = false := by
      rw [bondSkips, hb, htest, hm, hr, Bool.or_false, beq_false_of_ne hp]; rfl
    refine ⟨_, exec_bondSelfTest ht hskip hf, ?_⟩
    obtain ⟨x, rfl⟩ := fireOnce_eq hf
    have hset := tests_setTests { s with fired := x } die.val .periodic
    exact ⟨by rw [bondTesting, hset]; rfl, hset, fun _ => ⟨rfl, rfl⟩, rfl, rfl⟩
  case clean =>
    have hover : testFails (testOver s die.val) die.val [] = testOver s die.val := rfl
    rw [hover, selfTestComplete_clean hw he]
    exact ⟨bondTesting_testOver s die.val, rfl, rfl⟩
  case spare =>
    have hfails : testFails (testOver s die.val) die.val [f] = useSpare (testOver s die.val) die.val f
        (tget [] (Lane.key f die.val) s.remaps) := laneFails_spare (s := testOver s die.val) hreal hnew hfree
    rw [hfails]
    obtain ⟨hremaps, htests⟩ := useSpare_shows (testOver s die.val) die.val f (tget [] (Lane.key f die.val) s.remaps)
    have hafter := beaten_resumed s (useSpare (testOver s die.val) die.val f (tget [] (Lane.key f die.val) s.remaps))
    refine ⟨?_, ?_⟩
    · rw [bondTesting_of_tests (hafter.tests.trans htests), bondTesting_testOver]
    · rw [hafter.remaps, hremaps]
      exact tget_tset_same _ _ _ _
  case start =>
    obtain ⟨hstep, hwaiting⟩ := startCellarReset_shows s die.isLt
    exact ⟨hstep, cellarBusy_of_step hstep (by decide), hwaiting⟩
  case quiesced =>
    have honly : onlyRegs s (setRf (setRf s .cellar die.val Off.cellarResetStep 0 3 3) .granary die.val Off.granaryState 0 2 1) :=
      onlyRegs_trans (setReg_only s _ _ _ _) (setReg_only _ _ _ _ _)
    refine ⟨?_, rf_setRf_same _ _ _ _ _ _ _ (by decide), onlyDevice_sameMemory (onlyRegs_device honly), honly⟩
    refine (rf_setRf_ne _ _ _ _ _ _ _ _ _ _ _ _ ?_).trans (rf_setRf_same s .cellar die.val _ 0 3 3 (by decide))
    exact regKey_ne_page (by decide) (by decide) (by decide) (by omega) (by omega)
  case tick =>
    have hthree : rf (tick s) .cellar die.val Off.cellarResetStep 0 3 = 3 := (rf_of_regs (tick_regs s) _ _ _ _ _).trans h
    have hbegun := beginCellarWipes_shows hthree 4
    rw [if_pos die.isLt] at hbegun
    obtain ⟨hmem, hchk⟩ := (memEq_tick s).trans (memEq_foldl memEq_beginCellarWipe (List.range 4) (tick s))
    exact ⟨hbegun.1, hbegun.2, fun a => ⟨congrArg (cellAt a) hmem, congrArg (cellAt a) hchk⟩⟩
  case wiped =>
    obtain ⟨since, hexec⟩ := exec_cellarWipeDone h
    have hrecord := wipeDoneRecord_only (cellarWiped s die.val) 2 0xFFFF since
    have hnoted := noted_wipeDoneRecord (cellarWiped s die.val) 2 0xFFFF since
    refine ⟨_, hexec, ?_, fun a p hp hk hd => ?_, fun c hc => ?_, ?_⟩
    · rw [hnoted.rf (tallied_cellarResetStep die.isLt), step_cellarWiped]
    · rw [(onlyDevice_sameMemory hrecord a).1, mem_cellarWiped]
      exact cellAt_wipeCellar s hp hk hd
    · rw [hnoted.core]
      exact core_cellarWiped s hc
    · rw [hnoted.butCores.beaten.tests, tests_cellarWiped]
      exact tget_tset_same _ _ _ _
  case ended =>
    obtain ⟨hstep, htests⟩ := endCellarReset_shows (testOver s die.val) die.isLt
    have hafter := beaten_resumed s (endCellarReset (testOver s die.val) die.val)
    refine ⟨?_, ?_⟩
    · rw [cellarBusy, Noted.rf hafter (tallied_cellarResetStep die.isLt)]
      show (rf (endCellarReset (testOver s die.val) die.val) .cellar die.val Off.cellarResetStep 0 3 != 0) = false
      rw [rf, hstep]
      rfl
    · rw [bondTesting_of_tests (hafter.tests.trans htests), bondTesting_testOver]

end Sys2Proof.Machine
end
